-- ==== Sys2Proof/Word.lean ====
section
/-! DEFINITION. Sys2Proof/Word.lean: bytes, little-endian words (R5) and sparse tables. -/
namespace Sys2Proof

/-- One octet. -/
abbrev Byte := BitVec 8

/-- `n` octets of a number, least significant first (R5). -/
def le : Nat → Nat → List Byte
  | 0, _ => []
  | n + 1, v => BitVec.ofNat 8 v :: le n (v / 256)

/-- The number that a list of octets spells, least significant first (R5). -/
def ofLe : List Byte → Nat
  | [] => 0
  | b :: t => b.toNat + 256 * ofLe t

/-- The little-endian number of `n` octets at an offset of a list. -/
def leAt (l : List Byte) (off n : Nat) : Nat := ofLe ((l.drop off).take n)

/-- `n` zero octets. -/
def zeros (n : Nat) : List Byte := List.replicate n 0#8

/-- The two's complement of an integer in `w` bits. -/
def twos (w : Nat) (i : Int) : Nat := (i % (2 ^ w : Nat)).toNat

/-- The integer that a `w`-bit two's complement number spells. -/
def signed (w v : Nat) : Int := if v < 2 ^ (w - 1) then (v : Int) else (v : Int) - (2 ^ w : Nat)

/-- A count that saturates at `2^w - 1`. -/
def satAdd (w a b : Nat) : Nat := min (a + b) (2 ^ w - 1)

/-- The smallest whole number at or above `a / b`. -/
def ceilDiv (a b : Nat) : Nat := (a + b - 1) / b

/-- A sparse table: keys strictly rising, no entry equal to what an unlisted key reads as. -/
abbrev Tbl (α : Type) := List (Nat × α)

/-- The entry of a key; `d` where the key is not listed. -/
def Tbl.get {α : Type} (d : α) : Tbl α → Nat → α
  | [], _ => d
  | (k, v) :: t, i => if k = i then v else Tbl.get d t i

/-- The table with an entry put in its place. -/
def Tbl.insert {α : Type} : Tbl α → Nat → α → Tbl α
  | [], i, v => [(i, v)]
  | (k, x) :: t, i, v =>
    if i < k then (i, v) :: (k, x) :: t else if k = i then (i, v) :: t else (k, x) :: Tbl.insert t i v

/-- The table without a key. -/
def Tbl.erase {α : Type} (t : Tbl α) (i : Nat) : Tbl α := t.filter (fun p => p.1 != i)

/-- The table with a key's entry replaced; an entry equal to `d` is not listed. -/
def Tbl.put {α : Type} [DecidableEq α] (d : α) (t : Tbl α) (i : Nat) (v : α) : Tbl α :=
  if v = d then Tbl.erase t i else Tbl.insert t i v

/-- Insert by a key into a list in ascending keys. -/
def kinsert {α : Type} (key : α → Nat) (x : α) : List α → List α
  | [] => [x]
  | y :: t => if key x < key y then x :: y :: t else y :: kinsert key x t

/-- A list in ascending keys; entries of one key keep their order. -/
def isort {α : Type} (key : α → Nat) : List α → List α
  | [] => []
  | x :: t => kinsert key x (isort key t)

end Sys2Proof
end

