-- ==== Sys2Proof/Syntax.lean ====
section
/-! DEFINITION. Sys2Proof/Syntax.lean: the commands the block takes from outside, and their operands. A command is a
register access, a doorbell, an operation of a fetched descriptor, or an event at the block's edge or inside it. What the
outside world supplies (octets read from host memory, a received frame, a sensor reading, the verdict of a signature
check) is an operand. -/
namespace Sys2Proof

/-- Who makes a register access: the host or module firmware (R18, R283, R523, R557). -/
inductive Side where
  | host
  | firmware
  deriving DecidableEq, Repr

/-- What a read of a data buffer in host memory gives: its octets, or a failure (R62). -/
inductive HostRead where
  | ok (bytes : List Byte)
  | failed
  deriving DecidableEq, Repr

/-- A descriptor as it is read (R248): its 64 octets; the word of it that fails parity in the fetch queue; and the word of its
final completion that fails parity in the post queue. -/
structure FetchDesc where
  octets : List Byte
  bad : Option Nat
  postBad : Option Nat
  deriving DecidableEq, Repr

/-- What a read of descriptors gives, or a failure (R62). -/
inductive FetchRead where
  | ok (descs : List FetchDesc)
  | failed
  deriving DecidableEq, Repr

/-- The resets of the PCIe function (R63). -/
inductive PcieReset where
  | flr
  | hotReset
  | linkDown
  | perstN
  deriving DecidableEq, Repr

/-- An input that a core reads through the journal gate (R463). -/
structure GateInput where
  core : Nat
  kind : Nat
  source : Nat
  payload : List Byte
  /-- in a replay: the digest of the replayed commands equals the capture's (R467) -/
  digestOk : Bool
  deriving DecidableEq, Repr

/-- The checks that REPLAY_ARM makes on an export (R466). -/
structure ExportCheck where
  sigOk : Bool
  measOk : Bool
  /-- the entries behind the export's header, whose layout R466 does not state -/
  entries : List (List Byte)
  deriving DecidableEq, Repr

/-- DEST of an envelope (R383). -/
inductive Dest where
  | device (id : Nat)
  | segment (id : Nat)
  deriving DecidableEq, Repr

/-- An envelope as its COSE and CBOR parse (R383): whether they are well formed, the header's verdict, and the payload's
keys. -/
structure Envelope where
  wellFormed : Bool
  /-- alg is ES256 and no critical header is foreign -/
  algOk : Bool
  kid : Nat
  dest : Dest
  ctr : Nat
  notAfter : Option Nat
  op : Nat
  target : Nat
  param : BitVec 256
  data : List Byte
  launchTime : Option Nat
  /-- for an owner-key operation: the proof of its data verifies under the new key (R389) -/
  proofOk : Bool
  deriving DecidableEq, Repr

/-- The shed's verdicts on a bundle (R434). -/
structure BundleCheck where
  vsigOk : Bool
  osigOk : Bool
  deriving DecidableEq, Repr

/-- What the peer of a pairing shows (R399). -/
structure PairCheck where
  certOk : Bool
  owner : Nat
  devid : Nat
  deriving DecidableEq, Repr

/-- The shield mesh as it is sampled (R394). -/
inductive Mesh where
  | intact
  | opened
  | shorted
  deriving DecidableEq, Repr

/-- The key under which a received frame's CCM* verifies: none, or the stall's (or node's join) key by its place (R130, R136,
R198). -/
inductive AirKey where
  | none
  | current
  | next
  | old
  deriving DecidableEq, Repr

/-- A frame at a lane's channel: its times as raw counts (first preamble sample, end of SFD, end), its power in 10^-24 mW and
as the lane reports it, the verdicts of its PHR and FCS (R72), its MAC header (R128), and its payload in clear. -/
structure AirRx where
  first : Nat
  sfd : Nat
  last : Nat
  power : Nat
  /-- LNE_RSSI's fields: 0.25 dBm steps, and 0.5 dB steps over the noise (R122) -/
  rssi : Int
  snr : Nat
  /-- preamble octets, which of the standard's SFD pairs it has, and whether its SFD is the pair's coded value (R71) -/
  preamble : Nat
  sfdSet : Nat
  coded : Bool
  ms : Bool
  parityOk : Bool
  /-- the length field, and the octets of the FCS -/
  len : Nat
  fcsLen : Nat
  fcsOk : Bool
  typ : Nat
  ar : Bool
  pend : Bool
  epoch : Nat
  ver : Nat
  addr : Nat
  fc : Nat
  seclvl : Nat
  body : List Byte
  key : AirKey
  /-- the word of its uplink item that fails parity when M1 reads it (R248) -/
  upBad : Option Nat
  deriving DecidableEq, Repr

/-- The frame inside a RELAY message (R162). -/
structure RelayCheck where
  frame : AirRx
  deriving DecidableEq, Repr

/-- A received Ethernet frame (R234): its octets from the destination address to the end of its payload, without FCS; that
its FCS holds and the PCS reported no coding error inside it; and the word of it, if one, that fails parity in the host
port's queue (R248). -/
structure EthRx where
  data : List Byte
  intact : Bool
  hostBad : Option Nat
  deriving DecidableEq, Repr

/-- The requests of an R-APS message (R238, ITU-T G.8032). -/
inductive RapsReq where
  | sf
  | nr
  | nrRb
  deriving DecidableEq, Repr

/-- An R-APS message: its VID and MEL, request, DNF, BPR and node identity. -/
structure Raps where
  vid : Nat
  mel : Nat
  req : RapsReq
  dnf : Bool
  bpr : Bool
  node : Nat
  deriving DecidableEq, Repr

/-- The G.8032 timers (R238). -/
inductive ErpsTimerKind where
  | guard
  | holdOff (port : Nat)
  | waitToRestore
  deriving DecidableEq, Repr

/-- The kinds of PTP message (R261): Sync and Pdelay_Resp one-step or two-step. -/
inductive PtpKind where
  | announce
  | sync (twoStep : Bool)
  | followUp
  | delayReq
  | delayResp
  | pdelayReq
  | pdelayResp (twoStep : Bool)
  | pdelayRespFollowUp
  /-- management, unicast negotiation and security TLVs: ignored (R261) -/
  | other
  deriving DecidableEq, Repr

/-- A received PTP message (R261, R262): its transport (UDP/IPv4 or Ethernet), its domain number; of an Announce the
grandmaster's clockIdentity (its octets as a number, the first the most significant), clockClass, priority1 and priority2,
and whether the best master clock algorithm chooses its sender. -/
structure PtpMsg where
  udp : Bool
  domNum : Nat
  kind : PtpKind
  gm : Nat
  clockClass : Nat
  prio1 : Nat
  prio2 : Nat
  best : Bool
  deriving DecidableEq, Repr

/-- One current channel at a sample instant (R324, R326): the calibrated sample of its ×1 path and of its gain path in µA,
after ROGO, GCAL and PCAL; and the sign of the fundamental phase angle (Q is positive). -/
structure CurrentIn where
  x1 : Int
  gain : Int
  lag : Bool
  deriving DecidableEq, Repr

/-- One sample instant of the branch channels (R324): I0 to I5, and the calibrated samples of V0 to V2 in mV. -/
structure MeterIn where
  amps : List CurrentIn
  volts : List Int
  deriving DecidableEq, Repr

namespace Machine

/-! The entries of the tables that a twin pair mirrors (R358); Machine/State.lean holds them. -/

/-- A stall entry (R169), and what M1 and the sequencer keep beside it. INDEX is the entry's own place; MEMBERS-like counts
are computed. -/
structure Stall where
  eui : Nat
  rolled : Bool
  relay : Bool
  sleepy : Bool
  stale : Bool
  state : Nat
  tol : Nat
  p : Nat
  listen : Nat
  wakeSlot : Nat
  wakeEvery : Nat
  wakePhase : Nat
  hops : Nat
  parent : Nat
  key : Nat
  keyNext : Nat
  fcUp : Nat
  fcWin : Nat
  fcDown : Nat
  joinFc : Nat
  /-- the 8 slots of PADDOCKS: an ID each, or none -/
  pads : List (Option Nat)
  sched : Nat
  epoch : Nat
  status : List Byte
  faults : Nat
  energy : Nat
  fwver : Nat
  drift : Nat
  lastSeen : Nat
  syncAge : Nat
  dozeEnd : Nat
  user : Nat
  /-- superframe number that holds the latest accepted uplink frame (R156) -/
  lastSf : Nat
  /-- superframe number that holds the doze end, once it has passed (R156) -/
  dozeSf : Option Nat
  /-- the last sync as a raw count (R147) -/
  syncRaw : Int
  /-- raw count of the ACCEPT (R153) -/
  joinAt : Nat
  /-- raw count of the entry into ADRIFT (R159) -/
  adriftAt : Nat
  /-- the key before a renewal, accepted until the first uplink under the new one (R198) -/
  oldKey : Nat
  /-- its epoch, low 8 bits -/
  oldEp : Nat
  /-- the key of a renewal that waits for its KEY_ACK (R198) -/
  renew : Nat
  /-- the node has acknowledged KEY_NEXT (R201) -/
  nextHeld : Bool
  /-- (paddock, epoch) pairs that the node has acknowledged (R177, R201) -/
  acked : List (Nat × Nat)
  /-- the latest answer: FC answered, its PSDU without FCS, raw count of the original frame (R133) -/
  ansFc : Nat
  ansPsdu : List Byte
  ansAt : Nat
  /-- FC_DOWN at the last persist (R135) -/
  fcSaved : Nat
  /-- energy reports: RTC tick at which the total was taken, and the total (R195), newest first -/
  reports : List (Nat × Nat)
  deriving DecidableEq, Repr

/-- A paddock entry (R175). MEMBERS, YARDS and KEYED are computed from the stall table. -/
structure Paddock where
  valid : Bool
  epoch : Nat
  rolling : Bool
  sched : Nat
  key : Nat
  keyNext : Nat
  fc : Nat
  sceneId : Nat
  sceneT : Nat
  user : Nat
  fcSaved : Nat
  deriving DecidableEq, Repr

/-- An entry of the admission list (R171). -/
structure Admit where
  eui : Nat
  refuse : Bool
  mask : Nat
  /-- RTC tick at which it was written -/
  tick : Nat
  joinFc : Nat
  deriving DecidableEq, Repr

/-- A loaded scene (R183 to R188). -/
structure Scene where
  id : Nat
  t : Nat
  body : List Byte
  carrier : Nat
  repeats : Nat
  dmask : Nat
  levels : List Nat
  /-- SCENE_ARM_LEAD at the load, in s (R207) -/
  lead : Nat
  loadDid : Option Nat
  launchDid : Option Nat
  armed : Bool
  /-- delivery has ended: yards that sent it -/
  delivered : List Nat
  /-- scene-now frames and the drive section that have not gone yet -/
  left : Nat
  late : Bool
  yardsOut : Nat
  latched : Nat
  /-- the channels that wait for their boundary -/
  latching : Nat
  deriving DecidableEq, Repr

/-- The epoch rollover journal in FeRAM (R204): header and done-bitmap. PHASE 0 IDLE, 1 KEYING, 2 CLOSING. -/
structure Roll where
  /-- sequence number of the header's newer copy (R204) -/
  seq : Nat
  epoch : Nat
  phase : Nat
  pass : Nat
  start : Nat
  /-- per yard the lowest place whose stall is still to be done (R204) -/
  cursors : Tbl Nat
  done : List Nat
  /-- the paddock counters have been restarted by this close (R203) -/
  restarted : Bool
  stragglers : Nat
  deriving DecidableEq, Repr

/-- A yard's part of a campaign (R213, R218, R219). -/
structure CampYard where
  yard : Nat
  /-- paddocks still to be served this window, the first the running step -/
  steps : List Nat
  /-- opening descriptors sent in the step -/
  descs : Nat
  /-- superframe of the last descriptor (R148) -/
  descLast : Option Nat
  /-- symbols sent in the step -/
  syms : Nat
  /-- a FINAL descriptor is due for a step that has ended -/
  final : Option Nat
  /-- rotation over the source blocks, and each block's next ESI (R213) -/
  turn : Nat
  esi : Tbl Nat
  deriving DecidableEq, Repr

/-- A campaign (R215 to R220). STATE 0 DEFINED, 1 ARMED, 2 SENDING, 3 PAUSED, 4 DONE, 5 STOPPED, 6 FAULTED. -/
structure Campaign where
  id : Nat
  state : Nat
  slot : Nat
  npad : Nat
  winStart : Nat
  winEnd : Nat
  overhead : Nat
  share : Nat
  nights : Nat
  descRepeats : Nat
  t : Nat
  actT : Nat
  pads : List Nat
  user : Nat
  /-- octets of its image, as the last check found them (R212, R216) -/
  len : Nat
  night : Nat
  /-- this window has been counted in NIGHT -/
  counted : Bool
  /-- output time at which the open window closes -/
  winClose : Option Int
  /-- status per stall (R218) -/
  status : Tbl Nat
  /-- the paddock that the last plan gave a stall, plus 1 (R218) -/
  plan : Tbl Nat
  yards : List CampYard
  symbols : Nat
  steps : Nat
  /-- source blocks whose intermediate symbols are ready (R212) -/
  blocks : List Nat
  /-- its place among the eight (R452), and when its state changed last (R229) -/
  place : Nat
  chg : Nat
  /-- RESUME, or a restart, found the window perhaps open: it need not open again (R217, R224) -/
  resumed : Bool
  deriving DecidableEq, Repr

/-- An image slot of the node image cache (R209): state 0 EMPTY, 1 FILLING, 2 READY. -/
structure ImgSlot where
  state : Nat
  total : Nat
  data : List Byte
  deriving DecidableEq, Repr

/-- A record of the mirror (R358). -/
inductive MirrorRec where
  | stall (i : Nat) (x : Stall)
  | paddock (p : Nat) (x : Paddock)
  | admits (l : List Admit)
  | schedules (l : List (Nat × List Byte))
  | scenes (l : List Scene)
  | params (l : List (Nat × Nat))
  | rollover (r : Roll)
  | campaigns (l : List Campaign)
  | image (k : Nat) (x : ImgSlot)
  | drive (ch level fade : Nat)
  /-- the check value of WK that each sweep carries (R399) -/
  | wkCheck (w : Option Nat)
  deriving DecidableEq, Repr

end Machine

/-- A claim-bus frame of the peer whose CRC-8 passes (R349). -/
structure ClaimFrame where
  claim : Nat
  pref : Nat
  role : Nat
  healthy : Bool
  deriving DecidableEq, Repr

/-- What a lane frame of the peer carries beside its header (R349, R358, R362, R367, R399). -/
inductive TwinBody where
  | none
  /-- the 64 octets of a health report, and the digest of the peer's set-up (R359) -/
  | report (data : List Byte) (digest : List Byte)
  /-- mirror records in sequence, the first of this number -/
  | records (first : Nat) (l : List Machine.MirrorRec)
  /-- the full sweep has been sent, up to this number -/
  | sweepEnd (seq : Nat)
  /-- the standby has applied the records up to this number -/
  | applied (seq : Nat)
  /-- the standby asks for a full sweep -/
  | request
  /-- INHIBIT as the peer has set or cleared it -/
  | inhibit (v : Bool)
  /-- WK from the active unit, wrapped under the receiver's KAK: the number that stands for it, and the sender's DEVID (R399) -/
  | wk (key devid : Nat)
  deriving DecidableEq, Repr

/-- A lane frame whose CRC passes (R349): the claim in its header, the sender's role, and its body. -/
structure TwinFrame where
  claim : Nat
  role : Nat
  body : TwinBody
  deriving DecidableEq, Repr

/-- What link training gives and the host's enumeration sets (R27, R28, R67). -/
structure PcieSetup where
  gen : Nat
  width : Nat
  maxPayload : Nat
  maxRead : Nat
  aspmL1 : Bool
  bar0 : Nat
  bar2 : Nat
  bar4 : Nat
  deriving DecidableEq, Repr

/-- The access in progress across a unit's junction when its gate is forced (R486): none, a host write of a BAR0 offset, or
a descriptor's command. -/
inductive GateAccess where
  | none
  | hostWrite (off : Nat)
  | command (did : Nat)
  deriving DecidableEq, Repr

/-- What a power cut tore of the rollover journal's last write: nothing, its header, or a chunk of its bitmap, whose header
then was not written either (R204). -/
inductive JournalTear where
  | none
  | header
  | chunk
  deriving DecidableEq, Repr

/-- How the main supply falls (R494, R495): below the rearm levels; a sag through which the module works on; a sag that
disturbs the logic without rearming the power-on reset. -/
inductive PowerForm where
  | loss (tear : JournalTear)
  | sagRidden
  | sagDisturbs
  deriving DecidableEq, Repr

/-- What the checks of a module start find (R84, R334, R377, R429): DIGEST and VSIG of each slot; that the first metering save
reads back; that the shed's identity holds and its image's signature passes (R24); and the lanes whose start test fails,
each with its cause. -/
structure StartInput where
  slotA : Bool
  slotB : Bool
  saveOk : Bool
  identity : Bool
  shedSig : Bool
  badLanes : List (Nat × Nat)
  deriving DecidableEq, Repr

/-- The commands of the block: one constructor for each row of the table of operations and events. -/
inductive Instr where
  /-- REGISTER_WRITE (R7): A host or firmware write to a BAR0 register that has no row of its own, applied under its access type and the gating rules of R487. -/
  | registerWrite (side : Side) (width off val : Nat)
  /-- BROADCAST_WRITE (R559): A write to an ALL or GROUP window delivers one value to the same offset of every member as one serialised access. -/
  | broadcastWrite (side : Side) (width off val : Nat)
  /-- BROADCAST_READ (R560): A read from an ALL or GROUP window gathers all members in one CTL cycle, returns the lowest member's value and updates BC_STAT. -/
  | broadcastRead (side : Side) (width off : Nat)
  /-- HIF_SETUP_DONE (R36): Writing DONE locks every RWL field, judges each ring and block set-up, and starts ring service, yards, ports and drive. -/
  | hifSetupDone (val : Nat)
  /-- SQ_TAIL_DOORBELL (R42): A submission ring tail doorbell write is checked and acted on, or faults the ring with FAULT = PTR. -/
  | sqTailDoorbell (width n val : Nat)
  /-- CQ_HEAD_DOORBELL (R42): A completion ring head doorbell write frees entries, so that held completions are posted and bound rings fetch again, or it is ignored with HEAD_IGNORED. -/
  | cqHeadDoorbell (width n val : Nat)
  /-- EQ_HEAD_DOORBELL (R42): An event ring head doorbell write frees entries, or it is ignored with HEAD_IGNORED. -/
  | eqHeadDoorbell (width n val : Nat)
  /-- HOST_RX_HEAD_WRITE (R255): A host write of SWX_HRX_HEAD returns consumed host receive entries, or it is ignored with a WARNING. -/
  | hostRxHeadWrite (val : Nat)
  /-- DESCRIPTOR_FETCH (R53): The module reads up to 8 descriptors from a RUNNING ring by priority, checks their phase, and starts them in ring order. -/
  | descriptorFetch (read : FetchRead)
  /-- NOP (R56): Completes with OK. -/
  | nop (did : Nat)
  /-- ABORT (R58): Cancels every matching descriptor of a ring whose action has not begun, held and armed ones included. -/
  | abort (did : Nat)
  /-- RING_CTL_PAUSE (R59): Stops fetching from a submission ring after the current read. -/
  | ringCtlPause (did : Nat)
  /-- RING_CTL_RESUME (R59): Returns a PAUSED submission ring to RUNNING. -/
  | ringCtlResume (did : Nat)
  /-- RING_CTL_RESET (R59): Resets a ring's indices and phase, aborting or discarding its descriptors and clearing an event ring's LOST. -/
  | ringCtlReset (did : Nat)
  /-- PARAM_READ (R567): Returns the value in effect of a defined run-time parameter. -/
  | paramRead (did : Nat)
  /-- PARAM_WRITE (R207): Sets a defined run-time parameter, which takes effect as its home rule gives. -/
  | paramWrite (did : Nat)
  /-- QUE_FLUSH (R250): PARAM_WRITE of 0x0701 flushes the named queue under R249. -/
  | queFlush (did : Nat)
  /-- RESET_MODULE (R64): Posts OK, yields a twin if its peer is IN_SYNC, and resets every island except the PCIe engine. -/
  | resetModule (did : Nat)
  /-- SEALED (R57): Passes a COSE_Sign1 envelope from a ring to the shed for verification. -/
  | sealed (did : Nat) (read : HostRead) (env : Envelope)
  /-- STATUS_READ (R60): Writes a register snapshot of a family, window or yard summary to the buffer. -/
  | statusRead (did : Nat)
  /-- STALL_READ (R180): Writes the stall entries that match a state mask. -/
  | stallRead (did : Nat)
  /-- STALL_WRITE (R180): Writes the selected host-owned fields of a stall entry. -/
  | stallWrite (did : Nat) (read : HostRead)
  /-- STALL_ADMIT (R171): Adds an ADMIT entry for an EUI to the admission list. -/
  | stallAdmit (did : Nat)
  /-- STALL_REFUSE (R171): Adds a REFUSE entry for an EUI that lapses after 86,400 s. -/
  | stallRefuse (did : Nat)
  /-- STALL_REVOKE (R171): Removes the admission list entry of an EUI. -/
  | stallRevoke (did : Nat)
  /-- STALL_RETIRE (R174): Moves a stall to RETIRED, destroys its key and aborts its queued items. -/
  | stallRetire (did : Nat)
  /-- STALL_FREE (R174): Clears every field but INDEX of a RETIRED stall as one whole-entry update. -/
  | stallFree (did : Nat)
  /-- PADDOCK_READ (R180): Writes paddock entries to the buffer. -/
  | paddockRead (did : Nat)
  /-- PADDOCK_CREATE (R180): Sets a paddock's VALID, SCHED_ID and USER and has the shed generate its key. -/
  | paddockCreate (did : Nat) (read : HostRead)
  /-- PADDOCK_ADD (R180): Adds a paddock to listed stalls and queues the KEY PADDOCK items they lack. -/
  | paddockAdd (did : Nat) (read : HostRead)
  /-- PADDOCK_REMOVE (R180): Removes a paddock from listed stalls. -/
  | paddockRemove (did : Nat) (read : HostRead)
  /-- PADDOCK_DELETE (R180): Removes a paddock from every member, destroys its key and clears VALID. -/
  | paddockDelete (did : Nat)
  /-- SCHEDULE_LOAD (R181): Stores a schedule and distributes it as group frames and unicast items. -/
  | scheduleLoad (did : Nat) (read : HostRead)
  /-- SCENE_LOAD (R183): Stores a scene with its T and drive section and starts its delivery as reserved-class group frames. -/
  | sceneLoad (did : Nat) (read : HostRead)
  /-- SCENE_CANCEL (R188): Withdraws a loaded scene, aborts its descriptors, disarms its latch and sends cancel frames. -/
  | sceneCancel (did : Nat) (read : HostRead)
  /-- SCENE_LAUNCH (R187): Accepts the launch of a loaded scene at its T, to be armed at T minus SCENE_ARM_LEAD. -/
  | sceneLaunch (did : Nat)
  /-- SCENE_ARM (R187): At T minus SCENE_ARM_LEAD, scene delivery ends and the scene-now radio slots and drive slot are armed. -/
  | sceneArm (scene : Nat)
  /-- SCENE_DISCARD (R187): At T plus 1 s, the scene is discarded and its carrier key unpinned. -/
  | sceneDiscard (scene : Nat)
  /-- EPOCH_ROLL_QUERY (R199): Writes the rollover progress record. -/
  | epochRollQuery (did : Nat)
  /-- EPOCH_ROLL_START (R200): Opens a rollover: journal KEYING, next-epoch paddock keys, ROLL = 1 in beacons, and per-stall keying. -/
  | epochRollStart (did : Nat)
  /-- EPOCH_ROLL_CLOSE (R203): Closes the open rollover at once: new paddock keys, counter restart, old keys destroyed, stragglers UNBOUND. -/
  | epochRollClose (did : Nat)
  /-- RECONCILE_READ (R197): Writes the most recent reconciliation records of one or all feeders. -/
  | reconcileRead (did : Nat)
  /-- DOWNLINK_SEND (R163): Queues a unicast message to one stall for AUTO, POLLED or TIMED delivery. -/
  | downlinkSend (did : Nat) (read : HostRead)
  /-- GROUP_SEND (R164): Sends a message to a paddock with repeats in every yard that holds a member. -/
  | groupSend (did : Nat) (read : HostRead)
  /-- YARD_CTL_HALT (R106): A yard enters HALTED and stops transmitting. -/
  | yardCtlHalt (did : Nat) (read : HostRead)
  /-- YARD_CTL_RESUME (R106): A HALTED yard resumes transmission at its next beacon boundary. -/
  | yardCtlResume (did : Nat) (read : HostRead)
  /-- YARD_CTL_WITHDRAW (R106): Withdraws an RX entry and frees its lane to SPARE. -/
  | yardCtlWithdraw (did : Nat) (read : HostRead)
  /-- YARD_CTL_RESTORE (R106): Gives a withdrawn entry a SPARE lane. -/
  | yardCtlRestore (did : Nat) (read : HostRead)
  /-- YARD_CTL_TXPWR (R106): Sets the yard's run power. -/
  | yardCtlTxpwr (did : Nat) (read : HostRead)
  /-- YARD_CTL_TEST (R106): Starts an immediate self-test of the lane of an RX entry. -/
  | yardCtlTest (did : Nat) (read : HostRead)
  /-- DUTY_READ (R107): Writes duty account records per chain and sub-band. -/
  | dutyRead (did : Nat)
  /-- IMAGE_STORE (R209): Writes part of a node image into a cache slot and checks the manifest at LAST. -/
  | imageStore (did : Nat) (read : HostRead)
  /-- CAMPAIGN_DEFINE (R216): Checks and stores a campaign definition. -/
  | campaignDefine (did : Nat) (read : HostRead)
  /-- CAMPAIGN_START (R217): Checks a campaign again and arms it, pinning the target paddock keys. -/
  | campaignStart (did : Nat)
  /-- CAMPAIGN_PAUSE (R217): Pauses a campaign after the frame in progress. -/
  | campaignPause (did : Nat)
  /-- CAMPAIGN_RESUME (R217): Returns a PAUSED campaign to ARMED. -/
  | campaignResume (did : Nat)
  /-- CAMPAIGN_STOP (R217): Stops a campaign and marks PENDING and RETRY stalls FAILED. -/
  | campaignStop (did : Nat)
  /-- CAMPAIGN_DELETE (R217): Removes an ended campaign and its status map. -/
  | campaignDelete (did : Nat)
  /-- CAMPAIGN_READ_SUMMARY (R228): Writes the 64-byte campaign summary. -/
  | campaignReadSummary (did : Nat)
  /-- CAMPAIGN_READ_MAP (R228): Writes the 4-bit per-stall campaign status map. -/
  | campaignReadMap (did : Nat)
  /-- FRAME_SEND (R276): Sends an Ethernet frame to a port's egress queue or into the fabric at H. -/
  | frameSend (did : Nat) (read : HostRead)
  /-- TS_READ (R280): Drains transmit timestamp entries of a port and clears LOST and OVF. -/
  | tsRead (did : Nat)
  /-- TIME_READ (R284): Writes the raw count, output time and both domain records latched at one TSU tick. -/
  | timeRead (did : Nat)
  /-- TIME_CTL_SELECT (R270): Switches the output time to a named SYNCED domain. -/
  | timeCtlSelect (did : Nat) (read : HostRead)
  /-- TIME_CTL_STEP (R272): Adds a value to a domain's OFFSET as a step. -/
  | timeCtlStep (did : Nat) (read : HostRead)
  /-- TIME_CTL_SET (R285): Steps a domain so that its time at a raw count equals a value. -/
  | timeCtlSet (did : Nat) (read : HostRead)
  /-- TIME_CTL_DISABLE (R285): A non-active domain enters DISABLED. -/
  | timeCtlDisable (did : Nat) (read : HostRead)
  /-- TIME_CTL_ENABLE (R285): A DISABLED domain enters LISTENING. -/
  | timeCtlEnable (did : Nat) (read : HostRead)
  /-- DRIVE_SET (R310): Sets target levels and fades of drive channels and clears OVER latches. -/
  | driveSet (did : Nat) (read : HostRead)
  /-- DRIVE_LATCH (R311): Latches a drive section so that every selected channel takes its target at one boundary. -/
  | driveLatch (did : Nat) (read : HostRead)
  /-- METER_SNAPSHOT (R333): Latches all 26 accumulators at one sample instant and writes them. -/
  | meterSnapshot (did : Nat)
  /-- METER_CTL_CLEAR_EVT (R340): Clears every W1C bit of the MTR window. -/
  | meterCtlClearEvt (did : Nat) (read : HostRead)
  /-- METER_CTL_SAVE_NOW (R340): Writes a metering save and completes with its SEQ. -/
  | meterCtlSaveNow (did : Nat) (read : HostRead) (readBackOk : Bool)
  /-- METER_CTL_SAVE_PERIOD (R340): Sets SAVE_PERIOD from the next save. -/
  | meterCtlSavePeriod (did : Nat) (read : HostRead)
  /-- METER_CTL_REV_HOLD (R340): Sets REV_HOLD from the next cycle. -/
  | meterCtlRevHold (did : Nat) (read : HostRead)
  /-- METER_CTL_ZERO (R340): Under owner authority, zeroes selected accumulators, clears their SAT and saves. -/
  | meterCtlZero (did : Nat) (read : HostRead) (readBackOk : Bool)
  /-- TWIN_CTL_READ (R371): Writes the local and peer health reports. -/
  | twinCtlRead (did : Nat)
  /-- TWIN_CTL_HANDOVER (R367): A forced handover: the active unit yields or the standby becomes active, and both set INHIBIT. -/
  | twinCtlHandover (did : Nat)
  /-- TWIN_CTL_RESYNC (R359): Restarts the mirror with a new full sweep. -/
  | twinCtlResync (did : Nat)
  /-- ATTEST_REPORT (R398): Writes an IK-signed attestation report that carries the request's nonce. -/
  | attestReport (did : Nat)
  /-- ATTEST_CERT (R397): Writes the Vexpol certificate. -/
  | attestCert (did : Nat)
  /-- ATTEST_HISTORY (R397): Writes the 64-entry tamper history. -/
  | attestHistory (did : Nat)
  /-- UPD_STAGE (R431): Opens, resumes or continues a staging session and programs a part of a bundle into the staging slot. -/
  | updStage (did : Nat) (read : HostRead)
  /-- UPD_STAGE_CANCEL (R432): Ends the staging session and clears the download journal. -/
  | updStageCancel (did : Nat)
  /-- UPD_VERIFY (R434): The shed checks the staged bundle, and on success the slot becomes VERIFIED. -/
  | updVerify (did : Nat) (check : BundleCheck)
  /-- UPD_ACTIVATE (R436): Writes the boot record for a trial and begins the activation pause that reloads every processor. -/
  | updActivate (did : Nat)
  /-- RADIO_PAUSE_END (R436): Q0–Q3 and the shed run again after their reload, and held radio slots fire LATE. -/
  | radioPauseEnd (ok shedSig : Bool)
  /-- ACTIVATION_PAUSE_END (R436): M0–M3 run the new image, ring service resumes, PAUSE_END is set and the confirmation window starts. -/
  | activationPauseEnd (ok : Bool)
  /-- UPD_CONFIRM (R438): Confirms the trial bundle and stops the confirmation window. -/
  | updConfirm (did : Nat)
  /-- EVR_READ_BY_SEQ (R457): Writes the held records of a SEQ range with fences F1 and F2. -/
  | evrReadBySeq (did : Nat) (during : List Nat)
  /-- EVR_READ_ALL (R457): Writes every held record in slot order with fences F1 and F2. -/
  | evrReadAll (did : Nat) (during : List Nat)
  /-- EVR_READ_ANCHORS (R457): Writes calendar anchor entries. -/
  | evrReadAnchors (did : Nat)
  /-- CAPTURE_CTL_STATUS (R466): Writes the capture status record. -/
  | captureCtlStatus (did : Nat)
  /-- CAPTURE_CTL_ARM (R465): Sets the capture arm flag for the next start. -/
  | captureCtlArm (did : Nat)
  /-- CAPTURE_CTL_DISARM (R466): Clears the capture arm flag. -/
  | captureCtlDisarm (did : Nat)
  /-- CAPTURE_CTL_STOP (R465): Stops a running capture and writes the final DIGEST. -/
  | captureCtlStop (did : Nat)
  /-- CAPTURE_CTL_EXPORT (R466): Copies a stopped capture to the NAND export region with an IK-signed header. -/
  | captureCtlExport (did : Nat)
  /-- CAPTURE_CTL_READ (R466): Writes export octets from an offset. -/
  | captureCtlRead (did : Nat)
  /-- CAPTURE_CTL_REPLAY_ARM (R466): Loads and checks a capture export from host memory and sets the replay flag. -/
  | captureCtlReplayArm (did : Nat) (read : HostRead) (check : ExportCheck)
  /-- OWNER_ENROL (R389): Sets the owner, generates WK and the paddock 0x000 key, and starts beacons. -/
  | ownerEnrol (did : Nat)
  /-- OWNER_ROLL (R389): Replaces the owner key and increments OWNER_GEN. -/
  | ownerRoll (did : Nat)
  /-- OWNER_CHANGE (R389): Replaces the owner key, resets HIGH and deletes every join root. -/
  | ownerChange (did : Nat)
  /-- PRESENCE_OPEN (R392): Opens the presence-unlocked window for RWP writes. -/
  | presenceOpen (did : Nat)
  /-- PRESENCE_CLOSE (R392): Closes the presence-unlocked window. -/
  | presenceClose (did : Nat)
  /-- DEBUG_UNLOCK (R393): Empties the key cache, silences the shed and unlocks the debug port until reset. -/
  | debugUnlock (did : Nat)
  /-- JOINROOT_LOAD (R382): Imports a join root encrypted to the KAK into a root slot. -/
  | joinrootLoad (did : Nat) (unwrapOk : Bool)
  /-- JOINROOT_DELETE (R388): Deletes a join root. -/
  | joinrootDelete (did : Nat)
  /-- TWIN_PAIR (R399): The active unit checks the peer certificate and sends it WK over the twin lane. -/
  | twinPair (did : Nat) (peer : PairCheck)
  /-- TAMPER_CLEAR (R388): Clears SEC_STAT.TAMPER and TAMPER_LOST. -/
  | tamperClear (did : Nat)
  /-- OSC_CLEAR (R527): Clears the oscillator-stopped flag while XO_LF is OK. -/
  | oscClear (did : Nat)
  /-- LIZARD_ENTER (R442): Posts the completion, yields if active, and resets into the lizard loader, with or without erase. -/
  | lizardEnter (did : Nat)
  /-- ENVELOPE_VERIFIED (R384): The shed finishes checking an envelope, consumes its counter, and gives a verdict or holds the command for presence. -/
  | envelopeVerified (sigOk : Bool)
  /-- UDP_ENVELOPE_RX (R387): A datagram on UDP port 5694 delivers a sealed envelope to the shed's queue or is dropped. -/
  | udpEnvelopeRx (ip port len : Nat) (fragment : Bool) (env : Envelope)
  /-- PRESENCE_BUTTON (R390): PRESENCE_BTN held for 5 s gives presence, which opens a credit or serves the PENDING command. -/
  | presenceButton (ms : Nat)
  /-- PRESENCE_SEAL (R390): The seal loop closing after a valid opening gives presence. -/
  | presenceSeal (openMs : Nat)
  /-- TAMPER_SAMPLE (R394): The tamper monitor samples DOOR_SW, SEAL_LOOP and the mesh and logs an opening. -/
  | tamperSample (door sealLoop btn : Bool) (mesh : Mesh)
  /-- PCIE_FUNCTION_RESET (R63): FLR, hot reset, link down or PERST_N resets the PCIe engine and ring state only. -/
  | pcieFunctionReset (kind : PcieReset)
  /-- BUS_MASTER_ENABLE_CHANGE (R62): Clearing Bus Master Enable stops all ring traffic, and setting it resumes the traffic. -/
  | busMasterEnableChange (on : Bool)
  /-- CQ_COALESCE_TIMER (R61): The TIME since the first unsignalled completion elapses and the ring signals its vector. -/
  | cqCoalesceTimer (n : Nat)
  /-- EQ_MESSAGE_INTERVAL (R51): A 50 µs interval ends and one MSI-X message covers the event ring entries written in it. -/
  | eqMessageInterval (n : Nat)
  /-- DEADLINE_EXPIRY (R55): A descriptor whose action has not begun when its deadline passes completes with EXPIRED. -/
  | deadlineExpiry (did : Nat)
  /-- LAUNCH_SLOT_ARM (R281): A launch-timed action takes a slot of its class in its arming window, or takes the next free slot and fires at once. -/
  | launchSlotArm (did : Nat)
  /-- LAUNCH_SLOT_FIRE (R282): A launch slot fires at LAUNCH_TIME and its frame, latch or action begins. -/
  | launchSlotFire (did : Nat)
  /-- FRAME_RX (R79): A lane ends a frame or an overlap group, applies capture, PHR and FCS checks, and passes recovered frames to link security. -/
  | frameRx (lane : Nat) (group : List AirRx) (ovld : Nat)
  /-- RELAY (R162): M1 opens a RELAY message, checks the inner frame under the inner stall's key, and acts on it. -/
  | relay (inner : RelayCheck)
  /-- SUPERFRAME_START (R124): At each superframe start, a yard takes its superframe number and sends its beacon. -/
  | superframeStart (y : Nat)
  /-- BEACON_SKIP (R150): A beacon not started by 1 ms after superframe start is skipped. -/
  | beaconSkip (y : Nat)
  /-- DOWNLINK_RUN (R127): A run of DOWNLINK slots begins and the module sends group, scene, image and timed frames in class order. -/
  | downlinkRun (y : Nat)
  /-- TIMED_FRAME (R147): At a stall's wake slot a timed DOWN frame is sent with its SFD at t_x. -/
  | timedFrame (stall : Nat)
  /-- CHAIN_GRANT (R93): The transmit arbiter grants a waiting request a free chain in class order. -/
  | chainGrant (bad : Option Nat) (symBad : Bool)
  /-- TX_FRAME_END (R94): A carrier ends, and frames held for its channel or chain are offered again. -/
  | txFrameEnd (chain yard : Nat)
  /-- LANE_TEST_HANDOVER (R83): At the first idle instant, the lane under test becomes TESTING and its shadow alone serves the entry. -/
  | laneTestHandover (lane : Nat)
  /-- BIST_SHADOW_TIMEOUT (R83): A lane under test never idle within 2 s keeps its entry, and BIST_SKIPPED is recorded. -/
  | bistShadowTimeout (lane : Nat)
  /-- LANE_TEST_DONE (R83): A lane test ends in pass or fail, and roles are handed over or the lane is retired. -/
  | laneTestDone (lane cause : Nat)
  /-- LANE_CHECK_FAIL (R84): A lane fails a continuous check, is retired, and is replaced by a SPARE or forces a withdrawal. -/
  | laneCheckFail (lane cause : Nat) (busy : Bool)
  /-- LANE_MOVE (R87): A chosen lane finishes its frame and takes the failed lane's entry at its item boundary. -/
  | laneMove (lane : Nat)
  /-- YRD_REGION_CUSTOM_WRITE (R98): Setting or clearing CUSTOM rechecks the yards, clears the ledgers and records PROFILE_CHANGE. -/
  | yrdRegionCustomWrite (val : Nat)
  /-- JOIN_TIMEOUT (R153): A JOINING stall without JOIN CONFIRM returns to UNBOUND. -/
  | joinTimeout (stall : Nat)
  /-- HOLD_ADRIFT (R159): Items held for an ADRIFT stall complete with EXPIRED at HOLD_ADRIFT. -/
  | holdAdrift (stall : Nat)
  /-- LOST_AFTER (R155): An ADRIFT stall becomes LOST and its remaining items expire. -/
  | lostAfter (stall : Nat)
  /-- REFUSE_LAPSE (R171): A REFUSE admission entry lapses 86,400 s after it was written. -/
  | refuseLapse (eui : Nat)
  /-- CAMPAIGN_WINDOW_OPEN (R218): A campaign's window opens, the night is planned, and the campaign enters SENDING. -/
  | campaignWindowOpen (id : Nat)
  /-- CAMPAIGN_WINDOW_CLOSE (R217): The window closes, and the campaign returns to ARMED or ends DONE. -/
  | campaignWindowClose (id : Nat)
  /-- CAMPAIGN_IMAGE_READ_FAIL (R217): A NAND read of the image fails, and the campaign becomes FAULTED. -/
  | campaignImageReadFail (id : Nat)
  /-- PORT_FRAME_RX (R234): A port receives a frame and discards it or forwards it through the fabric. -/
  | portFrameRx (p : Nat) (frame : EthRx)
  /-- PORT_FRAME_TX (R277): A frame's timestamp point passes the PCS, and the completion and timestamp entry are written. -/
  | portFrameTx (p : Nat) (bad : Option Nat)
  /-- PORT_LINK_DOWN (R235): A port loses link, flushes its egress queues and removes its learned addresses. -/
  | portLinkDown (p : Nat)
  /-- PORT_LINK_UP (R235): A port establishes link. -/
  | portLinkUp (p : Nat) (tenG anDone : Bool)
  /-- SPEED_SEARCH_TIMEOUT (R233): An automatic port switches between 10GBASE-R and 1000BASE-X search every 500 ms. -/
  | speedSearchTimeout (p : Nat)
  /-- R_APS_RX (R238): M3 acts on a received R-APS message under G.8032. -/
  | rApsRx (p : Nat) (msg : Raps)
  /-- ERPS_TIMER (R238): A G.8032 guard, hold-off or wait-to-restore timer expires. -/
  | erpsTimer (t : ErpsTimerKind)
  /-- MGMT_FRAME_RX (R237): M answers ARP or ICMP echo, or discards other frames. -/
  | mgmtFrameRx (bad : Option Nat)
  /-- CREDIT_INIT (R491): A crossing leaves ISOLATED by exchanging CREDIT_INIT once the reset side is released. -/
  | creditInit (n : Nat) (shedSig : Bool)
  /-- PTP_MESSAGE_RX (R261): A domain acts on a received PTP message of its domain number. -/
  | ptpMessageRx (p : Nat) (msg : PtpMsg)
  /-- PTP_SYNC_INTERVAL (R268): Each Sync interval the servo measures the offset, folds a new RATE and updates the domain state. -/
  | ptpSyncInterval (d : Nat) (offset rate : Int)
  /-- ANNOUNCE_RECEIPT_TIMEOUT (R269): With no master the domain enters HOLDOVER. -/
  | announceReceiptTimeout (d : Nat)
  /-- PPS_IN_EDGE (R286): A PPS_IN edge is stamped and used or counted. -/
  | ppsInEdge (rising : Bool) (rate : Int)
  /-- TSU_TIME_LO_READ (R283): A read of TSU_TIME_LO latches TIME_HI, RAW and RES at one tick. -/
  | tsuTimeLoRead (side : Side)
  /-- TSU_PPSIN_LO_READ (R286): A read of TSU_PPSIN_LO latches TSU_PPSIN_HI. -/
  | tsuPpsinLoRead (side : Side)
  /-- PWM_PERIOD_BOUNDARY (R300): At each period boundary a channel applies changes, advances its fade, and computes its on-time. -/
  | pwmPeriodBoundary (ch : Nat) (sample : Nat)
  /-- NTC_READ (R303): Every 100 ms each NTC is read and FACTOR steps toward its target. -/
  | ntcRead (g ohms : Nat)
  /-- ISNS_WINDOW (R305): A 100 ms window yields a normal measurement that drives open detection. -/
  | isnsWindow (ch : Nat)
  /-- DRV_PROBE (R306): Every PROBE_PERIOD an unmeasurable or open channel is probed with an 8 µs pulse. -/
  | drvProbe (ch : Nat) (mv : Nat)
  /-- METER_SAMPLE (R324): Every 125 µs all branch channels are sampled and gains switched. -/
  | meterSample (sample : MeterIn)
  /-- PULSE_COUNT (R327): A debounced S0 pulse adds WEIGHT to its accumulator. -/
  | pulseCount (k : Nat)
  /-- METER_SAVE (R334): Every SAVE_PERIOD E writes a save record to FeRAM and reads it back. -/
  | meterSave (readBackOk : Bool)
  /-- CLAIM_BUS_FRAME_TX (R349): A unit sends its claim-bus frame on its timer and reads it back. -/
  | claimBusFrameTx (readBackOk : Bool)
  /-- CLAIM_BUS_FRAME_RX (R349): A claim-bus frame with a valid CRC is heard. -/
  | claimBusFrameRx (frame : ClaimFrame)
  /-- TWIN_LANE_FRAME_RX (R358): A twin lane frame delivers the peer's claim, health report or mirror records. -/
  | twinLaneFrameRx (frame : TwinFrame)
  /-- HEALTH_REPORT (R362): Every second each twin unit writes and sends its health report. -/
  | healthReport (supply : Nat) (temp : Int)
  /-- TWIN_BIST_STEP (R364): A standby tests the next instance of its self-test rotation. -/
  | twinBistStep (pass : Bool)
  /-- MBX_POST (R411): The sender posts the slot at WR, or the post is refused. -/
  | mbxPost (ch : Nat) (msg : List Byte)
  /-- MBX_ACK (R413): The receiver consumes the message at RD and frees its slot. -/
  | mbxAck (ch : Nat)
  /-- MBX_CLEAR (R419): The receiver discards waiting messages, and the channel becomes ABORTED. -/
  | mbxClear (ch : Nat)
  /-- MBX_SRESET (R420): The sender marks its posted messages ORPHAN. -/
  | mbxSreset (ch : Nat)
  /-- MBX_REOPEN (R419): The sender returns an ABORTED channel to OPEN. -/
  | mbxReopen (ch : Nat)
  /-- MBX_HDB_MASK_WRITE (R415): A mask write that unmasks a set doorbell bit raises HIF_INT_CAUSE.MBX. -/
  | mbxHdbMaskWrite (val : Nat)
  /-- PING (R417): M0 or the shed answers a PING with PONG. -/
  | ping (ch : Nat)
  /-- BEGIN (R445): The lizard loader checks a bundle header, waits for presence, and invalidates slot B. -/
  | lizBegin (read : List Byte) (check : BundleCheck)
  /-- DATA (R445): The lizard loader writes bundle octets into slot A. -/
  | lizData (off : Nat) (data : List Byte)
  /-- END (R446): The lizard loader checks the whole bundle and commits slot A. -/
  | lizEnd (check : BundleCheck)
  /-- ERASE (R444): The lizard loader checks a sealed LIZARD_ENTER with ERASE and erases ownership and storage after presence. -/
  | lizErase (env : Envelope) (sigOk : Bool)
  /-- EVENT_ARRIVAL (R453): An event record reaches the recorder, takes its SEQ, is admitted or dropped, and is copied to event rings. -/
  | eventArrival (bad : Option (Nat × Nat))
  /-- EVR_PAGE_PERSIST (R459): A full page or PERSIST ms after its first record, M2 writes an event log page to NAND. -/
  | evrPagePersist (programOk : Bool)
  /-- JOURNAL_GATE_INPUT (R463): A core reads an input through the gate, which writes it to the capture ring first while capture runs. -/
  | journalGateInput (input : GateInput)
  /-- CLK_SOURCE_FAIL (R482): A source's edge detector or lock detector fires and affected domains switch to their fallbacks. -/
  | clkSourceFail (src cause : Nat)
  /-- CLK_MONITOR_WINDOW (R476): A monitoring window ends, and a source fails or returns to service. -/
  | clkMonitorWindow (src : Nat) (inTol lfCharges : Bool)
  /-- CLOCK_RESTART (R479): A switched domain's clock restarts from its new source. -/
  | clockRestart (dom : Nat)
  /-- SOURCE_JUDGED (R474): A source completes its start-up count and is judged stable. -/
  | sourceJudged (src : Nat)
  /-- UNIT_GATED (R486): A unit whose gate condition holds is gated when its agent reports it idle. -/
  | unitGated (k : Nat)
  /-- GATE_FORCED (R486): A unit not idle after 1,024 cycles is gated by force. -/
  | gateForced (k : Nat) (access : GateAccess)
  /-- REGION_TEMP_READ (R493): Every 100 ms region temperatures are read, and transmit chains are limited on a large gap. -/
  | regionTempRead (radio digital memory : Int)
  /-- POWER_LOSS (R494): The main supply falls, and the module fails without warning and the pads release. -/
  | powerLoss (form : PowerForm)
  /-- RESET_N (R498): RESET_N held low resets every island except the newt domain. -/
  | resetN (ns : Nat)
  /-- WATCHDOG_TIMEOUT (R499): The watchdog, unserviced for its period, resets the module. -/
  | watchdogTimeout (silent : Option Nat)
  /-- MODULE_START (R500): Islands leave reset in order, the boot ROM picks a slot, and firmware restores state before READY. -/
  | moduleStart (inp : StartInput)
  /-- TC_WINDOW (R515): Every 16 s the newt domain reads its temperature, computes a tick correction, and measures VBAT. -/
  | tcWindow (temp : Int) (vbat : Nat)
  /-- RTC_TICK_LO_READ (R523): A read of RTC_TICK_LO latches RTC_TICK_HI and the calendar from one shadow update. -/
  | rtcTickLoRead (side : Side)
  /-- RTC_CAL_HI_WRITE (R524): A write of RTC_CAL_HI stages the calendar pair. -/
  | rtcCalHiWrite (val : Nat)
  /-- RTC_ALM_HI_WRITE (R524): A write of RTC_ALMn_HI stages the alarm pair. -/
  | rtcAlmHiWrite (n val : Nat)
  /-- ACK_WINDOW_END (R144): The acknowledgement window after a downlink item sent with ACKREQ closes without an ACK; the item waits for a retry or, after RETRY_MAX, completes with EXPIRED DETAIL 0x03. -/
  | ackWindowEnd (stall : Nat)
  /-- STALL_KEY_READY (R172): The shed finishes preparing a stall key, so that a later JOIN REQ is answered ACCEPT instead of WAIT. -/
  | stallKeyReady (stall : Nat)
  /-- PULSE_REJECTED (R327): A pulse input returns inactive before DEB ms and the pulse is rejected and counted in MTR_PI_STAT.REJECT. -/
  | pulseRejected (k : Nat)
  /-- PCIE_LINK_UP (R67): PCIe link training completes, and configuration requests complete without CRS. -/
  | pcieLinkUp (setup : PcieSetup)
  /-- MAINTENANCE_PORT_ATTACH (R546): USB_VBUS rises above or falls below 4.0 V, and the maintenance port attaches or detaches. -/
  | maintenancePortAttach (attached : Bool)
  /-- ROLL_CLOSE_AFTER_EXPIRY (R203): ROLL_CLOSE_AFTER passing since START begins the close of the rollover. -/
  | rollCloseAfterExpiry
  /-- UPD_SESSION_IDLE (R432): A staging session ends after 300 s without an update opcode. -/
  | updSessionIdle
  /-- CONFIRM_WINDOW_EXPIRY (R439): An unconfirmed window sets the revert flag, yields if needed, and resets the module. -/
  | confirmWindowExpiry
  /-- PRESENCE_TIMEOUT (R391): A PENDING command without presence for 60 s completes with NEEDS_PRESENCE. -/
  | presenceTimeout
  /-- PRESENCE_CREDIT_EXPIRY (R391): An unused presence credit lapses after 60 s. -/
  | presenceCreditExpiry
  /-- PRESENCE_WINDOW_EXPIRY (R392): The presence-unlocked window closes at its TARGET time. -/
  | presenceWindowExpiry
  /-- KEY_CACHE_FILL (R14): The shed unwraps a missing key into the cache and the waiting frame proceeds through CCM* and the checks of R130. -/
  | keyCacheFill
  /-- BEACON_RX_TWIN (R130): An authenticated beacon goes to the twin block, which takes a higher claim as heard. -/
  | beaconRxTwin
  /-- JOIN_REQ (R172): A JOIN REQ is answered with ACCEPT, WAIT or REFUSE, and an ACCEPT moves a stall to JOINING. -/
  | joinReq
  /-- REJOIN (R152): A rejoin under the stall key returns the stall to ACTIVE and is answered with ACCEPT and no key. -/
  | rejoin
  /-- JOIN_CONFIRM (R155): A JOIN CONFIRM under the new stall key makes the stall ACTIVE. -/
  | joinConfirm
  /-- POLL (R145): An accepted POLL refreshes the stall and is answered with a queued item. -/
  | poll
  /-- STATUS (R191): An accepted STATUS message updates LAST_STATUS and FWVER. -/
  | status
  /-- FAULT (R191): An accepted FAULT message updates FAULTS and records NODE_FAULT unless the yard is in summary mode. -/
  | fault
  /-- ENERGY (R191): An accepted ENERGY message updates the stall's ENERGY. -/
  | energy
  /-- IMAGE_REPORT (R220): An IMAGE REPORT updates the stall's campaign status. -/
  | imageReport
  /-- KEY_ACK (R201): A KEY_ACK advances key renewal or rollover keying of the stall. -/
  | keyAck
  /-- DOZE (R157): A DOZE message moves the stall to DOZING until its declared end. -/
  | doze
  /-- ACK (R144): An ACK completes a downlink item sent with ACKREQ. -/
  | ack
  /-- APP (R160): An accepted uplink APP message is passed to the cabinet application. -/
  | app
  /-- ANS_SEND (R141): At ANS_DELAY after an accepted frame with AR = 1, the ANS frame leaves or counts as a miss. -/
  | ansSend
  /-- DUTY_SLOT_TICK (R99): A 1 ms duty slot ends, old charges expire, and held frames may be admitted. -/
  | dutySlotTick
  /-- BIST_INTERVAL (R83): Every INTERVAL the next lane in rotation starts a test, in place or with a shadow. -/
  | bistInterval
  /-- STALL_PERSIST (R135): M1 persists stall and paddock state, counters and superframe numbers to NAND. -/
  | stallPersist
  /-- FAULT_STORM_PERIOD (R192): A 10 s RTC period ends, and yards enter or leave summary mode. -/
  | faultStormPeriod
  /-- RECON_INTERVAL_END (R195): M2 computes L, B, U and coverage for each feeder and sets flags. -/
  | reconIntervalEnd
  /-- CAMPAIGN_PERSIST (R224): M2 persists campaigns, status maps, ESIs and step positions every 60 s. -/
  | campaignPersist
  /-- ENCODER_BLOCK_READY (R212): The RaptorQ encoder finishes a block's intermediate symbols and can generate symbols. -/
  | encoderBlockReady
  /-- ADDRESS_AGEING (R236): An address table entry ages out after AGE seconds without traffic. -/
  | addressAgeing
  /-- SLEW_STEP (R271): Every 1,000,000 / SLEW TSU ticks the residue moves one tick toward 0. -/
  | slewStep
  /-- PPS_LOSS (R286): Three expected PPS_IN edges are missing, and IN_OK clears. -/
  | ppsLoss
  /-- PPS_OUT_PULSE (R287): PPS_OUT rises at each whole second of output time. -/
  | ppsOutPulse
  /-- CLAIM_GATE_CLOSE (R314): A higher claim heard closes all PWM pads within 2 µs. -/
  | claimGateClose
  /-- CLAIM_GATE_OPEN (R350): 20 ms without a higher claim, or after entering ACTIVE, the gate opens and channels drive from their next boundary. -/
  | claimGateOpen
  /-- LEASE_LAPSE (R352): M3 fails to renew the lease, and the TWN block stops publishing and closes the gate. -/
  | leaseLapse
  /-- PEER_ABSENT (R353): Nothing heard from the peer for LOSS_AFTER on both paths, and a standby takes over. -/
  | peerAbsent
  /-- LISTEN_TIMER_END (R355): The LISTEN timer ends, and the unit becomes STANDBY or ACTIVE. -/
  | listenTimerEnd
  /-- REVERSION_HOLDOFF (R365): Reversion conditions held for HOLDOFF make the standby active. -/
  | reversionHoldoff
  /-- YIELD_AFTER (R366): An active unit unhealthy for YIELD_AFTER with a healthy in-sync peer yields. -/
  | yieldAfter
  /-- HOST_STATE (R417): M0 notes that the driver is starting or stopping and holds or resumes its posts. -/
  | hostState
  /-- INFO (R445): The lizard loader answers with module identity and slot versions. -/
  | lizInfo
  /-- RESET (R445): The lizard loader resets the module within 10 ms. -/
  | lizReset
  /-- CAPTURE_TRIGGER_STOP (R465): One second after a record at TRIG_SEV the capture stops. -/
  | captureTriggerStop
  /-- XO_MAIN_START_RETRY (R475): XO_MAIN not judged by its timeout, so the module stays in reset and retries after 100 ms. -/
  | xoMainStartRetry
  /-- POWER_ON (R495): VIN and internal rails come into regulation and the power-on reset releases after 10 ms. -/
  | powerOn
  /-- NEWT_POR (R510): The newt rail falls below 1.55 V and the newt domain resets to its initial state. -/
  | newtPor
  /-- SECOND_CARRY (R518): The tick count crosses a multiple of 32,768 and the calendar advances. -/
  | secondCarry
  /-- RTC_STAGED_APPLY (R524): A staged pair takes effect at an RTC tick boundary in the newt domain. -/
  | rtcStagedApply
  /-- TWIN_LANE_DOWN (R359): The twin lane loses link: LANE_OK clears, the mirror restarts with TWIN_DESYNC, and mailbox channels 12 to 15 are aborted. -/
  | twinLaneDown
  /-- TWIN_LANE_UP (R373): The twin lane establishes link, LANE_OK sets, and the mirror can sweep again. -/
  | twinLaneUp
  /-- CLAIM_BUS_SILENCE (R353): No valid claim-bus frame is heard for LOSS_AFTER while the twin lane still carries the peer: BUS_OK clears and CLAIM_BUS_FAULT is recorded. -/
  | claimBusSilence
  /-- SHED_RESET (R490): The shed island resets apart from the rest of the module: its crossings enter ISOLATED, the key cache empties, and its mailbox channels are aborted. -/
  | shedReset
  /-- HOST_RX_MESSAGE_INTERVAL (R239): A 50 µs interval of the host receive ring ends, and one MSI-X message covers every entry written in it. -/
  | hostRxMessageInterval
  /-- XO_LF_STOP_UNPOWERED (R527): With the main supply absent, the newt amplitude detector finds no XO_LF oscillation for 4 ms, the count stops and the oscillator-stopped flag is set. -/
  | xoLfStopUnpowered
  /-- PERST_N_RELEASE (R67): PERST_N is released, or taken as released at 20 ms after VIN passes 17 V, and the boot ROM starts link training within 20 ms. -/
  | perstNRelease
  /-- PLL_RELOCK_TIMEOUT (R484): The root PLL fails to relock within 1 ms after a source switch, and the module takes a watchdog reset with DETAIL 1. -/
  | pllRelockTimeout
  deriving DecidableEq, Repr

end Sys2Proof
end

