-- ==== Sys2Proof/Decode.lean ====
section
/-! DEFINITION. Sys2Proof/Decode.lean: the command that a word of the opcode table spells. The table gives none of its rows
any bits: its rows are the block's operations and events, and no word stands for one. -/
namespace Sys2Proof

/-- The command that a word of `nbits` bits spells by the table: none, for no row has bits. (DEDUCED, log 10) -/
def decodeTableWord (_nbits _w : Nat) : Option Instr := none

end Sys2Proof
end

