-- ==== Sys2Proof/Config.lean ====
section
/-! DEFINITION. Sys2Proof/Config.lean: what a module fixes for itself, and the free values. Every constant here is
opaque: no proof can see a value of it. -/
namespace Sys2Proof

/-- The module's device identity, 128 bits, fused at manufacture (R377). -/
opaque Config.devId : BitVec 128

/-- The Vendor ID that the PCI-SIG assigned to Vexpol (R27: the manual gives no number). -/
opaque Config.vendorId : BitVec 16

/-- VERSION of the bundle that slot A holds when the module leaves manufacture (R30, R427: the manual fixes none). (PRESUMED, log 82) -/
opaque Config.bundleVersion : BitVec 32

/-- Pair level of that bundle (R361, R373: the manual fixes none). (PRESUMED, log 82) -/
opaque Config.bundleLevel : BitVec 8

/-- SHA-256 of that whole bundle, and of its header (R398, R431: the manual fixes neither). (PRESUMED, log 82) -/
opaque Config.bundleMeas : BitVec 256
/-- SHA-256 of that bundle's header (R398, R431). (PRESUMED, log 82) -/
opaque Config.bundleIdent : BitVec 256

/-- OWNER_ID of an owner's public key (R383, R389: the manual names no function). -/
opaque Config.ownerId : List Byte → BitVec 64

/-- The compensation curve that Vexpol measured and stored in NOR (R516): NEWT_TC_CURVE's and NEWT_TC_OFF's fields K, T0 and
OFF. -/
opaque Config.tcK : BitVec 16
opaque Config.tcT0 : BitVec 16
opaque Config.tcOff : BitVec 16

/-- The Vexpol certificate in NOR, DER (R378). -/
opaque Config.certificate : List Byte

/-- SHA-256 of a list of octets, as a number of 256 bits. FIPS 180 gives the function; the model computes none. (DESIGN CHOICE, log 7) -/
opaque Config.sha256 : List Byte → BitVec 256

/-- A value that the manual leaves open: call number `n` of the run (State.free counts the calls). -/
opaque Config.freeValue : Nat → BitVec 64

/-- The octets that a value of unstated content fills: octet `i` of call `n`. -/
opaque Config.freeByte : Nat → Nat → Byte

/-- The octets that an argument of an event fills: event code and argument number. R450 packs the arguments from byte 16
in the order of the event's definition and states no width. (DESIGN CHOICE, log 27) -/
opaque Config.argWidth : Nat → Nat → Nat

/-- The octets of a record whose field places the manual does not state: kind of record, and its values in the manual's
order. (DESIGN CHOICE, log 28) -/
opaque Config.layout : Nat → List Nat → List Byte

/-- AES-128 CCM* of a key (by the number that stands for it), nonce, header and payload, encrypting or not (R131): the
payload's ciphertext, where it encrypts, and the 8-octet MIC. IEEE 802.15.4 gives the function; the model computes none. (DESIGN CHOICE, log 7) -/
opaque Config.ccmStar : Nat → List Byte → List Byte → List Byte → Bool → List Byte

/-- The FCS of a PSDU, of 4 or 2 octets (R71). (DESIGN CHOICE, log 7) -/
opaque Config.fcs : Nat → List Byte → List Byte

/-- RFC 3394 key wrap of a key under another, each by the number that stands for it: 24 octets (R151, R161). (DESIGN CHOICE, log 7) -/
opaque Config.keyWrap : Nat → Nat → List Byte

/-- The key of a handle: the first 16 octets of AES-256 under WK of the handle, a type (1 stall, 2 paddock), a stall index or
paddock ID, and a 16-bit epoch; WK and the key by the numbers that stand for them (R379). (DESIGN CHOICE, log 7) -/
opaque Config.formKey : Nat → Nat → Nat → Nat → Nat → Nat

/-- The join key of an EUI-64 under a join root, each by number (R381). (DESIGN CHOICE, log 7) -/
opaque Config.joinKey : Nat → Nat → Nat

/-- A RaptorQ encoding symbol: image, T, source block and ESI (R212). (DESIGN CHOICE, log 7) -/
opaque Config.symbol : List Byte → Nat → Nat → Nat → List Byte

/-- The VLAN of an untagged frame that the host sends into the fabric at H (R236, R276: the manual names none). (DEDUCED, log 59) -/
opaque Config.hostVid : BitVec 12

/-- The MAC address that ARP finds for an IPv4 address (R237: the manual describes no exchange). (DESIGN CHOICE, log 186) -/
opaque Config.arp : Nat → BitVec 48
/-- The VLAN of the datagrams that M sends (R236, R237: the manual names none). (DESIGN CHOICE, log 186) -/
opaque Config.mgmtVid : BitVec 12

/-- The module's own clockIdentity (R262: the manual gives none). (DESIGN CHOICE, log 165) -/
opaque Config.clockId : BitVec 64

/-- A current sample with the phase correction of a PCAL code, from the sample before it and itself (R324, R343: the manual
states no interpolation). (DESIGN CHOICE, log 188) -/
opaque Config.phaseCorrect : Nat → Int → Int → Int
/-- The digital integral of a Rogowski coil's output: from the integral before a sample and the sample (R324: the manual states
no scale and no corner). (DESIGN CHOICE, log 188) -/
opaque Config.rogowski : Int → Int → Int

/-- The temperature in 0.1 °C of an NTC of a B value and a resistance in Ω, 10 kΩ at 25 °C (R303: the manual states no
formula). (DESIGN CHOICE, log 72) -/
opaque Config.ntcTemp : Nat → Nat → Int

end Sys2Proof
end

