-- ==== Sys2Proof/Machine/Regs.lean ====
section
/-! DEFINITION. Sys2Proof/Machine/Regs.lean: the BAR0 registers (R552 to R564), one constructor per register name of
the manual. Offsets, fields, access types and reset values are those of the register tables of the block chapters;
each constructor's docstring cites the rule that lays the register out. R564 counts them: 16,293 addresses. -/
namespace Sys2Proof.Machine

/-- The access types of R7. -/
inductive Access where
  | RW | RO | WO | W1C | W1S | RWL | RWP
  deriving DecidableEq, Repr

/-- What a field does with a written value outside its range or its code table (R554 and the field's own words). -/
inductive Clamp where
  /-- the field takes what is written -/
  | none
  /-- an unsigned range: the nearer bound is taken (R554) -/
  | range (lo hi : Nat)
  /-- a two's complement range: the nearer bound is taken (R554) -/
  | srange (lo hi : Int)
  /-- a code above the bound reads back as 0 -/
  | zeroAbove (hi : Nat)
  /-- a code above the bound is ignored: the field keeps its value and SETUP_IGNORED is recorded (R66, R110) -/
  | ignoreAbove (hi : Nat)
  deriving DecidableEq, Repr

/-- A bit span of a register. -/
structure Fld where
  hi : Nat
  lo : Nat
  deriving DecidableEq, Repr

/-- A field of a register table: its span, access type and clamp rule. -/
structure Field where
  span : Fld
  acc : Access
  clamp : Clamp
  deriving DecidableEq, Repr

/-- The seven replicated families of R555. -/
inductive Fam where
  | ports | yards | lanes | drive | current | voltage | pulse
  deriving DecidableEq, Repr

/-- The number of members of a family (R555). -/
def Fam.members : Fam → Nat
  | .ports => 3 | .yards => 16 | .lanes => 544 | .drive => 48 | .current => 6 | .voltage => 3 | .pulse => 8
/-- The base of member 0's instance window (R555). -/
def Fam.instBase : Fam → Nat
  | .ports => 0x41000 | .yards => 0x81000 | .lanes => 0x100000 | .drive => 0x30C000
  | .current => 0x311000 | .voltage => 0x312000 | .pulse => 0x313000
/-- The window size of the family, and the stride between its windows (R555). -/
def Fam.size : Fam → Nat
  | .ports => 0x1000 | .yards => 0x1000 | .lanes => 0x400 | .drive => 0x100
  | .current => 0x100 | .voltage => 0x100 | .pulse => 0x100
/-- The base of the ALL window (R555). -/
def Fam.allBase : Fam → Nat
  | .ports => 0x44000 | .yards => 0x91000 | .lanes => 0x190000 | .drive => 0x30F000
  | .current => 0x311600 | .voltage => 0x312300 | .pulse => 0x313800
/-- The base of the GROUP 0 window (R555). -/
def Fam.groupBase : Fam → Nat
  | .ports => 0x45000 | .yards => 0x92000 | .lanes => 0x190400 | .drive => 0x30F100
  | .current => 0x311700 | .voltage => 0x312400 | .pulse => 0x313900
/-- Mask words of a GROUP (R555). -/
def Fam.maskWords : Fam → Nat
  | .lanes => 17 | .drive => 2 | _ => 1
/-- The broadcast control area: the last 128 bytes of every window (R556). -/
def Fam.ctlOff (f : Fam) : Nat := f.size - 0x80

/-- The registers of BAR0, by the manual's names; the arguments are the indices of arrayed names. -/
inductive Reg where
  /-- R557, the ALL window's copy -/ | BC_STAT_ALL (f : Fam)
  /-- R557, GROUP g's copy -/ | BC_STAT_G (f : Fam) (g : Nat)
  /-- R558 -/ | BC_MASK (f : Fam) (g w : Nat)
  /-- R34 -/ | HIF_SQ_BASE_LO (n : Nat)
  /-- R34 -/ | HIF_SQ_BASE_HI (n : Nat)
  /-- R34 -/ | HIF_SQ_CFG (n : Nat)
  /-- R34 -/ | HIF_SQ_STAT (n : Nat)
  /-- R35 -/ | HIF_CQ_BASE_LO (n : Nat)
  /-- R35 -/ | HIF_CQ_BASE_HI (n : Nat)
  /-- R35 -/ | HIF_CQ_CFG (n : Nat)
  /-- R35 -/ | HIF_CQ_COAL (n : Nat)
  /-- R35 -/ | HIF_CQ_STAT (n : Nat)
  /-- R35 -/ | HIF_EQ_BASE_LO (n : Nat)
  /-- R35 -/ | HIF_EQ_BASE_HI (n : Nat)
  /-- R35 -/ | HIF_EQ_CFG (n : Nat)
  /-- R35 -/ | HIF_EQ_SRC (n : Nat)
  /-- R35 -/ | HIF_EQ_STAT (n : Nat)
  /-- R552 -/ | MSIX_ADDR_LO (n : Nat)
  /-- R552 -/ | MSIX_ADDR_HI (n : Nat)
  /-- R552 -/ | MSIX_DATA (n : Nat)
  /-- R552 -/ | MSIX_CTL (n : Nat)
  /-- R552 -/ | MSIX_PBA (w : Nat)
  /-- R511 -/ | NEWT_ANCHOR (k : Nat)
  /-- R532 -/ | RTC_ALM_LO (n : Nat)
  /-- R532 -/ | RTC_ALM_HI (n : Nat)
  /-- R290 -/ | TSU_DOM_CFG (d : Nat)
  /-- R290 -/ | TSU_DOM_INT (d : Nat)
  /-- R291 -/ | TSU_DOM_THR (d : Nat)
  /-- R291 -/ | TSU_DOM_PRIO (d : Nat)
  /-- R291 -/ | TSU_DOM_STAT (d : Nat)
  /-- R291 -/ | TSU_DOM_OFFS (d : Nat)
  /-- R291 -/ | TSU_DOM_RATE (d : Nat)
  /-- R294 -/ | TSU_PORT_LAT (p : Nat)
  /-- R294 -/ | TSU_PORT_TSQ (p : Nat)
  /-- R256 -/ | SWX_VLAN (k : Nat)
  /-- R258 -/ | SWX_PORT_CFG (p : Nat)
  /-- R258 -/ | SWX_PORT_STAT (p : Nat)
  /-- R258 -/ | SWX_PORT_SCHED (p : Nat)
  /-- R257 -/ | SWX_PORT_WT_LO (p : Nat)
  /-- R257 -/ | SWX_PORT_WT_HI (p : Nat)
  /-- R258 -/ | SWX_PORT_EVT (p : Nat)
  /-- R257 -/ | SWX_PORT_RXOK (p : Nat)
  /-- R257 -/ | SWX_PORT_RXFCS (p : Nat)
  /-- R257 -/ | SWX_PORT_RXDISC (p : Nat)
  /-- R257 -/ | SWX_PORT_RXDROP (p : Nat)
  /-- R257 -/ | SWX_PORT_TXOK (p : Nat)
  /-- R257 -/ | SWX_PORT_TXDROP (p : Nat)
  /-- R257 -/ | SWX_PORT_TXPOISON (p : Nat)
  /-- R111 -/ | YRD_FE_CFG (f : Nat)
  /-- R111 -/ | YRD_FE_STAT (f : Nat)
  /-- R112 -/ | YRD_TX_CFG (n : Nat)
  /-- R112 -/ | YRD_TX_STAT (n : Nat)
  /-- R114 -/ | YRD_CUST_SB_LO (k : Nat)
  /-- R114 -/ | YRD_CUST_SB_HI (k : Nat)
  /-- R114 -/ | YRD_CUST_SB_LIM (k : Nat)
  /-- R116 -/ | YRD_CFG (y : Nat)
  /-- R116 -/ | YRD_PHY (y : Nat)
  /-- R117 -/ | YRD_STATE (y : Nat)
  /-- R117 -/ | YRD_CAP (y : Nat)
  /-- R117 -/ | YRD_WDRAW (y : Nat) (n : Nat)
  /-- R117 -/ | YRD_RUN (y : Nat)
  /-- R115 -/ | YRD_RXOK (y : Nat)
  /-- R115 -/ | YRD_CRCERR (y : Nat)
  /-- R115 -/ | YRD_COLLIDE (y : Nat)
  /-- R115 -/ | YRD_SIC (y : Nat)
  /-- R115 -/ | YRD_BSKIP (y : Nat)
  /-- R115 -/ | YRD_DEFER (y : Nat)
  /-- R118 -/ | YRD_EVT (y : Nat)
  /-- R167 -/ | YRD_MAC (y : Nat)
  /-- R167 -/ | YRD_SFNUM (y : Nat)
  /-- R167 -/ | YRD_REPLAY (y : Nat)
  /-- R167 -/ | YRD_DUP (y : Nat)
  /-- R167 -/ | YRD_ANSMISS (y : Nat)
  /-- R167 -/ | YRD_SLOTMAP (y : Nat) (k : Nat)
  /-- R119 -/ | YRD_PLAN (y : Nat) (k : Nat)
  /-- R121 -/ | LNE_ASSIGN (n : Nat)
  /-- R121 -/ | LNE_CTL (n : Nat)
  /-- R122 -/ | LNE_BIST (n : Nat)
  /-- R120 -/ | LNE_RXOK (n : Nat)
  /-- R120 -/ | LNE_CRCERR (n : Nat)
  /-- R120 -/ | LNE_PHRERR (n : Nat)
  /-- R120 -/ | LNE_SIC (n : Nat)
  /-- R120 -/ | LNE_COLLIDE (n : Nat)
  /-- R120 -/ | LNE_BLANK (n : Nat)
  /-- R120 -/ | LNE_DROP (n : Nat)
  /-- R120 -/ | LNE_AUTHFAIL (n : Nat)
  /-- R122 -/ | LNE_RSSI (n : Nat)
  /-- R122 -/ | LNE_EVT (n : Nat)
  /-- R318 -/ | DRV_NTC_CFG (g : Nat)
  /-- R318 -/ | DRV_NTC_STAT (g : Nat)
  /-- R316 -/ | DRV_CURVEA (k : Nat)
  /-- R316 -/ | DRV_CURVEB (k : Nat)
  /-- R320 -/ | DRV_CH_CFG (n : Nat)
  /-- R320 -/ | DRV_CH_DIAG (n : Nat)
  /-- R321 -/ | DRV_CH_INIT (n : Nat)
  /-- R321 -/ | DRV_CH_STAT (n : Nat)
  /-- R321 -/ | DRV_CH_LEVEL (n : Nat)
  /-- R322 -/ | DRV_CH_ON (n : Nat)
  /-- R322 -/ | DRV_CH_ISNS (n : Nat)
  /-- R322 -/ | DRV_CH_EVT (n : Nat)
  /-- R343 -/ | MTR_I_CFG (n : Nat)
  /-- R343 -/ | MTR_I_FS (n : Nat)
  /-- R343 -/ | MTR_I_CAL (n : Nat)
  /-- R343 -/ | MTR_I_STAT (n : Nat)
  /-- R343 -/ | MTR_I_IRMS (n : Nat)
  /-- R343 -/ | MTR_I_P (n : Nat)
  /-- R343 -/ | MTR_I_Q (n : Nat)
  /-- R343 -/ | MTR_I_S (n : Nat)
  /-- R343 -/ | MTR_I_EVT (n : Nat)
  /-- R344 -/ | MTR_V_CFG (n : Nat)
  /-- R344 -/ | MTR_V_CAL (n : Nat)
  /-- R344 -/ | MTR_V_RMS (n : Nat)
  /-- R344 -/ | MTR_V_FREQ (n : Nat)
  /-- R345 -/ | MTR_PI_CFG (n : Nat)
  /-- R345 -/ | MTR_PI_WT (n : Nat)
  /-- R345 -/ | MTR_PI_STAT (n : Nat)
  /-- R362 -/ | TWN_HLOCAL (k : Nat)
  /-- R362 -/ | TWN_HPEER (k : Nat)
  /-- R401 -/ | SEC_DEVID (k : Nat)
  /-- R456 -/ | EVR_DROP (s : Nat)
  /-- R259 -/ | QUE_X_STAT (n : Nat)
  /-- R259 -/ | QUE_STAT (q : Nat)
  /-- R259 -/ | QUE_UPLOST (y : Nat)
  /-- R30 -/ | HIF_ID
  /-- R30 -/ | HIF_BUNDLE
  /-- R31 -/ | HIF_STATUS
  /-- R32 -/ | HIF_SETUP_DONE
  /-- R33 -/ | HIF_INT_CAUSE
  /-- R33 -/ | HIF_INT_EN
  /-- R33 -/ | HIF_SQ_FAULT_LO
  /-- R33 -/ | HIF_SQ_FAULT_HI
  /-- R33 -/ | HIF_PEND
  /-- R501 -/ | CLK_SRC_STAT
  /-- R501 -/ | CLK_DOM_STAT
  /-- R501 -/ | CLK_CFG
  /-- R502 -/ | CLK_RESET_CAUSE
  /-- R502 -/ | CLK_GATE_STAT
  /-- R487 -/ | CLK_ACCERR_ADDR
  /-- R503 -/ | CLK_ACCERR_INFO
  /-- R503 -/ | CLK_TEMP
  /-- R504 -/ | CLK_EVT
  /-- R528 -/ | NEWT_STAT
  /-- R529 -/ | NEWT_TC_CURVE
  /-- R529 -/ | NEWT_TC_OFF
  /-- R529 -/ | NEWT_COMP
  /-- R528 -/ | NEWT_EVT
  /-- R523 -/ | RTC_TICK_LO
  /-- R523 -/ | RTC_TICK_HI
  /-- R530 -/ | RTC_CAL_LO
  /-- R530 -/ | RTC_CAL_HI
  /-- R531 -/ | RTC_WPEND
  /-- R289 -/ | TSU_CFG
  /-- R289 -/ | TSU_STAT
  /-- R283 -/ | TSU_TIME_LO
  /-- R283 -/ | TSU_TIME_HI
  /-- R283 -/ | TSU_RAW_LO
  /-- R283 -/ | TSU_RAW_HI
  /-- R283 -/ | TSU_RES
  /-- R292 -/ | TSU_PPS
  /-- R292 -/ | TSU_PPS_STAT
  /-- R286 -/ | TSU_PPSIN_LO
  /-- R286 -/ | TSU_PPSIN_HI
  /-- R292 -/ | TSU_REF
  /-- R293 -/ | TSU_COMPAT_INCR
  /-- R293 -/ | TSU_LSLOT
  /-- R293 -/ | TSU_EVT
  /-- R253 -/ | SWX_CFG
  /-- R253 -/ | SWX_BUF_CFG
  /-- R253 -/ | SWX_BUF_STAT
  /-- R253 -/ | SWX_PCP_MAP
  /-- R252 -/ | SWX_MAC_M_LO
  /-- R252 -/ | SWX_MAC_M_HI
  /-- R252 -/ | SWX_MAC_H_LO
  /-- R252 -/ | SWX_MAC_H_HI
  /-- R252 -/ | SWX_MGMT_IP4
  /-- R252 -/ | SWX_MGMT_NET
  /-- R252 -/ | SWX_MGMT_GW
  /-- R252 -/ | SWX_MSTAT
  /-- R254 -/ | SWX_ERPS
  /-- R254 -/ | SWX_ERPS_STAT
  /-- R252 -/ | SWX_HRX_BASE_LO
  /-- R252 -/ | SWX_HRX_BASE_HI
  /-- R255 -/ | SWX_HRX_CFG
  /-- R255 -/ | SWX_HRX_HEAD
  /-- R255 -/ | SWX_HRX_STAT
  /-- R110 -/ | YRD_REGION
  /-- R113 -/ | YRD_POOL
  /-- R113 -/ | YRD_BIST_CFG
  /-- R113 -/ | YRD_SPARE_WARN
  /-- R166 -/ | YRD_MAC_CFG
  /-- R166 -/ | YRD_MAC_SEG
  /-- R166 -/ | YRD_MAC_HOLD
  /-- R166 -/ | YRD_MAC_LOST
  /-- R166 -/ | YRD_MAC_JOIN
  /-- R166 -/ | YRD_MAC_TIME
  /-- R317 -/ | DRV_CFG
  /-- R317 -/ | DRV_GATE
  /-- R342 -/ | MTR_CFG
  /-- R342 -/ | MTR_REV_MIN
  /-- R342 -/ | MTR_RUN
  /-- R342 -/ | MTR_GAPS
  /-- R342 -/ | MTR_SAVESEQ
  /-- R342 -/ | MTR_PAIR
  /-- R342 -/ | MTR_PAIR_STAT
  /-- R342 -/ | MTR_EVT
  /-- R372 -/ | TWN_CFG
  /-- R372 -/ | TWN_TIMERS
  /-- R373 -/ | TWN_LEASE
  /-- R373 -/ | TWN_STAT
  /-- R371 -/ | TWN_CLAIM
  /-- R371 -/ | TWN_PEER_CLAIM
  /-- R374 -/ | TWN_MIRROR
  /-- R371 -/ | TWN_HANDOVERS
  /-- R374 -/ | TWN_EVT
  /-- R401 -/ | SEC_STAT
  /-- R401 -/ | SEC_OWNER_LO
  /-- R401 -/ | SEC_OWNER_HI
  /-- R401 -/ | SEC_OWNER_GEN
  /-- R401 -/ | SEC_CTR_LO
  /-- R401 -/ | SEC_CTR_HI
  /-- R401 -/ | SEC_JROOTS
  /-- R401 -/ | SEC_TAMPER_CFG
  /-- R402 -/ | SEC_TAMPER_IN
  /-- R402 -/ | SEC_TAMPER_CNT
  /-- R402 -/ | SEC_UDP
  /-- R403 -/ | SEC_EVT
  /-- R424 -/ | MBX_CFG
  /-- R424 -/ | MBX_ABORTS
  /-- R424 -/ | MBX_TWIN
  /-- R469 -/ | EVR_CFG
  /-- R469 -/ | EVR_STAT
  /-- R457 -/ | EVR_FENCE
  /-- R459 -/ | EVR_PSEQ
  /-- R456 -/ | EVR_OVERWR
  /-- R470 -/ | EVR_NAND
  /-- R466 -/ | EVR_CAPLEN
  /-- R470 -/ | EVR_EVT
  /-- R447 -/ | UPD_CFG
  /-- R447 -/ | UPD_STAT
  /-- R448 -/ | UPD_SESSION
  /-- R448 -/ | UPD_HOLDER_IP4
  /-- R431 -/ | UPD_OFFSET
  /-- R431 -/ | UPD_TOTAL
  /-- R428 -/ | UPD_VER_A
  /-- R428 -/ | UPD_VER_B
  /-- R448 -/ | UPD_LEFT
  /-- R448 -/ | UPD_EVT
  /-- R229 -/ | FLT_CFG
  /-- R229 -/ | FLT_STATUS
  /-- R230 -/ | FLT_ENC_STAT
  /-- R230 -/ | FLT_SYMS
  /-- R230 -/ | FLT_RPTS
  /-- R230 -/ | FLT_EVT
  /-- R259 -/ | QUE_PERR
  /-- R259 -/ | QUE_EVT
  deriving DecidableEq, Repr

/-- The BAR0 offset of a register. -/
def Reg.offset : Reg → Nat
  | .HIF_ID => 0x0
  | .HIF_BUNDLE => 0x4
  | .HIF_STATUS => 0x8
  | .HIF_SETUP_DONE => 0xC
  | .HIF_INT_CAUSE => 0x10
  | .HIF_INT_EN => 0x14
  | .HIF_SQ_FAULT_LO => 0x18
  | .HIF_SQ_FAULT_HI => 0x1C
  | .HIF_PEND => 0x20
  | .HIF_SQ_BASE_LO n => 0x1000 + 0x20 * n
  | .HIF_SQ_BASE_HI n => 0x1004 + 0x20 * n
  | .HIF_SQ_CFG n => 0x1008 + 0x20 * n
  | .HIF_SQ_STAT n => 0x100C + 0x20 * n
  | .HIF_CQ_BASE_LO n => 0x1800 + 0x20 * n
  | .HIF_CQ_BASE_HI n => 0x1804 + 0x20 * n
  | .HIF_CQ_CFG n => 0x1808 + 0x20 * n
  | .HIF_CQ_COAL n => 0x180C + 0x20 * n
  | .HIF_CQ_STAT n => 0x1810 + 0x20 * n
  | .HIF_EQ_BASE_LO n => 0x2000 + 0x20 * n
  | .HIF_EQ_BASE_HI n => 0x2004 + 0x20 * n
  | .HIF_EQ_CFG n => 0x2008 + 0x20 * n
  | .HIF_EQ_SRC n => 0x200C + 0x20 * n
  | .HIF_EQ_STAT n => 0x2010 + 0x20 * n
  | .MSIX_ADDR_LO n => 0x8000 + 0x10 * n
  | .MSIX_ADDR_HI n => 0x8004 + 0x10 * n
  | .MSIX_DATA n => 0x8008 + 0x10 * n
  | .MSIX_CTL n => 0x800C + 0x10 * n
  | .MSIX_PBA w => 0x9000 + 0x4 * w
  | .CLK_SRC_STAT => 0x10000
  | .CLK_DOM_STAT => 0x10004
  | .CLK_CFG => 0x10008
  | .CLK_RESET_CAUSE => 0x1000C
  | .CLK_GATE_STAT => 0x10010
  | .CLK_ACCERR_ADDR => 0x10014
  | .CLK_ACCERR_INFO => 0x10018
  | .CLK_TEMP => 0x1001C
  | .CLK_EVT => 0x10020
  | .NEWT_STAT => 0x20000
  | .NEWT_TC_CURVE => 0x20004
  | .NEWT_TC_OFF => 0x20008
  | .NEWT_COMP => 0x2000C
  | .NEWT_EVT => 0x20010
  | .NEWT_ANCHOR k => 0x20040 + 0x4 * k
  | .RTC_TICK_LO => 0x20100
  | .RTC_TICK_HI => 0x20104
  | .RTC_CAL_LO => 0x20108
  | .RTC_CAL_HI => 0x2010C
  | .RTC_WPEND => 0x20110
  | .RTC_ALM_LO n => 0x20120 + 0x8 * n
  | .RTC_ALM_HI n => 0x20124 + 0x8 * n
  | .TSU_CFG => 0x30000
  | .TSU_STAT => 0x30004
  | .TSU_TIME_LO => 0x30008
  | .TSU_TIME_HI => 0x3000C
  | .TSU_RAW_LO => 0x30010
  | .TSU_RAW_HI => 0x30014
  | .TSU_RES => 0x30018
  | .TSU_DOM_CFG d => 0x30020 + 0x20 * d
  | .TSU_DOM_INT d => 0x30024 + 0x20 * d
  | .TSU_DOM_THR d => 0x30028 + 0x20 * d
  | .TSU_DOM_PRIO d => 0x3002C + 0x20 * d
  | .TSU_DOM_STAT d => 0x30030 + 0x20 * d
  | .TSU_DOM_OFFS d => 0x30034 + 0x20 * d
  | .TSU_DOM_RATE d => 0x30038 + 0x20 * d
  | .TSU_PPS => 0x30060
  | .TSU_PPS_STAT => 0x30064
  | .TSU_PPSIN_LO => 0x30068
  | .TSU_PPSIN_HI => 0x3006C
  | .TSU_REF => 0x30070
  | .TSU_COMPAT_INCR => 0x30074
  | .TSU_LSLOT => 0x30078
  | .TSU_EVT => 0x3007C
  | .TSU_PORT_LAT p => 0x30080 + 0x4 * p
  | .TSU_PORT_TSQ p => 0x30090 + 0x4 * p
  | .SWX_CFG => 0x40000
  | .SWX_BUF_CFG => 0x40004
  | .SWX_BUF_STAT => 0x40008
  | .SWX_PCP_MAP => 0x4000C
  | .SWX_MAC_M_LO => 0x40010
  | .SWX_MAC_M_HI => 0x40014
  | .SWX_MAC_H_LO => 0x40018
  | .SWX_MAC_H_HI => 0x4001C
  | .SWX_MGMT_IP4 => 0x40020
  | .SWX_MGMT_NET => 0x40024
  | .SWX_MGMT_GW => 0x40028
  | .SWX_MSTAT => 0x4002C
  | .SWX_ERPS => 0x40030
  | .SWX_ERPS_STAT => 0x40034
  | .SWX_HRX_BASE_LO => 0x40040
  | .SWX_HRX_BASE_HI => 0x40044
  | .SWX_HRX_CFG => 0x40048
  | .SWX_HRX_HEAD => 0x4004C
  | .SWX_HRX_STAT => 0x40050
  | .SWX_VLAN k => 0x40100 + 0x4 * k
  | .SWX_PORT_CFG p => 0x41000 + 0x1000 * p
  | .SWX_PORT_STAT p => 0x41004 + 0x1000 * p
  | .SWX_PORT_SCHED p => 0x41008 + 0x1000 * p
  | .SWX_PORT_WT_LO p => 0x4100C + 0x1000 * p
  | .SWX_PORT_WT_HI p => 0x41010 + 0x1000 * p
  | .SWX_PORT_EVT p => 0x41014 + 0x1000 * p
  | .SWX_PORT_RXOK p => 0x41020 + 0x1000 * p
  | .SWX_PORT_RXFCS p => 0x41024 + 0x1000 * p
  | .SWX_PORT_RXDISC p => 0x41028 + 0x1000 * p
  | .SWX_PORT_RXDROP p => 0x4102C + 0x1000 * p
  | .SWX_PORT_TXOK p => 0x41030 + 0x1000 * p
  | .SWX_PORT_TXDROP p => 0x41034 + 0x1000 * p
  | .SWX_PORT_TXPOISON p => 0x41038 + 0x1000 * p
  | .YRD_REGION => 0x80000
  | .YRD_FE_CFG f => 0x80010 + 0x4 * f
  | .YRD_FE_STAT f => 0x80020 + 0x4 * f
  | .YRD_TX_CFG n => 0x80040 + 0x4 * n
  | .YRD_TX_STAT n => 0x80060 + 0x4 * n
  | .YRD_POOL => 0x80080
  | .YRD_BIST_CFG => 0x80084
  | .YRD_SPARE_WARN => 0x80088
  | .YRD_MAC_CFG => 0x80090
  | .YRD_MAC_SEG => 0x80094
  | .YRD_MAC_HOLD => 0x80098
  | .YRD_MAC_LOST => 0x8009C
  | .YRD_MAC_JOIN => 0x800A0
  | .YRD_MAC_TIME => 0x800A4
  | .YRD_CUST_SB_LO k => 0x80100 + 0xC * k
  | .YRD_CUST_SB_HI k => 0x80104 + 0xC * k
  | .YRD_CUST_SB_LIM k => 0x80108 + 0xC * k
  | .YRD_CFG y => 0x81000 + 0x1000 * y
  | .YRD_PHY y => 0x81004 + 0x1000 * y
  | .YRD_STATE y => 0x81008 + 0x1000 * y
  | .YRD_CAP y => 0x8100C + 0x1000 * y
  | .YRD_WDRAW y n => 0x81010 + 0x1000 * y + 0x4 * n
  | .YRD_RUN y => 0x81020 + 0x1000 * y
  | .YRD_RXOK y => 0x81024 + 0x1000 * y
  | .YRD_CRCERR y => 0x81028 + 0x1000 * y
  | .YRD_COLLIDE y => 0x8102C + 0x1000 * y
  | .YRD_SIC y => 0x81030 + 0x1000 * y
  | .YRD_BSKIP y => 0x81034 + 0x1000 * y
  | .YRD_DEFER y => 0x81038 + 0x1000 * y
  | .YRD_EVT y => 0x8103C + 0x1000 * y
  | .YRD_MAC y => 0x81040 + 0x1000 * y
  | .YRD_SFNUM y => 0x81044 + 0x1000 * y
  | .YRD_REPLAY y => 0x81048 + 0x1000 * y
  | .YRD_DUP y => 0x8104C + 0x1000 * y
  | .YRD_ANSMISS y => 0x81050 + 0x1000 * y
  | .YRD_SLOTMAP y k => 0x81100 + 0x1000 * y + 0x4 * k
  | .YRD_PLAN y k => 0x81200 + 0x1000 * y + 0x4 * k
  | .LNE_ASSIGN n => 0x100000 + 0x400 * n
  | .LNE_CTL n => 0x100004 + 0x400 * n
  | .LNE_BIST n => 0x100008 + 0x400 * n
  | .LNE_RXOK n => 0x100010 + 0x400 * n
  | .LNE_CRCERR n => 0x100014 + 0x400 * n
  | .LNE_PHRERR n => 0x100018 + 0x400 * n
  | .LNE_SIC n => 0x10001C + 0x400 * n
  | .LNE_COLLIDE n => 0x100020 + 0x400 * n
  | .LNE_BLANK n => 0x100024 + 0x400 * n
  | .LNE_DROP n => 0x100028 + 0x400 * n
  | .LNE_AUTHFAIL n => 0x10002C + 0x400 * n
  | .LNE_RSSI n => 0x100030 + 0x400 * n
  | .LNE_EVT n => 0x10003C + 0x400 * n
  | .DRV_CFG => 0x300000
  | .DRV_GATE => 0x300004
  | .DRV_NTC_CFG g => 0x300020 + 0x4 * g
  | .DRV_NTC_STAT g => 0x300040 + 0x4 * g
  | .DRV_CURVEA k => 0x308000 + 0x4 * k
  | .DRV_CURVEB k => 0x30A000 + 0x4 * k
  | .DRV_CH_CFG n => 0x30C000 + 0x100 * n
  | .DRV_CH_DIAG n => 0x30C004 + 0x100 * n
  | .DRV_CH_INIT n => 0x30C008 + 0x100 * n
  | .DRV_CH_STAT n => 0x30C00C + 0x100 * n
  | .DRV_CH_LEVEL n => 0x30C010 + 0x100 * n
  | .DRV_CH_ON n => 0x30C014 + 0x100 * n
  | .DRV_CH_ISNS n => 0x30C018 + 0x100 * n
  | .DRV_CH_EVT n => 0x30C01C + 0x100 * n
  | .MTR_CFG => 0x310000
  | .MTR_REV_MIN => 0x310004
  | .MTR_RUN => 0x310008
  | .MTR_GAPS => 0x31000C
  | .MTR_SAVESEQ => 0x310010
  | .MTR_PAIR => 0x310014
  | .MTR_PAIR_STAT => 0x310018
  | .MTR_EVT => 0x31001C
  | .MTR_I_CFG n => 0x311000 + 0x100 * n
  | .MTR_I_FS n => 0x311004 + 0x100 * n
  | .MTR_I_CAL n => 0x311008 + 0x100 * n
  | .MTR_I_STAT n => 0x31100C + 0x100 * n
  | .MTR_I_IRMS n => 0x311010 + 0x100 * n
  | .MTR_I_P n => 0x311014 + 0x100 * n
  | .MTR_I_Q n => 0x311018 + 0x100 * n
  | .MTR_I_S n => 0x31101C + 0x100 * n
  | .MTR_I_EVT n => 0x311020 + 0x100 * n
  | .MTR_V_CFG n => 0x312000 + 0x100 * n
  | .MTR_V_CAL n => 0x312004 + 0x100 * n
  | .MTR_V_RMS n => 0x312008 + 0x100 * n
  | .MTR_V_FREQ n => 0x31200C + 0x100 * n
  | .MTR_PI_CFG n => 0x313000 + 0x100 * n
  | .MTR_PI_WT n => 0x313004 + 0x100 * n
  | .MTR_PI_STAT n => 0x313008 + 0x100 * n
  | .TWN_CFG => 0x320000
  | .TWN_TIMERS => 0x320004
  | .TWN_LEASE => 0x320008
  | .TWN_STAT => 0x32000C
  | .TWN_CLAIM => 0x320010
  | .TWN_PEER_CLAIM => 0x320014
  | .TWN_MIRROR => 0x320018
  | .TWN_HANDOVERS => 0x32001C
  | .TWN_EVT => 0x320020
  | .TWN_HLOCAL k => 0x320040 + 0x4 * k
  | .TWN_HPEER k => 0x320080 + 0x4 * k
  | .SEC_DEVID k => 0x330000 + 0x4 * k
  | .SEC_STAT => 0x330010
  | .SEC_OWNER_LO => 0x330014
  | .SEC_OWNER_HI => 0x330018
  | .SEC_OWNER_GEN => 0x33001C
  | .SEC_CTR_LO => 0x330020
  | .SEC_CTR_HI => 0x330024
  | .SEC_JROOTS => 0x330028
  | .SEC_TAMPER_CFG => 0x33002C
  | .SEC_TAMPER_IN => 0x330030
  | .SEC_TAMPER_CNT => 0x330034
  | .SEC_UDP => 0x330038
  | .SEC_EVT => 0x33003C
  | .MBX_CFG => 0x340000
  | .MBX_ABORTS => 0x340004
  | .MBX_TWIN => 0x340008
  | .EVR_CFG => 0x350000
  | .EVR_STAT => 0x350004
  | .EVR_FENCE => 0x350008
  | .EVR_PSEQ => 0x35000C
  | .EVR_DROP s => 0x350010 + 0x4 * s
  | .EVR_OVERWR => 0x350024
  | .EVR_NAND => 0x350028
  | .EVR_CAPLEN => 0x35002C
  | .EVR_EVT => 0x350030
  | .UPD_CFG => 0x360000
  | .UPD_STAT => 0x360004
  | .UPD_SESSION => 0x360008
  | .UPD_HOLDER_IP4 => 0x36000C
  | .UPD_OFFSET => 0x360010
  | .UPD_TOTAL => 0x360014
  | .UPD_VER_A => 0x360018
  | .UPD_VER_B => 0x36001C
  | .UPD_LEFT => 0x360020
  | .UPD_EVT => 0x360024
  | .FLT_CFG => 0x370000
  | .FLT_STATUS => 0x370004
  | .FLT_ENC_STAT => 0x370008
  | .FLT_SYMS => 0x37000C
  | .FLT_RPTS => 0x370010
  | .FLT_EVT => 0x370014
  | .QUE_PERR => 0x380000
  | .QUE_EVT => 0x380004
  | .QUE_X_STAT n => 0x380100 + 0x4 * n
  | .QUE_STAT q => 0x380400 + 0x4 * q
  | .QUE_UPLOST y => 0x380800 + 0x4 * y
  | .BC_STAT_ALL f => f.allBase + f.ctlOff
  | .BC_STAT_G f g => f.groupBase + f.size * g + f.ctlOff
  | .BC_MASK f g w => f.groupBase + f.size * g + f.ctlOff + 0x10 + 4 * w

/-- The reset value of YRD_SLOTMAPk: the default map (R126, R167). -/
def slotmapReset (k : Nat) : BitVec 32 :=
  if k = 0 then 0xAAAAAAA8#32 else if k = 1 then 0xAAAAAAAA#32 else if k < 14 then 0x55555555#32 else 0xFFFFFFFF#32
/-- The depth in words of numbered queue q (R245); 0 for the fabric egress queues, whose CREDIT reads 0 (R259). -/
def queueDepth (q : Nat) : Nat :=
  if q < 40 then 0 else if q < 56 then 512 else if q < 72 then 256 else if q < 136 then 64 else 32

/-- The reset value of a register. (DESIGN CHOICE, log 4) -/
def Reg.reset : Reg → BitVec 32
  | .HIF_ID => 0x94000103#32
  | .HIF_BUNDLE => 0x0#32
  | .HIF_STATUS => 0x0#32
  | .HIF_SETUP_DONE => 0x0#32
  | .HIF_INT_CAUSE => 0x0#32
  | .HIF_INT_EN => 0x1#32
  | .HIF_SQ_FAULT_LO => 0x0#32
  | .HIF_SQ_FAULT_HI => 0x0#32
  | .HIF_PEND => 0x0#32
  | .HIF_SQ_BASE_LO _ => 0x0#32
  | .HIF_SQ_BASE_HI _ => 0x0#32
  | .HIF_SQ_CFG _ => 0x0#32
  | .HIF_SQ_STAT _ => 0x0#32
  | .HIF_CQ_BASE_LO _ => 0x0#32
  | .HIF_CQ_BASE_HI _ => 0x0#32
  | .HIF_CQ_CFG _ => 0x0#32
  | .HIF_CQ_COAL _ => 0x0#32
  | .HIF_CQ_STAT _ => 0x0#32
  | .HIF_EQ_BASE_LO _ => 0x0#32
  | .HIF_EQ_BASE_HI _ => 0x0#32
  | .HIF_EQ_CFG _ => 0x0#32
  | .HIF_EQ_SRC _ => 0xFFFFFFFF#32
  | .HIF_EQ_STAT _ => 0x0#32
  | .MSIX_ADDR_LO _ => 0x0#32
  | .MSIX_ADDR_HI _ => 0x0#32
  | .MSIX_DATA _ => 0x0#32
  | .MSIX_CTL _ => 0x1#32
  | .MSIX_PBA _ => 0x0#32
  | .CLK_SRC_STAT => 0x0#32
  | .CLK_DOM_STAT => 0x0#32
  | .CLK_CFG => 0x800003E8#32
  | .CLK_RESET_CAUSE => 0x0#32
  | .CLK_GATE_STAT => 0x0#32
  | .CLK_ACCERR_ADDR => 0x0#32
  | .CLK_ACCERR_INFO => 0x0#32
  | .CLK_TEMP => 0x0#32
  | .CLK_EVT => 0x0#32
  | .NEWT_STAT => 0x80000000#32
  | .NEWT_TC_CURVE => 0x0#32
  | .NEWT_TC_OFF => 0x0#32
  | .NEWT_COMP => 0x0#32
  | .NEWT_EVT => 0x0#32
  | .NEWT_ANCHOR _ => 0x0#32
  | .RTC_TICK_LO => 0x0#32
  | .RTC_TICK_HI => 0x0#32
  | .RTC_CAL_LO => 0x0#32
  | .RTC_CAL_HI => 0x101#32
  | .RTC_WPEND => 0x0#32
  | .RTC_ALM_LO _ => 0x0#32
  | .RTC_ALM_HI _ => 0x0#32
  | .TSU_CFG => 0x64#32
  | .TSU_STAT => 0x0#32
  | .TSU_TIME_LO => 0x0#32
  | .TSU_TIME_HI => 0x0#32
  | .TSU_RAW_LO => 0x0#32
  | .TSU_RAW_HI => 0x0#32
  | .TSU_RES => 0x0#32
  | .TSU_DOM_CFG d => BitVec.ofNat 32 d
  | .TSU_DOM_INT _ => 0x3000000#32
  | .TSU_DOM_THR _ => 0x6403E8#32
  | .TSU_DOM_PRIO _ => 0x8080#32
  | .TSU_DOM_STAT _ => 0x18000000#32
  | .TSU_DOM_OFFS _ => 0x0#32
  | .TSU_DOM_RATE _ => 0x0#32
  | .TSU_PPS => 0x64#32
  | .TSU_PPS_STAT => 0x0#32
  | .TSU_PPSIN_LO => 0x0#32
  | .TSU_PPSIN_HI => 0x0#32
  | .TSU_REF => 0x0#32
  | .TSU_COMPAT_INCR => 0x20000#32
  | .TSU_LSLOT => 0x0#32
  | .TSU_EVT => 0x0#32
  | .TSU_PORT_LAT _ => 0x0#32
  | .TSU_PORT_TSQ _ => 0x0#32
  | .SWX_CFG => 0x12C#32
  | .SWX_BUF_CFG => 0x30010#32
  | .SWX_BUF_STAT => 0x80008000#32
  | .SWX_PCP_MAP => 0xFAC688#32
  | .SWX_MAC_M_LO => 0x0#32
  | .SWX_MAC_M_HI => 0x0#32
  | .SWX_MAC_H_LO => 0x0#32
  | .SWX_MAC_H_HI => 0x0#32
  | .SWX_MGMT_IP4 => 0x0#32
  | .SWX_MGMT_NET => 0x0#32
  | .SWX_MGMT_GW => 0x0#32
  | .SWX_MSTAT => 0x0#32
  | .SWX_ERPS => 0x5000000#32
  | .SWX_ERPS_STAT => 0x0#32
  | .SWX_HRX_BASE_LO => 0x0#32
  | .SWX_HRX_BASE_HI => 0x0#32
  | .SWX_HRX_CFG => 0x0#32
  | .SWX_HRX_HEAD => 0x0#32
  | .SWX_HRX_STAT => 0x0#32
  | .SWX_VLAN _ => 0x0#32
  | .SWX_PORT_CFG _ => 0x10010000#32
  | .SWX_PORT_STAT _ => 0x0#32
  | .SWX_PORT_SCHED _ => 0x6#32
  | .SWX_PORT_WT_LO _ => 0x8080808#32
  | .SWX_PORT_WT_HI _ => 0x8080808#32
  | .SWX_PORT_EVT _ => 0x0#32
  | .SWX_PORT_RXOK _ => 0x0#32
  | .SWX_PORT_RXFCS _ => 0x0#32
  | .SWX_PORT_RXDISC _ => 0x0#32
  | .SWX_PORT_RXDROP _ => 0x0#32
  | .SWX_PORT_TXOK _ => 0x0#32
  | .SWX_PORT_TXDROP _ => 0x0#32
  | .SWX_PORT_TXPOISON _ => 0x0#32
  | .YRD_REGION => 0x1400#32
  | .YRD_FE_CFG _ => 0x0#32
  | .YRD_FE_STAT _ => 0x0#32
  | .YRD_TX_CFG _ => 0x0#32
  | .YRD_TX_STAT _ => 0x0#32
  | .YRD_POOL => 0x0#32
  | .YRD_BIST_CFG => 0x80000064#32
  | .YRD_SPARE_WARN => 0x4#32
  | .YRD_MAC_CFG => 0x320301#32
  | .YRD_MAC_SEG => 0x20000#32
  | .YRD_MAC_HOLD => 0x258#32
  | .YRD_MAC_LOST => 0x5A0#32
  | .YRD_MAC_JOIN => 0x3C000A#32
  | .YRD_MAC_TIME => 0x25#32
  | .YRD_CUST_SB_LO _ => 0x0#32
  | .YRD_CUST_SB_HI _ => 0x0#32
  | .YRD_CUST_SB_LIM _ => 0x0#32
  | .YRD_CFG _ => 0x0#32
  | .YRD_PHY _ => 0x80A0000#32
  | .YRD_STATE _ => 0x0#32
  | .YRD_CAP _ => 0x0#32
  | .YRD_WDRAW _ _ => 0x0#32
  | .YRD_RUN _ => 0x0#32
  | .YRD_RXOK _ => 0x0#32
  | .YRD_CRCERR _ => 0x0#32
  | .YRD_COLLIDE _ => 0x0#32
  | .YRD_SIC _ => 0x0#32
  | .YRD_BSKIP _ => 0x0#32
  | .YRD_DEFER _ => 0x0#32
  | .YRD_EVT _ => 0x0#32
  | .YRD_MAC _ => 0x0#32
  | .YRD_SFNUM _ => 0x0#32
  | .YRD_REPLAY _ => 0x0#32
  | .YRD_DUP _ => 0x0#32
  | .YRD_ANSMISS _ => 0x0#32
  | .YRD_SLOTMAP _ k => slotmapReset k
  | .YRD_PLAN _ _ => 0x0#32
  | .LNE_ASSIGN _ => 0x0#32
  | .LNE_CTL _ => 0x0#32
  | .LNE_BIST _ => 0x0#32
  | .LNE_RXOK _ => 0x0#32
  | .LNE_CRCERR _ => 0x0#32
  | .LNE_PHRERR _ => 0x0#32
  | .LNE_SIC _ => 0x0#32
  | .LNE_COLLIDE _ => 0x0#32
  | .LNE_BLANK _ => 0x0#32
  | .LNE_DROP _ => 0x0#32
  | .LNE_AUTHFAIL _ => 0x0#32
  | .LNE_RSSI _ => 0x0#32
  | .LNE_EVT _ => 0x0#32
  | .DRV_CFG => 0xA#32
  | .DRV_GATE => 0x0#32
  | .DRV_NTC_CFG _ => 0x1446AD6B#32
  | .DRV_NTC_STAT _ => 0x1000000#32
  | .DRV_CURVEA _ => 0x0#32
  | .DRV_CURVEB _ => 0x0#32
  | .DRV_CH_CFG _ => 0x20000010#32
  | .DRV_CH_DIAG _ => 0x8980028#32
  | .DRV_CH_INIT _ => 0x0#32
  | .DRV_CH_STAT _ => 0xC0000000#32
  | .DRV_CH_LEVEL _ => 0x0#32
  | .DRV_CH_ON _ => 0x0#32
  | .DRV_CH_ISNS _ => 0x0#32
  | .DRV_CH_EVT _ => 0x0#32
  | .MTR_CFG => 0x32000A#32
  | .MTR_REV_MIN => 0x14#32
  | .MTR_RUN => 0x32000A#32
  | .MTR_GAPS => 0x0#32
  | .MTR_SAVESEQ => 0x0#32
  | .MTR_PAIR => 0x0#32
  | .MTR_PAIR_STAT => 0x0#32
  | .MTR_EVT => 0x0#32
  | .MTR_I_CFG _ => 0x20100000#32
  | .MTR_I_FS _ => 0x0#32
  | .MTR_I_CAL _ => 0x80000000#32
  | .MTR_I_STAT _ => 0x0#32
  | .MTR_I_IRMS _ => 0x0#32
  | .MTR_I_P _ => 0x0#32
  | .MTR_I_Q _ => 0x0#32
  | .MTR_I_S _ => 0x0#32
  | .MTR_I_EVT _ => 0x0#32
  | .MTR_V_CFG _ => 0x0#32
  | .MTR_V_CAL _ => 0x80000000#32
  | .MTR_V_RMS _ => 0x0#32
  | .MTR_V_FREQ _ => 0x0#32
  | .MTR_PI_CFG _ => 0x14#32
  | .MTR_PI_WT _ => 0x3E8#32
  | .MTR_PI_STAT _ => 0x0#32
  | .TWN_CFG => 0x21000003#32
  | .TWN_TIMERS => 0xA012C#32
  | .TWN_LEASE => 0x32000A#32
  | .TWN_STAT => 0x0#32
  | .TWN_CLAIM => 0x0#32
  | .TWN_PEER_CLAIM => 0x0#32
  | .TWN_MIRROR => 0x0#32
  | .TWN_HANDOVERS => 0x0#32
  | .TWN_EVT => 0x0#32
  | .TWN_HLOCAL _ => 0x0#32
  | .TWN_HPEER _ => 0x0#32
  | .SEC_DEVID k => (Config.devId >>> (32 * k)).setWidth 32
  | .SEC_STAT => 0x0#32
  | .SEC_OWNER_LO => 0x0#32
  | .SEC_OWNER_HI => 0x0#32
  | .SEC_OWNER_GEN => 0x0#32
  | .SEC_CTR_LO => 0x0#32
  | .SEC_CTR_HI => 0x0#32
  | .SEC_JROOTS => 0x0#32
  | .SEC_TAMPER_CFG => 0xD8000000#32
  | .SEC_TAMPER_IN => 0xB#32
  | .SEC_TAMPER_CNT => 0x0#32
  | .SEC_UDP => 0x0#32
  | .SEC_EVT => 0x0#32
  | .MBX_CFG => 0xFFF#32
  | .MBX_ABORTS => 0x0#32
  | .MBX_TWIN => 0xAA#32
  | .EVR_CFG => 0x403E8#32
  | .EVR_STAT => 0x0#32
  | .EVR_FENCE => 0x0#32
  | .EVR_PSEQ => 0x0#32
  | .EVR_DROP _ => 0x0#32
  | .EVR_OVERWR => 0x0#32
  | .EVR_NAND => 0x20#32
  | .EVR_CAPLEN => 0x0#32
  | .EVR_EVT => 0x0#32
  | .UPD_CFG => 0x258#32
  | .UPD_STAT => 0x0#32
  | .UPD_SESSION => 0xFF0000#32
  | .UPD_HOLDER_IP4 => 0x0#32
  | .UPD_OFFSET => 0x0#32
  | .UPD_TOTAL => 0x0#32
  | .UPD_VER_A => 0x0#32
  | .UPD_VER_B => 0x0#32
  | .UPD_LEFT => 0x0#32
  | .UPD_EVT => 0x0#32
  | .FLT_CFG => 0x80000064#32
  | .FLT_STATUS => 0x0#32
  | .FLT_ENC_STAT => 0x0#32
  | .FLT_SYMS => 0x0#32
  | .FLT_RPTS => 0x0#32
  | .FLT_EVT => 0x0#32
  | .QUE_PERR => 0x0#32
  | .QUE_EVT => 0x0#32
  | .QUE_X_STAT _ => 0x0#32
  | .QUE_STAT q => BitVec.ofNat 32 (queueDepth q)
  | .QUE_UPLOST _ => 0x0#32
  | .BC_STAT_ALL _ => 0x3FF#32
  | .BC_STAT_G _ _ => 0x400003FF#32
  | .BC_MASK _ _ _ => 0#32

/-! Field spans, by the manual's names: `F.<REGISTER>_<FIELD>`. -/
namespace F
/-- R30 -/ abbrev HIF_ID_PART : Fld := ⟨31, 16⟩
/-- R30 -/ abbrev HIF_ID_STEP : Fld := ⟨15, 8⟩
/-- R30 -/ abbrev HIF_ID_IFVER : Fld := ⟨7, 0⟩
/-- R30 -/ abbrev HIF_BUNDLE_MAJOR : Fld := ⟨31, 24⟩
/-- R30 -/ abbrev HIF_BUNDLE_MINOR : Fld := ⟨23, 16⟩
/-- R30 -/ abbrev HIF_BUNDLE_BUILD : Fld := ⟨15, 0⟩
/-- R31 -/ abbrev HIF_STATUS_TRIAL : Fld := ⟨5, 5⟩
/-- R31 -/ abbrev HIF_STATUS_SLOT : Fld := ⟨4, 4⟩
/-- R31 -/ abbrev HIF_STATUS_STANDBY : Fld := ⟨3, 3⟩
/-- R31 -/ abbrev HIF_STATUS_PAUSE : Fld := ⟨2, 2⟩
/-- R31 -/ abbrev HIF_STATUS_LOCKED : Fld := ⟨1, 1⟩
/-- R31 -/ abbrev HIF_STATUS_READY : Fld := ⟨0, 0⟩
/-- R32 -/ abbrev HIF_SETUP_DONE_DONE : Fld := ⟨0, 0⟩
/-- R33 -/ abbrev HIF_INT_CAUSE_MBX : Fld := ⟨7, 7⟩
/-- R33 -/ abbrev HIF_INT_CAUSE_RESET_DONE : Fld := ⟨6, 6⟩
/-- R33 -/ abbrev HIF_INT_CAUSE_PAUSE_END : Fld := ⟨5, 5⟩
/-- R33 -/ abbrev HIF_INT_CAUSE_PAUSE_START : Fld := ⟨4, 4⟩
/-- R33 -/ abbrev HIF_INT_CAUSE_EQ_LOST : Fld := ⟨3, 3⟩
/-- R33 -/ abbrev HIF_INT_CAUSE_HOST_MEM : Fld := ⟨2, 2⟩
/-- R33 -/ abbrev HIF_INT_CAUSE_RING_FAULT : Fld := ⟨1, 1⟩
/-- R33 -/ abbrev HIF_INT_CAUSE_CLK_FAIL : Fld := ⟨0, 0⟩
/-- R33 -/ abbrev HIF_INT_EN_EN : Fld := ⟨7, 1⟩
/-- R33 -/ abbrev HIF_INT_EN_CLK_FAIL : Fld := ⟨0, 0⟩
/-- R33 -/ abbrev HIF_SQ_FAULT_LO_VALUE : Fld := ⟨31, 0⟩
/-- R33 -/ abbrev HIF_SQ_FAULT_HI_VALUE : Fld := ⟨31, 0⟩
/-- R33 -/ abbrev HIF_PEND_COUNT : Fld := ⟨12, 0⟩
/-- R34 -/ abbrev HIF_SQ_BASE_LO_ADDR : Fld := ⟨31, 12⟩
/-- R34 -/ abbrev HIF_SQ_BASE_HI_VALUE : Fld := ⟨31, 0⟩
/-- R34 -/ abbrev HIF_SQ_CFG_ENABLE : Fld := ⟨31, 31⟩
/-- R34 -/ abbrev HIF_SQ_CFG_PRIO : Fld := ⟨23, 22⟩
/-- R34 -/ abbrev HIF_SQ_CFG_CQ : Fld := ⟨21, 16⟩
/-- R34 -/ abbrev HIF_SQ_CFG_SIZE : Fld := ⟨3, 0⟩
/-- R34 -/ abbrev HIF_SQ_STAT_STATE : Fld := ⟨31, 30⟩
/-- R34 -/ abbrev HIF_SQ_STAT_FAULT : Fld := ⟨23, 16⟩
/-- R34 -/ abbrev HIF_SQ_STAT_HEAD : Fld := ⟨15, 0⟩
/-- R35 -/ abbrev HIF_CQ_BASE_LO_ADDR : Fld := ⟨31, 12⟩
/-- R35 -/ abbrev HIF_CQ_BASE_HI_VALUE : Fld := ⟨31, 0⟩
/-- R35 -/ abbrev HIF_CQ_CFG_ENABLE : Fld := ⟨31, 31⟩
/-- R35 -/ abbrev HIF_CQ_CFG_VECTOR : Fld := ⟨22, 16⟩
/-- R35 -/ abbrev HIF_CQ_CFG_SIZE : Fld := ⟨3, 0⟩
/-- R35 -/ abbrev HIF_CQ_COAL_TIME : Fld := ⟨15, 8⟩
/-- R35 -/ abbrev HIF_CQ_COAL_COUNT : Fld := ⟨7, 0⟩
/-- R35 -/ abbrev HIF_CQ_STAT_FULL : Fld := ⟨31, 31⟩
/-- R35 -/ abbrev HIF_CQ_STAT_TAIL : Fld := ⟨15, 0⟩
/-- R35 -/ abbrev HIF_EQ_BASE_LO_ADDR : Fld := ⟨31, 12⟩
/-- R35 -/ abbrev HIF_EQ_BASE_HI_VALUE : Fld := ⟨31, 0⟩
/-- R35 -/ abbrev HIF_EQ_CFG_ENABLE : Fld := ⟨31, 31⟩
/-- R35 -/ abbrev HIF_EQ_CFG_VECTOR : Fld := ⟨22, 16⟩
/-- R35 -/ abbrev HIF_EQ_CFG_MIN_SEV : Fld := ⟨10, 8⟩
/-- R35 -/ abbrev HIF_EQ_CFG_SIZE : Fld := ⟨3, 0⟩
/-- R35 -/ abbrev HIF_EQ_SRC_FAMILY : Fld := ⟨31, 0⟩
/-- R35 -/ abbrev HIF_EQ_STAT_LOST : Fld := ⟨31, 16⟩
/-- R35 -/ abbrev HIF_EQ_STAT_TAIL : Fld := ⟨15, 0⟩
/-- R552 -/ abbrev MSIX_ADDR_LO_VALUE : Fld := ⟨31, 0⟩
/-- R552 -/ abbrev MSIX_ADDR_HI_VALUE : Fld := ⟨31, 0⟩
/-- R552 -/ abbrev MSIX_DATA_VALUE : Fld := ⟨31, 0⟩
/-- R552 -/ abbrev MSIX_CTL_MASK : Fld := ⟨0, 0⟩
/-- R552 -/ abbrev MSIX_PBA_VALUE : Fld := ⟨31, 0⟩
/-- R501 -/ abbrev CLK_SRC_STAT_STATE : Fld := ⟨21, 0⟩
/-- R501 -/ abbrev CLK_DOM_STAT_FALLBACK : Fld := ⟨10, 0⟩
/-- R501 -/ abbrev CLK_CFG_AUTO_RETURN : Fld := ⟨31, 31⟩
/-- R501 -/ abbrev CLK_CFG_RETURN_WIN : Fld := ⟨15, 0⟩
/-- R502 -/ abbrev CLK_RESET_CAUSE_SOURCE : Fld := ⟨31, 29⟩
/-- R502 -/ abbrev CLK_RESET_CAUSE_DETAIL : Fld := ⟨27, 24⟩
/-- R502 -/ abbrev CLK_RESET_CAUSE_XO_RETRIES : Fld := ⟨23, 16⟩
/-- R502 -/ abbrev CLK_RESET_CAUSE_COUNT : Fld := ⟨15, 0⟩
/-- R502 -/ abbrev CLK_GATE_STAT_GATED : Fld := ⟨26, 0⟩
/-- R487 -/ abbrev CLK_ACCERR_ADDR_VALUE : Fld := ⟨31, 0⟩
/-- R503 -/ abbrev CLK_ACCERR_INFO_STATUS : Fld := ⟨15, 8⟩
/-- R503 -/ abbrev CLK_ACCERR_INFO_COUNT : Fld := ⟨7, 0⟩
/-- R503 -/ abbrev CLK_TEMP_RADIO : Fld := ⟨29, 20⟩
/-- R503 -/ abbrev CLK_TEMP_DIGITAL : Fld := ⟨19, 10⟩
/-- R503 -/ abbrev CLK_TEMP_MEMORY : Fld := ⟨9, 0⟩
/-- R504 -/ abbrev CLK_EVT_ACCERR : Fld := ⟨4, 4⟩
/-- R504 -/ abbrev CLK_EVT_REGION : Fld := ⟨3, 3⟩
/-- R504 -/ abbrev CLK_EVT_GATE_FORCED : Fld := ⟨2, 2⟩
/-- R504 -/ abbrev CLK_EVT_RESTORED : Fld := ⟨1, 1⟩
/-- R504 -/ abbrev CLK_EVT_FAIL : Fld := ⟨0, 0⟩
/-- R528 -/ abbrev NEWT_STAT_OSC_STOP : Fld := ⟨31, 31⟩
/-- R528 -/ abbrev NEWT_STAT_NPOR : Fld := ⟨30, 30⟩
/-- R528 -/ abbrev NEWT_STAT_VBAT_LOW : Fld := ⟨29, 29⟩
/-- R528 -/ abbrev NEWT_STAT_SRC : Fld := ⟨28, 28⟩
/-- R528 -/ abbrev NEWT_STAT_VBAT : Fld := ⟨15, 0⟩
/-- R529 -/ abbrev NEWT_TC_CURVE_K : Fld := ⟨31, 16⟩
/-- R529 -/ abbrev NEWT_TC_CURVE_T0 : Fld := ⟨15, 0⟩
/-- R529 -/ abbrev NEWT_TC_OFF_VALID : Fld := ⟨31, 31⟩
/-- R529 -/ abbrev NEWT_TC_OFF_OFF : Fld := ⟨15, 0⟩
/-- R529 -/ abbrev NEWT_COMP_TEMP : Fld := ⟨21, 12⟩
/-- R529 -/ abbrev NEWT_COMP_ADJ : Fld := ⟨7, 0⟩
/-- R528 -/ abbrev NEWT_EVT_VBAT_LOW : Fld := ⟨3, 3⟩
/-- R528 -/ abbrev NEWT_EVT_OSC_STOP : Fld := ⟨2, 2⟩
/-- R528 -/ abbrev NEWT_EVT_ALM1 : Fld := ⟨1, 1⟩
/-- R528 -/ abbrev NEWT_EVT_ALM0 : Fld := ⟨0, 0⟩
/-- R511 -/ abbrev NEWT_ANCHOR_VALUE : Fld := ⟨31, 0⟩
/-- R523 -/ abbrev RTC_TICK_LO_VALUE : Fld := ⟨31, 0⟩
/-- R523 -/ abbrev RTC_TICK_HI_HI : Fld := ⟨15, 0⟩
/-- R530 -/ abbrev RTC_CAL_LO_HOUR : Fld := ⟨23, 16⟩
/-- R530 -/ abbrev RTC_CAL_LO_MIN : Fld := ⟨15, 8⟩
/-- R530 -/ abbrev RTC_CAL_LO_SEC : Fld := ⟨7, 0⟩
/-- R530 -/ abbrev RTC_CAL_HI_YEAR : Fld := ⟨23, 16⟩
/-- R530 -/ abbrev RTC_CAL_HI_MONTH : Fld := ⟨15, 8⟩
/-- R530 -/ abbrev RTC_CAL_HI_DAY : Fld := ⟨7, 0⟩
/-- R531 -/ abbrev RTC_WPEND_ALM1 : Fld := ⟨2, 2⟩
/-- R531 -/ abbrev RTC_WPEND_ALM0 : Fld := ⟨1, 1⟩
/-- R531 -/ abbrev RTC_WPEND_CAL : Fld := ⟨0, 0⟩
/-- R532 -/ abbrev RTC_ALM_LO_EN : Fld := ⟨31, 31⟩
/-- R532 -/ abbrev RTC_ALM_LO_M2 : Fld := ⟨26, 26⟩
/-- R532 -/ abbrev RTC_ALM_LO_M1 : Fld := ⟨25, 25⟩
/-- R532 -/ abbrev RTC_ALM_LO_M0 : Fld := ⟨24, 24⟩
/-- R532 -/ abbrev RTC_ALM_LO_F2 : Fld := ⟨23, 16⟩
/-- R532 -/ abbrev RTC_ALM_LO_F1 : Fld := ⟨15, 8⟩
/-- R532 -/ abbrev RTC_ALM_LO_F0 : Fld := ⟨7, 0⟩
/-- R532 -/ abbrev RTC_ALM_HI_M2 : Fld := ⟨26, 26⟩
/-- R532 -/ abbrev RTC_ALM_HI_M1 : Fld := ⟨25, 25⟩
/-- R532 -/ abbrev RTC_ALM_HI_M0 : Fld := ⟨24, 24⟩
/-- R532 -/ abbrev RTC_ALM_HI_F2 : Fld := ⟨23, 16⟩
/-- R532 -/ abbrev RTC_ALM_HI_F1 : Fld := ⟨15, 8⟩
/-- R532 -/ abbrev RTC_ALM_HI_F0 : Fld := ⟨7, 0⟩
/-- R289 -/ abbrev TSU_CFG_COMPAT : Fld := ⟨31, 31⟩
/-- R289 -/ abbrev TSU_CFG_PREF : Fld := ⟨30, 30⟩
/-- R289 -/ abbrev TSU_CFG_SLEW : Fld := ⟨6, 0⟩
/-- R289 -/ abbrev TSU_STAT_ACTIVE : Fld := ⟨31, 31⟩
/-- R289 -/ abbrev TSU_STAT_SLEWING : Fld := ⟨30, 30⟩
/-- R289 -/ abbrev TSU_STAT_SYNCED : Fld := ⟨29, 29⟩
/-- R289 -/ abbrev TSU_STAT_HOLDOVER : Fld := ⟨28, 28⟩
/-- R289 -/ abbrev TSU_STAT_STATE_B : Fld := ⟨10, 8⟩
/-- R289 -/ abbrev TSU_STAT_STATE_A : Fld := ⟨2, 0⟩
/-- R283 -/ abbrev TSU_TIME_LO_VALUE : Fld := ⟨31, 0⟩
/-- R283 -/ abbrev TSU_TIME_HI_VALUE : Fld := ⟨31, 0⟩
/-- R283 -/ abbrev TSU_RAW_LO_VALUE : Fld := ⟨31, 0⟩
/-- R283 -/ abbrev TSU_RAW_HI_VALUE : Fld := ⟨31, 0⟩
/-- R283 -/ abbrev TSU_RES_VALUE : Fld := ⟨31, 0⟩
/-- R290 -/ abbrev TSU_DOM_CFG_ENABLE : Fld := ⟨31, 31⟩
/-- R290 -/ abbrev TSU_DOM_CFG_SOURCE : Fld := ⟨30, 30⟩
/-- R290 -/ abbrev TSU_DOM_CFG_PROFILE : Fld := ⟨29, 28⟩
/-- R290 -/ abbrev TSU_DOM_CFG_TRANSPORT : Fld := ⟨27, 27⟩
/-- R290 -/ abbrev TSU_DOM_CFG_ROLE : Fld := ⟨26, 26⟩
/-- R290 -/ abbrev TSU_DOM_CFG_PORTS : Fld := ⟨18, 16⟩
/-- R290 -/ abbrev TSU_DOM_CFG_DOMNUM : Fld := ⟨7, 0⟩
/-- R290 -/ abbrev TSU_DOM_INT_ART : Fld := ⟨27, 24⟩
/-- R290 -/ abbrev TSU_DOM_INT_LOG_DREQ : Fld := ⟨23, 16⟩
/-- R290 -/ abbrev TSU_DOM_INT_LOG_ANN : Fld := ⟨15, 8⟩
/-- R290 -/ abbrev TSU_DOM_INT_LOG_SYNC : Fld := ⟨7, 0⟩
/-- R291 -/ abbrev TSU_DOM_THR_LOCK_THR : Fld := ⟨31, 16⟩
/-- R291 -/ abbrev TSU_DOM_THR_SYNC_THR : Fld := ⟨15, 0⟩
/-- R291 -/ abbrev TSU_DOM_PRIO_PRIORITY1 : Fld := ⟨15, 8⟩
/-- R291 -/ abbrev TSU_DOM_PRIO_PRIORITY2 : Fld := ⟨7, 0⟩
/-- R291 -/ abbrev TSU_DOM_STAT_STATE : Fld := ⟨31, 29⟩
/-- R291 -/ abbrev TSU_DOM_STAT_PORT : Fld := ⟨28, 27⟩
/-- R291 -/ abbrev TSU_DOM_STAT_STEPS : Fld := ⟨15, 0⟩
/-- R291 -/ abbrev TSU_DOM_OFFS_VALUE : Fld := ⟨31, 0⟩
/-- R291 -/ abbrev TSU_DOM_RATE_VALUE : Fld := ⟨31, 0⟩
/-- R292 -/ abbrev TSU_PPS_IN_EN : Fld := ⟨31, 31⟩
/-- R292 -/ abbrev TSU_PPS_IN_EDGE : Fld := ⟨30, 30⟩
/-- R292 -/ abbrev TSU_PPS_OUT_EN : Fld := ⟨29, 29⟩
/-- R292 -/ abbrev TSU_PPS_OUT_ALWAYS : Fld := ⟨28, 28⟩
/-- R292 -/ abbrev TSU_PPS_OUT_WIDTH : Fld := ⟨9, 0⟩
/-- R292 -/ abbrev TSU_PPS_STAT_IN_OK : Fld := ⟨31, 31⟩
/-- R292 -/ abbrev TSU_PPS_STAT_IN_EDGES : Fld := ⟨15, 0⟩
/-- R286 -/ abbrev TSU_PPSIN_LO_VALUE : Fld := ⟨31, 0⟩
/-- R286 -/ abbrev TSU_PPSIN_HI_VALUE : Fld := ⟨31, 0⟩
/-- R292 -/ abbrev TSU_REF_REFIN_EN : Fld := ⟨31, 31⟩
/-- R292 -/ abbrev TSU_REF_REFIN_OK : Fld := ⟨30, 30⟩
/-- R293 -/ abbrev TSU_COMPAT_INCR_INCR : Fld := ⟨17, 0⟩
/-- R293 -/ abbrev TSU_LSLOT_PEAK : Fld := ⟨22, 16⟩
/-- R293 -/ abbrev TSU_LSLOT_ARMED : Fld := ⟨6, 0⟩
/-- R293 -/ abbrev TSU_EVT_TSQ_OVF : Fld := ⟨5, 5⟩
/-- R293 -/ abbrev TSU_EVT_PPS_LOSS : Fld := ⟨4, 4⟩
/-- R293 -/ abbrev TSU_EVT_STEP : Fld := ⟨3, 3⟩
/-- R293 -/ abbrev TSU_EVT_HOLDOVER : Fld := ⟨2, 2⟩
/-- R293 -/ abbrev TSU_EVT_SWITCH : Fld := ⟨1, 1⟩
/-- R293 -/ abbrev TSU_EVT_LOCKED : Fld := ⟨0, 0⟩
/-- R294 -/ abbrev TSU_PORT_LAT_RXLAT : Fld := ⟨31, 16⟩
/-- R294 -/ abbrev TSU_PORT_LAT_TXLAT : Fld := ⟨15, 0⟩
/-- R294 -/ abbrev TSU_PORT_TSQ_OVF : Fld := ⟨31, 31⟩
/-- R294 -/ abbrev TSU_PORT_TSQ_LEVEL : Fld := ⟨22, 16⟩
/-- R294 -/ abbrev TSU_PORT_TSQ_LOST : Fld := ⟨15, 0⟩
/-- R253 -/ abbrev SWX_CFG_ENABLE : Fld := ⟨31, 31⟩
/-- R253 -/ abbrev SWX_CFG_AGE : Fld := ⟨15, 0⟩
/-- R253 -/ abbrev SWX_BUF_CFG_ALPHA : Fld := ⟨18, 16⟩
/-- R253 -/ abbrev SWX_BUF_CFG_RESERVE : Fld := ⟨6, 0⟩
/-- R253 -/ abbrev SWX_BUF_STAT_LOWEST : Fld := ⟨31, 16⟩
/-- R253 -/ abbrev SWX_BUF_STAT_FREE : Fld := ⟨15, 0⟩
/-- R253 -/ abbrev SWX_PCP_MAP_MAP : Fld := ⟨23, 0⟩
/-- R252 -/ abbrev SWX_MAC_M_LO_VALUE : Fld := ⟨31, 0⟩
/-- R252 -/ abbrev SWX_MAC_M_HI_VALUE : Fld := ⟨31, 0⟩
/-- R252 -/ abbrev SWX_MAC_H_LO_VALUE : Fld := ⟨31, 0⟩
/-- R252 -/ abbrev SWX_MAC_H_HI_VALUE : Fld := ⟨31, 0⟩
/-- R252 -/ abbrev SWX_MGMT_IP4_VALUE : Fld := ⟨31, 0⟩
/-- R252 -/ abbrev SWX_MGMT_NET_PREFIX : Fld := ⟨5, 0⟩
/-- R252 -/ abbrev SWX_MGMT_GW_VALUE : Fld := ⟨31, 0⟩
/-- R252 -/ abbrev SWX_MSTAT_VALUE : Fld := ⟨31, 0⟩
/-- R254 -/ abbrev SWX_ERPS_ENABLE : Fld := ⟨31, 31⟩
/-- R254 -/ abbrev SWX_ERPS_ROLE : Fld := ⟨30, 29⟩
/-- R254 -/ abbrev SWX_ERPS_RPLPORT : Fld := ⟨28, 28⟩
/-- R254 -/ abbrev SWX_ERPS_WTR : Fld := ⟨27, 24⟩
/-- R254 -/ abbrev SWX_ERPS_HOLDOFF : Fld := ⟨18, 12⟩
/-- R254 -/ abbrev SWX_ERPS_VID : Fld := ⟨11, 0⟩
/-- R254 -/ abbrev SWX_ERPS_STAT_STATE : Fld := ⟨3, 2⟩
/-- R254 -/ abbrev SWX_ERPS_STAT_BLK1 : Fld := ⟨1, 1⟩
/-- R254 -/ abbrev SWX_ERPS_STAT_BLK0 : Fld := ⟨0, 0⟩
/-- R252 -/ abbrev SWX_HRX_BASE_LO_ADDR : Fld := ⟨31, 12⟩
/-- R252 -/ abbrev SWX_HRX_BASE_HI_VALUE : Fld := ⟨31, 0⟩
/-- R255 -/ abbrev SWX_HRX_CFG_ENABLE : Fld := ⟨31, 31⟩
/-- R255 -/ abbrev SWX_HRX_CFG_VECTOR : Fld := ⟨22, 16⟩
/-- R255 -/ abbrev SWX_HRX_CFG_SIZE : Fld := ⟨3, 0⟩
/-- R255 -/ abbrev SWX_HRX_HEAD_HEAD : Fld := ⟨15, 0⟩
/-- R255 -/ abbrev SWX_HRX_STAT_DROP : Fld := ⟨31, 16⟩
/-- R255 -/ abbrev SWX_HRX_STAT_TAIL : Fld := ⟨15, 0⟩
/-- R256 -/ abbrev SWX_VLAN_VALID : Fld := ⟨31, 31⟩
/-- R256 -/ abbrev SWX_VLAN_VID : Fld := ⟨27, 16⟩
/-- R256 -/ abbrev SWX_VLAN_MEMBER : Fld := ⟨12, 8⟩
/-- R256 -/ abbrev SWX_VLAN_UNTAG : Fld := ⟨4, 0⟩
/-- R258 -/ abbrev SWX_PORT_CFG_ENABLE : Fld := ⟨31, 31⟩
/-- R258 -/ abbrev SWX_PORT_CFG_SPEED : Fld := ⟨30, 29⟩
/-- R258 -/ abbrev SWX_PORT_CFG_AN : Fld := ⟨28, 28⟩
/-- R258 -/ abbrev SWX_PORT_CFG_PVID : Fld := ⟨27, 16⟩
/-- R258 -/ abbrev SWX_PORT_CFG_DEFTC : Fld := ⟨14, 12⟩
/-- R258 -/ abbrev SWX_PORT_STAT_LINK : Fld := ⟨31, 31⟩
/-- R258 -/ abbrev SWX_PORT_STAT_RATE : Fld := ⟨30, 29⟩
/-- R258 -/ abbrev SWX_PORT_STAT_BLOCK : Fld := ⟨28, 28⟩
/-- R258 -/ abbrev SWX_PORT_STAT_FLAPS : Fld := ⟨15, 0⟩
/-- R258 -/ abbrev SWX_PORT_SCHED_SP_FLOOR : Fld := ⟨2, 0⟩
/-- R257 -/ abbrev SWX_PORT_WT_LO_VALUE : Fld := ⟨31, 0⟩
/-- R257 -/ abbrev SWX_PORT_WT_HI_VALUE : Fld := ⟨31, 0⟩
/-- R258 -/ abbrev SWX_PORT_EVT_POISON : Fld := ⟨2, 2⟩
/-- R258 -/ abbrev SWX_PORT_EVT_DOWN : Fld := ⟨1, 1⟩
/-- R258 -/ abbrev SWX_PORT_EVT_UP : Fld := ⟨0, 0⟩
/-- R257 -/ abbrev SWX_PORT_RXOK_VALUE : Fld := ⟨31, 0⟩
/-- R257 -/ abbrev SWX_PORT_RXFCS_VALUE : Fld := ⟨31, 0⟩
/-- R257 -/ abbrev SWX_PORT_RXDISC_VALUE : Fld := ⟨31, 0⟩
/-- R257 -/ abbrev SWX_PORT_RXDROP_VALUE : Fld := ⟨31, 0⟩
/-- R257 -/ abbrev SWX_PORT_TXOK_VALUE : Fld := ⟨31, 0⟩
/-- R257 -/ abbrev SWX_PORT_TXDROP_VALUE : Fld := ⟨31, 0⟩
/-- R257 -/ abbrev SWX_PORT_TXPOISON_VALUE : Fld := ⟨31, 0⟩
/-- R110 -/ abbrev YRD_REGION_CUSTOM : Fld := ⟨31, 31⟩
/-- R110 -/ abbrev YRD_REGION_SHARED : Fld := ⟨16, 16⟩
/-- R110 -/ abbrev YRD_REGION_RESERVE : Fld := ⟨13, 8⟩
/-- R110 -/ abbrev YRD_REGION_PROFILE : Fld := ⟨1, 0⟩
/-- R111 -/ abbrev YRD_FE_CFG_ENABLE : Fld := ⟨31, 31⟩
/-- R111 -/ abbrev YRD_FE_CFG_LOW : Fld := ⟨19, 0⟩
/-- R111 -/ abbrev YRD_FE_STAT_LOCK : Fld := ⟨31, 31⟩
/-- R111 -/ abbrev YRD_FE_STAT_OVLD : Fld := ⟨15, 0⟩
/-- R112 -/ abbrev YRD_TX_CFG_ENABLE : Fld := ⟨31, 31⟩
/-- R112 -/ abbrev YRD_TX_CFG_ANT_GAIN : Fld := ⟨7, 0⟩
/-- R112 -/ abbrev YRD_TX_STAT_ON : Fld := ⟨31, 31⟩
/-- R112 -/ abbrev YRD_TX_STAT_CARRIERS : Fld := ⟨26, 24⟩
/-- R112 -/ abbrev YRD_TX_STAT_WAITS : Fld := ⟨15, 0⟩
/-- R113 -/ abbrev YRD_POOL_RETIRED : Fld := ⟨29, 20⟩
/-- R113 -/ abbrev YRD_POOL_BUSY : Fld := ⟨19, 10⟩
/-- R113 -/ abbrev YRD_POOL_SPARE : Fld := ⟨9, 0⟩
/-- R113 -/ abbrev YRD_BIST_CFG_ENABLE : Fld := ⟨31, 31⟩
/-- R113 -/ abbrev YRD_BIST_CFG_INTERVAL : Fld := ⟨13, 0⟩
/-- R113 -/ abbrev YRD_SPARE_WARN_THRESH : Fld := ⟨9, 0⟩
/-- R166 -/ abbrev YRD_MAC_CFG_RETRY_MAX : Fld := ⟨23, 20⟩
/-- R166 -/ abbrev YRD_MAC_CFG_BASE_WIN : Fld := ⟨19, 16⟩
/-- R166 -/ abbrev YRD_MAC_CFG_ANS_DELAY : Fld := ⟨11, 8⟩
/-- R166 -/ abbrev YRD_MAC_CFG_BO : Fld := ⟨2, 0⟩
/-- R166 -/ abbrev YRD_MAC_SEG_PROTO : Fld := ⟨23, 16⟩
/-- R166 -/ abbrev YRD_MAC_SEG_SEGID : Fld := ⟨13, 0⟩
/-- R166 -/ abbrev YRD_MAC_HOLD_HOLD_ADRIFT : Fld := ⟨16, 0⟩
/-- R166 -/ abbrev YRD_MAC_LOST_LOST_AFTER : Fld := ⟨15, 0⟩
/-- R166 -/ abbrev YRD_MAC_JOIN_JOIN_TIMEOUT : Fld := ⟨31, 16⟩
/-- R166 -/ abbrev YRD_MAC_JOIN_RETRY_AFTER : Fld := ⟨7, 0⟩
/-- R166 -/ abbrev YRD_MAC_TIME_LOCAL_OFF : Fld := ⟨31, 16⟩
/-- R166 -/ abbrev YRD_MAC_TIME_UTC_OFF : Fld := ⟨7, 0⟩
/-- R114 -/ abbrev YRD_CUST_SB_LO_FREQ : Fld := ⟨19, 0⟩
/-- R114 -/ abbrev YRD_CUST_SB_HI_VALID : Fld := ⟨31, 31⟩
/-- R114 -/ abbrev YRD_CUST_SB_HI_FREQ : Fld := ⟨19, 0⟩
/-- R114 -/ abbrev YRD_CUST_SB_LIM_DWELL : Fld := ⟨31, 31⟩
/-- R114 -/ abbrev YRD_CUST_SB_LIM_NARROW : Fld := ⟨30, 30⟩
/-- R114 -/ abbrev YRD_CUST_SB_LIM_LREF : Fld := ⟨29, 28⟩
/-- R114 -/ abbrev YRD_CUST_SB_LIM_DUTY : Fld := ⟨25, 16⟩
/-- R114 -/ abbrev YRD_CUST_SB_LIM_LIMIT : Fld := ⟨7, 0⟩
/-- R116 -/ abbrev YRD_CFG_ENABLE : Fld := ⟨31, 31⟩
/-- R116 -/ abbrev YRD_CFG_TXSEL : Fld := ⟨24, 24⟩
/-- R116 -/ abbrev YRD_CFG_TXPWR : Fld := ⟨7, 0⟩
/-- R116 -/ abbrev YRD_PHY_PREAMBLE : Fld := ⟨31, 24⟩
/-- R116 -/ abbrev YRD_PHY_GAUSS : Fld := ⟨19, 19⟩
/-- R116 -/ abbrev YRD_PHY_SFDSET : Fld := ⟨18, 18⟩
/-- R116 -/ abbrev YRD_PHY_DW : Fld := ⟨17, 17⟩
/-- R116 -/ abbrev YRD_PHY_FCS : Fld := ⟨16, 16⟩
/-- R116 -/ abbrev YRD_PHY_FEC : Fld := ⟨15, 14⟩
/-- R116 -/ abbrev YRD_PHY_INTLV : Fld := ⟨13, 13⟩
/-- R117 -/ abbrev YRD_STATE_STATE : Fld := ⟨31, 29⟩
/-- R117 -/ abbrev YRD_STATE_CAUSE : Fld := ⟨23, 16⟩
/-- R117 -/ abbrev YRD_STATE_PLANNED : Fld := ⟨15, 8⟩
/-- R117 -/ abbrev YRD_STATE_INSERV : Fld := ⟨7, 0⟩
/-- R117 -/ abbrev YRD_CAP_CAPACITY : Fld := ⟨14, 0⟩
/-- R117 -/ abbrev YRD_WDRAW_WDRAW : Fld := ⟨31, 0⟩
/-- R117 -/ abbrev YRD_RUN_HALT : Fld := ⟨31, 31⟩
/-- R117 -/ abbrev YRD_RUN_TXPWR_RUN : Fld := ⟨7, 0⟩
/-- R115 -/ abbrev YRD_RXOK_VALUE : Fld := ⟨31, 0⟩
/-- R115 -/ abbrev YRD_CRCERR_VALUE : Fld := ⟨31, 0⟩
/-- R115 -/ abbrev YRD_COLLIDE_VALUE : Fld := ⟨31, 0⟩
/-- R115 -/ abbrev YRD_SIC_VALUE : Fld := ⟨31, 0⟩
/-- R115 -/ abbrev YRD_BSKIP_VALUE : Fld := ⟨31, 0⟩
/-- R115 -/ abbrev YRD_DEFER_VALUE : Fld := ⟨31, 0⟩
/-- R118 -/ abbrev YRD_EVT_DEFER : Fld := ⟨4, 4⟩
/-- R118 -/ abbrev YRD_EVT_BSKIP : Fld := ⟨3, 3⟩
/-- R118 -/ abbrev YRD_EVT_CAP : Fld := ⟨2, 2⟩
/-- R118 -/ abbrev YRD_EVT_EXHAUST : Fld := ⟨1, 1⟩
/-- R118 -/ abbrev YRD_EVT_REPLACE : Fld := ⟨0, 0⟩
/-- R167 -/ abbrev YRD_MAC_DLENT : Fld := ⟨14, 8⟩
/-- R167 -/ abbrev YRD_MAC_BOFF : Fld := ⟨7, 0⟩
/-- R167 -/ abbrev YRD_SFNUM_SFNUM : Fld := ⟨31, 0⟩
/-- R167 -/ abbrev YRD_REPLAY_VALUE : Fld := ⟨31, 0⟩
/-- R167 -/ abbrev YRD_DUP_VALUE : Fld := ⟨31, 0⟩
/-- R167 -/ abbrev YRD_ANSMISS_VALUE : Fld := ⟨31, 0⟩
/-- R167 -/ abbrev YRD_SLOTMAP_SLOTS : Fld := ⟨31, 0⟩
/-- R119 -/ abbrev YRD_PLAN_VALID : Fld := ⟨31, 31⟩
/-- R119 -/ abbrev YRD_PLAN_BEACON : Fld := ⟨30, 30⟩
/-- R119 -/ abbrev YRD_PLAN_TX : Fld := ⟨29, 29⟩
/-- R119 -/ abbrev YRD_PLAN_RX : Fld := ⟨28, 28⟩
/-- R119 -/ abbrev YRD_PLAN_PRIO : Fld := ⟨19, 16⟩
/-- R119 -/ abbrev YRD_PLAN_MODE : Fld := ⟨10, 8⟩
/-- R119 -/ abbrev YRD_PLAN_CHAN : Fld := ⟨6, 0⟩
/-- R121 -/ abbrev LNE_ASSIGN_ROLE : Fld := ⟨31, 29⟩
/-- R121 -/ abbrev LNE_ASSIGN_FE : Fld := ⟨28, 27⟩
/-- R121 -/ abbrev LNE_ASSIGN_MODE : Fld := ⟨26, 24⟩
/-- R121 -/ abbrev LNE_ASSIGN_YARD : Fld := ⟨23, 20⟩
/-- R121 -/ abbrev LNE_ASSIGN_ENTRY : Fld := ⟨18, 12⟩
/-- R121 -/ abbrev LNE_ASSIGN_CHAN : Fld := ⟨6, 0⟩
/-- R121 -/ abbrev LNE_CTL_EXCLUDE : Fld := ⟨0, 0⟩
/-- R122 -/ abbrev LNE_BIST_RESULT : Fld := ⟨31, 30⟩
/-- R122 -/ abbrev LNE_BIST_CAUSE : Fld := ⟨27, 24⟩
/-- R122 -/ abbrev LNE_BIST_PASSES : Fld := ⟨15, 0⟩
/-- R120 -/ abbrev LNE_RXOK_VALUE : Fld := ⟨31, 0⟩
/-- R120 -/ abbrev LNE_CRCERR_VALUE : Fld := ⟨31, 0⟩
/-- R120 -/ abbrev LNE_PHRERR_VALUE : Fld := ⟨31, 0⟩
/-- R120 -/ abbrev LNE_SIC_VALUE : Fld := ⟨31, 0⟩
/-- R120 -/ abbrev LNE_COLLIDE_VALUE : Fld := ⟨31, 0⟩
/-- R120 -/ abbrev LNE_BLANK_VALUE : Fld := ⟨31, 0⟩
/-- R120 -/ abbrev LNE_DROP_VALUE : Fld := ⟨31, 0⟩
/-- R120 -/ abbrev LNE_AUTHFAIL_VALUE : Fld := ⟨31, 0⟩
/-- R122 -/ abbrev LNE_RSSI_SNR : Fld := ⟨23, 16⟩
/-- R122 -/ abbrev LNE_RSSI_RSSI : Fld := ⟨15, 0⟩
/-- R122 -/ abbrev LNE_EVT_REPLACED : Fld := ⟨1, 1⟩
/-- R122 -/ abbrev LNE_EVT_FAIL : Fld := ⟨0, 0⟩
/-- R317 -/ abbrev DRV_CFG_PROBE_PERIOD : Fld := ⟨9, 0⟩
/-- R317 -/ abbrev DRV_GATE_CLOSED : Fld := ⟨31, 31⟩
/-- R317 -/ abbrev DRV_GATE_CLOSURES : Fld := ⟨15, 0⟩
/-- R318 -/ abbrev DRV_NTC_CFG_ENABLE : Fld := ⟨31, 31⟩
/-- R318 -/ abbrev DRV_NTC_CFG_FLOOR : Fld := ⟨30, 24⟩
/-- R318 -/ abbrev DRV_NTC_CFG_KNEE : Fld := ⟨23, 16⟩
/-- R318 -/ abbrev DRV_NTC_CFG_SLOPE : Fld := ⟨15, 12⟩
/-- R318 -/ abbrev DRV_NTC_CFG_BETA : Fld := ⟨11, 0⟩
/-- R318 -/ abbrev DRV_NTC_STAT_FAULT : Fld := ⟨31, 31⟩
/-- R318 -/ abbrev DRV_NTC_STAT_FACTOR : Fld := ⟨24, 16⟩
/-- R318 -/ abbrev DRV_NTC_STAT_TEMP : Fld := ⟨15, 0⟩
/-- R316 -/ abbrev DRV_CURVEA_ODD : Fld := ⟨31, 16⟩
/-- R316 -/ abbrev DRV_CURVEA_EVEN : Fld := ⟨15, 0⟩
/-- R316 -/ abbrev DRV_CURVEB_ODD : Fld := ⟨31, 16⟩
/-- R316 -/ abbrev DRV_CURVEB_EVEN : Fld := ⟨15, 0⟩
/-- R320 -/ abbrev DRV_CH_CFG_ENABLE : Fld := ⟨31, 31⟩
/-- R320 -/ abbrev DRV_CH_CFG_POL : Fld := ⟨30, 30⟩
/-- R320 -/ abbrev DRV_CH_CFG_PROBE_EN : Fld := ⟨29, 29⟩
/-- R320 -/ abbrev DRV_CH_CFG_PROBE_OFF : Fld := ⟨28, 28⟩
/-- R320 -/ abbrev DRV_CH_CFG_OPEN_OFF : Fld := ⟨27, 27⟩
/-- R320 -/ abbrev DRV_CH_CFG_PHASE : Fld := ⟨19, 16⟩
/-- R320 -/ abbrev DRV_CH_CFG_CURVE : Fld := ⟨10, 8⟩
/-- R320 -/ abbrev DRV_CH_CFG_RES : Fld := ⟨4, 0⟩
/-- R320 -/ abbrev DRV_CH_DIAG_OVER_THR : Fld := ⟨27, 16⟩
/-- R320 -/ abbrev DRV_CH_DIAG_OPEN_THR : Fld := ⟨11, 0⟩
/-- R321 -/ abbrev DRV_CH_INIT_LEVEL : Fld := ⟨15, 0⟩
/-- R321 -/ abbrev DRV_CH_STAT_DSTATE : Fld := ⟨31, 29⟩
/-- R321 -/ abbrev DRV_CH_STAT_LOW : Fld := ⟨17, 16⟩
/-- R321 -/ abbrev DRV_CH_STAT_PROBES : Fld := ⟨15, 0⟩
/-- R321 -/ abbrev DRV_CH_LEVEL_PRESENT : Fld := ⟨31, 16⟩
/-- R321 -/ abbrev DRV_CH_LEVEL_TARGET : Fld := ⟨15, 0⟩
/-- R322 -/ abbrev DRV_CH_ON_ON : Fld := ⟨16, 0⟩
/-- R322 -/ abbrev DRV_CH_ISNS_PROBE : Fld := ⟨31, 31⟩
/-- R322 -/ abbrev DRV_CH_ISNS_VALUE : Fld := ⟨11, 0⟩
/-- R322 -/ abbrev DRV_CH_EVT_OVER : Fld := ⟨2, 2⟩
/-- R322 -/ abbrev DRV_CH_EVT_RESTORED : Fld := ⟨1, 1⟩
/-- R322 -/ abbrev DRV_CH_EVT_OPEN : Fld := ⟨0, 0⟩
/-- R342 -/ abbrev MTR_CFG_ENABLE : Fld := ⟨31, 31⟩
/-- R342 -/ abbrev MTR_CFG_REV_HOLD : Fld := ⟨23, 16⟩
/-- R342 -/ abbrev MTR_CFG_SAVE : Fld := ⟨6, 0⟩
/-- R342 -/ abbrev MTR_REV_MIN_REV_MIN : Fld := ⟨15, 0⟩
/-- R342 -/ abbrev MTR_RUN_REV_HOLD : Fld := ⟨23, 16⟩
/-- R342 -/ abbrev MTR_RUN_SAVE : Fld := ⟨6, 0⟩
/-- R342 -/ abbrev MTR_GAPS_VALUE : Fld := ⟨31, 0⟩
/-- R342 -/ abbrev MTR_SAVESEQ_VALUE : Fld := ⟨31, 0⟩
/-- R342 -/ abbrev MTR_PAIR_PAIR : Fld := ⟨3, 0⟩
/-- R342 -/ abbrev MTR_PAIR_STAT_REV : Fld := ⟨3, 0⟩
/-- R342 -/ abbrev MTR_EVT_SAVEFAIL : Fld := ⟨3, 3⟩
/-- R342 -/ abbrev MTR_EVT_GAP : Fld := ⟨2, 2⟩
/-- R342 -/ abbrev MTR_EVT_PREV : Fld := ⟨1, 1⟩
/-- R342 -/ abbrev MTR_EVT_SAT : Fld := ⟨0, 0⟩
/-- R343 -/ abbrev MTR_I_CFG_ENABLE : Fld := ⟨31, 31⟩
/-- R343 -/ abbrev MTR_I_CFG_ROGO : Fld := ⟨30, 30⟩
/-- R343 -/ abbrev MTR_I_CFG_REV_EN : Fld := ⟨29, 29⟩
/-- R343 -/ abbrev MTR_I_CFG_VSEL : Fld := ⟨25, 24⟩
/-- R343 -/ abbrev MTR_I_CFG_AUTO : Fld := ⟨20, 20⟩
/-- R343 -/ abbrev MTR_I_CFG_GFIX : Fld := ⟨19, 18⟩
/-- R343 -/ abbrev MTR_I_FS_VALUE : Fld := ⟨31, 0⟩
/-- R343 -/ abbrev MTR_I_CAL_GCAL : Fld := ⟨31, 16⟩
/-- R343 -/ abbrev MTR_I_CAL_PCAL : Fld := ⟨15, 0⟩
/-- R343 -/ abbrev MTR_I_STAT_GAIN : Fld := ⟨31, 30⟩
/-- R343 -/ abbrev MTR_I_STAT_PATH : Fld := ⟨29, 29⟩
/-- R343 -/ abbrev MTR_I_STAT_REV : Fld := ⟨28, 28⟩
/-- R343 -/ abbrev MTR_I_STAT_CLIP : Fld := ⟨27, 27⟩
/-- R343 -/ abbrev MTR_I_STAT_SAT : Fld := ⟨26, 26⟩
/-- R343 -/ abbrev MTR_I_STAT_SWITCHES : Fld := ⟨15, 0⟩
/-- R343 -/ abbrev MTR_I_IRMS_VALUE : Fld := ⟨31, 0⟩
/-- R343 -/ abbrev MTR_I_P_VALUE : Fld := ⟨31, 0⟩
/-- R343 -/ abbrev MTR_I_Q_VALUE : Fld := ⟨31, 0⟩
/-- R343 -/ abbrev MTR_I_S_VALUE : Fld := ⟨31, 0⟩
/-- R343 -/ abbrev MTR_I_EVT_CLIP : Fld := ⟨2, 2⟩
/-- R343 -/ abbrev MTR_I_EVT_REV_END : Fld := ⟨1, 1⟩
/-- R343 -/ abbrev MTR_I_EVT_REV_START : Fld := ⟨0, 0⟩
/-- R344 -/ abbrev MTR_V_CFG_ENABLE : Fld := ⟨31, 31⟩
/-- R344 -/ abbrev MTR_V_CFG_FS : Fld := ⟨15, 0⟩
/-- R344 -/ abbrev MTR_V_CAL_GCAL : Fld := ⟨31, 16⟩
/-- R344 -/ abbrev MTR_V_RMS_VALUE : Fld := ⟨31, 0⟩
/-- R344 -/ abbrev MTR_V_FREQ_NOV : Fld := ⟨31, 31⟩
/-- R344 -/ abbrev MTR_V_FREQ_FREQ : Fld := ⟨16, 0⟩
/-- R345 -/ abbrev MTR_PI_CFG_ENABLE : Fld := ⟨31, 31⟩
/-- R345 -/ abbrev MTR_PI_CFG_POL : Fld := ⟨30, 30⟩
/-- R345 -/ abbrev MTR_PI_CFG_DEB : Fld := ⟨5, 0⟩
/-- R345 -/ abbrev MTR_PI_WT_VALUE : Fld := ⟨31, 0⟩
/-- R345 -/ abbrev MTR_PI_STAT_ACTIVE : Fld := ⟨31, 31⟩
/-- R345 -/ abbrev MTR_PI_STAT_REJECT : Fld := ⟨15, 0⟩
/-- R372 -/ abbrev TWN_CFG_ENABLE : Fld := ⟨31, 31⟩
/-- R372 -/ abbrev TWN_CFG_UNIT : Fld := ⟨30, 30⟩
/-- R372 -/ abbrev TWN_CFG_REVERT : Fld := ⟨29, 29⟩
/-- R372 -/ abbrev TWN_CFG_PREF : Fld := ⟨27, 24⟩
/-- R372 -/ abbrev TWN_CFG_LISTEN : Fld := ⟨4, 0⟩
/-- R372 -/ abbrev TWN_TIMERS_YIELD_AFTER : Fld := ⟨31, 16⟩
/-- R372 -/ abbrev TWN_TIMERS_HOLDOFF : Fld := ⟨11, 0⟩
/-- R373 -/ abbrev TWN_LEASE_LEASE : Fld := ⟨24, 16⟩
/-- R373 -/ abbrev TWN_LEASE_LOSS_AFTER : Fld := ⟨6, 0⟩
/-- R373 -/ abbrev TWN_STAT_ROLE : Fld := ⟨31, 30⟩
/-- R373 -/ abbrev TWN_STAT_PEER_ROLE : Fld := ⟨29, 28⟩
/-- R373 -/ abbrev TWN_STAT_PEER_PRESENT : Fld := ⟨27, 27⟩
/-- R373 -/ abbrev TWN_STAT_IN_SYNC : Fld := ⟨26, 26⟩
/-- R373 -/ abbrev TWN_STAT_HEALTHY : Fld := ⟨25, 25⟩
/-- R373 -/ abbrev TWN_STAT_VERSION_OK : Fld := ⟨24, 24⟩
/-- R373 -/ abbrev TWN_STAT_CONFIG_OK : Fld := ⟨23, 23⟩
/-- R373 -/ abbrev TWN_STAT_BUS_OK : Fld := ⟨22, 22⟩
/-- R373 -/ abbrev TWN_STAT_LANE_OK : Fld := ⟨21, 21⟩
/-- R373 -/ abbrev TWN_STAT_INHIBIT : Fld := ⟨20, 20⟩
/-- R373 -/ abbrev TWN_STAT_LAPSES : Fld := ⟨19, 16⟩
/-- R373 -/ abbrev TWN_STAT_BUSERR : Fld := ⟨15, 8⟩
/-- R373 -/ abbrev TWN_STAT_LEVEL : Fld := ⟨7, 0⟩
/-- R371 -/ abbrev TWN_CLAIM_VALUE : Fld := ⟨31, 0⟩
/-- R371 -/ abbrev TWN_PEER_CLAIM_VALUE : Fld := ⟨31, 0⟩
/-- R374 -/ abbrev TWN_MIRROR_LAG : Fld := ⟨19, 0⟩
/-- R371 -/ abbrev TWN_HANDOVERS_VALUE : Fld := ⟨31, 0⟩
/-- R374 -/ abbrev TWN_EVT_FAULT : Fld := ⟨5, 5⟩
/-- R374 -/ abbrev TWN_EVT_HEALTH : Fld := ⟨4, 4⟩
/-- R374 -/ abbrev TWN_EVT_SYNC : Fld := ⟨3, 3⟩
/-- R374 -/ abbrev TWN_EVT_PEER : Fld := ⟨2, 2⟩
/-- R374 -/ abbrev TWN_EVT_DEMOTE : Fld := ⟨1, 1⟩
/-- R374 -/ abbrev TWN_EVT_TAKEOVER : Fld := ⟨0, 0⟩
/-- R362 -/ abbrev TWN_HLOCAL_VALUE : Fld := ⟨31, 0⟩
/-- R362 -/ abbrev TWN_HPEER_VALUE : Fld := ⟨31, 0⟩
/-- R401 -/ abbrev SEC_DEVID_VALUE : Fld := ⟨31, 0⟩
/-- R401 -/ abbrev SEC_STAT_OWNED : Fld := ⟨31, 31⟩
/-- R401 -/ abbrev SEC_STAT_PAIRED : Fld := ⟨30, 30⟩
/-- R401 -/ abbrev SEC_STAT_DEBUG : Fld := ⟨29, 29⟩
/-- R401 -/ abbrev SEC_STAT_WINDOW : Fld := ⟨28, 28⟩
/-- R401 -/ abbrev SEC_STAT_PENDING : Fld := ⟨27, 27⟩
/-- R401 -/ abbrev SEC_STAT_CREDIT : Fld := ⟨26, 26⟩
/-- R401 -/ abbrev SEC_STAT_TAMPER : Fld := ⟨25, 25⟩
/-- R401 -/ abbrev SEC_STAT_ZEROISED : Fld := ⟨24, 24⟩
/-- R401 -/ abbrev SEC_STAT_TAMPER_LOST : Fld := ⟨23, 23⟩
/-- R401 -/ abbrev SEC_STAT_WIN_LEFT : Fld := ⟨15, 0⟩
/-- R401 -/ abbrev SEC_OWNER_LO_VALUE : Fld := ⟨31, 0⟩
/-- R401 -/ abbrev SEC_OWNER_HI_VALUE : Fld := ⟨31, 0⟩
/-- R401 -/ abbrev SEC_OWNER_GEN_VALUE : Fld := ⟨31, 0⟩
/-- R401 -/ abbrev SEC_CTR_LO_VALUE : Fld := ⟨31, 0⟩
/-- R401 -/ abbrev SEC_CTR_HI_VALUE : Fld := ⟨31, 0⟩
/-- R401 -/ abbrev SEC_JROOTS_VALUE : Fld := ⟨31, 0⟩
/-- R401 -/ abbrev SEC_TAMPER_CFG_DOOR_EN : Fld := ⟨31, 31⟩
/-- R401 -/ abbrev SEC_TAMPER_CFG_SEAL_EN : Fld := ⟨30, 30⟩
/-- R401 -/ abbrev SEC_TAMPER_CFG_DOOR_POL : Fld := ⟨29, 29⟩
/-- R401 -/ abbrev SEC_TAMPER_CFG_BTN_PRES : Fld := ⟨28, 28⟩
/-- R401 -/ abbrev SEC_TAMPER_CFG_SEAL_PRES : Fld := ⟨27, 27⟩
/-- R402 -/ abbrev SEC_TAMPER_IN_MESH_OK : Fld := ⟨3, 3⟩
/-- R402 -/ abbrev SEC_TAMPER_IN_BTN : Fld := ⟨2, 2⟩
/-- R402 -/ abbrev SEC_TAMPER_IN_SEAL : Fld := ⟨1, 1⟩
/-- R402 -/ abbrev SEC_TAMPER_IN_DOOR : Fld := ⟨0, 0⟩
/-- R402 -/ abbrev SEC_TAMPER_CNT_NEWT_RESET : Fld := ⟨31, 24⟩
/-- R402 -/ abbrev SEC_TAMPER_CNT_MESH : Fld := ⟨23, 16⟩
/-- R402 -/ abbrev SEC_TAMPER_CNT_SEAL_OPEN : Fld := ⟨15, 8⟩
/-- R402 -/ abbrev SEC_TAMPER_CNT_DOOR_OPEN : Fld := ⟨7, 0⟩
/-- R402 -/ abbrev SEC_UDP_DENIED : Fld := ⟨31, 16⟩
/-- R402 -/ abbrev SEC_UDP_DROPPED : Fld := ⟨15, 0⟩
/-- R403 -/ abbrev SEC_EVT_WINDOW : Fld := ⟨3, 3⟩
/-- R403 -/ abbrev SEC_EVT_DENIED : Fld := ⟨2, 2⟩
/-- R403 -/ abbrev SEC_EVT_PRESENCE : Fld := ⟨1, 1⟩
/-- R403 -/ abbrev SEC_EVT_TAMPER : Fld := ⟨0, 0⟩
/-- R424 -/ abbrev MBX_CFG_ENABLE : Fld := ⟨11, 0⟩
/-- R424 -/ abbrev MBX_ABORTS_VALUE : Fld := ⟨31, 0⟩
/-- R424 -/ abbrev MBX_TWIN_STATE : Fld := ⟨7, 0⟩
/-- R469 -/ abbrev EVR_CFG_TRIG_SEV : Fld := ⟨18, 16⟩
/-- R469 -/ abbrev EVR_CFG_PERSIST : Fld := ⟨12, 0⟩
/-- R469 -/ abbrev EVR_STAT_RAM_ONLY : Fld := ⟨31, 31⟩
/-- R469 -/ abbrev EVR_STAT_CAPTURING : Fld := ⟨30, 30⟩
/-- R469 -/ abbrev EVR_STAT_REPLAYING : Fld := ⟨29, 29⟩
/-- R469 -/ abbrev EVR_STAT_ARMED : Fld := ⟨28, 28⟩
/-- R469 -/ abbrev EVR_STAT_STOP : Fld := ⟨27, 25⟩
/-- R469 -/ abbrev EVR_STAT_HELD : Fld := ⟨16, 0⟩
/-- R457 -/ abbrev EVR_FENCE_VALUE : Fld := ⟨31, 0⟩
/-- R459 -/ abbrev EVR_PSEQ_VALUE : Fld := ⟨31, 0⟩
/-- R456 -/ abbrev EVR_DROP_VALUE : Fld := ⟨31, 0⟩
/-- R456 -/ abbrev EVR_OVERWR_VALUE : Fld := ⟨31, 0⟩
/-- R470 -/ abbrev EVR_NAND_RETIRED : Fld := ⟨15, 8⟩
/-- R470 -/ abbrev EVR_NAND_SPARES : Fld := ⟨7, 0⟩
/-- R466 -/ abbrev EVR_CAPLEN_VALUE : Fld := ⟨31, 0⟩
/-- R470 -/ abbrev EVR_EVT_CAPSTOP : Fld := ⟨3, 3⟩
/-- R470 -/ abbrev EVR_EVT_LOSS : Fld := ⟨2, 2⟩
/-- R470 -/ abbrev EVR_EVT_NAND : Fld := ⟨1, 1⟩
/-- R470 -/ abbrev EVR_EVT_DROP : Fld := ⟨0, 0⟩
/-- R447 -/ abbrev UPD_CFG_CONFIRM : Fld := ⟨11, 0⟩
/-- R447 -/ abbrev UPD_STAT_LIZARD : Fld := ⟨31, 31⟩
/-- R447 -/ abbrev UPD_STAT_TRIAL : Fld := ⟨30, 30⟩
/-- R447 -/ abbrev UPD_STAT_ACTIVE : Fld := ⟨29, 29⟩
/-- R447 -/ abbrev UPD_STAT_TRIES : Fld := ⟨28, 27⟩
/-- R447 -/ abbrev UPD_STAT_SESSION : Fld := ⟨26, 24⟩
/-- R447 -/ abbrev UPD_STAT_SLOT_A : Fld := ⟨7, 4⟩
/-- R447 -/ abbrev UPD_STAT_SLOT_B : Fld := ⟨3, 0⟩
/-- R448 -/ abbrev UPD_SESSION_SOURCE : Fld := ⟨31, 28⟩
/-- R448 -/ abbrev UPD_SESSION_RING : Fld := ⟨23, 16⟩
/-- R448 -/ abbrev UPD_SESSION_IDLE : Fld := ⟨8, 0⟩
/-- R448 -/ abbrev UPD_HOLDER_IP4_VALUE : Fld := ⟨31, 0⟩
/-- R431 -/ abbrev UPD_OFFSET_VALUE : Fld := ⟨31, 0⟩
/-- R431 -/ abbrev UPD_TOTAL_VALUE : Fld := ⟨31, 0⟩
/-- R428 -/ abbrev UPD_VER_A_VALUE : Fld := ⟨31, 0⟩
/-- R428 -/ abbrev UPD_VER_B_VALUE : Fld := ⟨31, 0⟩
/-- R448 -/ abbrev UPD_LEFT_LEFT : Fld := ⟨11, 0⟩
/-- R448 -/ abbrev UPD_EVT_REVERTED : Fld := ⟨3, 3⟩
/-- R448 -/ abbrev UPD_EVT_CONFIRMED : Fld := ⟨2, 2⟩
/-- R448 -/ abbrev UPD_EVT_ACTIVATED : Fld := ⟨1, 1⟩
/-- R448 -/ abbrev UPD_EVT_SESSION : Fld := ⟨0, 0⟩
/-- R229 -/ abbrev FLT_CFG_ENABLE : Fld := ⟨31, 31⟩
/-- R229 -/ abbrev FLT_CFG_SHARE_MAX : Fld := ⟨6, 0⟩
/-- R229 -/ abbrev FLT_STATUS_CAMPAIGN : Fld := ⟨31, 16⟩
/-- R229 -/ abbrev FLT_STATUS_STATE : Fld := ⟨15, 12⟩
/-- R229 -/ abbrev FLT_STATUS_NIGHT : Fld := ⟨11, 8⟩
/-- R229 -/ abbrev FLT_STATUS_SLOT : Fld := ⟨2, 0⟩
/-- R230 -/ abbrev FLT_ENC_STAT_BUSY : Fld := ⟨31, 31⟩
/-- R230 -/ abbrev FLT_ENC_STAT_PERR : Fld := ⟨15, 0⟩
/-- R230 -/ abbrev FLT_SYMS_VALUE : Fld := ⟨31, 0⟩
/-- R230 -/ abbrev FLT_RPTS_VALUE : Fld := ⟨31, 0⟩
/-- R230 -/ abbrev FLT_EVT_FAULT : Fld := ⟨2, 2⟩
/-- R230 -/ abbrev FLT_EVT_DONE : Fld := ⟨1, 1⟩
/-- R230 -/ abbrev FLT_EVT_NIGHT : Fld := ⟨0, 0⟩
/-- R259 -/ abbrev QUE_PERR_VALUE : Fld := ⟨31, 0⟩
/-- R259 -/ abbrev QUE_EVT_FLUSH : Fld := ⟨1, 1⟩
/-- R259 -/ abbrev QUE_EVT_POISON : Fld := ⟨0, 0⟩
/-- R259 -/ abbrev QUE_X_STAT_STATE : Fld := ⟨31, 30⟩
/-- R259 -/ abbrev QUE_X_STAT_ISOLATIONS : Fld := ⟨15, 0⟩
/-- R259 -/ abbrev QUE_STAT_DISCARD : Fld := ⟨31, 31⟩
/-- R259 -/ abbrev QUE_STAT_LEVEL : Fld := ⟨30, 16⟩
/-- R259 -/ abbrev QUE_STAT_CREDIT : Fld := ⟨15, 0⟩
/-- R259 -/ abbrev QUE_UPLOST_VALUE : Fld := ⟨31, 0⟩
/-- R557 -/ abbrev BC_STAT_MISMATCH : Fld := ⟨31, 31⟩
/-- R557 -/ abbrev BC_STAT_EMPTY : Fld := ⟨30, 30⟩
/-- R557 -/ abbrev BC_STAT_FIRST : Fld := ⟨25, 16⟩
/-- R557 -/ abbrev BC_STAT_DIFF : Fld := ⟨9, 0⟩
end F

/-- The fields of a register, reserved spans left out (R8: they read 0). -/
def Reg.fields : Reg → List Field
  | .HIF_ID => [⟨F.HIF_ID_PART, .RO, .none⟩, ⟨F.HIF_ID_STEP, .RO, .none⟩, ⟨F.HIF_ID_IFVER, .RO, .none⟩]
  | .HIF_BUNDLE => [⟨F.HIF_BUNDLE_MAJOR, .RO, .none⟩, ⟨F.HIF_BUNDLE_MINOR, .RO, .none⟩, ⟨F.HIF_BUNDLE_BUILD, .RO, .none⟩]
  | .HIF_STATUS => [⟨F.HIF_STATUS_TRIAL, .RO, .none⟩, ⟨F.HIF_STATUS_SLOT, .RO, .none⟩, ⟨F.HIF_STATUS_STANDBY, .RO, .none⟩, ⟨F.HIF_STATUS_PAUSE, .RO, .none⟩, ⟨F.HIF_STATUS_LOCKED, .RO, .none⟩, ⟨F.HIF_STATUS_READY, .RO, .none⟩]
  | .HIF_SETUP_DONE => [⟨F.HIF_SETUP_DONE_DONE, .W1S, .none⟩]
  | .HIF_INT_CAUSE => [⟨F.HIF_INT_CAUSE_MBX, .W1C, .none⟩, ⟨F.HIF_INT_CAUSE_RESET_DONE, .W1C, .none⟩, ⟨F.HIF_INT_CAUSE_PAUSE_END, .W1C, .none⟩, ⟨F.HIF_INT_CAUSE_PAUSE_START, .W1C, .none⟩, ⟨F.HIF_INT_CAUSE_EQ_LOST, .W1C, .none⟩, ⟨F.HIF_INT_CAUSE_HOST_MEM, .W1C, .none⟩, ⟨F.HIF_INT_CAUSE_RING_FAULT, .W1C, .none⟩, ⟨F.HIF_INT_CAUSE_CLK_FAIL, .W1C, .none⟩]
  | .HIF_INT_EN => [⟨F.HIF_INT_EN_EN, .RWL, .none⟩, ⟨F.HIF_INT_EN_CLK_FAIL, .RO, .none⟩]
  | .HIF_SQ_FAULT_LO => [⟨F.HIF_SQ_FAULT_LO_VALUE, .RO, .none⟩]
  | .HIF_SQ_FAULT_HI => [⟨F.HIF_SQ_FAULT_HI_VALUE, .RO, .none⟩]
  | .HIF_PEND => [⟨F.HIF_PEND_COUNT, .RO, .none⟩]
  | .HIF_SQ_BASE_LO _ => [⟨F.HIF_SQ_BASE_LO_ADDR, .RWL, .none⟩]
  | .HIF_SQ_BASE_HI _ => [⟨F.HIF_SQ_BASE_HI_VALUE, .RWL, .none⟩]
  | .HIF_SQ_CFG _ => [⟨F.HIF_SQ_CFG_ENABLE, .RWL, .none⟩, ⟨F.HIF_SQ_CFG_PRIO, .RWL, .none⟩, ⟨F.HIF_SQ_CFG_CQ, .RWL, .none⟩, ⟨F.HIF_SQ_CFG_SIZE, .RWL, .none⟩]
  | .HIF_SQ_STAT _ => [⟨F.HIF_SQ_STAT_STATE, .RO, .none⟩, ⟨F.HIF_SQ_STAT_FAULT, .RO, .none⟩, ⟨F.HIF_SQ_STAT_HEAD, .RO, .none⟩]
  | .HIF_CQ_BASE_LO _ => [⟨F.HIF_CQ_BASE_LO_ADDR, .RWL, .none⟩]
  | .HIF_CQ_BASE_HI _ => [⟨F.HIF_CQ_BASE_HI_VALUE, .RWL, .none⟩]
  | .HIF_CQ_CFG _ => [⟨F.HIF_CQ_CFG_ENABLE, .RWL, .none⟩, ⟨F.HIF_CQ_CFG_VECTOR, .RWL, .none⟩, ⟨F.HIF_CQ_CFG_SIZE, .RWL, .none⟩]
  | .HIF_CQ_COAL _ => [⟨F.HIF_CQ_COAL_TIME, .RWL, .none⟩, ⟨F.HIF_CQ_COAL_COUNT, .RWL, .none⟩]
  | .HIF_CQ_STAT _ => [⟨F.HIF_CQ_STAT_FULL, .RO, .none⟩, ⟨F.HIF_CQ_STAT_TAIL, .RO, .none⟩]
  | .HIF_EQ_BASE_LO _ => [⟨F.HIF_EQ_BASE_LO_ADDR, .RWL, .none⟩]
  | .HIF_EQ_BASE_HI _ => [⟨F.HIF_EQ_BASE_HI_VALUE, .RWL, .none⟩]
  | .HIF_EQ_CFG _ => [⟨F.HIF_EQ_CFG_ENABLE, .RWL, .none⟩, ⟨F.HIF_EQ_CFG_VECTOR, .RWL, .none⟩, ⟨F.HIF_EQ_CFG_MIN_SEV, .RWL, .none⟩, ⟨F.HIF_EQ_CFG_SIZE, .RWL, .none⟩]
  | .HIF_EQ_SRC _ => [⟨F.HIF_EQ_SRC_FAMILY, .RWL, .none⟩]
  | .HIF_EQ_STAT _ => [⟨F.HIF_EQ_STAT_LOST, .RO, .none⟩, ⟨F.HIF_EQ_STAT_TAIL, .RO, .none⟩]
  | .MSIX_ADDR_LO _ => [⟨F.MSIX_ADDR_LO_VALUE, .RW, .none⟩]
  | .MSIX_ADDR_HI _ => [⟨F.MSIX_ADDR_HI_VALUE, .RW, .none⟩]
  | .MSIX_DATA _ => [⟨F.MSIX_DATA_VALUE, .RW, .none⟩]
  | .MSIX_CTL _ => [⟨F.MSIX_CTL_MASK, .RW, .none⟩]
  | .MSIX_PBA _ => [⟨F.MSIX_PBA_VALUE, .RO, .none⟩]
  | .CLK_SRC_STAT => [⟨F.CLK_SRC_STAT_STATE, .RO, .none⟩]
  | .CLK_DOM_STAT => [⟨F.CLK_DOM_STAT_FALLBACK, .RO, .none⟩]
  | .CLK_CFG => [⟨F.CLK_CFG_AUTO_RETURN, .RWL, .none⟩, ⟨F.CLK_CFG_RETURN_WIN, .RWL, .range 100 60000⟩]
  | .CLK_RESET_CAUSE => [⟨F.CLK_RESET_CAUSE_SOURCE, .RO, .none⟩, ⟨F.CLK_RESET_CAUSE_DETAIL, .RO, .none⟩, ⟨F.CLK_RESET_CAUSE_XO_RETRIES, .RO, .none⟩, ⟨F.CLK_RESET_CAUSE_COUNT, .RO, .none⟩]
  | .CLK_GATE_STAT => [⟨F.CLK_GATE_STAT_GATED, .RO, .none⟩]
  | .CLK_ACCERR_ADDR => [⟨F.CLK_ACCERR_ADDR_VALUE, .RO, .none⟩]
  | .CLK_ACCERR_INFO => [⟨F.CLK_ACCERR_INFO_STATUS, .RO, .none⟩, ⟨F.CLK_ACCERR_INFO_COUNT, .RO, .none⟩]
  | .CLK_TEMP => [⟨F.CLK_TEMP_RADIO, .RO, .none⟩, ⟨F.CLK_TEMP_DIGITAL, .RO, .none⟩, ⟨F.CLK_TEMP_MEMORY, .RO, .none⟩]
  | .CLK_EVT => [⟨F.CLK_EVT_ACCERR, .W1C, .none⟩, ⟨F.CLK_EVT_REGION, .W1C, .none⟩, ⟨F.CLK_EVT_GATE_FORCED, .W1C, .none⟩, ⟨F.CLK_EVT_RESTORED, .W1C, .none⟩, ⟨F.CLK_EVT_FAIL, .W1C, .none⟩]
  | .NEWT_STAT => [⟨F.NEWT_STAT_OSC_STOP, .RO, .none⟩, ⟨F.NEWT_STAT_NPOR, .RO, .none⟩, ⟨F.NEWT_STAT_VBAT_LOW, .RO, .none⟩, ⟨F.NEWT_STAT_SRC, .RO, .none⟩, ⟨F.NEWT_STAT_VBAT, .RO, .none⟩]
  | .NEWT_TC_CURVE => [⟨F.NEWT_TC_CURVE_K, .RO, .none⟩, ⟨F.NEWT_TC_CURVE_T0, .RO, .none⟩]
  | .NEWT_TC_OFF => [⟨F.NEWT_TC_OFF_VALID, .RO, .none⟩, ⟨F.NEWT_TC_OFF_OFF, .RO, .none⟩]
  | .NEWT_COMP => [⟨F.NEWT_COMP_TEMP, .RO, .none⟩, ⟨F.NEWT_COMP_ADJ, .RO, .none⟩]
  | .NEWT_EVT => [⟨F.NEWT_EVT_VBAT_LOW, .W1C, .none⟩, ⟨F.NEWT_EVT_OSC_STOP, .W1C, .none⟩, ⟨F.NEWT_EVT_ALM1, .W1C, .none⟩, ⟨F.NEWT_EVT_ALM0, .W1C, .none⟩]
  | .NEWT_ANCHOR _ => [⟨F.NEWT_ANCHOR_VALUE, .RO, .none⟩]
  | .RTC_TICK_LO => [⟨F.RTC_TICK_LO_VALUE, .RO, .none⟩]
  | .RTC_TICK_HI => [⟨F.RTC_TICK_HI_HI, .RO, .none⟩]
  | .RTC_CAL_LO => [⟨F.RTC_CAL_LO_HOUR, .RW, .none⟩, ⟨F.RTC_CAL_LO_MIN, .RW, .none⟩, ⟨F.RTC_CAL_LO_SEC, .RW, .none⟩]
  | .RTC_CAL_HI => [⟨F.RTC_CAL_HI_YEAR, .RW, .none⟩, ⟨F.RTC_CAL_HI_MONTH, .RW, .none⟩, ⟨F.RTC_CAL_HI_DAY, .RW, .none⟩]
  | .RTC_WPEND => [⟨F.RTC_WPEND_ALM1, .RO, .none⟩, ⟨F.RTC_WPEND_ALM0, .RO, .none⟩, ⟨F.RTC_WPEND_CAL, .RO, .none⟩]
  | .RTC_ALM_LO _ => [⟨F.RTC_ALM_LO_EN, .RW, .none⟩, ⟨F.RTC_ALM_LO_M2, .RW, .none⟩, ⟨F.RTC_ALM_LO_M1, .RW, .none⟩, ⟨F.RTC_ALM_LO_M0, .RW, .none⟩, ⟨F.RTC_ALM_LO_F2, .RW, .none⟩, ⟨F.RTC_ALM_LO_F1, .RW, .none⟩, ⟨F.RTC_ALM_LO_F0, .RW, .none⟩]
  | .RTC_ALM_HI _ => [⟨F.RTC_ALM_HI_M2, .RW, .none⟩, ⟨F.RTC_ALM_HI_M1, .RW, .none⟩, ⟨F.RTC_ALM_HI_M0, .RW, .none⟩, ⟨F.RTC_ALM_HI_F2, .RW, .none⟩, ⟨F.RTC_ALM_HI_F1, .RW, .none⟩, ⟨F.RTC_ALM_HI_F0, .RW, .none⟩]
  | .TSU_CFG => [⟨F.TSU_CFG_COMPAT, .RWL, .none⟩, ⟨F.TSU_CFG_PREF, .RWL, .none⟩, ⟨F.TSU_CFG_SLEW, .RWL, .range 1 100⟩]
  | .TSU_STAT => [⟨F.TSU_STAT_ACTIVE, .RO, .none⟩, ⟨F.TSU_STAT_SLEWING, .RO, .none⟩, ⟨F.TSU_STAT_SYNCED, .RO, .none⟩, ⟨F.TSU_STAT_HOLDOVER, .RO, .none⟩, ⟨F.TSU_STAT_STATE_B, .RO, .none⟩, ⟨F.TSU_STAT_STATE_A, .RO, .none⟩]
  | .TSU_TIME_LO => [⟨F.TSU_TIME_LO_VALUE, .RO, .none⟩]
  | .TSU_TIME_HI => [⟨F.TSU_TIME_HI_VALUE, .RO, .none⟩]
  | .TSU_RAW_LO => [⟨F.TSU_RAW_LO_VALUE, .RO, .none⟩]
  | .TSU_RAW_HI => [⟨F.TSU_RAW_HI_VALUE, .RO, .none⟩]
  | .TSU_RES => [⟨F.TSU_RES_VALUE, .RO, .none⟩]
  | .TSU_DOM_CFG _ => [⟨F.TSU_DOM_CFG_ENABLE, .RWL, .none⟩, ⟨F.TSU_DOM_CFG_SOURCE, .RWL, .none⟩, ⟨F.TSU_DOM_CFG_PROFILE, .RWL, .zeroAbove 2⟩, ⟨F.TSU_DOM_CFG_TRANSPORT, .RWL, .none⟩, ⟨F.TSU_DOM_CFG_ROLE, .RWL, .none⟩, ⟨F.TSU_DOM_CFG_PORTS, .RWL, .none⟩, ⟨F.TSU_DOM_CFG_DOMNUM, .RWL, .range 0 127⟩]
  | .TSU_DOM_INT _ => [⟨F.TSU_DOM_INT_ART, .RWL, .range 2 10⟩, ⟨F.TSU_DOM_INT_LOG_DREQ, .RWL, .srange (-4) 5⟩, ⟨F.TSU_DOM_INT_LOG_ANN, .RWL, .srange (-3) 3⟩, ⟨F.TSU_DOM_INT_LOG_SYNC, .RWL, .srange (-4) 1⟩]
  | .TSU_DOM_THR _ => [⟨F.TSU_DOM_THR_LOCK_THR, .RWL, .range 1 1000⟩, ⟨F.TSU_DOM_THR_SYNC_THR, .RWL, .range 10 50000⟩]
  | .TSU_DOM_PRIO _ => [⟨F.TSU_DOM_PRIO_PRIORITY1, .RWL, .none⟩, ⟨F.TSU_DOM_PRIO_PRIORITY2, .RWL, .none⟩]
  | .TSU_DOM_STAT _ => [⟨F.TSU_DOM_STAT_STATE, .RO, .none⟩, ⟨F.TSU_DOM_STAT_PORT, .RO, .none⟩, ⟨F.TSU_DOM_STAT_STEPS, .RO, .none⟩]
  | .TSU_DOM_OFFS _ => [⟨F.TSU_DOM_OFFS_VALUE, .RO, .none⟩]
  | .TSU_DOM_RATE _ => [⟨F.TSU_DOM_RATE_VALUE, .RO, .none⟩]
  | .TSU_PPS => [⟨F.TSU_PPS_IN_EN, .RWL, .none⟩, ⟨F.TSU_PPS_IN_EDGE, .RWL, .none⟩, ⟨F.TSU_PPS_OUT_EN, .RWL, .none⟩, ⟨F.TSU_PPS_OUT_ALWAYS, .RWL, .none⟩, ⟨F.TSU_PPS_OUT_WIDTH, .RWL, .range 1 900⟩]
  | .TSU_PPS_STAT => [⟨F.TSU_PPS_STAT_IN_OK, .RO, .none⟩, ⟨F.TSU_PPS_STAT_IN_EDGES, .RO, .none⟩]
  | .TSU_PPSIN_LO => [⟨F.TSU_PPSIN_LO_VALUE, .RO, .none⟩]
  | .TSU_PPSIN_HI => [⟨F.TSU_PPSIN_HI_VALUE, .RO, .none⟩]
  | .TSU_REF => [⟨F.TSU_REF_REFIN_EN, .RWL, .none⟩, ⟨F.TSU_REF_REFIN_OK, .RO, .none⟩]
  | .TSU_COMPAT_INCR => [⟨F.TSU_COMPAT_INCR_INCR, .RO, .none⟩]
  | .TSU_LSLOT => [⟨F.TSU_LSLOT_PEAK, .RO, .none⟩, ⟨F.TSU_LSLOT_ARMED, .RO, .none⟩]
  | .TSU_EVT => [⟨F.TSU_EVT_TSQ_OVF, .W1C, .none⟩, ⟨F.TSU_EVT_PPS_LOSS, .W1C, .none⟩, ⟨F.TSU_EVT_STEP, .W1C, .none⟩, ⟨F.TSU_EVT_HOLDOVER, .W1C, .none⟩, ⟨F.TSU_EVT_SWITCH, .W1C, .none⟩, ⟨F.TSU_EVT_LOCKED, .W1C, .none⟩]
  | .TSU_PORT_LAT _ => [⟨F.TSU_PORT_LAT_RXLAT, .RWL, .none⟩, ⟨F.TSU_PORT_LAT_TXLAT, .RWL, .none⟩]
  | .TSU_PORT_TSQ _ => [⟨F.TSU_PORT_TSQ_OVF, .W1C, .none⟩, ⟨F.TSU_PORT_TSQ_LEVEL, .RO, .none⟩, ⟨F.TSU_PORT_TSQ_LOST, .RO, .none⟩]
  | .SWX_CFG => [⟨F.SWX_CFG_ENABLE, .RWL, .none⟩, ⟨F.SWX_CFG_AGE, .RWL, .range 10 3600⟩]
  | .SWX_BUF_CFG => [⟨F.SWX_BUF_CFG_ALPHA, .RWL, .range 0 6⟩, ⟨F.SWX_BUF_CFG_RESERVE, .RWL, .range 0 64⟩]
  | .SWX_BUF_STAT => [⟨F.SWX_BUF_STAT_LOWEST, .RO, .none⟩, ⟨F.SWX_BUF_STAT_FREE, .RO, .none⟩]
  | .SWX_PCP_MAP => [⟨F.SWX_PCP_MAP_MAP, .RWL, .none⟩]
  | .SWX_MAC_M_LO => [⟨F.SWX_MAC_M_LO_VALUE, .RWL, .none⟩]
  | .SWX_MAC_M_HI => [⟨F.SWX_MAC_M_HI_VALUE, .RWL, .none⟩]
  | .SWX_MAC_H_LO => [⟨F.SWX_MAC_H_LO_VALUE, .RWL, .none⟩]
  | .SWX_MAC_H_HI => [⟨F.SWX_MAC_H_HI_VALUE, .RWL, .none⟩]
  | .SWX_MGMT_IP4 => [⟨F.SWX_MGMT_IP4_VALUE, .RWL, .none⟩]
  | .SWX_MGMT_NET => [⟨F.SWX_MGMT_NET_PREFIX, .RWL, .range 0 32⟩]
  | .SWX_MGMT_GW => [⟨F.SWX_MGMT_GW_VALUE, .RWL, .none⟩]
  | .SWX_MSTAT => [⟨F.SWX_MSTAT_VALUE, .RO, .none⟩]
  | .SWX_ERPS => [⟨F.SWX_ERPS_ENABLE, .RWL, .none⟩, ⟨F.SWX_ERPS_ROLE, .RWL, .zeroAbove 2⟩, ⟨F.SWX_ERPS_RPLPORT, .RWL, .none⟩, ⟨F.SWX_ERPS_WTR, .RWL, .range 1 12⟩, ⟨F.SWX_ERPS_HOLDOFF, .RWL, .range 0 100⟩, ⟨F.SWX_ERPS_VID, .RWL, .none⟩]
  | .SWX_ERPS_STAT => [⟨F.SWX_ERPS_STAT_STATE, .RO, .none⟩, ⟨F.SWX_ERPS_STAT_BLK1, .RO, .none⟩, ⟨F.SWX_ERPS_STAT_BLK0, .RO, .none⟩]
  | .SWX_HRX_BASE_LO => [⟨F.SWX_HRX_BASE_LO_ADDR, .RWL, .none⟩]
  | .SWX_HRX_BASE_HI => [⟨F.SWX_HRX_BASE_HI_VALUE, .RWL, .none⟩]
  | .SWX_HRX_CFG => [⟨F.SWX_HRX_CFG_ENABLE, .RWL, .none⟩, ⟨F.SWX_HRX_CFG_VECTOR, .RWL, .none⟩, ⟨F.SWX_HRX_CFG_SIZE, .RWL, .none⟩]
  | .SWX_HRX_HEAD => [⟨F.SWX_HRX_HEAD_HEAD, .RW, .none⟩]
  | .SWX_HRX_STAT => [⟨F.SWX_HRX_STAT_DROP, .RO, .none⟩, ⟨F.SWX_HRX_STAT_TAIL, .RO, .none⟩]
  | .SWX_VLAN _ => [⟨F.SWX_VLAN_VALID, .RWL, .none⟩, ⟨F.SWX_VLAN_VID, .RWL, .range 1 4094⟩, ⟨F.SWX_VLAN_MEMBER, .RWL, .none⟩, ⟨F.SWX_VLAN_UNTAG, .RWL, .none⟩]
  | .SWX_PORT_CFG _ => [⟨F.SWX_PORT_CFG_ENABLE, .RWL, .none⟩, ⟨F.SWX_PORT_CFG_SPEED, .RWL, .zeroAbove 2⟩, ⟨F.SWX_PORT_CFG_AN, .RWL, .none⟩, ⟨F.SWX_PORT_CFG_PVID, .RWL, .none⟩, ⟨F.SWX_PORT_CFG_DEFTC, .RWL, .none⟩]
  | .SWX_PORT_STAT _ => [⟨F.SWX_PORT_STAT_LINK, .RO, .none⟩, ⟨F.SWX_PORT_STAT_RATE, .RO, .none⟩, ⟨F.SWX_PORT_STAT_BLOCK, .RO, .none⟩, ⟨F.SWX_PORT_STAT_FLAPS, .RO, .none⟩]
  | .SWX_PORT_SCHED _ => [⟨F.SWX_PORT_SCHED_SP_FLOOR, .RWL, .none⟩]
  | .SWX_PORT_WT_LO _ => [⟨F.SWX_PORT_WT_LO_VALUE, .RWL, .none⟩]
  | .SWX_PORT_WT_HI _ => [⟨F.SWX_PORT_WT_HI_VALUE, .RWL, .none⟩]
  | .SWX_PORT_EVT _ => [⟨F.SWX_PORT_EVT_POISON, .W1C, .none⟩, ⟨F.SWX_PORT_EVT_DOWN, .W1C, .none⟩, ⟨F.SWX_PORT_EVT_UP, .W1C, .none⟩]
  | .SWX_PORT_RXOK _ => [⟨F.SWX_PORT_RXOK_VALUE, .RO, .none⟩]
  | .SWX_PORT_RXFCS _ => [⟨F.SWX_PORT_RXFCS_VALUE, .RO, .none⟩]
  | .SWX_PORT_RXDISC _ => [⟨F.SWX_PORT_RXDISC_VALUE, .RO, .none⟩]
  | .SWX_PORT_RXDROP _ => [⟨F.SWX_PORT_RXDROP_VALUE, .RO, .none⟩]
  | .SWX_PORT_TXOK _ => [⟨F.SWX_PORT_TXOK_VALUE, .RO, .none⟩]
  | .SWX_PORT_TXDROP _ => [⟨F.SWX_PORT_TXDROP_VALUE, .RO, .none⟩]
  | .SWX_PORT_TXPOISON _ => [⟨F.SWX_PORT_TXPOISON_VALUE, .RO, .none⟩]
  | .YRD_REGION => [⟨F.YRD_REGION_CUSTOM, .RWP, .none⟩, ⟨F.YRD_REGION_SHARED, .RWL, .none⟩, ⟨F.YRD_REGION_RESERVE, .RWL, .range 0 50⟩, ⟨F.YRD_REGION_PROFILE, .RWL, .ignoreAbove 2⟩]
  | .YRD_FE_CFG _ => [⟨F.YRD_FE_CFG_ENABLE, .RWL, .none⟩, ⟨F.YRD_FE_CFG_LOW, .RWL, .none⟩]
  | .YRD_FE_STAT _ => [⟨F.YRD_FE_STAT_LOCK, .RO, .none⟩, ⟨F.YRD_FE_STAT_OVLD, .RO, .none⟩]
  | .YRD_TX_CFG _ => [⟨F.YRD_TX_CFG_ENABLE, .RWL, .none⟩, ⟨F.YRD_TX_CFG_ANT_GAIN, .RWL, .srange (-40) 80⟩]
  | .YRD_TX_STAT _ => [⟨F.YRD_TX_STAT_ON, .RO, .none⟩, ⟨F.YRD_TX_STAT_CARRIERS, .RO, .none⟩, ⟨F.YRD_TX_STAT_WAITS, .RO, .none⟩]
  | .YRD_POOL => [⟨F.YRD_POOL_RETIRED, .RO, .none⟩, ⟨F.YRD_POOL_BUSY, .RO, .none⟩, ⟨F.YRD_POOL_SPARE, .RO, .none⟩]
  | .YRD_BIST_CFG => [⟨F.YRD_BIST_CFG_ENABLE, .RWL, .none⟩, ⟨F.YRD_BIST_CFG_INTERVAL, .RWL, .range 10 10000⟩]
  | .YRD_SPARE_WARN => [⟨F.YRD_SPARE_WARN_THRESH, .RWL, .none⟩]
  | .YRD_MAC_CFG => [⟨F.YRD_MAC_CFG_RETRY_MAX, .RWL, .none⟩, ⟨F.YRD_MAC_CFG_BASE_WIN, .RWL, .range 2 15⟩, ⟨F.YRD_MAC_CFG_ANS_DELAY, .RWL, .range 1 15⟩, ⟨F.YRD_MAC_CFG_BO, .RWL, .range 0 4⟩]
  | .YRD_MAC_SEG => [⟨F.YRD_MAC_SEG_PROTO, .RO, .none⟩, ⟨F.YRD_MAC_SEG_SEGID, .RWL, .none⟩]
  | .YRD_MAC_HOLD => [⟨F.YRD_MAC_HOLD_HOLD_ADRIFT, .RWL, .range 10 86400⟩]
  | .YRD_MAC_LOST => [⟨F.YRD_MAC_LOST_LOST_AFTER, .RWL, .range 60 43200⟩]
  | .YRD_MAC_JOIN => [⟨F.YRD_MAC_JOIN_JOIN_TIMEOUT, .RWL, .range 10 600⟩, ⟨F.YRD_MAC_JOIN_RETRY_AFTER, .RWL, .range 1 255⟩]
  | .YRD_MAC_TIME => [⟨F.YRD_MAC_TIME_LOCAL_OFF, .RWL, .srange (-720) 840⟩, ⟨F.YRD_MAC_TIME_UTC_OFF, .RWL, .none⟩]
  | .YRD_CUST_SB_LO _ => [⟨F.YRD_CUST_SB_LO_FREQ, .RWP, .none⟩]
  | .YRD_CUST_SB_HI _ => [⟨F.YRD_CUST_SB_HI_VALID, .RWP, .none⟩, ⟨F.YRD_CUST_SB_HI_FREQ, .RWP, .none⟩]
  | .YRD_CUST_SB_LIM _ => [⟨F.YRD_CUST_SB_LIM_DWELL, .RWP, .none⟩, ⟨F.YRD_CUST_SB_LIM_NARROW, .RWP, .none⟩, ⟨F.YRD_CUST_SB_LIM_LREF, .RWP, .none⟩, ⟨F.YRD_CUST_SB_LIM_DUTY, .RWP, .range 1 1000⟩, ⟨F.YRD_CUST_SB_LIM_LIMIT, .RWP, .none⟩]
  | .YRD_CFG _ => [⟨F.YRD_CFG_ENABLE, .RWL, .none⟩, ⟨F.YRD_CFG_TXSEL, .RWL, .none⟩, ⟨F.YRD_CFG_TXPWR, .RWL, .none⟩]
  | .YRD_PHY _ => [⟨F.YRD_PHY_PREAMBLE, .RWL, .none⟩, ⟨F.YRD_PHY_GAUSS, .RWL, .none⟩, ⟨F.YRD_PHY_SFDSET, .RWL, .none⟩, ⟨F.YRD_PHY_DW, .RWL, .none⟩, ⟨F.YRD_PHY_FCS, .RWL, .none⟩, ⟨F.YRD_PHY_FEC, .RWL, .none⟩, ⟨F.YRD_PHY_INTLV, .RWL, .none⟩]
  | .YRD_STATE _ => [⟨F.YRD_STATE_STATE, .RO, .none⟩, ⟨F.YRD_STATE_CAUSE, .RO, .none⟩, ⟨F.YRD_STATE_PLANNED, .RO, .none⟩, ⟨F.YRD_STATE_INSERV, .RO, .none⟩]
  | .YRD_CAP _ => [⟨F.YRD_CAP_CAPACITY, .RO, .none⟩]
  | .YRD_WDRAW _ _ => [⟨F.YRD_WDRAW_WDRAW, .RO, .none⟩]
  | .YRD_RUN _ => [⟨F.YRD_RUN_HALT, .RO, .none⟩, ⟨F.YRD_RUN_TXPWR_RUN, .RO, .none⟩]
  | .YRD_RXOK _ => [⟨F.YRD_RXOK_VALUE, .RO, .none⟩]
  | .YRD_CRCERR _ => [⟨F.YRD_CRCERR_VALUE, .RO, .none⟩]
  | .YRD_COLLIDE _ => [⟨F.YRD_COLLIDE_VALUE, .RO, .none⟩]
  | .YRD_SIC _ => [⟨F.YRD_SIC_VALUE, .RO, .none⟩]
  | .YRD_BSKIP _ => [⟨F.YRD_BSKIP_VALUE, .RO, .none⟩]
  | .YRD_DEFER _ => [⟨F.YRD_DEFER_VALUE, .RO, .none⟩]
  | .YRD_EVT _ => [⟨F.YRD_EVT_DEFER, .W1C, .none⟩, ⟨F.YRD_EVT_BSKIP, .W1C, .none⟩, ⟨F.YRD_EVT_CAP, .W1C, .none⟩, ⟨F.YRD_EVT_EXHAUST, .W1C, .none⟩, ⟨F.YRD_EVT_REPLACE, .W1C, .none⟩]
  | .YRD_MAC _ => [⟨F.YRD_MAC_DLENT, .RWL, .none⟩, ⟨F.YRD_MAC_BOFF, .RWL, .none⟩]
  | .YRD_SFNUM _ => [⟨F.YRD_SFNUM_SFNUM, .RO, .none⟩]
  | .YRD_REPLAY _ => [⟨F.YRD_REPLAY_VALUE, .RO, .none⟩]
  | .YRD_DUP _ => [⟨F.YRD_DUP_VALUE, .RO, .none⟩]
  | .YRD_ANSMISS _ => [⟨F.YRD_ANSMISS_VALUE, .RO, .none⟩]
  | .YRD_SLOTMAP _ _ => [⟨F.YRD_SLOTMAP_SLOTS, .RWL, .none⟩]
  | .YRD_PLAN _ _ => [⟨F.YRD_PLAN_VALID, .RWL, .none⟩, ⟨F.YRD_PLAN_BEACON, .RWL, .none⟩, ⟨F.YRD_PLAN_TX, .RWL, .none⟩, ⟨F.YRD_PLAN_RX, .RWL, .none⟩, ⟨F.YRD_PLAN_PRIO, .RWL, .none⟩, ⟨F.YRD_PLAN_MODE, .RWL, .none⟩, ⟨F.YRD_PLAN_CHAN, .RWL, .none⟩]
  | .LNE_ASSIGN _ => [⟨F.LNE_ASSIGN_ROLE, .RO, .none⟩, ⟨F.LNE_ASSIGN_FE, .RO, .none⟩, ⟨F.LNE_ASSIGN_MODE, .RO, .none⟩, ⟨F.LNE_ASSIGN_YARD, .RO, .none⟩, ⟨F.LNE_ASSIGN_ENTRY, .RO, .none⟩, ⟨F.LNE_ASSIGN_CHAN, .RO, .none⟩]
  | .LNE_CTL _ => [⟨F.LNE_CTL_EXCLUDE, .RWL, .none⟩]
  | .LNE_BIST _ => [⟨F.LNE_BIST_RESULT, .RO, .none⟩, ⟨F.LNE_BIST_CAUSE, .RO, .none⟩, ⟨F.LNE_BIST_PASSES, .RO, .none⟩]
  | .LNE_RXOK _ => [⟨F.LNE_RXOK_VALUE, .RO, .none⟩]
  | .LNE_CRCERR _ => [⟨F.LNE_CRCERR_VALUE, .RO, .none⟩]
  | .LNE_PHRERR _ => [⟨F.LNE_PHRERR_VALUE, .RO, .none⟩]
  | .LNE_SIC _ => [⟨F.LNE_SIC_VALUE, .RO, .none⟩]
  | .LNE_COLLIDE _ => [⟨F.LNE_COLLIDE_VALUE, .RO, .none⟩]
  | .LNE_BLANK _ => [⟨F.LNE_BLANK_VALUE, .RO, .none⟩]
  | .LNE_DROP _ => [⟨F.LNE_DROP_VALUE, .RO, .none⟩]
  | .LNE_AUTHFAIL _ => [⟨F.LNE_AUTHFAIL_VALUE, .RO, .none⟩]
  | .LNE_RSSI _ => [⟨F.LNE_RSSI_SNR, .RO, .none⟩, ⟨F.LNE_RSSI_RSSI, .RO, .none⟩]
  | .LNE_EVT _ => [⟨F.LNE_EVT_REPLACED, .W1C, .none⟩, ⟨F.LNE_EVT_FAIL, .W1C, .none⟩]
  | .DRV_CFG => [⟨F.DRV_CFG_PROBE_PERIOD, .RWL, .range 1 600⟩]
  | .DRV_GATE => [⟨F.DRV_GATE_CLOSED, .RO, .none⟩, ⟨F.DRV_GATE_CLOSURES, .RO, .none⟩]
  | .DRV_NTC_CFG _ => [⟨F.DRV_NTC_CFG_ENABLE, .RWL, .none⟩, ⟨F.DRV_NTC_CFG_FLOOR, .RWL, .range 0 100⟩, ⟨F.DRV_NTC_CFG_KNEE, .RWL, .none⟩, ⟨F.DRV_NTC_CFG_SLOPE, .RWL, .range 1 15⟩, ⟨F.DRV_NTC_CFG_BETA, .RWL, .none⟩]
  | .DRV_NTC_STAT _ => [⟨F.DRV_NTC_STAT_FAULT, .RO, .none⟩, ⟨F.DRV_NTC_STAT_FACTOR, .RO, .none⟩, ⟨F.DRV_NTC_STAT_TEMP, .RO, .none⟩]
  | .DRV_CURVEA _ => [⟨F.DRV_CURVEA_ODD, .RWL, .none⟩, ⟨F.DRV_CURVEA_EVEN, .RWL, .none⟩]
  | .DRV_CURVEB _ => [⟨F.DRV_CURVEB_ODD, .RWL, .none⟩, ⟨F.DRV_CURVEB_EVEN, .RWL, .none⟩]
  | .DRV_CH_CFG _ => [⟨F.DRV_CH_CFG_ENABLE, .RWL, .none⟩, ⟨F.DRV_CH_CFG_POL, .RWL, .none⟩, ⟨F.DRV_CH_CFG_PROBE_EN, .RWL, .none⟩, ⟨F.DRV_CH_CFG_PROBE_OFF, .RWL, .none⟩, ⟨F.DRV_CH_CFG_OPEN_OFF, .RWL, .none⟩, ⟨F.DRV_CH_CFG_PHASE, .RWL, .none⟩, ⟨F.DRV_CH_CFG_CURVE, .RWL, .zeroAbove 4⟩, ⟨F.DRV_CH_CFG_RES, .RWL, .range 8 16⟩]
  | .DRV_CH_DIAG _ => [⟨F.DRV_CH_DIAG_OVER_THR, .RWL, .none⟩, ⟨F.DRV_CH_DIAG_OPEN_THR, .RWL, .none⟩]
  | .DRV_CH_INIT _ => [⟨F.DRV_CH_INIT_LEVEL, .RWL, .none⟩]
  | .DRV_CH_STAT _ => [⟨F.DRV_CH_STAT_DSTATE, .RO, .none⟩, ⟨F.DRV_CH_STAT_LOW, .RO, .none⟩, ⟨F.DRV_CH_STAT_PROBES, .RO, .none⟩]
  | .DRV_CH_LEVEL _ => [⟨F.DRV_CH_LEVEL_PRESENT, .RO, .none⟩, ⟨F.DRV_CH_LEVEL_TARGET, .RO, .none⟩]
  | .DRV_CH_ON _ => [⟨F.DRV_CH_ON_ON, .RO, .none⟩]
  | .DRV_CH_ISNS _ => [⟨F.DRV_CH_ISNS_PROBE, .RO, .none⟩, ⟨F.DRV_CH_ISNS_VALUE, .RO, .none⟩]
  | .DRV_CH_EVT _ => [⟨F.DRV_CH_EVT_OVER, .W1C, .none⟩, ⟨F.DRV_CH_EVT_RESTORED, .W1C, .none⟩, ⟨F.DRV_CH_EVT_OPEN, .W1C, .none⟩]
  | .MTR_CFG => [⟨F.MTR_CFG_ENABLE, .RWL, .none⟩, ⟨F.MTR_CFG_REV_HOLD, .RWL, .range 1 255⟩, ⟨F.MTR_CFG_SAVE, .RWL, .range 1 100⟩]
  | .MTR_REV_MIN => [⟨F.MTR_REV_MIN_REV_MIN, .RWL, .none⟩]
  | .MTR_RUN => [⟨F.MTR_RUN_REV_HOLD, .RO, .none⟩, ⟨F.MTR_RUN_SAVE, .RO, .none⟩]
  | .MTR_GAPS => [⟨F.MTR_GAPS_VALUE, .RO, .none⟩]
  | .MTR_SAVESEQ => [⟨F.MTR_SAVESEQ_VALUE, .RO, .none⟩]
  | .MTR_PAIR => [⟨F.MTR_PAIR_PAIR, .RWL, .none⟩]
  | .MTR_PAIR_STAT => [⟨F.MTR_PAIR_STAT_REV, .RO, .none⟩]
  | .MTR_EVT => [⟨F.MTR_EVT_SAVEFAIL, .W1C, .none⟩, ⟨F.MTR_EVT_GAP, .W1C, .none⟩, ⟨F.MTR_EVT_PREV, .W1C, .none⟩, ⟨F.MTR_EVT_SAT, .W1C, .none⟩]
  | .MTR_I_CFG _ => [⟨F.MTR_I_CFG_ENABLE, .RWL, .none⟩, ⟨F.MTR_I_CFG_ROGO, .RWL, .none⟩, ⟨F.MTR_I_CFG_REV_EN, .RWL, .none⟩, ⟨F.MTR_I_CFG_VSEL, .RWL, .none⟩, ⟨F.MTR_I_CFG_AUTO, .RWL, .none⟩, ⟨F.MTR_I_CFG_GFIX, .RWL, .none⟩]
  | .MTR_I_FS _ => [⟨F.MTR_I_FS_VALUE, .RWL, .none⟩]
  | .MTR_I_CAL _ => [⟨F.MTR_I_CAL_GCAL, .RWL, .none⟩, ⟨F.MTR_I_CAL_PCAL, .RWL, .none⟩]
  | .MTR_I_STAT _ => [⟨F.MTR_I_STAT_GAIN, .RO, .none⟩, ⟨F.MTR_I_STAT_PATH, .RO, .none⟩, ⟨F.MTR_I_STAT_REV, .RO, .none⟩, ⟨F.MTR_I_STAT_CLIP, .RO, .none⟩, ⟨F.MTR_I_STAT_SAT, .RO, .none⟩, ⟨F.MTR_I_STAT_SWITCHES, .RO, .none⟩]
  | .MTR_I_IRMS _ => [⟨F.MTR_I_IRMS_VALUE, .RO, .none⟩]
  | .MTR_I_P _ => [⟨F.MTR_I_P_VALUE, .RO, .none⟩]
  | .MTR_I_Q _ => [⟨F.MTR_I_Q_VALUE, .RO, .none⟩]
  | .MTR_I_S _ => [⟨F.MTR_I_S_VALUE, .RO, .none⟩]
  | .MTR_I_EVT _ => [⟨F.MTR_I_EVT_CLIP, .W1C, .none⟩, ⟨F.MTR_I_EVT_REV_END, .W1C, .none⟩, ⟨F.MTR_I_EVT_REV_START, .W1C, .none⟩]
  | .MTR_V_CFG _ => [⟨F.MTR_V_CFG_ENABLE, .RWL, .none⟩, ⟨F.MTR_V_CFG_FS, .RWL, .none⟩]
  | .MTR_V_CAL _ => [⟨F.MTR_V_CAL_GCAL, .RWL, .none⟩]
  | .MTR_V_RMS _ => [⟨F.MTR_V_RMS_VALUE, .RO, .none⟩]
  | .MTR_V_FREQ _ => [⟨F.MTR_V_FREQ_NOV, .RO, .none⟩, ⟨F.MTR_V_FREQ_FREQ, .RO, .none⟩]
  | .MTR_PI_CFG _ => [⟨F.MTR_PI_CFG_ENABLE, .RWL, .none⟩, ⟨F.MTR_PI_CFG_POL, .RWL, .none⟩, ⟨F.MTR_PI_CFG_DEB, .RWL, .range 1 50⟩]
  | .MTR_PI_WT _ => [⟨F.MTR_PI_WT_VALUE, .RWL, .range 1 4294967295⟩]
  | .MTR_PI_STAT _ => [⟨F.MTR_PI_STAT_ACTIVE, .RO, .none⟩, ⟨F.MTR_PI_STAT_REJECT, .RO, .none⟩]
  | .TWN_CFG => [⟨F.TWN_CFG_ENABLE, .RWL, .none⟩, ⟨F.TWN_CFG_UNIT, .RWL, .none⟩, ⟨F.TWN_CFG_REVERT, .RWL, .none⟩, ⟨F.TWN_CFG_PREF, .RWL, .range 1 15⟩, ⟨F.TWN_CFG_LISTEN, .RWL, .range 1 30⟩]
  | .TWN_TIMERS => [⟨F.TWN_TIMERS_YIELD_AFTER, .RWL, .range 1 600⟩, ⟨F.TWN_TIMERS_HOLDOFF, .RWL, .range 10 3600⟩]
  | .TWN_LEASE => [⟨F.TWN_LEASE_LEASE, .RWL, .range 20 500⟩, ⟨F.TWN_LEASE_LOSS_AFTER, .RWL, .range 5 100⟩]
  | .TWN_STAT => [⟨F.TWN_STAT_ROLE, .RO, .none⟩, ⟨F.TWN_STAT_PEER_ROLE, .RO, .none⟩, ⟨F.TWN_STAT_PEER_PRESENT, .RO, .none⟩, ⟨F.TWN_STAT_IN_SYNC, .RO, .none⟩, ⟨F.TWN_STAT_HEALTHY, .RO, .none⟩, ⟨F.TWN_STAT_VERSION_OK, .RO, .none⟩, ⟨F.TWN_STAT_CONFIG_OK, .RO, .none⟩, ⟨F.TWN_STAT_BUS_OK, .RO, .none⟩, ⟨F.TWN_STAT_LANE_OK, .RO, .none⟩, ⟨F.TWN_STAT_INHIBIT, .RO, .none⟩, ⟨F.TWN_STAT_LAPSES, .RO, .none⟩, ⟨F.TWN_STAT_BUSERR, .RO, .none⟩, ⟨F.TWN_STAT_LEVEL, .RO, .none⟩]
  | .TWN_CLAIM => [⟨F.TWN_CLAIM_VALUE, .RO, .none⟩]
  | .TWN_PEER_CLAIM => [⟨F.TWN_PEER_CLAIM_VALUE, .RO, .none⟩]
  | .TWN_MIRROR => [⟨F.TWN_MIRROR_LAG, .RO, .none⟩]
  | .TWN_HANDOVERS => [⟨F.TWN_HANDOVERS_VALUE, .RO, .none⟩]
  | .TWN_EVT => [⟨F.TWN_EVT_FAULT, .W1C, .none⟩, ⟨F.TWN_EVT_HEALTH, .W1C, .none⟩, ⟨F.TWN_EVT_SYNC, .W1C, .none⟩, ⟨F.TWN_EVT_PEER, .W1C, .none⟩, ⟨F.TWN_EVT_DEMOTE, .W1C, .none⟩, ⟨F.TWN_EVT_TAKEOVER, .W1C, .none⟩]
  | .TWN_HLOCAL _ => [⟨F.TWN_HLOCAL_VALUE, .RO, .none⟩]
  | .TWN_HPEER _ => [⟨F.TWN_HPEER_VALUE, .RO, .none⟩]
  | .SEC_DEVID _ => [⟨F.SEC_DEVID_VALUE, .RO, .none⟩]
  | .SEC_STAT => [⟨F.SEC_STAT_OWNED, .RO, .none⟩, ⟨F.SEC_STAT_PAIRED, .RO, .none⟩, ⟨F.SEC_STAT_DEBUG, .RO, .none⟩, ⟨F.SEC_STAT_WINDOW, .RO, .none⟩, ⟨F.SEC_STAT_PENDING, .RO, .none⟩, ⟨F.SEC_STAT_CREDIT, .RO, .none⟩, ⟨F.SEC_STAT_TAMPER, .RO, .none⟩, ⟨F.SEC_STAT_ZEROISED, .RO, .none⟩, ⟨F.SEC_STAT_TAMPER_LOST, .RO, .none⟩, ⟨F.SEC_STAT_WIN_LEFT, .RO, .none⟩]
  | .SEC_OWNER_LO => [⟨F.SEC_OWNER_LO_VALUE, .RO, .none⟩]
  | .SEC_OWNER_HI => [⟨F.SEC_OWNER_HI_VALUE, .RO, .none⟩]
  | .SEC_OWNER_GEN => [⟨F.SEC_OWNER_GEN_VALUE, .RO, .none⟩]
  | .SEC_CTR_LO => [⟨F.SEC_CTR_LO_VALUE, .RO, .none⟩]
  | .SEC_CTR_HI => [⟨F.SEC_CTR_HI_VALUE, .RO, .none⟩]
  | .SEC_JROOTS => [⟨F.SEC_JROOTS_VALUE, .RO, .none⟩]
  | .SEC_TAMPER_CFG => [⟨F.SEC_TAMPER_CFG_DOOR_EN, .RWP, .none⟩, ⟨F.SEC_TAMPER_CFG_SEAL_EN, .RWP, .none⟩, ⟨F.SEC_TAMPER_CFG_DOOR_POL, .RWP, .none⟩, ⟨F.SEC_TAMPER_CFG_BTN_PRES, .RWP, .none⟩, ⟨F.SEC_TAMPER_CFG_SEAL_PRES, .RWP, .none⟩]
  | .SEC_TAMPER_IN => [⟨F.SEC_TAMPER_IN_MESH_OK, .RO, .none⟩, ⟨F.SEC_TAMPER_IN_BTN, .RO, .none⟩, ⟨F.SEC_TAMPER_IN_SEAL, .RO, .none⟩, ⟨F.SEC_TAMPER_IN_DOOR, .RO, .none⟩]
  | .SEC_TAMPER_CNT => [⟨F.SEC_TAMPER_CNT_NEWT_RESET, .RO, .none⟩, ⟨F.SEC_TAMPER_CNT_MESH, .RO, .none⟩, ⟨F.SEC_TAMPER_CNT_SEAL_OPEN, .RO, .none⟩, ⟨F.SEC_TAMPER_CNT_DOOR_OPEN, .RO, .none⟩]
  | .SEC_UDP => [⟨F.SEC_UDP_DENIED, .RO, .none⟩, ⟨F.SEC_UDP_DROPPED, .RO, .none⟩]
  | .SEC_EVT => [⟨F.SEC_EVT_WINDOW, .W1C, .none⟩, ⟨F.SEC_EVT_DENIED, .W1C, .none⟩, ⟨F.SEC_EVT_PRESENCE, .W1C, .none⟩, ⟨F.SEC_EVT_TAMPER, .W1C, .none⟩]
  | .MBX_CFG => [⟨F.MBX_CFG_ENABLE, .RWL, .none⟩]
  | .MBX_ABORTS => [⟨F.MBX_ABORTS_VALUE, .RO, .none⟩]
  | .MBX_TWIN => [⟨F.MBX_TWIN_STATE, .RO, .none⟩]
  | .EVR_CFG => [⟨F.EVR_CFG_TRIG_SEV, .RWL, .none⟩, ⟨F.EVR_CFG_PERSIST, .RWL, .range 100 5000⟩]
  | .EVR_STAT => [⟨F.EVR_STAT_RAM_ONLY, .RO, .none⟩, ⟨F.EVR_STAT_CAPTURING, .RO, .none⟩, ⟨F.EVR_STAT_REPLAYING, .RO, .none⟩, ⟨F.EVR_STAT_ARMED, .RO, .none⟩, ⟨F.EVR_STAT_STOP, .RO, .none⟩, ⟨F.EVR_STAT_HELD, .RO, .none⟩]
  | .EVR_FENCE => [⟨F.EVR_FENCE_VALUE, .RO, .none⟩]
  | .EVR_PSEQ => [⟨F.EVR_PSEQ_VALUE, .RO, .none⟩]
  | .EVR_DROP _ => [⟨F.EVR_DROP_VALUE, .RO, .none⟩]
  | .EVR_OVERWR => [⟨F.EVR_OVERWR_VALUE, .RO, .none⟩]
  | .EVR_NAND => [⟨F.EVR_NAND_RETIRED, .RO, .none⟩, ⟨F.EVR_NAND_SPARES, .RO, .none⟩]
  | .EVR_CAPLEN => [⟨F.EVR_CAPLEN_VALUE, .RO, .none⟩]
  | .EVR_EVT => [⟨F.EVR_EVT_CAPSTOP, .W1C, .none⟩, ⟨F.EVR_EVT_LOSS, .W1C, .none⟩, ⟨F.EVR_EVT_NAND, .W1C, .none⟩, ⟨F.EVR_EVT_DROP, .W1C, .none⟩]
  | .UPD_CFG => [⟨F.UPD_CFG_CONFIRM, .RWL, .range 60 3600⟩]
  | .UPD_STAT => [⟨F.UPD_STAT_LIZARD, .RO, .none⟩, ⟨F.UPD_STAT_TRIAL, .RO, .none⟩, ⟨F.UPD_STAT_ACTIVE, .RO, .none⟩, ⟨F.UPD_STAT_TRIES, .RO, .none⟩, ⟨F.UPD_STAT_SESSION, .RO, .none⟩, ⟨F.UPD_STAT_SLOT_A, .RO, .none⟩, ⟨F.UPD_STAT_SLOT_B, .RO, .none⟩]
  | .UPD_SESSION => [⟨F.UPD_SESSION_SOURCE, .RO, .none⟩, ⟨F.UPD_SESSION_RING, .RO, .none⟩, ⟨F.UPD_SESSION_IDLE, .RO, .none⟩]
  | .UPD_HOLDER_IP4 => [⟨F.UPD_HOLDER_IP4_VALUE, .RO, .none⟩]
  | .UPD_OFFSET => [⟨F.UPD_OFFSET_VALUE, .RO, .none⟩]
  | .UPD_TOTAL => [⟨F.UPD_TOTAL_VALUE, .RO, .none⟩]
  | .UPD_VER_A => [⟨F.UPD_VER_A_VALUE, .RO, .none⟩]
  | .UPD_VER_B => [⟨F.UPD_VER_B_VALUE, .RO, .none⟩]
  | .UPD_LEFT => [⟨F.UPD_LEFT_LEFT, .RO, .none⟩]
  | .UPD_EVT => [⟨F.UPD_EVT_REVERTED, .W1C, .none⟩, ⟨F.UPD_EVT_CONFIRMED, .W1C, .none⟩, ⟨F.UPD_EVT_ACTIVATED, .W1C, .none⟩, ⟨F.UPD_EVT_SESSION, .W1C, .none⟩]
  | .FLT_CFG => [⟨F.FLT_CFG_ENABLE, .RWL, .none⟩, ⟨F.FLT_CFG_SHARE_MAX, .RWL, .range 10 100⟩]
  | .FLT_STATUS => [⟨F.FLT_STATUS_CAMPAIGN, .RO, .none⟩, ⟨F.FLT_STATUS_STATE, .RO, .none⟩, ⟨F.FLT_STATUS_NIGHT, .RO, .none⟩, ⟨F.FLT_STATUS_SLOT, .RO, .none⟩]
  | .FLT_ENC_STAT => [⟨F.FLT_ENC_STAT_BUSY, .RO, .none⟩, ⟨F.FLT_ENC_STAT_PERR, .RO, .none⟩]
  | .FLT_SYMS => [⟨F.FLT_SYMS_VALUE, .RO, .none⟩]
  | .FLT_RPTS => [⟨F.FLT_RPTS_VALUE, .RO, .none⟩]
  | .FLT_EVT => [⟨F.FLT_EVT_FAULT, .W1C, .none⟩, ⟨F.FLT_EVT_DONE, .W1C, .none⟩, ⟨F.FLT_EVT_NIGHT, .W1C, .none⟩]
  | .QUE_PERR => [⟨F.QUE_PERR_VALUE, .RO, .none⟩]
  | .QUE_EVT => [⟨F.QUE_EVT_FLUSH, .W1C, .none⟩, ⟨F.QUE_EVT_POISON, .W1C, .none⟩]
  | .QUE_X_STAT _ => [⟨F.QUE_X_STAT_STATE, .RO, .none⟩, ⟨F.QUE_X_STAT_ISOLATIONS, .RO, .none⟩]
  | .QUE_STAT _ => [⟨F.QUE_STAT_DISCARD, .RO, .none⟩, ⟨F.QUE_STAT_LEVEL, .RO, .none⟩, ⟨F.QUE_STAT_CREDIT, .RO, .none⟩]
  | .QUE_UPLOST _ => [⟨F.QUE_UPLOST_VALUE, .RO, .none⟩]
  | .BC_STAT_ALL _ => [⟨⟨31, 0⟩, .RO, .none⟩]
  | .BC_STAT_G _ _ => [⟨⟨31, 0⟩, .RO, .none⟩]
  | .BC_MASK f _ w => [⟨⟨(if f.members - 32 * w < 32 then f.members - 32 * w else 32) - 1, 0⟩, .RW, .none⟩]

/-- A row of the register map: `n1 × n2` registers from `base` with strides `s1` and `s2`. -/
structure RegRow where
  base : Nat
  n1 : Nat
  s1 : Nat
  n2 : Nat
  s2 : Nat
  reg : Nat → Nat → Reg

/-- The HIF rows of the register map, in ascending base. -/
def rowsHif : List RegRow :=
  [⟨0x0, 1, 0x0, 1, 0x0, fun _ _ => .HIF_ID⟩,
   ⟨0x4, 1, 0x0, 1, 0x0, fun _ _ => .HIF_BUNDLE⟩,
   ⟨0x8, 1, 0x0, 1, 0x0, fun _ _ => .HIF_STATUS⟩,
   ⟨0xC, 1, 0x0, 1, 0x0, fun _ _ => .HIF_SETUP_DONE⟩,
   ⟨0x10, 1, 0x0, 1, 0x0, fun _ _ => .HIF_INT_CAUSE⟩,
   ⟨0x14, 1, 0x0, 1, 0x0, fun _ _ => .HIF_INT_EN⟩,
   ⟨0x18, 1, 0x0, 1, 0x0, fun _ _ => .HIF_SQ_FAULT_LO⟩,
   ⟨0x1C, 1, 0x0, 1, 0x0, fun _ _ => .HIF_SQ_FAULT_HI⟩,
   ⟨0x20, 1, 0x0, 1, 0x0, fun _ _ => .HIF_PEND⟩,
   ⟨0x1000, 64, 0x20, 1, 0x0, fun i _ => .HIF_SQ_BASE_LO i⟩,
   ⟨0x1004, 64, 0x20, 1, 0x0, fun i _ => .HIF_SQ_BASE_HI i⟩,
   ⟨0x1008, 64, 0x20, 1, 0x0, fun i _ => .HIF_SQ_CFG i⟩,
   ⟨0x100C, 64, 0x20, 1, 0x0, fun i _ => .HIF_SQ_STAT i⟩,
   ⟨0x1800, 64, 0x20, 1, 0x0, fun i _ => .HIF_CQ_BASE_LO i⟩,
   ⟨0x1804, 64, 0x20, 1, 0x0, fun i _ => .HIF_CQ_BASE_HI i⟩,
   ⟨0x1808, 64, 0x20, 1, 0x0, fun i _ => .HIF_CQ_CFG i⟩,
   ⟨0x180C, 64, 0x20, 1, 0x0, fun i _ => .HIF_CQ_COAL i⟩,
   ⟨0x1810, 64, 0x20, 1, 0x0, fun i _ => .HIF_CQ_STAT i⟩,
   ⟨0x2000, 8, 0x20, 1, 0x0, fun i _ => .HIF_EQ_BASE_LO i⟩,
   ⟨0x2004, 8, 0x20, 1, 0x0, fun i _ => .HIF_EQ_BASE_HI i⟩,
   ⟨0x2008, 8, 0x20, 1, 0x0, fun i _ => .HIF_EQ_CFG i⟩,
   ⟨0x200C, 8, 0x20, 1, 0x0, fun i _ => .HIF_EQ_SRC i⟩,
   ⟨0x2010, 8, 0x20, 1, 0x0, fun i _ => .HIF_EQ_STAT i⟩,
   ⟨0x8000, 128, 0x10, 1, 0x0, fun i _ => .MSIX_ADDR_LO i⟩,
   ⟨0x8004, 128, 0x10, 1, 0x0, fun i _ => .MSIX_ADDR_HI i⟩,
   ⟨0x8008, 128, 0x10, 1, 0x0, fun i _ => .MSIX_DATA i⟩,
   ⟨0x800C, 128, 0x10, 1, 0x0, fun i _ => .MSIX_CTL i⟩,
   ⟨0x9000, 4, 0x4, 1, 0x0, fun i _ => .MSIX_PBA i⟩]

/-- The CLK rows of the register map, in ascending base. -/
def rowsClk : List RegRow :=
  [⟨0x10000, 1, 0x0, 1, 0x0, fun _ _ => .CLK_SRC_STAT⟩,
   ⟨0x10004, 1, 0x0, 1, 0x0, fun _ _ => .CLK_DOM_STAT⟩,
   ⟨0x10008, 1, 0x0, 1, 0x0, fun _ _ => .CLK_CFG⟩,
   ⟨0x1000C, 1, 0x0, 1, 0x0, fun _ _ => .CLK_RESET_CAUSE⟩,
   ⟨0x10010, 1, 0x0, 1, 0x0, fun _ _ => .CLK_GATE_STAT⟩,
   ⟨0x10014, 1, 0x0, 1, 0x0, fun _ _ => .CLK_ACCERR_ADDR⟩,
   ⟨0x10018, 1, 0x0, 1, 0x0, fun _ _ => .CLK_ACCERR_INFO⟩,
   ⟨0x1001C, 1, 0x0, 1, 0x0, fun _ _ => .CLK_TEMP⟩,
   ⟨0x10020, 1, 0x0, 1, 0x0, fun _ _ => .CLK_EVT⟩]

/-- The NEWT rows of the register map, in ascending base. -/
def rowsNewt : List RegRow :=
  [⟨0x20000, 1, 0x0, 1, 0x0, fun _ _ => .NEWT_STAT⟩,
   ⟨0x20004, 1, 0x0, 1, 0x0, fun _ _ => .NEWT_TC_CURVE⟩,
   ⟨0x20008, 1, 0x0, 1, 0x0, fun _ _ => .NEWT_TC_OFF⟩,
   ⟨0x2000C, 1, 0x0, 1, 0x0, fun _ _ => .NEWT_COMP⟩,
   ⟨0x20010, 1, 0x0, 1, 0x0, fun _ _ => .NEWT_EVT⟩,
   ⟨0x20040, 16, 0x4, 1, 0x0, fun i _ => .NEWT_ANCHOR i⟩,
   ⟨0x20100, 1, 0x0, 1, 0x0, fun _ _ => .RTC_TICK_LO⟩,
   ⟨0x20104, 1, 0x0, 1, 0x0, fun _ _ => .RTC_TICK_HI⟩,
   ⟨0x20108, 1, 0x0, 1, 0x0, fun _ _ => .RTC_CAL_LO⟩,
   ⟨0x2010C, 1, 0x0, 1, 0x0, fun _ _ => .RTC_CAL_HI⟩,
   ⟨0x20110, 1, 0x0, 1, 0x0, fun _ _ => .RTC_WPEND⟩,
   ⟨0x20120, 2, 0x8, 1, 0x0, fun i _ => .RTC_ALM_LO i⟩,
   ⟨0x20124, 2, 0x8, 1, 0x0, fun i _ => .RTC_ALM_HI i⟩]

/-- The TSU rows of the register map, in ascending base. -/
def rowsTsu : List RegRow :=
  [⟨0x30000, 1, 0x0, 1, 0x0, fun _ _ => .TSU_CFG⟩,
   ⟨0x30004, 1, 0x0, 1, 0x0, fun _ _ => .TSU_STAT⟩,
   ⟨0x30008, 1, 0x0, 1, 0x0, fun _ _ => .TSU_TIME_LO⟩,
   ⟨0x3000C, 1, 0x0, 1, 0x0, fun _ _ => .TSU_TIME_HI⟩,
   ⟨0x30010, 1, 0x0, 1, 0x0, fun _ _ => .TSU_RAW_LO⟩,
   ⟨0x30014, 1, 0x0, 1, 0x0, fun _ _ => .TSU_RAW_HI⟩,
   ⟨0x30018, 1, 0x0, 1, 0x0, fun _ _ => .TSU_RES⟩,
   ⟨0x30020, 2, 0x20, 1, 0x0, fun i _ => .TSU_DOM_CFG i⟩,
   ⟨0x30024, 2, 0x20, 1, 0x0, fun i _ => .TSU_DOM_INT i⟩,
   ⟨0x30028, 2, 0x20, 1, 0x0, fun i _ => .TSU_DOM_THR i⟩,
   ⟨0x3002C, 2, 0x20, 1, 0x0, fun i _ => .TSU_DOM_PRIO i⟩,
   ⟨0x30030, 2, 0x20, 1, 0x0, fun i _ => .TSU_DOM_STAT i⟩,
   ⟨0x30034, 2, 0x20, 1, 0x0, fun i _ => .TSU_DOM_OFFS i⟩,
   ⟨0x30038, 2, 0x20, 1, 0x0, fun i _ => .TSU_DOM_RATE i⟩,
   ⟨0x30060, 1, 0x0, 1, 0x0, fun _ _ => .TSU_PPS⟩,
   ⟨0x30064, 1, 0x0, 1, 0x0, fun _ _ => .TSU_PPS_STAT⟩,
   ⟨0x30068, 1, 0x0, 1, 0x0, fun _ _ => .TSU_PPSIN_LO⟩,
   ⟨0x3006C, 1, 0x0, 1, 0x0, fun _ _ => .TSU_PPSIN_HI⟩,
   ⟨0x30070, 1, 0x0, 1, 0x0, fun _ _ => .TSU_REF⟩,
   ⟨0x30074, 1, 0x0, 1, 0x0, fun _ _ => .TSU_COMPAT_INCR⟩,
   ⟨0x30078, 1, 0x0, 1, 0x0, fun _ _ => .TSU_LSLOT⟩,
   ⟨0x3007C, 1, 0x0, 1, 0x0, fun _ _ => .TSU_EVT⟩,
   ⟨0x30080, 3, 0x4, 1, 0x0, fun i _ => .TSU_PORT_LAT i⟩,
   ⟨0x30090, 3, 0x4, 1, 0x0, fun i _ => .TSU_PORT_TSQ i⟩]

/-- The SWX rows of the register map, in ascending base. -/
def rowsSwx : List RegRow :=
  [⟨0x40000, 1, 0x0, 1, 0x0, fun _ _ => .SWX_CFG⟩,
   ⟨0x40004, 1, 0x0, 1, 0x0, fun _ _ => .SWX_BUF_CFG⟩,
   ⟨0x40008, 1, 0x0, 1, 0x0, fun _ _ => .SWX_BUF_STAT⟩,
   ⟨0x4000C, 1, 0x0, 1, 0x0, fun _ _ => .SWX_PCP_MAP⟩,
   ⟨0x40010, 1, 0x0, 1, 0x0, fun _ _ => .SWX_MAC_M_LO⟩,
   ⟨0x40014, 1, 0x0, 1, 0x0, fun _ _ => .SWX_MAC_M_HI⟩,
   ⟨0x40018, 1, 0x0, 1, 0x0, fun _ _ => .SWX_MAC_H_LO⟩,
   ⟨0x4001C, 1, 0x0, 1, 0x0, fun _ _ => .SWX_MAC_H_HI⟩,
   ⟨0x40020, 1, 0x0, 1, 0x0, fun _ _ => .SWX_MGMT_IP4⟩,
   ⟨0x40024, 1, 0x0, 1, 0x0, fun _ _ => .SWX_MGMT_NET⟩,
   ⟨0x40028, 1, 0x0, 1, 0x0, fun _ _ => .SWX_MGMT_GW⟩,
   ⟨0x4002C, 1, 0x0, 1, 0x0, fun _ _ => .SWX_MSTAT⟩,
   ⟨0x40030, 1, 0x0, 1, 0x0, fun _ _ => .SWX_ERPS⟩,
   ⟨0x40034, 1, 0x0, 1, 0x0, fun _ _ => .SWX_ERPS_STAT⟩,
   ⟨0x40040, 1, 0x0, 1, 0x0, fun _ _ => .SWX_HRX_BASE_LO⟩,
   ⟨0x40044, 1, 0x0, 1, 0x0, fun _ _ => .SWX_HRX_BASE_HI⟩,
   ⟨0x40048, 1, 0x0, 1, 0x0, fun _ _ => .SWX_HRX_CFG⟩,
   ⟨0x4004C, 1, 0x0, 1, 0x0, fun _ _ => .SWX_HRX_HEAD⟩,
   ⟨0x40050, 1, 0x0, 1, 0x0, fun _ _ => .SWX_HRX_STAT⟩,
   ⟨0x40100, 64, 0x4, 1, 0x0, fun i _ => .SWX_VLAN i⟩,
   ⟨0x41000, 3, 0x1000, 1, 0x0, fun i _ => .SWX_PORT_CFG i⟩,
   ⟨0x41004, 3, 0x1000, 1, 0x0, fun i _ => .SWX_PORT_STAT i⟩,
   ⟨0x41008, 3, 0x1000, 1, 0x0, fun i _ => .SWX_PORT_SCHED i⟩,
   ⟨0x4100C, 3, 0x1000, 1, 0x0, fun i _ => .SWX_PORT_WT_LO i⟩,
   ⟨0x41010, 3, 0x1000, 1, 0x0, fun i _ => .SWX_PORT_WT_HI i⟩,
   ⟨0x41014, 3, 0x1000, 1, 0x0, fun i _ => .SWX_PORT_EVT i⟩,
   ⟨0x41020, 3, 0x1000, 1, 0x0, fun i _ => .SWX_PORT_RXOK i⟩,
   ⟨0x41024, 3, 0x1000, 1, 0x0, fun i _ => .SWX_PORT_RXFCS i⟩,
   ⟨0x41028, 3, 0x1000, 1, 0x0, fun i _ => .SWX_PORT_RXDISC i⟩,
   ⟨0x4102C, 3, 0x1000, 1, 0x0, fun i _ => .SWX_PORT_RXDROP i⟩,
   ⟨0x41030, 3, 0x1000, 1, 0x0, fun i _ => .SWX_PORT_TXOK i⟩,
   ⟨0x41034, 3, 0x1000, 1, 0x0, fun i _ => .SWX_PORT_TXDROP i⟩,
   ⟨0x41038, 3, 0x1000, 1, 0x0, fun i _ => .SWX_PORT_TXPOISON i⟩,
   ⟨0x44F80, 1, 0, 1, 0, fun _ _ => .BC_STAT_ALL .ports⟩,
   ⟨0x45F80, 8, 0x1000, 1, 0, fun i _ => .BC_STAT_G .ports i⟩,
   ⟨0x45F90, 8, 0x1000, 1, 4, fun i j => .BC_MASK .ports i j⟩]

/-- The YRD rows of the register map, in ascending base. -/
def rowsYrd : List RegRow :=
  [⟨0x80000, 1, 0x0, 1, 0x0, fun _ _ => .YRD_REGION⟩,
   ⟨0x80010, 4, 0x4, 1, 0x0, fun i _ => .YRD_FE_CFG i⟩,
   ⟨0x80020, 4, 0x4, 1, 0x0, fun i _ => .YRD_FE_STAT i⟩,
   ⟨0x80040, 8, 0x4, 1, 0x0, fun i _ => .YRD_TX_CFG i⟩,
   ⟨0x80060, 8, 0x4, 1, 0x0, fun i _ => .YRD_TX_STAT i⟩,
   ⟨0x80080, 1, 0x0, 1, 0x0, fun _ _ => .YRD_POOL⟩,
   ⟨0x80084, 1, 0x0, 1, 0x0, fun _ _ => .YRD_BIST_CFG⟩,
   ⟨0x80088, 1, 0x0, 1, 0x0, fun _ _ => .YRD_SPARE_WARN⟩,
   ⟨0x80090, 1, 0x0, 1, 0x0, fun _ _ => .YRD_MAC_CFG⟩,
   ⟨0x80094, 1, 0x0, 1, 0x0, fun _ _ => .YRD_MAC_SEG⟩,
   ⟨0x80098, 1, 0x0, 1, 0x0, fun _ _ => .YRD_MAC_HOLD⟩,
   ⟨0x8009C, 1, 0x0, 1, 0x0, fun _ _ => .YRD_MAC_LOST⟩,
   ⟨0x800A0, 1, 0x0, 1, 0x0, fun _ _ => .YRD_MAC_JOIN⟩,
   ⟨0x800A4, 1, 0x0, 1, 0x0, fun _ _ => .YRD_MAC_TIME⟩,
   ⟨0x80100, 8, 0xC, 1, 0x0, fun i _ => .YRD_CUST_SB_LO i⟩,
   ⟨0x80104, 8, 0xC, 1, 0x0, fun i _ => .YRD_CUST_SB_HI i⟩,
   ⟨0x80108, 8, 0xC, 1, 0x0, fun i _ => .YRD_CUST_SB_LIM i⟩,
   ⟨0x81000, 16, 0x1000, 1, 0x0, fun i _ => .YRD_CFG i⟩,
   ⟨0x81004, 16, 0x1000, 1, 0x0, fun i _ => .YRD_PHY i⟩,
   ⟨0x81008, 16, 0x1000, 1, 0x0, fun i _ => .YRD_STATE i⟩,
   ⟨0x8100C, 16, 0x1000, 1, 0x0, fun i _ => .YRD_CAP i⟩,
   ⟨0x81010, 16, 0x1000, 4, 0x4, fun i j => .YRD_WDRAW i j⟩,
   ⟨0x81020, 16, 0x1000, 1, 0x0, fun i _ => .YRD_RUN i⟩,
   ⟨0x81024, 16, 0x1000, 1, 0x0, fun i _ => .YRD_RXOK i⟩,
   ⟨0x81028, 16, 0x1000, 1, 0x0, fun i _ => .YRD_CRCERR i⟩,
   ⟨0x8102C, 16, 0x1000, 1, 0x0, fun i _ => .YRD_COLLIDE i⟩,
   ⟨0x81030, 16, 0x1000, 1, 0x0, fun i _ => .YRD_SIC i⟩,
   ⟨0x81034, 16, 0x1000, 1, 0x0, fun i _ => .YRD_BSKIP i⟩,
   ⟨0x81038, 16, 0x1000, 1, 0x0, fun i _ => .YRD_DEFER i⟩,
   ⟨0x8103C, 16, 0x1000, 1, 0x0, fun i _ => .YRD_EVT i⟩,
   ⟨0x81040, 16, 0x1000, 1, 0x0, fun i _ => .YRD_MAC i⟩,
   ⟨0x81044, 16, 0x1000, 1, 0x0, fun i _ => .YRD_SFNUM i⟩,
   ⟨0x81048, 16, 0x1000, 1, 0x0, fun i _ => .YRD_REPLAY i⟩,
   ⟨0x8104C, 16, 0x1000, 1, 0x0, fun i _ => .YRD_DUP i⟩,
   ⟨0x81050, 16, 0x1000, 1, 0x0, fun i _ => .YRD_ANSMISS i⟩,
   ⟨0x81100, 16, 0x1000, 16, 0x4, fun i j => .YRD_SLOTMAP i j⟩,
   ⟨0x81200, 16, 0x1000, 128, 0x4, fun i j => .YRD_PLAN i j⟩,
   ⟨0x91F80, 1, 0, 1, 0, fun _ _ => .BC_STAT_ALL .yards⟩,
   ⟨0x92F80, 8, 0x1000, 1, 0, fun i _ => .BC_STAT_G .yards i⟩,
   ⟨0x92F90, 8, 0x1000, 1, 4, fun i j => .BC_MASK .yards i j⟩]

/-- The LNE rows of the register map, in ascending base. -/
def rowsLne : List RegRow :=
  [⟨0x100000, 544, 0x400, 1, 0x0, fun i _ => .LNE_ASSIGN i⟩,
   ⟨0x100004, 544, 0x400, 1, 0x0, fun i _ => .LNE_CTL i⟩,
   ⟨0x100008, 544, 0x400, 1, 0x0, fun i _ => .LNE_BIST i⟩,
   ⟨0x100010, 544, 0x400, 1, 0x0, fun i _ => .LNE_RXOK i⟩,
   ⟨0x100014, 544, 0x400, 1, 0x0, fun i _ => .LNE_CRCERR i⟩,
   ⟨0x100018, 544, 0x400, 1, 0x0, fun i _ => .LNE_PHRERR i⟩,
   ⟨0x10001C, 544, 0x400, 1, 0x0, fun i _ => .LNE_SIC i⟩,
   ⟨0x100020, 544, 0x400, 1, 0x0, fun i _ => .LNE_COLLIDE i⟩,
   ⟨0x100024, 544, 0x400, 1, 0x0, fun i _ => .LNE_BLANK i⟩,
   ⟨0x100028, 544, 0x400, 1, 0x0, fun i _ => .LNE_DROP i⟩,
   ⟨0x10002C, 544, 0x400, 1, 0x0, fun i _ => .LNE_AUTHFAIL i⟩,
   ⟨0x100030, 544, 0x400, 1, 0x0, fun i _ => .LNE_RSSI i⟩,
   ⟨0x10003C, 544, 0x400, 1, 0x0, fun i _ => .LNE_EVT i⟩,
   ⟨0x190380, 1, 0, 1, 0, fun _ _ => .BC_STAT_ALL .lanes⟩,
   ⟨0x190780, 8, 0x400, 1, 0, fun i _ => .BC_STAT_G .lanes i⟩,
   ⟨0x190790, 8, 0x400, 17, 4, fun i j => .BC_MASK .lanes i j⟩]

/-- The DRV rows of the register map, in ascending base. -/
def rowsDrv : List RegRow :=
  [⟨0x300000, 1, 0x0, 1, 0x0, fun _ _ => .DRV_CFG⟩,
   ⟨0x300004, 1, 0x0, 1, 0x0, fun _ _ => .DRV_GATE⟩,
   ⟨0x300020, 8, 0x4, 1, 0x0, fun i _ => .DRV_NTC_CFG i⟩,
   ⟨0x300040, 8, 0x4, 1, 0x0, fun i _ => .DRV_NTC_STAT i⟩,
   ⟨0x308000, 2048, 0x4, 1, 0x0, fun i _ => .DRV_CURVEA i⟩,
   ⟨0x30A000, 2048, 0x4, 1, 0x0, fun i _ => .DRV_CURVEB i⟩,
   ⟨0x30C000, 48, 0x100, 1, 0x0, fun i _ => .DRV_CH_CFG i⟩,
   ⟨0x30C004, 48, 0x100, 1, 0x0, fun i _ => .DRV_CH_DIAG i⟩,
   ⟨0x30C008, 48, 0x100, 1, 0x0, fun i _ => .DRV_CH_INIT i⟩,
   ⟨0x30C00C, 48, 0x100, 1, 0x0, fun i _ => .DRV_CH_STAT i⟩,
   ⟨0x30C010, 48, 0x100, 1, 0x0, fun i _ => .DRV_CH_LEVEL i⟩,
   ⟨0x30C014, 48, 0x100, 1, 0x0, fun i _ => .DRV_CH_ON i⟩,
   ⟨0x30C018, 48, 0x100, 1, 0x0, fun i _ => .DRV_CH_ISNS i⟩,
   ⟨0x30C01C, 48, 0x100, 1, 0x0, fun i _ => .DRV_CH_EVT i⟩,
   ⟨0x30F080, 1, 0, 1, 0, fun _ _ => .BC_STAT_ALL .drive⟩,
   ⟨0x30F180, 8, 0x100, 1, 0, fun i _ => .BC_STAT_G .drive i⟩,
   ⟨0x30F190, 8, 0x100, 2, 4, fun i j => .BC_MASK .drive i j⟩]

/-- The MTR rows of the register map, in ascending base. -/
def rowsMtr : List RegRow :=
  [⟨0x310000, 1, 0x0, 1, 0x0, fun _ _ => .MTR_CFG⟩,
   ⟨0x310004, 1, 0x0, 1, 0x0, fun _ _ => .MTR_REV_MIN⟩,
   ⟨0x310008, 1, 0x0, 1, 0x0, fun _ _ => .MTR_RUN⟩,
   ⟨0x31000C, 1, 0x0, 1, 0x0, fun _ _ => .MTR_GAPS⟩,
   ⟨0x310010, 1, 0x0, 1, 0x0, fun _ _ => .MTR_SAVESEQ⟩,
   ⟨0x310014, 1, 0x0, 1, 0x0, fun _ _ => .MTR_PAIR⟩,
   ⟨0x310018, 1, 0x0, 1, 0x0, fun _ _ => .MTR_PAIR_STAT⟩,
   ⟨0x31001C, 1, 0x0, 1, 0x0, fun _ _ => .MTR_EVT⟩,
   ⟨0x311000, 6, 0x100, 1, 0x0, fun i _ => .MTR_I_CFG i⟩,
   ⟨0x311004, 6, 0x100, 1, 0x0, fun i _ => .MTR_I_FS i⟩,
   ⟨0x311008, 6, 0x100, 1, 0x0, fun i _ => .MTR_I_CAL i⟩,
   ⟨0x31100C, 6, 0x100, 1, 0x0, fun i _ => .MTR_I_STAT i⟩,
   ⟨0x311010, 6, 0x100, 1, 0x0, fun i _ => .MTR_I_IRMS i⟩,
   ⟨0x311014, 6, 0x100, 1, 0x0, fun i _ => .MTR_I_P i⟩,
   ⟨0x311018, 6, 0x100, 1, 0x0, fun i _ => .MTR_I_Q i⟩,
   ⟨0x31101C, 6, 0x100, 1, 0x0, fun i _ => .MTR_I_S i⟩,
   ⟨0x311020, 6, 0x100, 1, 0x0, fun i _ => .MTR_I_EVT i⟩,
   ⟨0x311680, 1, 0, 1, 0, fun _ _ => .BC_STAT_ALL .current⟩,
   ⟨0x311780, 8, 0x100, 1, 0, fun i _ => .BC_STAT_G .current i⟩,
   ⟨0x311790, 8, 0x100, 1, 4, fun i j => .BC_MASK .current i j⟩,
   ⟨0x312000, 3, 0x100, 1, 0x0, fun i _ => .MTR_V_CFG i⟩,
   ⟨0x312004, 3, 0x100, 1, 0x0, fun i _ => .MTR_V_CAL i⟩,
   ⟨0x312008, 3, 0x100, 1, 0x0, fun i _ => .MTR_V_RMS i⟩,
   ⟨0x31200C, 3, 0x100, 1, 0x0, fun i _ => .MTR_V_FREQ i⟩,
   ⟨0x312380, 1, 0, 1, 0, fun _ _ => .BC_STAT_ALL .voltage⟩,
   ⟨0x312480, 8, 0x100, 1, 0, fun i _ => .BC_STAT_G .voltage i⟩,
   ⟨0x312490, 8, 0x100, 1, 4, fun i j => .BC_MASK .voltage i j⟩,
   ⟨0x313000, 8, 0x100, 1, 0x0, fun i _ => .MTR_PI_CFG i⟩,
   ⟨0x313004, 8, 0x100, 1, 0x0, fun i _ => .MTR_PI_WT i⟩,
   ⟨0x313008, 8, 0x100, 1, 0x0, fun i _ => .MTR_PI_STAT i⟩,
   ⟨0x313880, 1, 0, 1, 0, fun _ _ => .BC_STAT_ALL .pulse⟩,
   ⟨0x313980, 8, 0x100, 1, 0, fun i _ => .BC_STAT_G .pulse i⟩,
   ⟨0x313990, 8, 0x100, 1, 4, fun i j => .BC_MASK .pulse i j⟩]

/-- The REST rows of the register map, in ascending base. -/
def rowsRest : List RegRow :=
  [⟨0x320000, 1, 0x0, 1, 0x0, fun _ _ => .TWN_CFG⟩,
   ⟨0x320004, 1, 0x0, 1, 0x0, fun _ _ => .TWN_TIMERS⟩,
   ⟨0x320008, 1, 0x0, 1, 0x0, fun _ _ => .TWN_LEASE⟩,
   ⟨0x32000C, 1, 0x0, 1, 0x0, fun _ _ => .TWN_STAT⟩,
   ⟨0x320010, 1, 0x0, 1, 0x0, fun _ _ => .TWN_CLAIM⟩,
   ⟨0x320014, 1, 0x0, 1, 0x0, fun _ _ => .TWN_PEER_CLAIM⟩,
   ⟨0x320018, 1, 0x0, 1, 0x0, fun _ _ => .TWN_MIRROR⟩,
   ⟨0x32001C, 1, 0x0, 1, 0x0, fun _ _ => .TWN_HANDOVERS⟩,
   ⟨0x320020, 1, 0x0, 1, 0x0, fun _ _ => .TWN_EVT⟩,
   ⟨0x320040, 16, 0x4, 1, 0x0, fun i _ => .TWN_HLOCAL i⟩,
   ⟨0x320080, 16, 0x4, 1, 0x0, fun i _ => .TWN_HPEER i⟩,
   ⟨0x330000, 4, 0x4, 1, 0x0, fun i _ => .SEC_DEVID i⟩,
   ⟨0x330010, 1, 0x0, 1, 0x0, fun _ _ => .SEC_STAT⟩,
   ⟨0x330014, 1, 0x0, 1, 0x0, fun _ _ => .SEC_OWNER_LO⟩,
   ⟨0x330018, 1, 0x0, 1, 0x0, fun _ _ => .SEC_OWNER_HI⟩,
   ⟨0x33001C, 1, 0x0, 1, 0x0, fun _ _ => .SEC_OWNER_GEN⟩,
   ⟨0x330020, 1, 0x0, 1, 0x0, fun _ _ => .SEC_CTR_LO⟩,
   ⟨0x330024, 1, 0x0, 1, 0x0, fun _ _ => .SEC_CTR_HI⟩,
   ⟨0x330028, 1, 0x0, 1, 0x0, fun _ _ => .SEC_JROOTS⟩,
   ⟨0x33002C, 1, 0x0, 1, 0x0, fun _ _ => .SEC_TAMPER_CFG⟩,
   ⟨0x330030, 1, 0x0, 1, 0x0, fun _ _ => .SEC_TAMPER_IN⟩,
   ⟨0x330034, 1, 0x0, 1, 0x0, fun _ _ => .SEC_TAMPER_CNT⟩,
   ⟨0x330038, 1, 0x0, 1, 0x0, fun _ _ => .SEC_UDP⟩,
   ⟨0x33003C, 1, 0x0, 1, 0x0, fun _ _ => .SEC_EVT⟩,
   ⟨0x340000, 1, 0x0, 1, 0x0, fun _ _ => .MBX_CFG⟩,
   ⟨0x340004, 1, 0x0, 1, 0x0, fun _ _ => .MBX_ABORTS⟩,
   ⟨0x340008, 1, 0x0, 1, 0x0, fun _ _ => .MBX_TWIN⟩,
   ⟨0x350000, 1, 0x0, 1, 0x0, fun _ _ => .EVR_CFG⟩,
   ⟨0x350004, 1, 0x0, 1, 0x0, fun _ _ => .EVR_STAT⟩,
   ⟨0x350008, 1, 0x0, 1, 0x0, fun _ _ => .EVR_FENCE⟩,
   ⟨0x35000C, 1, 0x0, 1, 0x0, fun _ _ => .EVR_PSEQ⟩,
   ⟨0x350010, 5, 0x4, 1, 0x0, fun i _ => .EVR_DROP i⟩,
   ⟨0x350024, 1, 0x0, 1, 0x0, fun _ _ => .EVR_OVERWR⟩,
   ⟨0x350028, 1, 0x0, 1, 0x0, fun _ _ => .EVR_NAND⟩,
   ⟨0x35002C, 1, 0x0, 1, 0x0, fun _ _ => .EVR_CAPLEN⟩,
   ⟨0x350030, 1, 0x0, 1, 0x0, fun _ _ => .EVR_EVT⟩,
   ⟨0x360000, 1, 0x0, 1, 0x0, fun _ _ => .UPD_CFG⟩,
   ⟨0x360004, 1, 0x0, 1, 0x0, fun _ _ => .UPD_STAT⟩,
   ⟨0x360008, 1, 0x0, 1, 0x0, fun _ _ => .UPD_SESSION⟩,
   ⟨0x36000C, 1, 0x0, 1, 0x0, fun _ _ => .UPD_HOLDER_IP4⟩,
   ⟨0x360010, 1, 0x0, 1, 0x0, fun _ _ => .UPD_OFFSET⟩,
   ⟨0x360014, 1, 0x0, 1, 0x0, fun _ _ => .UPD_TOTAL⟩,
   ⟨0x360018, 1, 0x0, 1, 0x0, fun _ _ => .UPD_VER_A⟩,
   ⟨0x36001C, 1, 0x0, 1, 0x0, fun _ _ => .UPD_VER_B⟩,
   ⟨0x360020, 1, 0x0, 1, 0x0, fun _ _ => .UPD_LEFT⟩,
   ⟨0x360024, 1, 0x0, 1, 0x0, fun _ _ => .UPD_EVT⟩,
   ⟨0x370000, 1, 0x0, 1, 0x0, fun _ _ => .FLT_CFG⟩,
   ⟨0x370004, 1, 0x0, 1, 0x0, fun _ _ => .FLT_STATUS⟩,
   ⟨0x370008, 1, 0x0, 1, 0x0, fun _ _ => .FLT_ENC_STAT⟩,
   ⟨0x37000C, 1, 0x0, 1, 0x0, fun _ _ => .FLT_SYMS⟩,
   ⟨0x370010, 1, 0x0, 1, 0x0, fun _ _ => .FLT_RPTS⟩,
   ⟨0x370014, 1, 0x0, 1, 0x0, fun _ _ => .FLT_EVT⟩,
   ⟨0x380000, 1, 0x0, 1, 0x0, fun _ _ => .QUE_PERR⟩,
   ⟨0x380004, 1, 0x0, 1, 0x0, fun _ _ => .QUE_EVT⟩,
   ⟨0x380100, 20, 0x4, 1, 0x0, fun i _ => .QUE_X_STAT i⟩,
   ⟨0x380400, 208, 0x4, 1, 0x0, fun i _ => .QUE_STAT i⟩,
   ⟨0x380800, 16, 0x4, 1, 0x0, fun i _ => .QUE_UPLOST i⟩]

/-- The rows of the window that holds an offset (R552). -/
def rowsFor (off : Nat) : List RegRow :=
  if off < 0x10000 then rowsHif else if off < 0x20000 then rowsClk else if off < 0x30000 then rowsNewt
  else if off < 0x40000 then rowsTsu else if off < 0x80000 then rowsSwx else if off < 0x100000 then rowsYrd
  else if off < 0x300000 then rowsLne else if off < 0x310000 then rowsDrv else if off < 0x320000 then rowsMtr
  else rowsRest

/-- The index of `d` among `n` places `s` apart; a single place has `n = 1`. -/
def RegRow.index (n s d : Nat) : Nat := if n ≤ 1 then 0 else if s = 0 then 0 else min (d / s) (n - 1)

/-- The register of a row at an offset, if the row has one there. -/
def RegRow.at (r : RegRow) (off : Nat) : Option Reg :=
  if off < r.base then none
  else
    let d := off - r.base
    let i := RegRow.index r.n1 r.s1 d
    let d1 := d - i * r.s1
    let j := RegRow.index r.n2 r.s2 d1
    if d1 = j * r.s2 then some (r.reg i j) else none

/-- The register at a BAR0 offset; none at a reserved offset (R553). -/
def Reg.ofOffset (off : Nat) : Option Reg := (rowsFor off).findSome? (fun r => r.at off)

/-- How many register addresses a list of rows holds. -/
def rowCount (l : List RegRow) : Nat := (l.map (fun r => r.n1 * r.n2)).foldl (· + ·) 0

/-- The registers of BAR0 (R564). -/
def bar0Count : Nat :=
  rowCount rowsHif + rowCount rowsClk + rowCount rowsNewt + rowCount rowsTsu + rowCount rowsSwx + rowCount rowsYrd
  + rowCount rowsLne + rowCount rowsDrv + rowCount rowsMtr + rowCount rowsRest

/-- A mask of the bits `hi` to `lo`. -/
def Fld.mask (f : Fld) : BitVec 32 := ((BitVec.allOnes 32) >>> (31 - (f.hi - f.lo))) <<< f.lo
/-- The number of bits of a span. -/
def Fld.width (f : Fld) : Nat := f.hi - f.lo + 1
/-- The value of a span in a register word. -/
def Fld.get (f : Fld) (w : BitVec 32) : Nat := (w.toNat >>> f.lo) % 2 ^ (f.hi - f.lo + 1)
/-- A register word with one span replaced, the value taken modulo the span's width. -/
def Fld.set (f : Fld) (w : BitVec 32) (v : Nat) : BitVec 32 :=
  (w &&& ~~~ f.mask) ||| BitVec.ofNat 32 ((v % 2 ^ (f.hi - f.lo + 1)) <<< f.lo)

/-- True of an access type whose bits the host writes as values. -/
def Access.isHost : Access → Bool
  | .RW => true | .RWL => true | .RWP => true | _ => false

/-- The bits of a register that hold written values (RW, RWL, RWP). -/
def Reg.hostMask (r : Reg) : BitVec 32 :=
  r.fields.foldl (fun m f => if f.acc.isHost then m ||| f.span.mask else m) 0#32

/-! ## The register file: registers in ascending offset, none listed at its reset value. -/

/-- The register values that differ from reset, in ascending offset. -/
abbrev RegFile := List (Reg × BitVec 32)

/-- The value of a register. -/
def RegFile.get : RegFile → Reg → BitVec 32
  | [], r => r.reset
  | (k, v) :: t, r => if k.offset = r.offset then v else RegFile.get t r

/-- The file without the register at an offset. -/
def RegFile.erase (l : RegFile) (o : Nat) : RegFile := l.filter (fun p => p.1.offset != o)

/-- The file with an entry put in its place in ascending offset. -/
def RegFile.insert : RegFile → Reg → BitVec 32 → RegFile
  | [], r, v => [(r, v)]
  | (k, x) :: t, r, v =>
    if r.offset < k.offset then (r, v) :: (k, x) :: t
    else if k.offset = r.offset then (r, v) :: t
    else (k, x) :: RegFile.insert t r v

/-- The file with a register's value replaced; a register at its reset value is not listed. -/
def RegFile.put (l : RegFile) (r : Reg) (v : BitVec 32) : RegFile :=
  if v = r.reset then RegFile.erase l r.offset else RegFile.insert l r v

end Sys2Proof.Machine
end

