-- ==== Sys2Proof/Machine/State.lean ====
section
/-! DEFINITION. Sys2Proof/Machine/State.lean: the whole state of the module as plain data. Every architected register
field stands in the register files `cfg` (what the host writes: RW, RWL, RWP) and `sts` (what the module writes: RO, W1C,
W1S); the records below hold the state that the manual gives the module and no register shows. -/
namespace Sys2Proof.Machine

/-- One PWM period at a drive pad (R296 to R299): its on-time, its length and the start of its on-time, in DRV cycles, and
whether the pad is high during the on-time. An on-time past the end of the period wraps to its start. -/
structure PwmForm where
  on : Nat
  per : Nat
  start : Nat
  high : Bool
  deriving DecidableEq, Repr

/-- What a step of the module does to the world outside it, the model's own record of it (newest first). (DEDUCED, log 149) -/
inductive Out where
  /-- octets written to host memory (R48) -/
  | hostWrite (addr : Nat) (data : List Byte)
  /-- an MSI-X message of a vector: its table address and data (R61) -/
  | msix (vec addr data : Nat)
  /-- the value that a register read with effects returned, and its side -/
  | readData (side : Side) (value : Nat)
  /-- a carrier starts on a chain: channel, the yard's YRD_PHY options (R71), power in 0.25 dBm steps, airtime in TSU ticks, the
  PSDU -/
  | carrier (chain yard chan phy : Nat) (power : Int) (airtime : Nat) (psdu : List Byte)
  /-- a carrier ends -/
  | carrierEnd (chain yard : Nat)
  /-- a frame leaves a port; `poison` marks an inverted FCS (R248) -/
  | portFrame (port : Nat) (data : List Byte) (poison : Bool)
  /-- a datagram leaves M (R237, R387) -/
  | udp (ip port : Nat) (data : List Byte)
  /-- the answer to an envelope of UDP port 5694: CTR, status, DETAIL, RESULT (R387) -/
  | udpAnswer (ip port ctr status detail result : Nat)
  /-- M3 sends a PTP message of a domain on a port (R261): its messageType, and of an Announce clockClass, priority1, priority2
  and the grandmaster's clockIdentity -/
  | ptp (dom port kind : Nat) (fields : List Nat)
  /-- M3 sends an R-APS message on a ring port (R238) -/
  | raps (port kind : Nat)
  /-- a PPS_OUT pulse: the whole second of output time, and its width in ms (R287) -/
  | ppsOut (second : Int) (width : Nat)
  /-- what a drive pad does from now on: its PWM period, or high impedance (R296) -/
  | pwm (ch : Nat) (form : Option PwmForm)
  /-- a claim-bus frame (R349): claim, configured PREF, role, HEALTHY; its CRC-8 is not computed -/
  | claimBus (claim pref role : Nat) (healthy : Bool)
  /-- a frame on the twin lane (R349, R358): the claim and role of its header, and its body -/
  | twinLane (claim role : Nat) (body : TwinBody)
  /-- a mailbox message on the twin lane (R424) -/
  | twinMail (ch : Nat) (msg : List Byte)
  /-- an answer on the USB maintenance port (R445) -/
  | usb (data : List Byte)
  /-- a message in the mailbox channel's slot becomes visible to its receiver (R411) -/
  | mailbox (ch : Nat) (msg : List Byte)
  /-- the module leaves the PCIe link (R63, R497) -/
  | linkLost
  deriving DecidableEq, Repr

/-- Where a descriptor came from: a submission ring; a SEALED descriptor `outer` of a ring (R57); or a sealed envelope
of UDP port 5694 (R387). -/
inductive Src where
  | ring (n : Nat)
  | sealedRing (outer : Nat)
  | sealedUdp (ip port : Nat)
  deriving DecidableEq, Repr

/-- How far a descriptor has come. -/
inductive Stage where
  /-- fetched, not yet started in ring order (R52) -/
  | waiting
  /-- started; its action has not begun (held by a queue, the duty budget or presence) -/
  | queued
  /-- launch-timed and accepted; no slot armed yet (R54) -/
  | launchWait
  /-- a launch slot is armed (R281) -/
  | armed
  /-- its slot has fired and its action is to begin -/
  | fired
  /-- its action has begun (R55, R58: it runs to its end) -/
  | begun
  deriving DecidableEq, Repr

/-- A fetched descriptor (R43), until its final completion is produced (R52). -/
structure Desc where
  did : Nat
  src : Src
  op : Nat
  noComp : Bool
  fence : Bool
  launch : Bool
  tag : Nat
  target : Nat
  launchTime : Nat
  addr : Nat
  len : Nat
  deadline : Nat
  /-- bytes 32 to 63, little-endian -/
  param : BitVec 256
  /-- the data buffer as it was read, for "in" opcodes -/
  buf : List Byte
  stage : Stage
  /-- at fetch: raw count, output time, and the nanosecond counter of compatibility mode -/
  at_ : Nat
  atOut : Int
  atNs : Nat
  /-- an interim DUTY_DEFER was posted (R47) -/
  interim : Bool
  /-- LATE displaces OK (R54) -/
  late : Bool
  /-- output time at which the action began (R46) -/
  actTime : Option Int
  /-- fetched before a function reset: its completion is discarded (R63) -/
  discard : Bool
  /-- the word of its final completion that is to fail parity in the post queue (R248) -/
  postBad : Option Nat
  /-- a work value that the action keeps between its steps (copies left, sub-results) -/
  work : Nat
  deriving DecidableEq, Repr

/-- A final or interim completion before it is written to its ring (R46). -/
structure CEnt where
  sq : Nat
  tag : Nat
  status : Nat
  detail : Nat
  trunc : Bool
  data : Bool
  interim : Bool
  xfer : Nat
  actTime : Int
  result : Nat
  /-- the octets for the data buffer, written before the entry (R48), and the buffer's address -/
  octets : List Byte
  addr : Nat
  /-- NOCOMP suppresses the entry: the data buffer alone is written (R43) -/
  silent : Bool
  /-- the word of the entry that fails parity (R248) -/
  bad : Option Nat
  deriving DecidableEq, Repr

/-- An event on its way to the recorder (R450, R453). -/
structure Ev where
  src : Nat
  code : Nat
  sev : Nat
  args : List Nat
  /-- raw count at which the block recorded it; CTL cycles are 5 TSU ticks -/
  at_ : Nat
  deriving DecidableEq, Repr

/-- A record of the event store (R450). -/
structure Rec where
  seq : Nat
  rtc : Nat
  gen : Nat
  sev : Nat
  src : Nat
  code : Nat
  args : List Byte
  deriving DecidableEq, Repr

/-- A calendar anchor (R454). -/
structure Anchor where
  firstSeq : Nat
  rtc : Nat
  cal : List Byte
  deriving DecidableEq, Repr

/-- The PCIe function's identity and configuration (R27, R28), and what the host has set of it. -/
structure Pcie where
  /-- Vendor ID, as the PCI-SIG assigned it to Vexpol -/
  vendor : Nat
  device : Nat
  classCode : Nat
  /-- the link as trained: generation 1 to 3, and lanes 1, 2 or 4; 0 while the link is down -/
  gen : Nat
  width : Nat
  /-- max payload size and max read request size in octets, as the host has set them -/
  maxPayload : Nat
  maxRead : Nat
  /-- the most outstanding non-posted reads -/
  reads : Nat
  /-- the host has enabled ASPM L1 -/
  aspmL1 : Bool
  /-- an error stands in AER: a read of host memory has failed (R62) -/
  aer : Bool
  /-- the addresses assigned to BAR0, BAR2 and BAR4, each 64-bit and non-prefetchable -/
  bar0 : Nat
  bar2 : Nat
  bar4 : Nat
  deriving DecidableEq, Repr

/-- The sizes of BAR0, BAR2 and BAR4 in octets (R28). -/
def barSizes : List Nat := [16777216, 65536, 65536]

/-- Configuration space as PCI Express leaves it at reset. (PRESUMED, log 177) -/
def Pcie.reset : Pcie :=
  { vendor := Config.vendorId.toNat, device := 0x9400, classCode := 0x028000, gen := 0, width := 0, maxPayload := 128
    maxRead := 512, reads := 64, aspmL1 := false, aer := false, bar0 := 0, bar2 := 0, bar4 := 0 }

/-- The host interface: what HIF's registers do not show (R34 to R66). -/
structure Hif where
  /-- the tail acted on, per submission ring -/
  sqTail : Tbl Nat
  /-- the value last written to each BAR2 offset (R42) -/
  db : Tbl Nat
  /-- BAR2 offsets whose latest write is latched and not acted on (R36, R65) -/
  latched : List Nat
  /-- expected phase, per submission ring (R40) -/
  sqPhase : Tbl Bool
  /-- head, per completion ring -/
  cqHead : Tbl Nat
  /-- phase written, per completion ring -/
  cqPhase : Tbl Bool
  /-- unsignalled entries, per completion ring (R61) -/
  cqUnsig : Tbl Nat
  /-- raw count of the first unsignalled entry -/
  cqFirst : Tbl Nat
  /-- completions held, oldest first (R49, R62, R65) -/
  cqHeld : List CEnt
  /-- head, per event ring -/
  eqHead : Tbl Nat
  eqPhase : Tbl Bool
  /-- end of the running 50 µs interval as a raw count; 0: none runs (R51) -/
  eqIvl : Tbl Nat
  /-- event ring entries held during a pause or while Bus Master Enable is clear: ring and entry, oldest first -/
  eqHeld : List (Nat × Rec)
  /-- fetched descriptors without a final completion, in fetch order -/
  inflight : List Desc
  /-- the next descriptor number -/
  nextDid : Nat
  /-- the ring last served, per priority (R53) -/
  rr : Tbl Nat
  /-- consecutive descriptors fetched from higher-priority rings while a lower one waits (R53) -/
  consec : Nat
  /-- Bus Master Enable of configuration space (R62) -/
  bme : Bool
  /-- configuration requests complete without CRS (R67) -/
  linkUp : Bool
  pcie : Pcie
  /-- PERST_N is released (R67) -/
  perst : Bool
  /-- head of the host receive ring, its phase, unsent message interval end (R239, R240) -/
  hrxHead : Nat
  hrxPhase : Bool
  hrxIvl : Nat
  deriving DecidableEq, Repr

/-- Its value at reset (DESIGN CHOICE, log 5; PRESUMED, log 14) -/
def Hif.reset : Hif :=
  { sqTail := [], db := [], latched := [], sqPhase := [], cqHead := [], cqPhase := [], cqUnsig := [], cqFirst := []
    cqHeld := [], eqHead := [], eqPhase := [], eqIvl := [], eqHeld := [], inflight := [], nextDid := 0, rr := []
    consec := 0, bme := true, linkUp := false, pcie := Pcie.reset, perst := false, hrxHead := 0, hrxPhase := true, hrxIvl := 0 }

/-- The event recorder and the journal gate (R453 to R467): what EVR's registers do not show. -/
structure Evr where
  /-- the store: slot and record (R456) -/
  store : List (Nat × Rec)
  /-- records admitted since the last page write, oldest first (R459) -/
  page : List Rec
  /-- raw count of the page's first record -/
  pageAt : Nat
  /-- generation of the newest calendar anchor (R454) -/
  gen : Nat
  /-- raw count at which a trigger stops the capture (R465) -/
  trigAt : Option Nat
  /-- entries of the capture ring, newest first (R464) -/
  cap : List (List Byte)
  /-- a stopped capture stands in LPDDR4X, also after a module reset (R465) -/
  capStopped : Bool
  /-- next GSEQ -/
  gseq : Nat
  /-- gate reads per core -/
  points : Tbl Nat
  /-- entries since the last DIGEST entry -/
  sinceDigest : Nat
  /-- entries of the export still to be replayed (R467); none outside a replay or after it has stopped -/
  replay : Option (List (List Byte))
  /-- entries replayed -/
  replayed : Nat
  deriving DecidableEq, Repr

/-- Its value at reset (DESIGN CHOICE, log 5) -/
def Evr.reset : Evr :=
  { store := [], page := [], pageAt := 0, gen := 0, trigAt := none, cap := [], capStopped := false, gseq := 0
    points := [], sinceDigest := 0, replay := none, replayed := 0 }

/-- One time domain (R267 to R269): what its registers do not show. -/
structure Dom where
  offset : Int
  rate : Int
  anchor : Nat
  /-- consecutive measurements below SYNC_THR (R269) -/
  good : Nat
  /-- clockIdentity of the chosen master (R284), its octets as a number, the first the most significant; and its clockClass,
  priority1 and priority2 -/
  gm : Nat
  gmClass : Nat
  gmPrio1 : Nat
  gmPrio2 : Nat
  /-- a master is chosen -/
  master : Bool
  /-- raw count of the chosen master's last Announce -/
  annAt : Nat
  /-- the Sync under way: 0 none, 1 awaits its Follow_Up, 2 whole (R261) -/
  sync : Nat
  /-- raw count of the last PPS_IN edge that the domain used (R286) -/
  edgeAt : Nat
  /-- raw counts at which the next Announce, Sync and delay request leave (R261) -/
  annNext : Nat
  syncNext : Nat
  reqNext : Nat
  deriving DecidableEq, Repr

def Dom.reset : Dom :=
  { offset := 0, rate := 0, anchor := 0, good := 0, gm := 0, gmClass := 0, gmPrio1 := 0, gmPrio2 := 0, master := false
    annAt := 0, sync := 0, edgeAt := 0, annNext := 0, syncNext := 0, reqNext := 0 }

/-- The slot classes of R281; `radio` and `port` slots belong to a chain and a port. -/
inductive SlotClass where
  | radio (chain : Nat)
  | port (p : Nat)
  | drive
  | general
  deriving DecidableEq, Repr

/-- An armed launch slot (R281): its class, its action's descriptor, its instant of output time. A scene's slots carry
the scene's number (R187). -/
structure Slot where
  cls : SlotClass
  did : Nat
  time : Nat
  scene : Option Nat
  /-- radio slots: the frame's yard; bit y set for every yard the frame serves -/
  yards : Nat
  /-- the slot was got after the latest arming instant, or a forward step has passed its instant: it fires at once, late (R281,
  R283) -/
  late : Bool
  deriving DecidableEq, Repr

/-- An entry of a transmit timestamp queue (R278). -/
structure TsEnt where
  tag : Nat
  port : Nat
  poison : Bool
  late : Bool
  seq : Nat
  raw : Nat
  time : Int
  deriving DecidableEq, Repr

/-- What a read of TSU_TIME_LO latched (R283). -/
structure TimeLatch where
  timeHi : Nat
  rawLo : Nat
  rawHi : Nat
  res : Nat
  deriving DecidableEq, Repr

def TimeLatch.reset : TimeLatch := { timeHi := 0, rawLo := 0, rawHi := 0, res := 0 }

/-- The time unit (R263 to R288): what TSU's registers do not show. -/
structure Tsu where
  /-- the raw counter (R266) -/
  raw : Nat
  domA : Dom
  domB : Dom
  /-- the residue RES (R270) -/
  res : Int
  /-- the 80-bit counter of the compatibility mode (R275) -/
  compat : Nat
  /-- the raw count of the switch that began the slew, and the slew steps made since (R271) -/
  slewFrom : Nat
  slewN : Nat
  latHost : TimeLatch
  latFw : TimeLatch
  /-- last PPS_IN edge as output time and as raw count, the last that arrived as expected, and the latched upper halves (R265,
  R286) -/
  ppsIn : Nat
  ppsRaw : Nat
  ppsAt : Nat
  ppsHiHost : Nat
  ppsHiFw : Nat
  slots : List Slot
  /-- transmit timestamp queues, oldest first, per port (R278) -/
  tsq : Tbl (List TsEnt)
  tsqSeq : Tbl Nat
  /-- raw count from which TSQ_OVF may be recorded again, per port (R279) -/
  tsqRec : Tbl Nat
  /-- last second of output time at which PPS_OUT rose (R287) -/
  ppsSec : Int
  deriving DecidableEq, Repr

/-- Its value at reset (DESIGN CHOICE, log 5) -/
def Tsu.reset : Tsu :=
  { raw := 0, domA := Dom.reset, domB := Dom.reset, res := 0, compat := 0, slewFrom := 0, slewN := 0, latHost := TimeLatch.reset
    latFw := TimeLatch.reset, ppsIn := 0, ppsRaw := 0, ppsAt := 0, ppsHiHost := 0, ppsHiFw := 0, slots := [], tsq := [], tsqSeq := []
    tsqRec := [], ppsSec := 0 }

/-- The six calendar fields, one octet each, as the calendar unit holds them (R517). -/
structure Cal where
  year : Nat
  month : Nat
  day : Nat
  hour : Nat
  min : Nat
  sec : Nat
  deriving DecidableEq, Repr

/-- The calendar after a newt power-on reset (R510). -/
def Cal.reset : Cal := { year := 0, month := 1, day := 1, hour := 0, min := 0, sec := 0 }

/-- What a read of RTC_TICK_LO latched (R523). -/
structure RtcLatch where
  tickHi : Nat
  cal : Cal
  deriving DecidableEq, Repr

def RtcLatch.reset : RtcLatch := { tickHi := 0, cal := Cal.reset }

/-- An alarm pair (R521, R532): the two register words in effect. -/
structure Alarm where
  lo : Nat
  hi : Nat
  deriving DecidableEq, Repr

def Alarm.reset : Alarm := { lo := 0, hi := 0 }

/-- The newt domain and the control side of its bridge (R506 to R527): what its registers do not show. -/
structure Newt where
  /-- the RTC tick count, 48 bits (R513) -/
  tick : Nat
  /-- TSU ticks counted toward the next RTC tick, in 1/128 TSU tick (a nominal RTC tick is 1,953,125 of them); more than one
  RTC tick's worth only while the count waits for a second carry -/
  phase : Nat
  cal : Cal
  alm0 : Alarm
  alm1 : Alarm
  /-- compensation residue, in 10^-14 tick (R515) -/
  residue : Int
  /-- whole ticks still to be adjusted in the running window -/
  adjust : Int
  /-- _LO words held on the control side (R524) -/
  calLo : Nat
  almLo0 : Nat
  almLo1 : Nat
  /-- staged pairs on their way to the newt domain (R524) -/
  stCal : Option (Nat × Nat)
  stAlm0 : Option (Nat × Nat)
  stAlm1 : Option (Nat × Nat)
  latHost : RtcLatch
  latFw : RtcLatch
  /-- matches while the main supply was absent, saturating at 255 (R521) -/
  unpow0 : Nat
  unpow1 : Nat
  /-- cause with which the oscillator-stopped flag was set and not yet recorded (R527) -/
  oscUnrec : Option Nat
  /-- VBAT_LOW became 1 and is not yet recorded (R509) -/
  vbatUnrec : Bool
  /-- adjustments made so far in the running window -/
  applied : Int
  /-- the count's multiple of 524,288 at which the running window began (R515) -/
  win : Nat
  /-- XO_LF has stopped while the main supply is absent: the count stops (R514) -/
  halted : Bool
  deriving DecidableEq, Repr

def Newt.reset : Newt :=
  { tick := 0, phase := 0, cal := Cal.reset, alm0 := Alarm.reset, alm1 := Alarm.reset, residue := 0, adjust := 0
    calLo := 0, almLo0 := 0, almLo1 := 0, stCal := none, stAlm0 := none, stAlm1 := none
    latHost := RtcLatch.reset, latFw := RtcLatch.reset, unpow0 := 0, unpow1 := 0
    oscUnrec := some 0, vbatUnrec := false, applied := 0, win := 0, halted := false }

/-- Where the module stands between power and service (R495 to R500, R442). -/
inductive Phase where
  /-- no main supply, or the power-on reset holds every island (R495) -/
  | off
  /-- reset released; the start of R500 is under way -/
  | starting
  /-- firmware runs (HIF_STATUS.READY is 1) -/
  | run
  /-- the lizard loader runs (R442) -/
  | lizard
  deriving DecidableEq, Repr

/-- The clock unit (R472 to R500): what CLK's registers do not show. -/
structure Clk where
  phase : Phase
  /-- consecutive windows outside tolerance, per source (R476) -/
  outWin : Tbl Nat
  /-- consecutive windows within tolerance since the count of R474, per source (R478) -/
  inWin : Tbl Nat
  /-- sources that have passed their count of R474 since they failed (R478) -/
  counted : List Nat
  /-- per source, the raw count at which it failed or its judging began anew; 0 is the start (R474, R475) -/
  judgeAt : Tbl Nat
  /-- domains whose clock is stopped for a change of source, and the raw count at which it restarts (R479, R480) -/
  stopped : Tbl Nat
  /-- per source, the number of the last monitoring window that has ended (R476) -/
  winAt : Tbl Nat
  /-- the time unit runs on RCO for want of XO_MAIN (R483) -/
  timeRco : Bool
  /-- two chains at most may emit (R493) -/
  regionHot : Bool
  /-- lanes that are gated (R485) -/
  laneGated : List Nat
  /-- the root PLL relocks after a source switch (R484) -/
  relock : Bool
  /-- VIN is above the power-on level (R495) -/
  vin : Bool
  /-- USB_VBUS is above 4.0 V (R546) -/
  vbus : Bool
  deriving DecidableEq, Repr

/-- Its value at reset (DESIGN CHOICE, log 5) -/
def Clk.reset : Clk :=
  { phase := .starting, outWin := [], inWin := [], counted := [], judgeAt := [], stopped := [], winAt := [], timeRco := false
    regionHot := false, laneGated := []
    relock := false, vin := true, vbus := false }

/-- The event log in NAND (R459 to R462): written pages, oldest first, 32 pages to a block; kept across power cuts. -/
structure NvLog where
  pages : List (List Rec)
  /-- the place of the next page among the log's 16,384 -/
  place : Nat
  /-- the spare blocks that stand in for retired ones: place of the block, and number of the spare; 0 is none (R461) -/
  moved : Tbl Nat
  /-- blocks retired -/
  retired : Nat
  spares : Nat
  /-- a block failed with no spare left (R462) -/
  sparesOut : Bool
  /-- the calendar anchor table: entry and anchor (R454) -/
  anchors : List (Nat × Anchor)
  /-- the generation of the next anchor -/
  nextGen : Nat
  /-- the capture export region: one export (R466) -/
  exportData : Option (List Byte)
  /-- the entries of the export after its header, oldest first, for a replay -/
  exportEntries : List (List Byte)
  deriving DecidableEq, Repr

def NvLog.reset : NvLog :=
  { pages := [], place := 0, moved := [], retired := 0, spares := 32, sparesOut := false, anchors := [], nextGen := 0, exportData := none
    exportEntries := [] }

/-- A rolling test in progress (R83): the lane under test, its shadow (none: a SPARE lane tested in place), whether the
lane has handed its entry over, and the raw count at its start. -/
structure LaneTest where
  lane : Nat
  shadow : Option Nat
  handed : Bool
  at_ : Nat
  deriving DecidableEq, Repr

/-- A lane that is to take the entry of a failed lane at its next item boundary (R87). -/
structure LaneMove where
  lane : Nat
  entry : Nat
  failed : Nat
  deriving DecidableEq, Repr

/-- A frame that was in progress on a lane when YARD_CTL freed it (R20, R106): the entry's yard, channel and mode, and the raw
count; a frame that began before it is received for that entry. -/
structure LaneLeave where
  lane : Nat
  yard : Nat
  chan : Nat
  mode : Nat
  at_ : Nat
  deriving DecidableEq, Repr

/-- The lane pool (R77 to R89): what LNE's and YRD's registers do not show. -/
structure Lanes where
  /-- the lane whose turn is next in the rolling self-test -/
  next : Nat
  /-- self-test is suspended and BIST_SUSPENDED recorded (R86) -/
  suspended : Bool
  /-- SPARES_LOW may be recorded (R89) -/
  lowArmed : Bool
  tests : List LaneTest
  moves : List LaneMove
  leaving : List LaneLeave
  /-- raw count at which the next lane test starts (R83) -/
  bistAt : Nat
  deriving DecidableEq, Repr

/-- Its value at reset (DESIGN CHOICE, log 5) -/
def Lanes.reset : Lanes :=
  { next := 0, suspended := false, lowArmed := true, tests := [], moves := [], leaving := [], bistAt := 0 }

/-- An entry that no writer has set: every field reads zero (R169). (DEDUCED, log 53) -/
def Stall.none : Stall :=
  { eui := 0, rolled := false, relay := false, sleepy := false, stale := false, state := 0, tol := 0, p := 0, listen := 0
    wakeSlot := 0, wakeEvery := 0, wakePhase := 0, hops := 0, parent := 0, key := 0, keyNext := 0, fcUp := 0, fcWin := 0
    fcDown := 0, joinFc := 0, pads := List.replicate 8 Option.none, sched := 0, epoch := 0, status := [], faults := 0
    energy := 0, fwver := 0, drift := 0, lastSeen := 0, syncAge := 0, dozeEnd := 0, user := 0, lastSf := 0
    dozeSf := Option.none, syncRaw := 0, joinAt := 0, adriftAt := 0, oldKey := 0, oldEp := 0, renew := 0, nextHeld := false
    acked := [], ansFc := 0, ansPsdu := [], ansAt := 0, fcSaved := 0, reports := [] }

/-- A paddock that nothing has set: no schedule and no scene (R175). -/
def Paddock.none : Paddock :=
  { valid := false, epoch := 0, rolling := false, sched := 0xFFFF, key := 0, keyNext := 0, fc := 0, sceneId := 0xFFFF
    sceneT := 0, user := 0, fcSaved := 0 }

/-- A stall key that the shed prepares for a node's join (R172): none until it is ready. -/
structure Prep where
  stall : Nat
  eui : Nat
  handle : Option Nat
  deriving DecidableEq, Repr

/-- What a unicast item carries. -/
inductive ItemKind where
  /-- a host item (R163) or an item of a schedule's distribution (R181) -/
  | msg
  /-- KEY PADDOCK of a paddock and epoch (R177, R201) -/
  | keyPad (pad epoch : Nat)
  /-- KEY STALL of an epoch (R198, R201) -/
  | keyStall (epoch : Nat)
  /-- the answer to a frame that came through a relay (R162) -/
  | relayed
  deriving DecidableEq, Repr

/-- A unicast downlink item (R145, R163, R177). -/
structure Item where
  id : Nat
  stall : Nat
  kind : ItemKind
  did : Option Nat
  /-- the schedule distribution that waits for it (R181) -/
  run : Option Nat
  cls : Nat
  body : List Byte
  deliv : Nat
  ackReq : Bool
  /-- output time from which it is eligible (R145) -/
  from_ : Int
  /-- raw count at which its hold in ADRIFT ends (R159) -/
  hold : Option Nat
  fc : Option Nat
  psdu : List Byte
  sent : Nat
  /-- raw count at which its acknowledgement window closes (R144) -/
  ackDue : Option Nat
  /-- its frame is offered or on the air -/
  busy : Bool
  /-- the account that holds it, with 1 where it is held as the frame itself and 0 where a refused answer would have carried it
  (R102, R568) -/
  held : Option (Nat × Nat)
  at_ : Nat
  deriving DecidableEq, Repr

/-- What a group job sends (R164, R181, R185, R188). -/
inductive JobKind where
  | group
  | schedule (run : Nat)
  | scene (id : Nat)
  | cancel (id : Nat)
  deriving DecidableEq, Repr

/-- A yard of a group job: repeats sent there, and the superframe of the last one (R148). -/
structure JobYard where
  yard : Nat
  sent : Nat
  last : Option Nat
  held : Option (Nat × Nat)
  deriving DecidableEq, Repr

/-- A group message under way. -/
structure Job where
  id : Nat
  kind : JobKind
  did : Option Nat
  pad : Nat
  cls : Nat
  body : List Byte
  repeats : Nat
  yards : List JobYard
  from_ : Int
  /-- output time by which a frame must end (R185) -/
  cut : Option Int
  fc : Option Nat
  deriving DecidableEq, Repr

/-- A schedule's distribution (R181): what it waits for, and the stalls whose item failed. -/
structure SchedRun where
  id : Nat
  did : Option Nat
  failed : Nat
  deriving DecidableEq, Repr

def Roll.reset : Roll :=
  { seq := 0, epoch := 0, phase := 0, pass := 0, start := 0, cursors := [], done := [], restarted := false, stragglers := 0 }

/-- A reconciliation record (R197). -/
structure Recon where
  feeder : Nat
  flags : Nat
  reported : Nat
  members : Nat
  start : Nat
  l : Nat
  b : Nat
  u : Int
  period : Nat
  deriving DecidableEq, Repr

/-- The stall state in NAND (R25, R135): tables with their counters, superframe numbers, the last claim epoch. -/
structure NvSeg where
  stalls : Tbl Stall
  pads : Tbl Paddock
  yardN : Tbl Nat
  claimEpoch : Nat
  deriving DecidableEq, Repr

def NvSeg.reset : NvSeg := { stalls := [], pads := [], yardN := [], claimEpoch := 0 }

/-- The latest answer to a join request of an EUI: the FC answered, raw count of the request, the answer's PSDU without FCS
(R133). -/
structure JoinAns where
  eui : Nat
  fc : Nat
  at_ : Nat
  psdu : List Byte
  deriving DecidableEq, Repr

/-- The segment: stall and paddock tables, and what M1 and M2 keep in LPDDR4X (R169 to R207). -/
structure Seg where
  stalls : Tbl Stall
  pads : Tbl Paddock
  admits : List Admit
  preps : List Prep
  /-- EUI and RTC tick of the last JOIN_REQUEST (R172) -/
  asked : List (Nat × Nat)
  joinAns : List JoinAns
  items : List Item
  jobs : List Job
  runs : List SchedRun
  /-- loaded schedules: ID and body (R181) -/
  scheds : List (Nat × List Byte)
  scenes : List Scene
  /-- next number for an item, job or run -/
  nextId : Nat
  /-- run-time parameters set by PARAM_WRITE (R165, R207): ID and value -/
  params : List (Nat × Nat)
  /-- stalls under way in the open rollover (R201) -/
  inflight : List Nat
  /-- stalls tried in the running pass of the rollover (R201) -/
  tried : List Nat
  /-- fault changes of a yard in the running 10 s period: raised and cleared (R192) -/
  storm : Tbl (Nat × Nat)
  /-- yards in summary mode -/
  summary : List Nat
  /-- reconciliation records of all feeders, newest first -/
  recon : List Recon
  /-- RTC tick of the start of the running interval, and per feeder B and U there (R195) -/
  reconAt : Nat
  reconB : Tbl Nat
  reconU : Tbl Nat
  /-- a GAP record lies inside the running interval (R196) -/
  reconGap : Bool
  /-- feeder and reconciliation parameters in effect since the interval's start (R207) -/
  reconPar : List (Nat × Nat)
  /-- rollover and persist parameters in effect (R207): ID and value -/
  inForce : List (Nat × Nat)
  /-- RTC tick of the last persist of the stall state (R135) -/
  savedAt : Nat
  /-- application messages received (R160) -/
  apps : Nat
  deriving DecidableEq, Repr

/-- Its value at reset (DESIGN CHOICE, log 5) -/
def Seg.reset : Seg :=
  { stalls := [], pads := [], admits := [], preps := [], asked := [], joinAns := [], items := [], jobs := [], runs := [], scheds := []
    scenes := [], nextId := 0, params := [], inflight := [], tried := [], storm := [], summary := [], recon := []
    reconAt := 0, reconB := [], reconU := [], reconGap := false, reconPar := [], inForce := [], savedAt := 0, apps := 0 }

/-- What a frame on the way to a transmitter chain is (R93). -/
inductive TxKind where
  | sceneNow (scene : Nat)
  | beacon
  /-- a group frame of a job -/
  | job (id : Nat)
  /-- an answer: its place in the list of answers -/
  | answer (id : Nat)
  /-- a timed frame or a unicast item -/
  | item (id : Nat)
  /-- a campaign frame: symbol, or descriptor with its FINAL bit -/
  | image (campaign : Nat)
  deriving DecidableEq, Repr

/-- A frame that asks the transmit arbiter for its chain (R93, R94). -/
structure TxReq where
  id : Nat
  kind : TxKind
  yard : Nat
  /-- every yard that the frame serves, a bit each (R187) -/
  yards : Nat
  chain : Nat
  chan : Nat
  mode : Nat
  len : Nat
  /-- raw count after which the carrier may not start any more -/
  latest : Option Nat
  /-- output time by which the frame must end (R127, R185) -/
  endBy : Option Int
  /-- the arbiter has refused it for want of a chain -/
  waited : Bool
  /-- the duty account that holds it (a scene-now frame, R104) -/
  heldBy : Option Nat
  /-- the item's words, and that it stands in the yard's downlink queue (R245, R251) -/
  words : Nat
  queued : Bool
  deriving DecidableEq, Repr

/-- A carrier on the air, or one that has ended and still matters for blanking (R69). -/
structure Carrier where
  id : Nat
  kind : TxKind
  yard : Nat
  chain : Nat
  chan : Nat
  mode : Nat
  start : Nat
  stop : Nat
  /-- the item that the frame carries beside its own purpose (R142) -/
  item : Option Nat
  on : Bool
  deriving DecidableEq, Repr

/-- The class that first charged a duty slot (R99, R222). -/
inductive ChargeClass where
  | reserved
  | ordinary
  | campaign (id : Nat)
  deriving DecidableEq, Repr

/-- A charged slot of 1 ms of a duty account (R99). -/
structure Charge where
  slot : Int
  cls : ChargeClass
  carrier : Nat
  deriving DecidableEq, Repr

/-- Emission of a carrier on a channel, for the dwell ledger (R97). -/
structure Dwell where
  start : Nat
  stop : Nat
  carrier : Nat
  deriving DecidableEq, Repr

/-- A frame that a lane recovered, with the key that link security needs (R79, R130). -/
structure Rx where
  lane : Nat
  yard : Nat
  chan : Nat
  mode : Nat
  frame : AirRx
  sic : Bool
  /-- the parent whose RELAY message carried it (R162) -/
  via : Option Nat
  /-- raw count and output time of its SFD (R265), and the words of its uplink item (R245) -/
  out : Int
  words : Nat
  deriving DecidableEq, Repr

/-- What an answer carries (R133, R142, R151, R152). -/
inductive AnsKind where
  /-- ANSWER, with an item of the stall's queue; `timed` where a TIMED item may be it: the stall was SYNC_STALE or DOZING as its
  frame came (R145) -/
  | answer (timed : Bool)
  /-- ANSWER, with a JOIN RESP -/
  | rejoin (resp : List Byte)
  /-- JOIN RESP to a JOIN REQ of an EUI -/
  | join (eui : Nat) (resp : List Byte)
  /-- the identical answer again -/
  | again (psdu : List Byte)
  deriving DecidableEq, Repr

/-- An answer that is due (R141). -/
structure Ans where
  id : Nat
  kind : AnsKind
  stall : Nat
  yard : Nat
  chan : Nat
  mode : Nat
  due : Nat
  fc : Nat
  /-- raw count of the frame answered -/
  at_ : Nat
  /-- offered to the arbiter -/
  asked : Bool
  deriving DecidableEq, Repr

/-- A yard's sequencer (R124 to R138). -/
structure SeqY where
  /-- current superframe number and the one before it -/
  n : Nat
  prev : Nat
  started : Bool
  /-- start of the current superframe: output time and raw count -/
  start : Int
  startRaw : Nat
  /-- output time at which the beacon ends (R127) -/
  beaconEnd : Int
  /-- paddocks announced, and the poll schedule: slot and place -/
  ann : List Nat
  dlChan : Nat
  dlMode : Nat
  /-- end of the DOWNLINK run under way, as output time -/
  runEnd : Option Int
  /-- highest beacon FC received or sent, and received (R130, R125); 0: none, FC + 1 otherwise -/
  fcSeen : Nat
  fcRx : Nat
  /-- the unit has become active and the yard has had no superframe since (R125) -/
  takeover : Bool
  /-- RESUME waits for the next beacon boundary (R75) -/
  wait : Bool
  /-- the poll windows that closed at the boundary are still to be judged: the number of the superframe that began there, and the
  raw count (R156) -/
  judge : Option (Nat × Nat)
  /-- ROLL, as this superframe's beacon carries it (R200) -/
  roll : Bool
  deriving DecidableEq, Repr

def SeqY.reset : SeqY :=
  { n := 0, prev := 0, started := false, start := 0, startRaw := 0, beaconEnd := 0, ann := [], dlChan := 0, dlMode := 0
    runEnd := none, fcSeen := 0, fcRx := 0, takeover := false, wait := false, judge := none, roll := false }

/-- A key in the key cache (R14): kind 0 stall, 1 paddock, 2 join; its stall, paddock or EUI; and its handle. -/
structure CacheKey where
  kind : Nat
  id : Nat
  handle : Nat
  deriving DecidableEq, Repr

/-- The air: sequencers, link security, transmitter chains, duty and dwell ledgers (R14, R69, R93 to R104, R124 to R150). -/
structure Air where
  seqs : Tbl SeqY
  reqs : List TxReq
  carriers : List Carrier
  /-- duty accounts: account number and its charges -/
  duty : Tbl (List Charge)
  dwell : Tbl (List Dwell)
  nextTx : Nat
  /-- most recently used first -/
  cache : List CacheKey
  /-- frames that wait for their key, in order (R14) -/
  waiting : List Rx
  /-- accepted frames in the yard uplink queues, oldest first -/
  accepted : List Rx
  /-- beacons received, on their way to the twin block (R130) -/
  beacons : List Rx
  answers : List Ans
  /-- frames accepted in the running second (R362) -/
  rxCount : Nat
  deriving DecidableEq, Repr

/-- Its value at reset (DESIGN CHOICE, log 5) -/
def Air.reset : Air :=
  { seqs := [], reqs := [], carriers := [], duty := [], dwell := [], nextTx := 0, cache := []
    waiting := [], accepted := [], beacons := [], answers := [], rxCount := 0 }

def ImgSlot.empty : ImgSlot := { state := 0, total := 0, data := [] }

/-- Node images and campaigns (R209 to R228). -/
structure Flt where
  slots : Tbl ImgSlot
  camps : List Campaign
  /-- changes of state so far (R229) -/
  latest : Nat
  /-- the campaigns as persisted in NAND (R224) -/
  saved : List Campaign
  /-- RTC ticks as the running period of 60 s began (R224) -/
  savedAt : Nat
  deriving DecidableEq, Repr

/-- Its value at reset (DESIGN CHOICE, log 5) -/
def Flt.reset : Flt := { slots := [], camps := [], latest := 0, saved := [], savedAt := 0 }

/-- An entry of the address table (R236): MAC address, VID, destination (0 to 2 Pp, 3 H, 4 M), raw count of its last
traffic. -/
structure AddrEnt where
  mac : Nat
  vid : Nat
  dest : Nat
  at_ : Nat
  deriving DecidableEq, Repr

/-- A frame in an egress queue (R243, R244): the number of its stored copy, its cells, whether the queue's shared cells hold
it, its octets as the destination receives them without FCS, the descriptor that sent it; of a frame that entered at a port the port
and the receive timestamp, as raw count and output time (R265); and the word of H's copy that is to fail parity. -/
structure EgFrame where
  fid : Nat
  cells : Nat
  shared : Bool
  data : List Byte
  vid : Nat
  did : Option Nat
  tsreq : Bool
  inPort : Option Nat
  stampRaw : Nat
  stampOut : Int
  bad : Option Nat
  deriving DecidableEq, Repr

/-- G.8032 on P0 and P1 (R238): what SWX_ERPS_STAT does not show. -/
structure Erps where
  on : Bool
  /-- ring ports with a signal failure -/
  failed : List Nat
  guardEnd : Option Nat
  /-- ends of the hold-off timers, per ring port -/
  hold : Tbl Nat
  wtrEnd : Option Nat
  /-- the R-APS message being sent: 0 NR, 1 NR with RB, 2 SF, and 4 more with DNF -/
  tx : Option Nat
  /-- its messages still to come of a burst of three, and the raw count at which the next leaves (ITU-T G.8032) -/
  txLeft : Nat
  txNext : Nat
  /-- node identity and BPR last received, per ring port, plus 1 -/
  pairs : Tbl Nat
  deriving DecidableEq, Repr

/-- W, the packet buffer and the queues (R232 to R259): what SWX's and QUE's registers do not show. -/
structure Swx where
  addrs : List AddrEnt
  /-- egress queues 0 to 39, oldest first -/
  egress : Tbl (List EgFrame)
  nextFid : Nat
  /-- deficit round robin: deficits by queue; per port, the class that is served and whether it has its quantum -/
  deficit : Tbl Nat
  turn : Tbl (Nat × Bool)
  /-- the automatic speed search: 0 seeks 10GBASE-R, 1 seeks 1000BASE-X; and the raw count at which it turned -/
  search : Tbl Nat
  searchAt : Tbl Nat
  /-- flushes since reset (R250) -/
  flushes : Nat
  /-- raw count until which QUE_POISON is not recorded again, per queue (R248) -/
  poisonRec : Tbl Nat
  /-- raw count at which the frame of the port's last launch slot ends (R283) -/
  launchEnd : Tbl Nat
  erps : Erps
  deriving DecidableEq, Repr

def Erps.reset : Erps :=
  { on := false, failed := [], guardEnd := none, hold := [], wtrEnd := none, tx := none, txLeft := 0, txNext := 0, pairs := [] }

/-- Its value at reset (DESIGN CHOICE, log 5) -/
def Swx.reset : Swx :=
  { addrs := [], egress := [], nextFid := 0, deficit := [], turn := [], search := [], searchAt := [], flushes := 0
    poisonRec := [], launchEnd := [], erps := Erps.reset }

/-- A change of a drive channel that waits for its period boundary (R310 to R313): its command or scene, its target, and the
launch time that it is due at. -/
structure DrvChange where
  ch : Nat
  did : Option Nat
  scene : Option Nat
  level : Nat
  fade : Nat
  clr : Bool
  due : Option Nat
  deriving DecidableEq, Repr

/-- What a drive channel holds beside its registers (R302 to R309). -/
structure DrvChan where
  /-- the level from which the fade started, its raw count and its length in ms -/
  from_ : Nat
  fadeAt : Nat
  fade : Nat
  /-- the next period boundary, in DRV cycles since HIF_SETUP_DONE -/
  next : Nat
  overLatch : Bool
  isOpen : Bool
  /-- the last MEASURED sample was above OVER_THR -/
  high : Bool
  /-- the MEASURED samples of the running 100 ms window: their number and sum, in 0.5 mV; and the window's number -/
  count : Nat
  sum : Nat
  window : Nat
  /-- the on-time that the channel's level gives, which its diagnosis class follows (R305) -/
  on : Nat
  /-- what the pad does; none: high impedance (R296) -/
  pad : Option PwmForm
  /-- raw count of the last probe instant -/
  probeAt : Nat
  deriving DecidableEq, Repr

/-- The drive block (R296 to R323). -/
structure Drv where
  chans : Tbl DrvChan
  /-- changes that wait, launch-timed ones in the order of R313 -/
  changes : List DrvChange
  /-- raw count of HIF_SETUP_DONE: the shared DRV counter starts -/
  setupAt : Nat
  /-- 100 ms NTC readings done, per group -/
  ntcReads : Tbl Nat
  deriving DecidableEq, Repr

def DrvChan.reset : DrvChan :=
  { from_ := 0, fadeAt := 0, fade := 0, next := 0, overLatch := false, isOpen := false, high := false, count := 0, sum := 0
    window := 0, on := 0, pad := none, probeAt := 0 }

/-- Its value at reset (DESIGN CHOICE, log 5) -/
def Drv.reset : Drv := { chans := [], changes := [], setupAt := 0, ntcReads := [] }


/-- A current channel's measurement cycle (R324 to R329): what MTR_I registers do not show. -/
structure MtrI where
  /-- samples of the cycle in progress, and its sums of v × i, i × i and v × v -/
  n : Nat
  vi : Int
  ii : Nat
  vv : Nat
  /-- samples still to be taken from the ×1 path after a gain change (R326) -/
  cross : Nat
  /-- every sample of the cycle in progress stays below FS_G / 8, and no gain change fell into it -/
  low : Bool
  /-- consecutive complete cycles of that kind -/
  lows : Nat
  /-- the cycle in progress holds a clipped sample -/
  clip : Bool
  /-- raw count before which METER_CLIP is not recorded again -/
  clipRec : Nat
  /-- consecutive cycles that ask for a change of the reversed state (R329) -/
  revs : Nat
  /-- the last sample taken, and the integrals of a Rogowski coil on the ×1 and the gain path (R324) -/
  last : Int
  coil1 : Int
  coilG : Int
  deriving DecidableEq, Repr

/-- A voltage channel's cycle (R324): the last sample's sign, samples since the last crossing, and its own cycle. -/
structure MtrV where
  neg : Bool
  since : Nat
  n : Nat
  vv : Nat
  deriving DecidableEq, Repr

/-- A save record in FeRAM (R334): SEQ, RTC, the accumulators with SAT set, the accumulators in units of 2^-32, and the
partial energies of I0 to I5. -/
structure Save where
  seq : Nat
  rtc : Nat
  sat : List Nat
  acc : Tbl Nat
  part : List Int
  deriving DecidableEq, Repr

/-- Metering (R324 to R345). -/
structure Mtr where
  /-- the 26 accumulators in units of 2^-32 mWh (R331), and those with SAT (R332) -/
  acc : Tbl Nat
  sat : List Nat
  amps : Tbl MtrI
  volts : Tbl MtrV
  /-- energy that each pulse input has added in the running minute, in mWh (R330) -/
  minute : Tbl Nat
  /-- the first raw count at which a pulse input can count again (R327) -/
  pulseAt : Tbl Nat
  /-- METER_SNAPSHOTs that wait for the next sample instant (R333) -/
  snaps : List Nat
  /-- raw counts of the next sample instant and of the next save -/
  sampleAt : Nat
  saveAt : Nat
  /-- SAVE_PERIOD and REV_HOLD that wait to take effect (R340) -/
  savePend : Option Nat
  revPend : Option Nat
  deriving DecidableEq, Repr

/-- The two save slots in FeRAM; none: no valid record (R334). -/
structure NvMtr where
  slotA : Option Save
  slotB : Option Save
  deriving DecidableEq, Repr

def MtrI.reset : MtrI :=
  { n := 0, vi := 0, ii := 0, vv := 0, cross := 0, low := true, lows := 0, clip := false, clipRec := 0, revs := 0, last := 0
    coil1 := 0, coilG := 0 }

def MtrV.reset : MtrV := { neg := false, since := 0, n := 0, vv := 0 }

/-- Its value at reset (DESIGN CHOICE, log 5) -/
def Mtr.reset : Mtr :=
  { acc := [], sat := [], amps := [], volts := [], minute := [], pulseAt := [], snaps := [], sampleAt := 0, saveAt := 0, savePend := none
    revPend := none }

/-- FeRAM as Vexpol leaves it: one valid zero record (R336). Its SEQ is the model's (DESIGN CHOICE). (DESIGN CHOICE, log 81) -/
def NvMtr.reset : NvMtr := { slotA := some { seq := 1, rtc := 0, sat := [], acc := [], part := [] }, slotB := none }

/-- What the mirror has sent of each mirrored table (R358). -/
structure Shadow where
  stalls : Tbl Stall
  pads : Tbl Paddock
  admits : List Admit
  scheds : List (Nat × List Byte)
  scenes : List Scene
  params : List (Nat × Nat)
  roll : Roll
  camps : List Campaign
  slots : Tbl ImgSlot
  drive : List (Nat × Nat × Nat)
  deriving DecidableEq, Repr

/-- The twin link (R346 to R373): what TWN's registers do not show. -/
structure Twn where
  /-- highest epoch heard or used (R347) -/
  epoch : Nat
  /-- the claim gate is held closed for 20 ms after entering ACTIVE, until this raw count (R350) -/
  gateUntil : Option Nat
  /-- raw count of the last higher claim heard (R314) -/
  gateHeard : Option Nat
  /-- the lease has lapsed (R352) -/
  lapsed : Bool
  /-- end of the LISTEN timer as a raw count (R355) -/
  listenEnd : Nat
  /-- the peer's configured PREF and HEALTHY bit from the claim bus (R349) -/
  peerPref : Nat
  peerHealthy : Bool
  /-- raw count at which the peer was last heard on the bus and on the lane (R353) -/
  busHeard : Nat
  laneHeard : Nat
  /-- silence on the claim bus has been recorded since the last frame heard there (R353) -/
  busQuiet : Bool
  /-- raw count by which the next lane frame goes out: 100 µs after the last (R349) -/
  laneAt : Nat
  /-- TWIN_CTL RESYNCs that wait for the sweep to begin (R371) -/
  resync : List Nat
  /-- raw count at which the peer's last health report arrived (R362) -/
  reportAt : Option Nat
  /-- the peer's flags IN_SYNC and level -/
  peerSync : Bool
  peerLevel : Nat
  /-- the last mirror record sent or applied (R358), and on an active unit the last that the peer has applied -/
  seq : Nat
  acked : Nat
  /-- what the mirror has sent; none: the mirror starts with a full sweep (R359) -/
  shadow : Option Shadow
  /-- the rollover journal as mirrored (R360) -/
  roll : Option Roll
  /-- this unit's own next claim frame, and the start of the last UNIT 0 frame, as raw counts (R349) -/
  busAt : Nat
  busRx : Nat
  /-- the last claim frame read back wrong (R348) -/
  busBad : Bool
  /-- the peer has been heard with this unit's own PREF (R348) -/
  samePref : Bool
  /-- the peer's pair level has been heard (R361), and its report's flags -/
  levelKnown : Bool
  peerFlags : Nat
  /-- a full sweep has completed (R359) -/
  swept : Bool
  /-- mirrored copies that the unit has applied since the sweep began -/
  fresh : Bool
  /-- raw count since which the reversion conditions have held (R365) -/
  revSince : Option Nat
  /-- raw count since which the unit has not been HEALTHY (R366) -/
  sickSince : Option Nat
  /-- raw count of the last failed self-test or check of a block other than a lane (R363) -/
  testFail : Option Nat
  /-- health reports written (R362) -/
  reports : Nat
  /-- rotation of self-test: the next step, its failures, rotations done (R364) -/
  bist : Nat
  bistFail : Nat
  bistLast : Nat
  rotations : Nat
  /-- raw count at which the running test began, and of the next health report -/
  bistAt : Nat
  reportNext : Nat
  deriving DecidableEq, Repr

/-- Its value at reset (DESIGN CHOICE, log 5) -/
def Twn.reset : Twn :=
  { epoch := 0, gateUntil := none, gateHeard := none, lapsed := false, listenEnd := 0, peerPref := 0, peerHealthy := false
    busHeard := 0, laneHeard := 0, busQuiet := false, laneAt := 0, resync := [], reportAt := none, peerSync := false, peerLevel := 0, seq := 0, acked := 0, shadow := none
    roll := none
    busAt := 0, busRx := 0, busBad := false, samePref := false, levelKnown := false, peerFlags := 0, swept := false
    fresh := false, revSince := none, sickSince := none, testFail := none, reports := 0, bist := 0, bistFail := 0
    bistLast := 0, rotations := 0, bistAt := 0, reportNext := 0 }

/-- A join root (R376, R382). -/
structure JoinRoot where
  plen : Nat
  pref : Nat
  /-- a number that stands for the root -/
  key : Nat
  deriving DecidableEq, Repr

/-- The owner (R376): OWNER_ID and OWNER_GEN. -/
structure Owner where
  id : Nat
  gen : Nat
  deriving DecidableEq, Repr

/-- The tack store (R376): kept within the shed. -/
structure Tack where
  owner : Option Owner
  high : Nat
  /-- counters within 63 below HIGH that have been accepted: bit k for HIGH − 1 − k (R385) -/
  window : Nat
  /-- the wrap key, by a number that stands for it -/
  wk : Option Nat
  epoch : Nat
  epochNext : Option Nat
  roots : List (Nat × JoinRoot)
  /-- tamper history, newest first, 64 entries (R394) -/
  history : List (List Byte)
  unlocks : Nat
  deriving DecidableEq, Repr

/-- Its value at reset (DESIGN CHOICE, log 5; PRESUMED, log 82) -/
def Tack.reset : Tack :=
  { owner := none, high := 0, window := 0, wk := none, epoch := 0, epochNext := none, roots := [], history := []
    unlocks := 0 }

/-- An envelope that waits for verification (R386). -/
structure EnvWait where
  src : Src
  env : Envelope
  deriving DecidableEq, Repr

/-- The shed and the tamper monitor (R376 to R404): what SEC's registers do not show. -/
structure Shed where
  /-- the helper data and IK have passed their check (R377) -/
  identity : Bool
  queue : List EnvWait
  /-- the verified command that waits for presence: its descriptor and the raw count at which the wait ends (R391) -/
  pend : Option (Nat × Nat)
  /-- end of the presence credit (R391) -/
  creditEnd : Nat
  /-- end of the presence-unlocked window (R392) -/
  windowEnd : Nat
  /-- raw count at which SEAL_LOOP opened, with the door closed since (R390) -/
  sealAt : Option Nat
  /-- the monitor's counts of causes 5 to 8 (R394) -/
  counts : List Nat
  /-- entries of the monitor's log, newest first, 16 (R394) -/
  log : List (List Byte)
  /-- log entries not yet copied into the tamper history: logged while the main supply was absent -/
  uncopied : Nat
  /-- a MESH tamper whose effects wait for the next start (R395) -/
  meshPending : Bool
  /-- the shed island's reset has emptied it and it has not restarted (R490) -/
  down : Bool
  deriving DecidableEq, Repr

/-- Its value at reset (DESIGN CHOICE, log 5) -/
def Shed.reset : Shed :=
  { identity := true, queue := [], pend := none, creditEnd := 0, windowEnd := 0, sealAt := none
    counts := [0, 0, 0, 0], log := [], uncopied := 0, meshPending := false, down := false }

/-- A mailbox channel (R407 to R413): the messages posted and not consumed, oldest first, each with its ORPHAN flag. (DESIGN CHOICE, log 181) -/
structure MbxCh where
  aborted : Bool
  msgs : List (List Byte × Bool)
  rd : Nat
  refused : Nat
  /-- the sender's count of messages (R416) -/
  seq : Nat
  /-- the octets of the four slots in the channel's page (R408), by offset: those that are not 0. Nothing fills a page before the
  sender writes it (DESIGN CHOICE, log 181) -/
  slots : Tbl Nat
  deriving DecidableEq, Repr

/-- The mailbox block in BAR4 (R405 to R425). -/
structure Mbx where
  chans : Tbl MbxCh
  /-- MBX_HDB and MBX_HDB_MASK (R414) -/
  hdb : Nat
  mask : Nat
  /-- the doorbell bits of the module's own ends (R414) -/
  mdb : Nat
  /-- answers that wait for a free slot, per answering channel, oldest first: KIND, REF and body (R423) -/
  replies : Tbl (List (Nat × Nat × List Byte))
  /-- the driver has said that it is stopping (R417) -/
  stopping : Bool
  /-- the twin lane has come up since the start (R405) -/
  twin : Bool
  /-- the shed has run since the start (R421) -/
  shedRan : Bool
  deriving DecidableEq, Repr

def MbxCh.reset : MbxCh := { aborted := false, msgs := [], rd := 0, refused := 0, seq := 0, slots := [] }

/-- Its value at reset (DESIGN CHOICE, log 5) -/
def Mbx.reset : Mbx :=
  { chans := [], hdb := 0, mask := 0xFFFFFFFF, mdb := 0, replies := [], stopping := false, twin := false, shedRan := false }

/-- What a bundle slot's header says (R427). -/
structure Bundle where
  version : Nat
  level : Nat
  /-- MAGIC, LENGTH and STEP_MIN pass the boot ROM's checks (R429) -/
  headerOk : Bool
  /-- SHA-256 of the whole bundle (R398) -/
  meas : Nat
  /-- SHA-256 of the header: the identity of its staging session (R431) -/
  ident : Nat
  deriving DecidableEq, Repr

/-- The boot record in FeRAM (R428). -/
structure Boot where
  /-- a valid copy exists -/
  valid : Bool
  active : Nat
  trial : Bool
  tries : Nat
  verA : Nat
  verB : Nat
  confirm : Nat
  seq : Nat
  deriving DecidableEq, Repr

/-- Who holds a staging session (R433): its source, 1 host ring, 2 SEALED on a ring, 3 SEALED on UDP; its submission ring or 0xFF;
its IPv4 address. -/
structure Holder where
  kind : Nat
  ring : Nat
  ip : Nat
  deriving DecidableEq, Repr

/-- The update download journal in FeRAM (R431). -/
structure Journal where
  header : List Byte
  ident : Nat
  source : Holder
  durable : Nat
  /-- LAST has been written -/
  whole : Bool
  deriving DecidableEq, Repr

/-- A staging session (R431). -/
structure Session where
  source : Holder
  ident : Nat
  total : Nat
  next : Nat
  header : List Byte
  /-- LAST has been written (R434) -/
  last : Bool
  /-- raw count at which it ends idle (R432) -/
  idleEnd : Nat
  deriving DecidableEq, Repr

/-- An activation pause under way (R436). -/
structure Pause where
  did : Nat
  start : Nat
  /-- raw count at which the radio pause began: the last carrier has ended -/
  radioAt : Option Nat
  /-- the radio pause has ended, in ms -/
  radioMs : Option Nat
  oldVersion : Nat
  deriving DecidableEq, Repr

/-- Bundles and updates (R426 to R449): NOR and FeRAM, and what UPD's registers do not show. -/
structure Upd where
  slotA : Option Bundle
  slotB : Option Bundle
  boot : Boot
  journal : Option Journal
  session : Option Session
  /-- what the staging slot, and in the lizard loader slot A, holds of a bundle that is not whole yet (R431, R445) -/
  staged : List Byte
  /-- the staging slot is VERIFIED (R434) -/
  verified : Bool
  /-- an UPD_ACTIVATE is accepted and has not begun: its descriptor -/
  armed : Option Nat
  pause : Option Pause
  /-- confirmation window: its end as a raw count (R439) -/
  windowEnd : Option Nat
  /-- a reset into the lizard loader is due (R442): 1 LIZARD_ENTER, 2 with ERASE, 3 with ERASE carried out by the loader -/
  lizard : Nat
  /-- the header given by BEGIN, and whether presence has been given for it (R445) -/
  lizHeader : Option (List Byte)
  lizOpen : Bool
  /-- a request that waits for presence: 1 BEGIN, 2 ERASE (R445) -/
  lizWait : Nat
  lizUntil : Nat
  /-- this entry erased (R445) -/
  erased : Bool
  /-- MEAS of the running bundle (R398) -/
  meas : Nat
  deriving DecidableEq, Repr

/-- Its value at reset (PRESUMED, log 82) -/
def Boot.reset : Boot :=
  { valid := false, active := 0, trial := false, tries := 0, verA := 0, verB := 0, confirm := 0, seq := 0 }

/-- A module as it leaves manufacture: slot A holds a valid bundle (PRESUMED), slot B none. (PRESUMED, log 82) -/
def Upd.reset : Upd :=
  { slotA := some
      { version := Config.bundleVersion.toNat, level := Config.bundleLevel.toNat, headerOk := true
        meas := Config.bundleMeas.toNat, ident := Config.bundleIdent.toNat }
    staged := [], slotB := none, boot := Boot.reset, journal := none, session := none, verified := false, armed := none
    pause := none, windowEnd := none, lizard := 0, lizHeader := none, lizOpen := false, lizWait := 0, lizUntil := 0
    erased := false, meas := 0 }

/-- Why the module stops with nothing defined to follow. -/
inductive Fault where
  /-- raised by POWER_LOSS for a sag that disturbs the logic without rearming the power-on reset: R495 says that it leaves
  the module undefined until the watchdog or RESET_N resets it. Safe: the model stops where the manual defines nothing. -/
  | undefinedAfterSag
  deriving DecidableEq, Repr

/-- Why a command has no meaning in this model. -/
inductive Refusal where
  /-- a command that has no meaning yet; raised by the arms of Dispatch.lean alone. Safe. -/
  | notModelled (mnemonic : String)
  deriving DecidableEq, Repr

/-- The module. -/
structure State where
  /-- commands waiting, first in, first out -/
  pending : List Instr
  /-- register fields of access type RW, RWL and RWP -/
  cfg : RegFile
  /-- register fields of access type RO, W1C and W1S -/
  sts : RegFile
  /-- firmware's own copies of the BC_STAT registers (R557) -/
  bcFw : RegFile
  /-- outputs, newest first (the model's own record) -/
  out : List Out
  /-- events on their way to the recorder, oldest first (R453) -/
  evq : List Ev
  /-- how many free values have been used (the model's own field) -/
  free : Nat
  hif : Hif
  evr : Evr
  tsu : Tsu
  newt : Newt
  clk : Clk
  nvlog : NvLog
  lanes : Lanes
  seg : Seg
  nvseg : NvSeg
  roll : Roll
  /-- the journal's older copies (R204) -/
  rollOld : Roll
  air : Air
  flt : Flt
  swx : Swx
  drv : Drv
  mtr : Mtr
  nvmtr : NvMtr
  mbx : Mbx
  twn : Twn
  tack : Tack
  shed : Shed
  upd : Upd
  deriving DecidableEq, Repr

/-- The module when the power-on reset has released it and before its start (R495, R500): every register at its reset
value, every queue empty. (DESIGN CHOICE, log 4) -/
def State.reset : State :=
  { pending := [], cfg := [], sts := [], bcFw := [], out := [], evq := [], free := 0
    hif := Hif.reset, evr := Evr.reset, tsu := Tsu.reset, newt := Newt.reset, clk := Clk.reset
    nvlog := NvLog.reset, lanes := Lanes.reset, seg := Seg.reset, nvseg := NvSeg.reset, roll := Roll.reset, rollOld := Roll.reset
    air := Air.reset, flt := Flt.reset, swx := Swx.reset, drv := Drv.reset, mtr := Mtr.reset, nvmtr := NvMtr.reset, mbx := Mbx.reset
    twn := Twn.reset, tack := Tack.reset, shed := Shed.reset, upd := Upd.reset }

end Sys2Proof.Machine
end

