-- ==== Sys2Proof/Machine/Ops.lean ====
section
/-! DEFINITION. Sys2Proof/Machine/Ops.lean: the named operations over the state that every command uses: register
fields, time, events, interrupts, rings, completions, descriptors. -/
namespace Sys2Proof.Machine

/-! ## Register fields -/

/-- A field that the host writes (RW, RWL, RWP). -/
def State.cf (s : State) (r : Reg) (f : Fld) : Nat := f.get (s.cfg.get r)
/-- A field that the module writes (RO, W1C, W1S). -/
def State.sf (s : State) (r : Reg) (f : Fld) : Nat := f.get (s.sts.get r)
/-- Set a field that the module writes. -/
def State.setSf (s : State) (r : Reg) (f : Fld) (v : Nat) : State :=
  { s with sts := s.sts.put r (f.set (s.sts.get r) v) }
/-- Set a whole register of module-written fields. -/
def State.setSw (s : State) (r : Reg) (v : Nat) : State := { s with sts := s.sts.put r (BitVec.ofNat 32 v) }
/-- Set a whole register of host-written fields. -/
def State.setCw (s : State) (r : Reg) (v : BitVec 32) : State := { s with cfg := s.cfg.put r v }
/-- Set a host-written field. -/
def State.setCf (s : State) (r : Reg) (f : Fld) (v : Nat) : State := s.setCw r (f.set (s.cfg.get r) v)
/-- Add to a counter field that wraps. -/
def State.bump (s : State) (r : Reg) (f : Fld) (n : Nat := 1) : State := s.setSf r f (s.sf r f + n)
/-- Add to a counter field that saturates. -/
def State.bumpSat (s : State) (r : Reg) (f : Fld) (n : Nat := 1) : State :=
  s.setSf r f (satAdd f.width (s.sf r f) n)
/-- A whole 32-bit register of the module's. -/
def F.word : Fld := ⟨31, 0⟩

/-- One bit of a two's complement or flag word. -/
def bit (v i : Nat) : Bool := v / 2 ^ i % 2 == 1
/-- 1 for true. -/
def b2n (b : Bool) : Nat := if b then 1 else 0
/-- The bits `hi` to `lo` of a number. -/
def bits (v hi lo : Nat) : Nat := v / 2 ^ lo % 2 ^ (hi - lo + 1)

/-- A SEQ is later than another (R334, R453: differences below 2^31 modulo 2^32). -/
def seqLater (a b : Nat) : Bool := decide (a ≠ b) && decide ((a + 2 ^ 32 - b) % 2 ^ 32 < 2 ^ 31)

/-! ## Outputs and free values -/

/-- Put an output on the block's interfaces. (DESIGN CHOICE, log 6) -/
def State.emit (s : State) (o : Out) : State := { s with out := o :: s.out }
/-- A free value: a number of 64 bits that nothing constrains, and the state that has used it. (DESIGN CHOICE, log 6, 52) -/
def State.fresh (s : State) : Nat × State := ((Config.freeValue s.free).toNat, { s with free := s.free + 1 })
/-- A quotient as a whole number: where it is not whole, one of its two neighbours (the manual states no rounding). (DESIGN CHOICE, log 75) -/
def State.round (s : State) (a b : Nat) : Nat × State :=
  if a % b = 0 then (a / b, s)
  else
    let f := s.fresh
    (a / b + f.1 % 2, f.2)
/-- The same of a signed dividend. (DESIGN CHOICE, log 75) -/
def State.roundI (s : State) (a : Int) (b : Nat) : Int × State :=
  let r := s.round a.natAbs b
  (if 0 ≤ a then (r.1 : Int) else -(r.1 : Int), r.2)
/-- `n` octets that nothing constrains. (DESIGN CHOICE, log 6) -/
def State.freshBytes (s : State) (n : Nat) : List Byte × State :=
  ((List.range n).map (Config.freeByte s.free), { s with free := s.free + 1 })

/-! ## Time (R266 to R275) -/

/-- The domain's registers-hidden part. -/
def State.dom (s : State) (d : Nat) : Dom := if d = 0 then s.tsu.domA else s.tsu.domB
def State.setDom (s : State) (d : Nat) (x : Dom) : State :=
  if d = 0 then { s with tsu := { s.tsu with domA := x } } else { s with tsu := { s.tsu with domB := x } }
/-- A signed 64-bit number (R267). -/
def wrap64 (i : Int) : Int := signed 64 (twos 64 i)
/-- What a domain's rate has gained since its anchor (R267, R268). -/
def Dom.gain (d : Dom) (r : Nat) : Int := d.rate * wrap64 ((r : Int) - d.anchor) / 2 ^ 40
/-- The time of a domain at a raw count, in TSU ticks (R267). -/
def domTime (d : Dom) (r : Nat) : Int := wrap64 ((r : Int) + d.offset + d.gain r)
/-- The active domain (R270). -/
def State.act (s : State) : Nat := s.sf .TSU_STAT F.TSU_STAT_ACTIVE
/-- Compatibility mode (R275). -/
def State.compatOn (s : State) : Bool := s.cf .TSU_CFG F.TSU_CFG_COMPAT == 1
/-- The time base of a domain now: in compatibility mode the counter of its own (R267, R275). -/
def State.domNow (s : State) (d : Nat) : Int :=
  if s.compatOn then (s.tsu.compat / 2 ^ 17 : Nat) else domTime (s.dom d) s.tsu.raw
/-- The output time, called corrected time elsewhere (R270, R275). (DEDUCED, log 148) -/
def State.outputTime (s : State) : Int := if s.compatOn then s.domNow 0 else s.domNow s.act + s.tsu.res
/-- The nanosecond counter of compatibility mode (R275). -/
def State.nsNow (s : State) : Nat := s.tsu.compat / 65536
/-- TSU ticks of a millisecond, a microsecond and a second (R6). -/
def msT : Nat := 500000
def usT : Nat := 500
def secT : Nat := 500000000
/-- The adjustments made in `k` cycles of XO_LF: at most one a cycle, of the `a` still to be made (R515). -/
def adjusted (a : Int) (k : Nat) : Int := if 0 ≤ a then min a k else max a (-(k : Int))
/-- The most cycles in which the count rises by at most `room`, and the fewest in which it rises by `r` at least. -/
def cyclesWithin (a : Int) (room : Nat) : Nat :=
  if a < 0 then room + a.natAbs else if room < 2 * a.natAbs then room / 2 else room - a.natAbs
def cyclesTo (a : Int) (r : Nat) : Nat :=
  if a < 0 then r + a.natAbs else if r ≤ 2 * a.natAbs then ceilDiv r 2 else r - a.natAbs
/-- Cycles of XO_LF pass, with their adjustments; `p` is what they leave of the next cycle. -/
def Newt.cycles (n : Newt) (k p : Nat) : Newt :=
  let a := adjusted n.adjust k
  { n with phase := p, tick := (n.tick + ((k : Int) + a).toNat) % 2 ^ 48, adjust := n.adjust - a, applied := n.applied + a }
/-- RTC ticks that pass with `dt` TSU ticks at nominal rates, short of the next second carry, for which the count waits
(R515, R517: SECOND_CARRY makes the crossing). (DESIGN CHOICE, log 144) -/
def Newt.elapse (n : Newt) (dt : Nat) : Newt :=
  if n.halted then n
  else
    let p := n.phase + 128 * dt
    let k := min (p / 1953125) (cyclesWithin n.adjust (32767 - n.tick % 32768))
    n.cycles k (p - k * 1953125)
/-- The time unit's counters move on: the raw counter wraps after 2^64 ticks (R266), the compatibility counter after 2^80
(R275). -/
def State.ticks (s : State) (dt : Nat) : State :=
  { s with tsu := { s.tsu with
      raw := (s.tsu.raw + dt) % 2 ^ 64
      compat := (s.tsu.compat + dt * s.sf .TSU_COMPAT_INCR F.TSU_COMPAT_INCR_INCR) % 2 ^ 80 } }
/-- Time passes: the raw counter, the compatibility counter and the RTC tick count move on. (DESIGN CHOICE, log 2) -/
def State.elapse (s : State) (dt : Nat) : State := { s.ticks dt with newt := s.newt.elapse dt }
/-- Time passes until the raw counter stands at `r` at least: the expiry of a timer that ends at `r`. (DESIGN CHOICE, log 2) -/
def State.elapseTo (s : State) (r : Nat) : State := if r ≤ s.tsu.raw then s else s.elapse (r - s.tsu.raw)
/-- The raw ticks until a domain's time stands at `t` (R267): a rate below -2^40 never gets there, and none pass. (DEDUCED, log 147) -/
def domWait (d : Dom) (raw : Nat) (t : Int) : Nat :=
  if d.rate ≤ -(2 ^ 40) then 0
  else (-((-((t - d.offset) * 2 ^ 40 + d.rate * d.anchor)) / (2 ^ 40 + d.rate)) - raw).toNat
/-- The raw ticks until the output time stands at `t` (R270, R275). (DEDUCED, log 147) -/
def State.outWait (s : State) (t : Int) : Nat :=
  if s.compatOn then ceilDiv (t * 2 ^ 17 - s.tsu.compat).toNat (s.sf .TSU_COMPAT_INCR F.TSU_COMPAT_INCR_INCR)
  else domWait (s.dom s.act) s.tsu.raw (t - s.tsu.res)
/-- Time passes until the output time stands at `t`. (DESIGN CHOICE, log 2; DEDUCED, log 147) -/
def State.elapseOut (s : State) (t : Int) : State :=
  if t ≤ s.outputTime then s else s.elapse (s.outWait t)

/-- Time passes until the RTC has counted to `t` at its nominal rate. (DESIGN CHOICE, log 2) -/
def State.elapseRtc (s : State) (t : Nat) : State :=
  if t ≤ s.newt.tick then s else s.elapse (ceilDiv ((t - s.newt.tick) * 1953125) 128)

/-! ## Events (R450 to R453, R565) -/

/-- The source code of a family and instance (R452). -/
def srcOf (family inst : Nat) : Nat := family * 2048 + inst
/-- A block records an event: it is on its way to the recorder until EVENT_ARRIVAL. (DESIGN CHOICE, log 6) -/
def State.event (s : State) (family inst code sev : Nat) (args : List Nat) : State :=
  { s with evq := s.evq ++ [{ src := srcOf family inst, code := code, sev := sev, args := args, at_ := s.tsu.raw }] }

/-! ## Presence (R391, R392) -/

/-- The presence-unlocked window is open, and its time has not passed (R392). -/
def State.winOpen (s : State) : Bool := s.sf .SEC_STAT F.SEC_STAT_WINDOW == 1 && decide (s.tsu.raw < s.shed.windowEnd)
/-- A presence credit is open, and its 60 s have not passed (R391). -/
def State.creditOpen (s : State) : Bool := s.sf .SEC_STAT F.SEC_STAT_CREDIT == 1 && decide (s.tsu.raw < s.shed.creditEnd)

/-! ## Launch slots (R281) -/

/-- Slots of a class (R281). -/
def slotCount : SlotClass → Nat
  | .radio _ => 8
  | .port _ => 4
  | .drive => 8
  | .general => 32
/-- The entries of a list that hold slots; those beyond their class's number wait for one. -/
def heldSlots : List Slot → List Slot → List Slot
  | _, [] => []
  | seen, x :: t =>
    if (seen.filter (fun y => y.cls == x.cls)).length < slotCount x.cls then x :: heldSlots (x :: seen) t
    else heldSlots seen t
/-- The slots that are armed. -/
def State.armedSlots (s : State) : List Slot := heldSlots [] s.tsu.slots
/-- TSU ticks before LAUNCH_TIME by which a slot of a class is armed (R281). -/
def SlotClass.limit : SlotClass → Nat
  | .radio _ => 2 * msT
  | .port _ => 20 * usT
  | _ => msT
/-- The actions that have a slot or wait for one are these from now on. One that gets a slot now, after its latest arming
instant, fires at once, late (R281); TSU_LSLOT.PEAK follows (R293). -/
def State.putSlots (s : State) (l : List Slot) : State :=
  let was := s.armedSlots
  let now := heldSlots [] l
  let late (x : Slot) : Bool := now.contains x && !was.contains x && decide ((x.time : Int) - x.cls.limit < s.outputTime)
  let t := { s with tsu := { s.tsu with slots := l.map (fun x => if late x then { x with late := true } else x) } }
  t.setSf .TSU_LSLOT F.TSU_LSLOT_PEAK (max (t.sf .TSU_LSLOT F.TSU_LSLOT_PEAK) now.length)
/-- An action takes a slot, or waits for one behind those that hold them. -/
def State.takeSlot (s : State) (x : Slot) : State := s.putSlots (s.tsu.slots ++ [x])
/-- Every slot of a descriptor is freed. -/
def State.freeSlots (s : State) (did : Nat) : State := s.putSlots (s.tsu.slots.filter (fun x => x.did != did))
/-- A slot of a class is free. -/
def State.slotFree (s : State) (c : SlotClass) : Bool :=
  decide ((s.tsu.slots.filter (fun x => x.cls == c)).length < slotCount c)

/-! ## Interrupts (R33, R61) -/

/-- Send an MSI-X message, or set its pending bit while its vector is masked (R27, R552). (DEDUCED, log 15) -/
def State.msix (s : State) (v : Nat) : State :=
  if s.cf (.MSIX_CTL v) F.MSIX_CTL_MASK = 1 ∨ s.hif.bme = false then
    s.setSf (.MSIX_PBA (v / 32)) ⟨v % 32, v % 32⟩ 1
  else
    s.emit (.msix v ((s.cfg.get (.MSIX_ADDR_LO v)).toNat + 2 ^ 32 * (s.cfg.get (.MSIX_ADDR_HI v)).toNat)
      (s.cfg.get (.MSIX_DATA v)).toNat)
/-- The enable of a cause bit (R33): bits 7:1 are the host's, bit 0 reads 1. -/
def State.causeEnabled (s : State) (b : Nat) : Bool :=
  b == 0 || bit (s.cfg.get .HIF_INT_EN).toNat b
/-- A cause is raised: a 0-to-1 change whose enable is 1 signals vector 0 (R33). -/
def State.raiseCause (s : State) (b : Nat) : State :=
  if s.sf .HIF_INT_CAUSE ⟨b, b⟩ = 1 then s
  else
    let t := s.setSf .HIF_INT_CAUSE ⟨b, b⟩ 1
    if t.causeEnabled b then t.msix 0 else t

/-! ## Module state in brief -/

/-- HIF_SETUP_DONE.DONE (R32). -/
def State.done (s : State) : Bool := s.sf .HIF_SETUP_DONE F.HIF_SETUP_DONE_DONE == 1
/-- HIF_STATUS.READY (R31). -/
def State.ready (s : State) : Bool := s.sf .HIF_STATUS F.HIF_STATUS_READY == 1
/-- An activation pause is in progress (R65). -/
def State.paused (s : State) : Bool := s.sf .HIF_STATUS F.HIF_STATUS_PAUSE == 1
/-- W is reloaded: after the radio pause and before the pause ends (R436). (DESIGN CHOICE, log 183) -/
def State.portsReload (s : State) : Bool := s.paused && (s.upd.pause.bind (fun p => p.radioMs)).isSome
/-- The module is the standby unit of a twin pair (R31). -/
def State.standby (s : State) : Bool := s.sf .HIF_STATUS F.HIF_STATUS_STANDBY == 1
/-- Replay mode (R467). -/
def State.replaying (s : State) : Bool := s.sf .EVR_STAT F.EVR_STAT_REPLAYING == 1

/-- The core reaches host memory through the PCIe engine: Bus Master Enable is set and crossing X10 is ACTIVE (R62, R490). (DEDUCED, log 15) -/
def State.hostUp (s : State) : Bool := s.hif.bme && s.sf (.QUE_X_STAT 10) F.QUE_X_STAT_STATE == 0

/-! ## Parity (R248) -/

/-- A word that fails parity is read from a queue (R248). (DEDUCED, log 68) -/
def State.poisonQueue (s : State) (q off : Nat) : State :=
  let t := (s.bump .QUE_PERR F.word).setSf .QUE_EVT F.QUE_EVT_POISON 1
  if Tbl.get 0 t.swx.poisonRec q ≤ t.tsu.raw then
    ({ t with swx := { t.swx with poisonRec := Tbl.put 0 t.swx.poisonRec q (t.tsu.raw + secT) } }).event 5 q 0x0704 2 [q, off]
  else t

/-! ## Completion rings (R35, R46, R49, R61) -/

/-- Entries of a completion ring. -/
def State.cqSize (s : State) (n : Nat) : Nat := 2 ^ s.cf (.HIF_CQ_CFG n) F.HIF_CQ_CFG_SIZE
/-- A completion ring is in service (R36). -/
def State.cqUp (s : State) (n : Nat) : Bool :=
  s.done && s.cf (.HIF_CQ_CFG n) F.HIF_CQ_CFG_ENABLE == 1
    && decide (4 ≤ s.cf (.HIF_CQ_CFG n) F.HIF_CQ_CFG_SIZE) && decide (s.cf (.HIF_CQ_CFG n) F.HIF_CQ_CFG_SIZE ≤ 14)
/-- The completion ring of a submission ring (R34). -/
def State.cqOf (s : State) (n : Nat) : Nat := s.cf (.HIF_SQ_CFG n) F.HIF_SQ_CFG_CQ
/-- The host address of a completion ring. -/
def State.cqBase (s : State) (n : Nat) : Nat :=
  (s.cfg.get (.HIF_CQ_BASE_LO n)).toNat + 2 ^ 32 * (s.cfg.get (.HIF_CQ_BASE_HI n)).toNat
/-- Refresh CQ_STAT.FULL: the ring holds size − 1 unconsumed entries (R35, R37). -/
def State.cqRefresh (s : State) (n : Nat) : State :=
  let full := (s.sf (.HIF_CQ_STAT n) F.HIF_CQ_STAT_TAIL + 1) % s.cqSize n = Tbl.get 0 s.hif.cqHead n
  s.setSf (.HIF_CQ_STAT n) F.HIF_CQ_STAT_FULL (if full then 1 else 0)
/-- The octets of a completion entry (R46). -/
def CEnt.bytes (e : CEnt) (sqHead : Nat) (phase : Bool) : List Byte :=
  le 2 e.tag ++ le 1 e.sq ++ le 1 e.status ++ le 2 sqHead
    ++ le 1 (b2n phase + 2 * b2n e.interim + 4 * b2n e.data + 8 * b2n e.trunc) ++ le 1 e.detail
    ++ le 4 e.xfer ++ zeros 4 ++ le 8 (twos 64 e.actTime) ++ le 8 e.result
/-- A completion ring signals its vector (R61); VECTOR = 0 never signals. (DEDUCED, log 16) -/
def State.cqSignal (s : State) (n : Nat) : State :=
  let t := { s with hif := { s.hif with cqUnsig := Tbl.put 0 s.hif.cqUnsig n 0 } }
  let v := s.cf (.HIF_CQ_CFG n) F.HIF_CQ_CFG_VECTOR
  if v = 0 then t else t.msix v
/-- The PCIe engine reads an entry from the post queue of its ring: one with a word that fails parity is poisoned, and its TAG
and SQ may be wrong (R248). -/
def State.postRead (s : State) (n : Nat) (e : CEnt) : CEnt × State :=
  match e.bad with
  | none => (e, s)
  | some off =>
    let g := (s.poisonQueue (136 + n) off).fresh
    ({ e with status := 0x08, detail := 0xFF, tag := g.1 % 65536, sq := g.1 / 65536 % 256 }, g.2)
/-- Write a completion entry to its ring, and signal as R61 gives. -/
def State.cqWrite (s : State) (n : Nat) (e : CEnt) : State :=
  let tail := s.sf (.HIF_CQ_STAT n) F.HIF_CQ_STAT_TAIL
  let phase := Tbl.get true s.hif.cqPhase n
  let w := s.postRead n e
  let s := w.2
  let s1 := s.emit (.hostWrite (s.cqBase n + 32 * tail)
    (w.1.bytes (s.sf (.HIF_SQ_STAT e.sq) F.HIF_SQ_STAT_HEAD) phase))
  let next := (tail + 1) % s.cqSize n
  let s2 := (s1.setSf (.HIF_CQ_STAT n) F.HIF_CQ_STAT_TAIL next)
  let unsig := Tbl.get 0 s.hif.cqUnsig n + 1
  let s3 := { s2 with hif := { s2.hif with
    cqPhase := if next = 0 then Tbl.put true s2.hif.cqPhase n (!phase) else s2.hif.cqPhase
    cqUnsig := Tbl.put 0 s2.hif.cqUnsig n unsig
    cqFirst := if unsig = 1 then Tbl.put 0 s2.hif.cqFirst n s2.tsu.raw else s2.hif.cqFirst } }
  let s4 := s3.cqRefresh n
  if s.cf (.HIF_CQ_COAL n) F.HIF_CQ_COAL_COUNT ≤ unsig then s4.cqSignal n else s4
/-- The data buffer is written ahead of its entry (R48). -/
def State.cqData (s : State) (e : CEnt) : State :=
  if e.octets = [] then s else s.emit (.hostWrite e.addr e.octets)
/-- A completion entry may be written now (R49, R62, R65). -/
def State.cqWritable (s : State) (n : Nat) : Bool :=
  s.cqUp n && !s.paused && s.hostUp && s.sf (.HIF_CQ_STAT n) F.HIF_CQ_STAT_FULL == 0
/-- No completion is held for a completion ring. -/
def State.cqClearOf (s : State) (n : Nat) : Bool := s.hif.cqHeld.all (fun x => s.cqOf x.sq != n)
/-- What stands ready for a completion ring may go out now. -/
def State.cqTakes (s : State) (e : CEnt) : Bool :=
  (if e.silent then s.hostUp && !s.paused else s.cqWritable (s.cqOf e.sq)) && s.cqClearOf (s.cqOf e.sq)
/-- Post a completion: its data buffer and its entry are written, or held behind those already held for its ring (R48, R49,
R62). -/
def State.postC (s : State) (e : CEnt) : State :=
  if s.cqTakes e then (if e.silent then s.cqData e else (s.cqData e).cqWrite (s.cqOf e.sq) e)
  else { s with hif := { s.hif with cqHeld := s.hif.cqHeld ++ [e] } }
/-- Post the held completions that their rings can take, in order. -/
def State.cqDrain (s : State) : State :=
  s.hif.cqHeld.foldl (fun t e => t.postC e) { s with hif := { s.hif with cqHeld := [] } }

/-! ## Event rings (R50, R51) -/

/-- An event ring is in service (R36). -/
def State.eqUp (s : State) (n : Nat) : Bool :=
  s.done && s.cf (.HIF_EQ_CFG n) F.HIF_EQ_CFG_ENABLE == 1
    && decide (4 ≤ s.cf (.HIF_EQ_CFG n) F.HIF_EQ_CFG_SIZE) && decide (s.cf (.HIF_EQ_CFG n) F.HIF_EQ_CFG_SIZE ≤ 14)
/-- Entries of an event ring. -/
def State.eqSize (s : State) (n : Nat) : Nat := 2 ^ s.cf (.HIF_EQ_CFG n) F.HIF_EQ_CFG_SIZE
/-- The octets of an event record (R450). -/
def Rec.bytes (r : Rec) : List Byte :=
  le 4 r.seq ++ le 6 r.rtc ++ le 1 (r.sev + 8 * (r.gen / 256 % 16)) ++ le 1 r.gen ++ le 2 r.src ++ le 2 r.code ++ r.args
/-- The octets of an event ring entry (R50, R450). -/
def Rec.ringBytes (r : Rec) (phase : Bool) : List Byte :=
  le 4 r.seq ++ le 6 r.rtc ++ le 1 (r.sev + 128 * b2n phase) ++ le 1 0 ++ le 2 r.src ++ le 2 r.code ++ r.args
/-- Write a record to an event ring, or drop it there and count it when the ring is full (R51). -/
def State.eqWrite (s : State) (n : Nat) (r : Rec) : State :=
  let tail := s.sf (.HIF_EQ_STAT n) F.HIF_EQ_STAT_TAIL
  let next := (tail + 1) % s.eqSize n
  if next = Tbl.get 0 s.hif.eqHead n then
    (s.bumpSat (.HIF_EQ_STAT n) F.HIF_EQ_STAT_LOST).raiseCause 3
  else
    let phase := Tbl.get true s.hif.eqPhase n
    let base := (s.cfg.get (.HIF_EQ_BASE_LO n)).toNat + 2 ^ 32 * (s.cfg.get (.HIF_EQ_BASE_HI n)).toNat
    let t := (s.emit (.hostWrite (base + 32 * tail) (r.ringBytes phase))).setSf (.HIF_EQ_STAT n) F.HIF_EQ_STAT_TAIL next
    { t with hif := { t.hif with
      eqPhase := if next = 0 then Tbl.put true t.hif.eqPhase n (!phase) else t.hif.eqPhase
      eqIvl := if Tbl.get 0 t.hif.eqIvl n = 0 then Tbl.put 0 t.hif.eqIvl n (t.tsu.raw + 50 * usT) else t.hif.eqIvl } }
/-- An event record passes a ring's filters (R35, R51). -/
def State.eqPasses (s : State) (n : Nat) (r : Rec) : Bool :=
  s.eqUp n && decide (s.cf (.HIF_EQ_CFG n) F.HIF_EQ_CFG_MIN_SEV ≤ r.sev)
    && bit (s.cfg.get (.HIF_EQ_SRC n)).toNat (r.src / 2048)
/-- Copy a record to one event ring: written, or held during a pause or while Bus Master Enable is clear (R62, R65). -/
def State.eqCopy (s : State) (r : Rec) (n : Nat) : State :=
  if s.eqPasses n r then
    (if s.paused ∨ s.hostUp = false then { s with hif := { s.hif with eqHeld := s.hif.eqHeld ++ [(n, r)] } }
     else s.eqWrite n r)
  else s
/-- An entry of an event ring fails parity in its post queue: it is dropped for that ring and counted (R248, R51). -/
def State.eqPoison (s : State) (r : Rec) (n off : Nat) : State :=
  if s.eqPasses n r then ((s.poisonQueue (200 + n) off).bumpSat (.HIF_EQ_STAT n) F.HIF_EQ_STAT_LOST).raiseCause 3 else s
/-- Write the held event ring entries, in order (R65). -/
def State.eqDrain (s : State) : State :=
  if s.paused ∨ s.hostUp = false then s
  else s.hif.eqHeld.foldl (fun t p => t.eqWrite p.1 p.2) { s with hif := { s.hif with eqHeld := [] } }

/-! ## The packet buffer (R243, R244) -/

/-- The destinations: 0 to 2 the ports. -/
def dstH : Nat := 3
def dstM : Nat := 4
/-- Egress queue of a destination and class (R245). -/
def qOf (dest tc : Nat) : Nat := 8 * dest + tc
def State.queue (s : State) (q : Nat) : List EgFrame := Tbl.get [] s.swx.egress q
/-- Cells of a list of frames. -/
def cellsOf (l : List EgFrame) : Nat := (l.map (fun f => f.cells)).foldl (· + ·) 0
/-- Cells of a list of frames, each copy of a flooded frame stored once (R244). -/
def storedOnce (l : List EgFrame) : Nat := (((l.map (fun f => (f.fid, f.cells))).eraseDups).map (fun p => p.2)).foldl (· + ·) 0
def State.storedCells (s : State) : Nat := storedOnce (s.swx.egress.flatMap (fun q => q.2))
/-- Put a queue's frames, and let QUE_STAT and SWX_BUF_STAT follow (R253, R259). -/
def State.setQueue (s : State) (q : Nat) (l : List EgFrame) : State :=
  let t : State := { s with swx := { s.swx with egress := Tbl.put [] s.swx.egress q l } }
  let t := t.setSf (.QUE_STAT q) F.QUE_STAT_LEVEL (min 32767 (cellsOf l))
  let free := 32768 - t.storedCells
  (t.setSf .SWX_BUF_STAT F.SWX_BUF_STAT_FREE free).setSf .SWX_BUF_STAT F.SWX_BUF_STAT_LOWEST
    (min free (t.sf .SWX_BUF_STAT F.SWX_BUF_STAT_LOWEST))
/-- How a queue admits a frame of `k` cells: into its own cells, into shared ones, or not (R244). -/
def State.admitCells (s : State) (q k : Nat) : Option Bool :=
  let res := s.cf .SWX_BUF_CFG F.SWX_BUF_CFG_RESERVE
  let own := cellsOf ((s.queue q).filter (fun f => !f.shared))
  let u := cellsOf ((s.queue q).filter (fun f => f.shared))
  let free := 32768 - 40 * res - storedOnce ((s.swx.egress.flatMap (fun p => p.2)).filter (fun f => f.shared))
  if own + k ≤ res then some false
  else if (u + k) * 8 ≤ 2 ^ s.cf .SWX_BUF_CFG F.SWX_BUF_CFG_ALPHA * free then some true
  else none
/-- Octets of a frame on the wire, FCS included, and its cells (R243). -/
def wireLen (data : List Byte) : Nat := data.length + 4
def cellsFor (data : List Byte) : Nat := ceilDiv (wireLen data) 256

/-! ## The host receive ring (R239, R240, R255) -/

def State.hrxSize (s : State) : Nat := 2 ^ s.cf .SWX_HRX_CFG F.SWX_HRX_CFG_SIZE
/-- The ring is in service. -/
def State.hrxUp (s : State) : Bool :=
  s.done && s.cf .SWX_HRX_CFG F.SWX_HRX_CFG_ENABLE == 1 && decide (4 ≤ s.cf .SWX_HRX_CFG F.SWX_HRX_CFG_SIZE)
    && decide (s.cf .SWX_HRX_CFG F.SWX_HRX_CFG_SIZE ≤ 12)
def State.hrxTail (s : State) : Nat := s.sf .SWX_HRX_STAT F.SWX_HRX_STAT_TAIL
/-- A frame at the head of H's queues reaches the ring, or is dropped and counted (R239, R240). TS is the receive timestamp of a
frame that entered at a port. (DESIGN CHOICE, log 67) -/
def State.hostFrame (s : State) (f : EgFrame) (tc : Nat) : State :=
  let t := match f.bad with
    | some w => s.poisonQueue (qOf dstH tc) w
    | none => s
  let next := (t.hrxTail + 1) % t.hrxSize
  if t.hrxUp = false ∨ t.hif.bme = false ∨ t.sf (.QUE_X_STAT 11) F.QUE_X_STAT_STATE ≠ 0 ∨ next = t.hif.hrxHead then t.bumpSat .SWX_HRX_STAT F.SWX_HRX_STAT_DROP
  else
    let g := t.fresh
    let u := g.2
    let base := u.cf .SWX_HRX_BASE_LO F.SWX_HRX_BASE_LO_ADDR * 4096 + 2 ^ 32 * (u.cfg.get .SWX_HRX_BASE_HI).toNat
    let b2 := 128 * b2n f.inPort.isSome + 64 * b2n f.bad.isSome + 16 * (f.inPort.getD (g.1 % 4)) + 2 * tc + b2n u.hif.hrxPhase
    let ent := le 2 f.data.length ++ le 1 b2 ++ zeros 5
      ++ (if f.inPort.isSome then le 8 (twos 64 f.stampOut) else le 8 g.1) ++ zeros 16 ++ f.data
    let u := (u.emit (.hostWrite (base + 2048 * u.hrxTail) ent)).setSf .SWX_HRX_STAT F.SWX_HRX_STAT_TAIL next
    { u with hif := { u.hif with
      hrxPhase := if next = 0 then !u.hif.hrxPhase else u.hif.hrxPhase
      hrxIvl := if u.hif.hrxIvl = 0 then u.tsu.raw + 50 * usT else u.hif.hrxIvl } }
/-- The PCIe engine takes what stands in H's queues, by strict priority (R242). -/
def State.hostDrain (s : State) : State :=
  (List.range 8).reverse.foldl (fun t tc =>
    if t.queue (qOf dstH tc) = [] then t
    else (t.queue (qOf dstH tc)).foldl (fun u f => u.hostFrame f tc) (t.setQueue (qOf dstH tc) [])) s

/-! ## Forwarding (R236, R241) -/

/-- Big-endian number of octets at an offset. -/
def beAt (b : List Byte) (off n : Nat) : Nat := ((b.drop off).take n).foldl (fun a x => 256 * a + x.toNat) 0
/-- The frame carries a C-tag. (DEDUCED, log 59) -/
def tagged (b : List Byte) : Bool := beAt b 12 2 == 0x8100
/-- The EtherType behind the tag. -/
def etherType (b : List Byte) : Nat := if tagged b then beAt b 16 2 else beAt b 12 2
/-- The registers' MAC addresses (R252). -/
def State.macM (s : State) : Nat := (s.cfg.get .SWX_MAC_M_LO).toNat + 2 ^ 32 * ((s.cfg.get .SWX_MAC_M_HI).toNat % 65536)
def State.macH (s : State) : Nat := (s.cfg.get .SWX_MAC_H_LO).toNat + 2 ^ 32 * ((s.cfg.get .SWX_MAC_H_HI).toNat % 65536)
/-- The VLAN entry in force for a VID (R256): members and UNTAG. -/
def State.vlan (s : State) (vid : Nat) : Option (Nat × Nat) :=
  ((List.range 64).find? (fun k => s.cf (.SWX_VLAN k) F.SWX_VLAN_VALID == 1 && s.cf (.SWX_VLAN k) F.SWX_VLAN_VID == vid
    && decide (1 ≤ vid ∧ vid ≤ 4094))).map (fun k =>
      (s.cf (.SWX_VLAN k) F.SWX_VLAN_MEMBER, s.cf (.SWX_VLAN k) F.SWX_VLAN_UNTAG))
/-- The VID of a frame; a priority tag counts as none. (DEDUCED, log 59) -/
def vidOf (pvid : Nat) (b : List Byte) : Nat :=
  if tagged b ∧ beAt b 14 2 % 4096 ≠ 0 then beAt b 14 2 % 4096 else pvid
/-- The class of a PCP (R241). -/
def State.pcpClass (s : State) (pcp : Nat) : Nat := s.cf .SWX_PCP_MAP F.SWX_PCP_MAP_MAP / 8 ^ pcp % 8
def State.linkUp (s : State) (p : Nat) : Bool := s.sf (.SWX_PORT_STAT p) F.SWX_PORT_STAT_LINK == 1
def State.portBlocked (s : State) (p : Nat) : Bool := s.sf (.SWX_PORT_STAT p) F.SWX_PORT_STAT_BLOCK == 1
/-- A source address is learned, or its entry refreshed (R236). Learning stops while W is reloaded (R436). -/
def State.learn (s : State) (mac vid dest : Nat) : State :=
  if mac = s.macM ∨ mac = s.macH ∨ mac % 2 = 1 ∨ s.portsReload = true then s
  else
    let l := s.swx.addrs.filter (fun a => !(a.mac == mac && a.vid == vid))
    if l.length < s.swx.addrs.length ∨ l.length < 8192 then
      { s with swx := { s.swx with addrs := l ++ [{ mac := mac, vid := vid, dest := dest, at_ := s.tsu.raw }] } }
    else s
/-- The destinations of a frame (R236): a port that is blocked or has no link receives none. (DEDUCED, log 62) -/
def State.destsOf (s : State) (mac vid from_ members : Nat) : List Nat :=
  let all := if mac = s.macM then [dstM] else if mac = s.macH then [dstH]
    else
      match s.swx.addrs.find? (fun a => a.mac == mac && a.vid == vid) with
      | some a => if mac % 2 = 0 then [a.dest] else (List.range 5).filter (fun d => bit members d)
      | none => (List.range 5).filter (fun d => bit members d)
  all.filter (fun d => d != from_ && (decide (3 ≤ d) || (s.linkUp d && !s.portBlocked d)))
/-- A frame filled up to the least length of a frame, 64 octets with its FCS (R232). (DEDUCED, log 167) -/
def padded (b : List Byte) : List Byte := b ++ zeros (60 - b.length)
/-- A frame as a destination receives it (R236, R240): without its tag, with its own, or for a port and M with one put in. (DEDUCED, log 167) -/
def egressForm (data : List Byte) (vid tc dest : Nat) (untag : Bool) : List Byte :=
  if untag then (if tagged data then padded (data.take 12 ++ data.drop 16) else data)
  else if tagged data ∨ dest = dstH then data
  else
    let tci := tc * 8192 + vid
    data.take 12 ++ [0x81#8, 0x00#8, BitVec.ofNat 8 (tci / 256), BitVec.ofNat 8 tci] ++ data.drop 12
/-- Where a frame entered the fabric, with its receive timestamp as raw count and output time (R263, R265), and the word of its
copy for H that is to fail parity. -/
structure InFrame where
  data : List Byte
  port : Option Nat
  raw : Nat
  out : Int
  bad : Option Nat
  deriving DecidableEq, Repr
/-- A frame of H or M, which has no receive timestamp. -/
def InFrame.own (data : List Byte) : InFrame := { data := data, port := none, raw := 0, out := 0, bad := none }
/-- One copy of a frame goes to the queue of one destination; the Bool tells whether it was admitted. -/
def State.sendCopy (s : State) (fid vid tc untag dest : Nat) (f : InFrame) : State × Bool :=
  let q := qOf dest tc
  match s.admitCells q (cellsFor f.data) with
  | none => (s, false)
  | some sh =>
    (s.setQueue q (s.queue q ++ [{
        fid := fid, cells := cellsFor f.data, shared := sh, data := egressForm f.data vid tc dest (bit untag dest), vid := vid
        did := none, tsreq := false, inPort := f.port, stampRaw := f.raw, stampOut := f.out, bad := f.bad }]), true)
/-- Forward a frame to its destinations: how many it has, and how many admitted it. (DEDUCED, log 66) -/
def State.forward (s : State) (from_ vid tc : Nat) (f : InFrame) : State × Nat × Nat :=
  match s.vlan vid with
  | none => (s, 0, 0)
  | some (members, untag) =>
    let ds := s.destsOf (leAt f.data 0 6) vid from_ members
    let fid := s.swx.nextFid
    let s1 : State := { s with swx := { s.swx with nextFid := fid + 1 } }
    let r := ds.foldl (fun (a : State × Nat) d =>
      let c := a.1.sendCopy fid vid tc untag d f
      (c.1, a.2 + b2n c.2)) (s1, 0)
    (r.1.hostDrain, ds.length, r.2)

/-! ## What M sends (R237, R241) -/

/-- A frame that M forwards into the fabric under R236, of a class; a refused one counts in SWX_MSTAT (R244). -/
def State.mgmtSend (s : State) (vid tc : Nat) (data : List Byte) : State :=
  if s.cf .SWX_CFG F.SWX_CFG_ENABLE = 0 then s
  else
    let r := s.forward dstM vid tc (InFrame.own data)
    if r.2.1 ≠ 0 ∧ r.2.2 = 0 then r.1.bump .SWX_MSTAT F.word else r.1
/-- The EtherType of R-APS: the one frame that a blocked ring port passes (R238). (PRESUMED, log 60) -/
def etherRaps : Nat := 0x8902
/-- A frame of M for one port enters the port's queue of class TC7; a refused one counts in SWX_MSTAT (R241, R244). (DEDUCED, log 187) -/
def State.mgmtPort (s : State) (p : Nat) (data : List Byte) : State :=
  if s.linkUp p = false ∨ (s.portBlocked p = true ∧ etherType data ≠ etherRaps) then s
  else
    match s.admitCells (qOf p 7) (cellsFor data) with
    | none => s.bump .SWX_MSTAT F.word
    | some sh =>
      let t : State := { s with swx := { s.swx with nextFid := s.swx.nextFid + 1 } }
      t.setQueue (qOf p 7) (t.queue (qOf p 7) ++ [{
        fid := s.swx.nextFid, cells := cellsFor data, shared := sh, data := data, vid := 0, did := none, tsreq := false
        inPort := none, stampRaw := 0, stampOut := 0, bad := none }])
/-- A frame of M: destination address, its own address, a C-tag where `vid` gives one, EtherType, and the message, whose octets
the manual leaves to other standards. (PRESUMED, log 168) -/
def State.mgmtOctets (s : State) (dst : Nat) (vid : Option Nat) (ty : Nat) : List Byte × State :=
  let g := s.freshBytes 46
  let tag := match vid with
    | some v => [0x81#8, 0x00#8, BitVec.ofNat 8 (0xE0 + v / 256), BitVec.ofNat 8 v]
    | none => []
  ((le 6 dst).reverse ++ le 6 s.macM ++ tag ++ [BitVec.ofNat 8 (ty / 256), BitVec.ofNat 8 ty] ++ g.1, g.2)
/-- The address that M sends to for an IPv4 address: itself within the subnet, else the gateway (R237, R252). -/
def State.nextHop (s : State) (ip : Nat) : Nat :=
  let k := 32 - min 32 ((s.cfg.get .SWX_MGMT_NET).toNat % 64)
  if ip / 2 ^ k = (s.cfg.get .SWX_MGMT_IP4).toNat / 2 ^ k then ip else (s.cfg.get .SWX_MGMT_GW).toNat
/-- The reply to a sealed command enters the fabric at M, of class TC6 (R241). (DEDUCED, log 187) -/
def State.sealedReply (s : State) (ip : Nat) : State :=
  let g := s.mgmtOctets (Config.arp (s.nextHop ip)).toNat none 0x0800
  g.2.mgmtSend Config.mgmtVid.toNat 6 g.1

/-! ## Descriptors (R43 to R58) -/

/-- The status codes of R9. -/
def stOK : Nat := 0x00
def stERR_ARG : Nat := 0x01
def stBUSY : Nat := 0x02
def stABORTED : Nat := 0x03
def stEXPIRED : Nat := 0x04
def stLATE : Nat := 0x05
def stDUTY_DEFER : Nat := 0x06
def stDENIED : Nat := 0x07
def stPOISON : Nat := 0x08
def stERR_ABSENT : Nat := 0x09
def stERR_GATED : Nat := 0x0A
def stORPHAN : Nat := 0x0B
def stNEEDS_PRESENCE : Nat := 0x0C

/-- A descriptor in flight. -/
def State.desc? (s : State) (did : Nat) : Option Desc := s.hif.inflight.find? (fun d => d.did == did)
/-- Change one descriptor in flight. -/
def State.updDesc (s : State) (did : Nat) (f : Desc → Desc) : State :=
  { s with hif := { s.hif with inflight := s.hif.inflight.map (fun d => if d.did == did then f d else d) } }
/-- A descriptor leaves the module's hands. -/
def State.dropDesc (s : State) (did : Nat) : State :=
  { s with hif := { s.hif with inflight := s.hif.inflight.filter (fun d => d.did != did) } }
/-- A byte of PARAM, and a little-endian number of PARAM bytes (R43: PARAM is bytes 32 to 63). -/
def Desc.pByte (d : Desc) (i : Nat) : Nat := d.param.toNat / 256 ^ i % 256
def Desc.pNum (d : Desc) (i n : Nat) : Nat := d.param.toNat / 256 ^ i % 256 ^ n
/-- PARAM bytes `i` to `j − 1` are zero. -/
def Desc.pZero (d : Desc) (i j : Nat) : Bool := d.pNum i (j - i) == 0
/-- Launch-timed descriptors accepted and not yet carried out (R33, R54). -/
def State.pend (s : State) : Nat :=
  (s.hif.inflight.filter (fun d => d.launch && (d.stage == .launchWait || d.stage == .armed))).length

/-- What a descriptor's action answers. -/
structure Answer where
  status : Nat
  detail : Nat := 0
  result : Nat := 0
  /-- octets of the result for the data buffer -/
  data : List Byte := []
  /-- the result exceeded the buffer by whole items (R457) -/
  trunc : Bool := false
  deriving DecidableEq, Repr

/-- The final completion of a descriptor of ring `n` (R46, R54). -/
def State.finalEnt (s : State) (n : Nat) (d : Desc) (a : Answer) : CEnt :=
  let data := a.data.take d.len
  let status := if a.status = stOK ∧ d.late = true then stLATE else a.status
  { sq := n, tag := d.tag, status := status, detail := if status = stOK then 0 else a.detail
    trunc := a.trunc || decide (d.len < a.data.length), data := decide (data ≠ []), interim := false
    xfer := data.length, actTime := d.actTime.getD s.outputTime, result := a.result, octets := data, addr := d.addr
    silent := d.discard || (d.noComp && status == stOK), bad := d.postBad }
/-- A completion that a function reset has cut off is discarded, and the discard recorded (R63, R66). -/
def State.noteDiscard (s : State) (e : CEnt) : State := s.event 0 e.sq 0x0202 1 [e.sq, e.tag, e.status]
/-- A descriptor of a ring yields its final completion (R46, R47, R54). After a function reset the completion is discarded;
the data buffer is written all the same (R63). (DEDUCED, log 19) -/
def State.finishRing (s : State) (n : Nat) (d : Desc) (a : Answer) : State :=
  let e := s.finalEnt n d a
  let s1 := s.dropDesc d.did
  let s2 := if d.discard = true ∧ (d.noComp && e.status == stOK) = false then s1.noteDiscard e else s1
  if e.silent = true ∧ e.octets = [] then s2 else s2.postC e
/-- The descriptor yields its final completion, or the answer of its sealed envelope (R57, R387). -/
def State.finish (s : State) (d : Desc) (a : Answer) : State :=
  match d.src with
  | .ring n => s.finishRing n d a
  | .sealedRing outer =>
    let t := s.dropDesc d.did
    match t.desc? outer with
    | some o =>
      match o.src with
      | .ring n => t.finishRing n { o with late := d.late, actTime := d.actTime } { a with data := [] }
      | _ => t
    | none => t
  | .sealedUdp ip port =>
    let status := if a.status = stOK ∧ d.late = true then stLATE else a.status
    ((s.dropDesc d.did).emit (.udpAnswer ip port d.tag status (if status = stOK then 0 else a.detail) a.result)).sealedReply ip
/-- Complete a descriptor with a status and DETAIL. -/
def State.fail (s : State) (d : Desc) (status : Nat) (detail : Nat := 0) : State :=
  s.finish d { status := status, detail := detail }
/-- Complete a descriptor with OK and a RESULT. -/
def State.ok (s : State) (d : Desc) (result : Nat := 0) : State := s.finish d { status := stOK, result := result }

/-- A failed read of host memory (R27, R62). -/
def State.hostMemFail (s : State) : State :=
  ({ s with hif := { s.hif with pcie := { s.hif.pcie with aer := true } } }).raiseCause 2

/-- A descriptor may start now: ring order and FENCE (R52). -/
def State.canStart (s : State) (d : Desc) : Bool :=
  s.hif.inflight.all (fun e =>
    !(decide (e.did < d.did) && e.src == d.src) || (e.stage != .waiting && !d.fence))

/-- An interim completion DUTY_DEFER of a descriptor of ring `n`, once (R47); after a function reset it is discarded (R63). -/
def State.deferRing (s : State) (n : Nat) (d : Desc) : State :=
  let t := s.updDesc d.did (fun x => { x with interim := true })
  let e : CEnt :=
    { sq := n, tag := d.tag, status := stDUTY_DEFER, detail := 0, trunc := false, data := false, interim := true, xfer := 0
      actTime := s.outputTime, result := 0, octets := [], addr := 0, silent := false, bad := none }
  if d.interim = true ∨ d.noComp = true then t else if d.discard then t.noteDiscard e else t.postC e
/-- The duty budget holds a descriptor's radio frame: an interim completion, once. Inside an envelope from a ring it is the
SEALED descriptor's (R47, R57). -/
def State.deferDesc (s : State) (did : Nat) : State :=
  match s.desc? did with
  | none => s
  | some d =>
    match d.src with
    | .ring n => s.deferRing n d
    | .sealedRing outer =>
      match s.desc? outer with
      | some o => (match o.src with
        | .ring n => s.deferRing n o
        | _ => s)
      | none => s
    | .sealedUdp _ _ => s

/-- A result that is written whole octet by octet, the buffer cutting it (R46). -/
def State.okData (s : State) (d : Desc) (data : List Byte) (result : Nat) : State :=
  s.finish d { status := stOK, result := result, data := data }
/-- A result of whole items of `k` octets: as many as fit (R457 and the like). -/
def State.okItems (s : State) (d : Desc) (k : Nat) (items : List (List Byte)) (result : Nat → Nat) : State :=
  let fit := min items.length (d.len / k)
  s.finish d { status := stOK, result := result fit, data := (items.take fit).flatten
               trunc := decide (fit < items.length) }

/-- The action of a descriptor begins at the output time now (R46). -/
def State.beginDesc (s : State) (did : Nat) : State :=
  s.updDesc did (fun x => { x with stage := .begun, actTime := some s.outputTime })

/-! ## The frame of a command -/

/-- A part of a command that writes no host-written register field (R21). -/
def State.hold (s : State) (f : State → State) : State := { f s with cfg := s.cfg }

/-- A command that writes no host-written register field (R21) and leaves the queue of commands alone. (DESIGN CHOICE, log 2) -/
def quiet (f : State → State) (s : State) : Host.Outcome State Fault Refusal :=
  .next { f s with cfg := s.cfg, pending := s.pending }
/-- A command that may write host-written register fields; it leaves the queue of commands alone. -/
def loud (f : State → State) (s : State) : Host.Outcome State Fault Refusal :=
  .next { f s with pending := s.pending }

end Sys2Proof.Machine
end

