-- ==== Sys2Proof/Machine/Operands.lean ====
section
/-! DEFINITION. Sys2Proof/Machine/Operands.lean: the forms that an operation's operands take: the fields of a
descriptor (R43), the opcode table (R56), the data buffer (R39, R62), and the start of an operation (R44, R52, R57, R357,
R467). -/
namespace Sys2Proof.Machine

/-- The Buffer column of R56. -/
inductive BufKind where
  | none
  | input
  | output
  deriving DecidableEq, Repr

/-- A row of the opcode table (R56): its buffer, whether it accepts LAUNCH, and the most octets its buffer may have where
the opcode's own rule gives no other answer (R44). -/
structure OpInfo where
  buf : BufKind
  launch : Bool
  limit : Nat
  deriving DecidableEq, Repr

/-- The opcode table (R56); none: not in the table. -/
def opInfo (op : Nat) : Option OpInfo :=
  let big := 16777216
  match op with
  | 0x00 => some ⟨.none, false, 0⟩
  | 0x01 => some ⟨.none, false, 0⟩
  | 0x02 => some ⟨.none, false, 0⟩
  | 0x03 => some ⟨.none, false, 0⟩
  | 0x04 => some ⟨.none, true, 0⟩
  | 0x05 => some ⟨.none, false, 0⟩
  | 0x06 => some ⟨.input, false, 65536⟩
  | 0x07 => some ⟨.output, false, big⟩
  | 0x10 => some ⟨.output, false, big⟩
  | 0x11 => some ⟨.input, false, big⟩
  | 0x12 => some ⟨.none, false, 0⟩
  | 0x13 => some ⟨.none, false, 0⟩
  | 0x14 => some ⟨.output, false, big⟩
  | 0x15 => some ⟨.input, false, big⟩
  | 0x16 => some ⟨.input, false, big⟩
  | 0x17 => some ⟨.input, false, big⟩
  | 0x18 => some ⟨.none, true, 0⟩
  | 0x19 => some ⟨.output, false, big⟩
  | 0x1A => some ⟨.output, false, big⟩
  | 0x20 => some ⟨.input, true, big⟩
  | 0x21 => some ⟨.input, true, big⟩
  | 0x22 => some ⟨.input, true, big⟩
  | 0x23 => some ⟨.output, false, big⟩
  | 0x30 => some ⟨.input, false, big⟩
  | 0x31 => some ⟨.input, false, big⟩
  | 0x32 => some ⟨.output, false, big⟩
  | 0x40 => some ⟨.input, true, big⟩
  | 0x41 => some ⟨.output, false, big⟩
  | 0x42 => some ⟨.output, false, big⟩
  | 0x43 => some ⟨.input, false, big⟩
  | 0x50 => some ⟨.input, true, big⟩
  | 0x51 => some ⟨.input, true, big⟩
  | 0x52 => some ⟨.output, false, big⟩
  | 0x53 => some ⟨.input, false, big⟩
  | 0x60 => some ⟨.output, false, big⟩
  | 0x61 => some ⟨.output, false, big⟩
  | 0x70 => some ⟨.input, false, big⟩
  | 0x71 => some ⟨.none, false, 0⟩
  | 0x72 => some ⟨.none, true, 0⟩
  | 0x73 => some ⟨.none, false, 0⟩
  | 0x80 => some ⟨.output, false, big⟩
  | 0x81 => some ⟨.output, false, big⟩
  | _ => none

/-- The descriptor of 64 octets (R43), as number `did` of the run from a source, fetched at a raw count, an output time and a
count of the nanosecond counter. -/
def parseDesc (did : Nat) (src : Src) (raw : Nat) (out : Int) (ns : Nat) (postBad : Option Nat) (b : List Byte) : Desc :=
  let flags := leAt b 1 1
  { did := did, src := src, op := leAt b 0 1, noComp := bit flags 3, fence := bit flags 2, launch := bit flags 1
    tag := leAt b 2 2, target := leAt b 4 4, launchTime := leAt b 8 8, addr := leAt b 16 8, len := leAt b 24 4
    deadline := leAt b 28 4, param := BitVec.ofNat 256 (leAt b 32 32), buf := [], stage := .waiting, at_ := raw, atOut := out, atNs := ns
    interim := false, late := false, actTime := none, discard := false, postBad := postBad, work := 0 }

/-- The checks that the module makes on a descriptor before it acts (R44, R54): true where it completes with ERR_ARG. A
required buffer of an opcode with several actions is its own meaning's check. -/
def descInvalid (flags : Nat) (now : Int) (d : Desc) : Bool :=
  match opInfo d.op with
  | none => true
  | some o =>
    decide (flags / 16 ≠ 0) || (d.launch && !o.launch) || decide (d.len ≠ 0 ∧ d.addr % 8 ≠ 0)
      || decide (o.buf = .none ∧ d.len ≠ 0) || decide (o.limit < d.len)
      || (d.launch && decide (now + 172800 * (secT : Int) < d.launchTime))

/-- The octets of a read, cut or filled to the buffer's length. -/
def fitBytes (n : Nat) (b : List Byte) : List Byte := (b ++ zeros n).take n

/-- A standby unit denies the operation (R357). -/
def standbyDenies (d : Desc) : Bool :=
  match d.op with
  | 0x11 => true
  | 0x12 => true
  | 0x13 => true
  | 0x15 => true
  | 0x16 => true
  | 0x17 => true
  | 0x18 => true
  | 0x19 => d.pByte 0 == 1 || d.pByte 0 == 2
  | 0x20 => true
  | 0x21 => true
  | 0x22 => true
  | 0x30 => true
  | 0x31 => true
  | 0x50 => true
  | 0x51 => true
  | 0x04 => d.target / 256 == 4 || d.target / 256 == 5
  | _ => false

/-- Replay mode serves the operation (R467). -/
def replayServes (d : Desc) : Bool :=
  d.op == 0x07 || d.op == 0x80 || d.op == 0x05 || (d.op == 0x81 && d.pByte 0 == 0)

/-- The module turns an operation away before it looks at its operands: status and DETAIL (R57, R357, R467). -/
def State.turnsAway (s : State) (d : Desc) : Option (Nat × Nat) :=
  if s.replaying ∧ replayServes d = false then some (stDENIED, 0)
  else if s.standby ∧ standbyDenies d = true then some (stDENIED, 0xFE)
  else none

/-- A fetched descriptor starts: it is this command's operation, ring order and FENCE allow it, and firmware runs (R52,
R65). Where it may not start, the state stays as it is. -/
def State.starts (s : State) (d : Desc) : Bool :=
  d.stage == .waiting && s.canStart d && s.ready && !s.paused

/-- The start of an operation of opcode `op` with no input buffer; `sel` chooses among the rows of one opcode. -/
def State.operation (s : State) (did op : Nat) (sel : Desc → Bool) (body : State → Desc → State) : State :=
  match s.desc? did with
  | none => s
  | some d =>
    if d.op = op ∧ sel d = true ∧ s.starts d = true then
      match s.turnsAway d with
      | some (st, det) => s.fail d st det
      | none =>
        let d' := { d with stage := .queued }
        body (s.updDesc did (fun _ => d')) d'
    else s

/-- The start of an operation that reads its buffer: the octets come from the host read, or for an operation inside an
envelope from the envelope. A failed read completes the descriptor with POISON, and while host memory is out of reach the
operation waits (R62). `sel` chooses among the rows of one
opcode, and sees the buffer. -/
def State.operationIn (s : State) (did op : Nat) (read : HostRead) (sel : Desc → Bool) (body : State → Desc → State) :
    State :=
  match s.desc? did with
  | none => s
  | some d =>
    match d.src, read with
    | .ring _, .failed =>
      if d.op = op ∧ s.starts d = true ∧ d.len ≠ 0 ∧ s.hostUp = true then
        match s.turnsAway d with
        | some (st, det) => s.fail d st det
        | none => s.hostMemFail.fail d stPOISON
      else s
    | .ring _, .ok b =>
      let d1 := { d with buf := if d.len = 0 then [] else fitBytes d.len b }
      if d.op = op ∧ sel d1 = true ∧ s.starts d = true ∧ (d.len = 0 ∨ s.hostUp = true) then
        match s.turnsAway d with
        | some (st, det) => s.fail d st det
        | none =>
          let d2 := { d1 with stage := .queued }
          body (s.updDesc did (fun _ => d2)) d2
      else s
    | _, _ => s.operation did op sel body

/-- A launch-timed operation is accepted: it waits for its slot (R54); a further one than 4,096 completes with BUSY. An
operation with no LAUNCH acts now. -/
def State.acceptLaunch (s : State) (d : Desc) (now : State → Desc → State) : State :=
  if d.launch then
    (if 4096 ≤ s.pend then s.fail d stBUSY else s.updDesc d.did (fun x => { x with stage := .launchWait }))
  else now (s.beginDesc d.did) { d with stage := .begun, actTime := some s.outputTime }

end Sys2Proof.Machine
end

