-- ==== Sys2Proof/Machine/Registers.lean ====
section
/-! DEFINITION. Sys2Proof/Machine/Registers.lean: accesses to BAR0 (R7, R8, R29, R487, R552 to R563): the plain fields,
the broadcast windows, and the value that a read gives. -/
namespace Sys2Proof.Machine

/-! ## The value of a register -/

/-- Submission rings `lo` to `lo + 31` that are FAULTED, a bit each (R33). -/
def State.sqFaultWord (s : State) (lo : Nat) : Nat :=
  (List.range 32).foldl (fun a i =>
    a + (if s.sf (.HIF_SQ_STAT (lo + i)) F.HIF_SQ_STAT_STATE = 3 then 2 ^ i else 0)) 0

/-- The calendar's register words (R530). -/
def Cal.loWord (c : Cal) : Nat := c.hour * 65536 + c.min * 256 + c.sec
def Cal.hiWord (c : Cal) : Nat := c.year * 65536 + c.month * 256 + c.day

/-- The items of a yard's uplink or downlink queue in words each, oldest first (R245). (DESIGN CHOICE, log 65) -/
def State.queWords (s : State) (q : Nat) : List Nat :=
  if q < 56 then (s.air.accepted.filter (fun r => r.yard == q - 40)).map (fun r => r.words)
  else (s.air.reqs.filter (fun r => r.yard == q - 56 && r.queued)).map (fun r => r.words)
/-- The words that such a queue stores: as many as its producer has had credits for (R247). -/
def State.queLevel (s : State) (q : Nat) : Nat :=
  if s.sf (.QUE_STAT q) F.QUE_STAT_DISCARD = 1 then 0 else min (queueDepth q) ((s.queWords q).foldl (· + ·) 0)
/-- QUE_STAT of such a queue (R259): the credits are what the depth leaves. -/
def State.queWord (s : State) (q : Nat) : BitVec 32 :=
  let w := s.sts.get (.QUE_STAT q)
  F.QUE_STAT_LEVEL.set (F.QUE_STAT_CREDIT.set w (F.QUE_STAT_CREDIT.get w - s.queLevel q)) (s.queLevel q)

/-- A GROUP's mask is zero now (R557). -/
def State.maskEmpty (s : State) (f : Fam) (g : Nat) : Bool :=
  (List.range f.maskWords).all (fun w => (s.cfg.get (.BC_MASK f g w)) == 0#32)

/-- The value of a register, from the copies that the block agents hold (R22, R487): written bits from `cfg`, the module's
bits from `sts`, and the values that the manual computes at the read. Latched registers give what their latch holds. -/
def State.regValue (s : State) (side : Side) (r : Reg) : BitVec 32 :=
  let w : Nat → BitVec 32 := BitVec.ofNat 32
  let tl := if side = .host then s.tsu.latHost else s.tsu.latFw
  let rl := if side = .host then s.newt.latHost else s.newt.latFw
  match r with
  | .HIF_SQ_FAULT_LO => w (s.sqFaultWord 0)
  | .HIF_SQ_FAULT_HI => w (s.sqFaultWord 32)
  | .HIF_PEND => w s.pend
  | .TSU_TIME_LO => w (twos 64 s.outputTime)
  | .TSU_TIME_HI => w tl.timeHi
  | .TSU_RAW_LO => w tl.rawLo
  | .TSU_RAW_HI => w tl.rawHi
  | .TSU_RES => w tl.res
  | .TSU_PPSIN_LO => w s.tsu.ppsIn
  | .TSU_PPSIN_HI => w (if side = .host then s.tsu.ppsHiHost else s.tsu.ppsHiFw)
  | .TSU_LSLOT => w ((s.sts.get .TSU_LSLOT).toNat + s.armedSlots.length)
  | .TSU_DOM_RATE d => w (twos 32 (s.dom d).rate)
  | .RTC_TICK_LO => w s.newt.tick
  | .RTC_TICK_HI => w rl.tickHi
  | .RTC_CAL_LO => w rl.cal.loWord
  | .RTC_CAL_HI => w rl.cal.hiWord
  | .RTC_WPEND => w (b2n s.newt.stCal.isSome + 2 * b2n s.newt.stAlm0.isSome + 4 * b2n s.newt.stAlm1.isSome)
  | .RTC_ALM_LO n => w (if n = 0 then s.newt.alm0.lo else s.newt.alm1.lo)
  | .RTC_ALM_HI n => w (if n = 0 then s.newt.alm0.hi else s.newt.alm1.hi)
  | .BC_STAT_G f g =>
    let copy := if side = .host then s.sts.get (.BC_STAT_G f g) else s.bcFw.get (.BC_STAT_G f g)
    F.BC_STAT_EMPTY.set copy (b2n (s.maskEmpty f g))
  | .SEC_DEVID k => w (Config.devId.toNat / 2 ^ (32 * k))
  | .SEC_STAT => w (F.SEC_STAT_WIN_LEFT.set (F.SEC_STAT_WINDOW.set (F.SEC_STAT_CREDIT.set (F.SEC_STAT_PENDING.set
      (s.sts.get .SEC_STAT) (b2n s.shed.pend.isSome)) (b2n s.creditOpen)) (b2n s.winOpen))
      (if s.winOpen then ceilDiv (s.shed.windowEnd - s.tsu.raw) secT else 0)).toNat
  | .UPD_SESSION => w (F.UPD_SESSION_IDLE.set (s.sts.get .UPD_SESSION)
      (match s.upd.session with
       | some x => ceilDiv (x.idleEnd - s.tsu.raw) secT
       | none => 0)).toNat
  | .UPD_LEFT => w (ceilDiv (s.upd.windowEnd.getD 0 - s.tsu.raw) secT)
  | .QUE_STAT q => if 40 ≤ q ∧ q < 72 then s.queWord q else s.sts.get (.QUE_STAT q)
  | .BC_STAT_ALL f => if side = .host then s.sts.get (.BC_STAT_ALL f) else s.bcFw.get (.BC_STAT_ALL f)
  | r => (s.cfg.get r &&& r.hostMask) ||| (s.sts.get r &&& ~~~ r.hostMask)

/-- While the lizard loader runs, the host reaches these registers alone: HIF_ID, HIF_STATUS and the UPD window (R443). -/
def lizardSees (off : Nat) : Bool := off == 0 || off == 8 || decide (0x360000 ≤ off ∧ off < 0x370000)
/-- An access that is not answered: the supply is absent; or the host's, and the lizard loader answers it not (R443). -/
def State.lizardHides (s : State) (side : Side) (off : Nat) : Bool :=
  s.clk.phase == .off || (s.clk.phase == .lizard && side == .host && !lizardSees off)

/-- A BAR0 read of 32 bits without its side effects; a reserved offset reads 0 (R553). -/
def State.peek (s : State) (side : Side) (off : Nat) : BitVec 32 :=
  if s.lizardHides side off then 0#32
  else
    match Reg.ofOffset off with
    | some r => s.regValue side r
    | none => 0#32

/-- A host write that reaches a unit that cannot act on it is dropped and noted (R487). -/
def State.accErr (s : State) (off status : Nat) : State :=
  let t := (((s.setSw .CLK_ACCERR_ADDR off).setSf .CLK_ACCERR_INFO F.CLK_ACCERR_INFO_STATUS status).bumpSat .CLK_ACCERR_INFO
    F.CLK_ACCERR_INFO_COUNT).setSf .CLK_EVT F.CLK_EVT_ACCERR 1
  t.event 1 0 0x1004 2 [off, status]

/-! ## Writing a register -/

/-- What a field takes when `v` is written to it (R554 and the field's own words). -/
def Clamp.apply (c : Clamp) (width old v : Nat) : Nat :=
  match c with
  | .none => v
  | .range lo hi => if v < lo then lo else if hi < v then hi else v
  | .srange lo hi =>
    let i := signed width v
    if i < lo then twos width lo else if hi < i then twos width hi else v
  | .zeroAbove hi => if hi < v then 0 else v
  | .ignoreAbove hi => if hi < v then old else v

/-- The family and instance of a register's SETUP_IGNORED (R66): a completion or event ring's CFG serves ring n. (DEDUCED, log 163) -/
def Reg.setupSource (r : Reg) : Nat × Nat :=
  match r with
  | .YRD_REGION => (6, 16)
  | .SWX_ERPS => (4, 0)
  | .TSU_DOM_CFG d => (3, d)
  | .MTR_I_FS n => (16, n)
  | .HIF_CQ_CFG n => (0, n)
  | .HIF_EQ_CFG n => (0, n)
  | .SWX_HRX_HEAD => (0, 0)
  | _ => (0, 0)

/-- A set-up value is ignored or stands without effect, and the module says so (R66). -/
def State.setupIgnored (s : State) (r : Reg) (f : Fld) (value cause : Nat) : State :=
  let p := r.setupSource
  s.event p.1 p.2 0x0203 2 [r.offset, f.lo, value, cause]

/-- A field may be written now, by its access type (R7, R19, R392, R562). -/
def State.writable (s : State) (side : Side) (a : Access) : Bool :=
  match a with
  | .RW => true
  | .RWL => side == .host && !s.done
  | .RWP => s.winOpen
  | _ => false

/-- One field of a register takes a written word (R7). -/
def State.writeField (s : State) (side : Side) (r : Reg) (word : BitVec 32) (f : Field) : State :=
  let v := f.span.get word
  match f.acc with
  | .RO => s
  | .WO => s
  | .W1C => { s with sts := s.sts.put r (s.sts.get r &&& ~~~ (word &&& f.span.mask)) }
  | .W1S => { s with sts := s.sts.put r (s.sts.get r ||| (word &&& f.span.mask)) }
  | a =>
    if s.writable side a then
      let old := s.cf r f.span
      let s1 := s.setCf r f.span (f.clamp.apply f.span.width old v)
      match f.clamp with
      | .ignoreAbove hi => if hi < v then s1.setupIgnored r f.span v 0 else s1
      | _ => s1
    else s

/-- What follows a register write beside its fields: an unmasked MSI-X vector sends its pending message (R552); a write
that clears both procedure bits of SEC_TAMPER_CFG leaves both unchanged (R401). -/
def State.afterWrite (before s : State) (r : Reg) : State :=
  match r with
  | .MSIX_CTL n =>
    if s.cf (.MSIX_CTL n) F.MSIX_CTL_MASK = 0 ∧ s.sf (.MSIX_PBA (n / 32)) ⟨n % 32, n % 32⟩ = 1 then
      (s.setSf (.MSIX_PBA (n / 32)) ⟨n % 32, n % 32⟩ 0).msix n
    else s
  | .SEC_TAMPER_CFG =>
    if s.cf .SEC_TAMPER_CFG F.SEC_TAMPER_CFG_BTN_PRES = 0 ∧ s.cf .SEC_TAMPER_CFG F.SEC_TAMPER_CFG_SEAL_PRES = 0 then
      (s.setCf .SEC_TAMPER_CFG F.SEC_TAMPER_CFG_BTN_PRES
          (before.cf .SEC_TAMPER_CFG F.SEC_TAMPER_CFG_BTN_PRES)).setCf .SEC_TAMPER_CFG F.SEC_TAMPER_CFG_SEAL_PRES
        (before.cf .SEC_TAMPER_CFG F.SEC_TAMPER_CFG_SEAL_PRES)
    else s
  | _ => s

/-- A 32-bit write to a register, field by field (R7, R8, R18). -/
def State.writeReg (s : State) (side : Side) (r : Reg) (word : BitVec 32) : State :=
  s.afterWrite (r.fields.foldl (fun t f => t.writeField side r word f) s) r

/-- Registers whose writes act beyond their fields, in Access.lean. (DEDUCED, log 12) -/
def Reg.ownRow : Reg → Bool
  | .HIF_SETUP_DONE => true
  | .SWX_HRX_HEAD => true
  | .RTC_CAL_HI => true
  | .RTC_ALM_HI _ => true
  | _ => false

/-- The _LO words of the RTC pairs are held on the control side (R524). -/
def State.holdLo (s : State) (r : Reg) (word : BitVec 32) : State :=
  let v := (word &&& r.hostMask).toNat
  match r with
  | .RTC_CAL_LO => { s with newt := { s.newt with calLo := v } }
  | .RTC_ALM_LO n =>
    if n = 0 then { s with newt := { s.newt with almLo0 := v } } else { s with newt := { s.newt with almLo1 := v } }
  | _ => s

/-- A 32-bit BAR0 write to plain fields (R7, R553): reserved offsets ignore it. The CUSTOM bit of YRD_REGION stays as it stands here. -/
def State.poke (s : State) (side : Side) (off : Nat) (word : BitVec 32) : State :=
  match Reg.ofOffset off with
  | none => s
  | some r =>
    if r.ownRow || s.lizardHides side off then s
    else
      match r with
      | .RTC_CAL_LO => if side = .host then s.holdLo r word else s
      | .RTC_ALM_LO _ => if side = .host then s.holdLo r word else s
      | .YRD_REGION => s.writeReg side r (F.YRD_REGION_CUSTOM.set word (s.cf r F.YRD_REGION_CUSTOM))
      | r => s.writeReg side r word

/-! ## Broadcast windows (R555 to R563) -/

/-- The families, for the search of a window. -/
def Fam.all : List Fam := [.ports, .yards, .lanes, .drive, .current, .voltage, .pulse]

/-- A broadcast window: ALL, or GROUP g. -/
inductive BcWin where
  | all
  | group (g : Nat)
  deriving DecidableEq, Repr

/-- The broadcast window that an offset lies in outside its control area, and the offset inside it (R555, R556). -/
def bcWindow (off : Nat) : Option (Fam × BcWin × Nat) :=
  Fam.all.findSome? (fun f =>
    if f.allBase ≤ off ∧ off < f.allBase + f.ctlOff then some (f, BcWin.all, off - f.allBase)
    else if f.groupBase ≤ off ∧ off < f.groupBase + 8 * f.size ∧ (off - f.groupBase) % f.size < f.ctlOff then
      some (f, BcWin.group ((off - f.groupBase) / f.size), (off - f.groupBase) % f.size)
    else none)

/-- A member belongs to a GROUP by its mask bit (R558). -/
def State.inGroup (s : State) (f : Fam) (g i : Nat) : Bool :=
  bit (s.cfg.get (.BC_MASK f g (i / 32))).toNat (i % 32)

/-- The members that a window reaches now (R559). -/
def State.bcMembers (s : State) (f : Fam) (w : BcWin) : List Nat :=
  match w with
  | .all => List.range f.members
  | .group g => (List.range f.members).filter (s.inGroup f g)

/-- One 32-bit broadcast write: every member applies the value under its own access types, as one access (R559, R562). -/
def State.bcWrite (s : State) (side : Side) (off : Nat) (word : BitVec 32) : State :=
  match bcWindow off with
  | none => s
  | some (f, w, o) => (s.bcMembers f w).foldl (fun t i => t.poke side (f.instBase + f.size * i + o) word) s

/-- The BC_STAT register of a window. -/
def bcStat (f : Fam) : BcWin → Reg
  | .all => .BC_STAT_ALL f
  | .group g => .BC_STAT_G f g

/-- The BC_STAT word of a gather: MISMATCH, FIRST and DIFF (R557, R560). EMPTY is computed at the read. -/
def bcOutcome (vals : List (Nat × BitVec 32)) : BitVec 32 :=
  match vals with
  | [] => BitVec.ofNat 32 0x3FF
  | (i, v) :: t =>
    match t.find? (fun p => p.2 != v) with
    | none => BitVec.ofNat 32 (65536 * i + 0x3FF)
    | some (j, _) => BitVec.ofNat 32 (2 ^ 31 + 65536 * i + j)

/-- One 32-bit broadcast read: the lowest member's value, and the copy of BC_STAT of its own side (R557, R560). -/
def State.bcRead (s : State) (side : Side) (off : Nat) : BitVec 32 × State :=
  match bcWindow off with
  | none => (0#32, s)
  | some (f, w, o) =>
    let vals := (s.bcMembers f w).map (fun i => (i, s.peek side (f.instBase + f.size * i + o)))
    let word := bcOutcome vals
    let v := match vals with
      | [] => 0#32
      | (_, v) :: _ => v
    (v, if side = .host then { s with sts := s.sts.put (bcStat f w) word }
        else { s with bcFw := s.bcFw.put (bcStat f w) word })

/-! ## Register snapshots (R60) -/

/-- The registers of a range of offsets, ascending. -/
def regsIn (lo hi : Nat) : List Reg := (List.range ((hi - lo) / 4)).filterMap (fun i => Reg.ofOffset (lo + 4 * i))

/-- One header and its register values (R60). -/
def State.snapshot (s : State) (kind sel inst : Nat) (regs : List Reg) : List Byte :=
  le 1 kind ++ le 1 sel ++ le 2 inst ++ le 2 regs.length ++ zeros 2 ++ le 8 (twos 64 s.outputTime)
    ++ (regs.map (fun r => le 4 (s.regValue .host r).toNat)).flatten

/-- The family of a selector of kind 0x01 (R60). -/
def famOf (n : Nat) : Option Fam := Fam.all[n]?

/-- The offsets of a window or page of kind 0x02, the control areas and the parts R60 leaves out not included (R60). -/
def windowRange (n : Nat) : Option (Nat × Nat) :=
  [(0x0, 0x8000), (0x10000, 0x20000), (0x20000, 0x30000), (0x30000, 0x40000), (0x40000, 0x41000), (0x80000, 0x81000),
   (0x300000, 0x304000), (0x310000, 0x311000), (0x320000, 0x330000), (0x330000, 0x340000), (0x340000, 0x350000),
   (0x350000, 0x360000), (0x360000, 0x370000), (0x370000, 0x380000), (0x380000, 0x390000)][n]?

/-- The snapshot that a STATUS_READ of kind 0x01 or 0x02 selects; none where the selector is not valid (R60). -/
def State.statusSnapshot (s : State) (target : Nat) : Option (List Byte) :=
  let kind := bits target 31 24
  if kind = 1 then
    match famOf (bits target 23 16) with
    | none => none
    | some f =>
      let one (i : Nat) : List Byte :=
        s.snapshot 1 (bits target 23 16) i (regsIn (f.instBase + f.size * i) (f.instBase + f.size * i + f.ctlOff))
      let i := bits target 15 0
      if i = 0xFFFF then some ((List.range f.members).map one).flatten
      else if i < f.members then some (one i) else none
  else if kind = 2 then
    if bits target 23 8 ≠ 0 then none
    else
      match windowRange (bits target 7 0) with
      | none => none
      | some (lo, hi) => some (s.snapshot 2 (bits target 7 0) 0 (regsIn lo hi))
  else none

end Sys2Proof.Machine
end

