-- ==== Sys2Proof/Machine/Mailbox.lean ====
section
/-! DEFINITION. Sys2Proof/Machine/Mailbox.lean: mailboxes and doorbells (R405 to R425). -/
namespace Sys2Proof.Machine

/-! ## Channels -/

def State.mbx_ (s : State) (n : Nat) : MbxCh := Tbl.get MbxCh.reset s.mbx.chans n
def State.setMbx (s : State) (n : Nat) (x : MbxCh) : State :=
  { s with mbx := { s.mbx with chans := Tbl.put MbxCh.reset s.mbx.chans n x } }
/-- The ends of a channel (R405). -/
inductive MbxEnd where
  | host
  | m0
  | shed
  | peer
  deriving DecidableEq, Repr
def mbxSender (n : Nat) : MbxEnd :=
  if n < 6 then .host else if n < 10 then .m0 else if n < 12 then .shed else if n < 14 then .m0 else .peer
def mbxReceiver (n : Nat) : MbxEnd :=
  if n < 4 then .m0 else if n < 6 then .shed else if n < 12 then .host else if n < 14 then .peer else .m0
/-- An end runs (R419, R421). -/
def State.endRuns (s : State) (e : MbxEnd) : Bool :=
  match e with
  | .host => true
  | .m0 => s.ready
  | .shed => s.ready && !s.shed.down
  | .peer => s.sf .TWN_STAT F.TWN_STAT_LANE_OK == 1
/-- A channel may leave DISABLED now: M0's firmware, or the shed, has run since the start (R421, R424). (DEDUCED, log 84) -/
def State.chanUp (s : State) (n : Nat) : Bool :=
  let shed := decide (mbxSender n = .shed ∨ mbxReceiver n = .shed)
  if n < 12 then bit (s.cf .MBX_CFG F.MBX_CFG_ENABLE) n && s.ready && (!shed || s.mbx.shedRan)
  else decide (n < 16) && s.mbx.twin
/-- STATE of a channel (R410). (DEDUCED, log 84) -/
def State.chanState (s : State) (n : Nat) : Nat := if s.chanUp n = false then 2 else if (s.mbx_ n).aborted then 1 else 0
/-- MBX_TWIN follows the twin channels (R424). -/
def State.mbxTwinRefresh (s : State) : State :=
  s.setSf .MBX_TWIN F.MBX_TWIN_STATE ((List.range 4).foldl (fun a k => a + s.chanState (12 + k) * 4 ^ k) 0)
/-- MBX_CHn_STAT (R410). -/
def State.chanStat (s : State) (n : Nat) : Nat :=
  let x := s.mbx_ n
  s.chanState n * 2 ^ 30 + b2n ((x.msgs.head?.map (fun m => m.2)).getD false) * 2 ^ 29 + x.refused * 65536
    + (x.rd + x.msgs.length) % 4 * 1024 + x.rd * 256 + x.msgs.length

/-! ## Doorbells (R414, R415) -/

/-- A doorbell bit rings at its end. -/
def State.ring (s : State) (e : MbxEnd) (b : Nat) : State :=
  match e with
  | .host =>
    let was := bit s.mbx.hdb b
    let t : State := { s with mbx := { s.mbx with hdb := if was then s.mbx.hdb else s.mbx.hdb + 2 ^ b } }
    if was = false ∧ bit s.mbx.mask b = false then t.raiseCause 7 else t
  | .peer => s
  | _ => if bit s.mbx.mdb b then s else { s with mbx := { s.mbx with mdb := s.mbx.mdb + 2 ^ b } }
/-- A doorbell bit of a module end is cleared by its firmware. -/
def State.clearMdb (s : State) (b : Nat) : State :=
  if bit s.mbx.mdb b then { s with mbx := { s.mbx with mdb := s.mbx.mdb - 2 ^ b } } else s

/-! ## Posting and taking (R408, R411 to R413) -/

/-- A slot holds a message that is posted and not consumed: it belongs to the receiver (R411). -/
def MbxCh.posted (x : MbxCh) (k : Nat) : Bool := decide ((k + 4 - x.rd) % 4 < x.msgs.length)
/-- The slot that the sender fills next (R410). -/
def MbxCh.wr (x : MbxCh) : Nat := (x.rd + x.msgs.length) % 4
/-- The octets of a slot. -/
def MbxCh.slot (x : MbxCh) (k : Nat) : List Byte := (List.range 64).map (fun i => BitVec.ofNat 8 (Tbl.get 0 x.slots (64 * k + i)))
/-- The sender writes octets from an offset of the slots on; those of a posted slot are ignored (R411). -/
def MbxCh.fill (x : MbxCh) (off : Nat) (data : List Byte) : MbxCh :=
  { x with slots := data.zipIdx.foldl (fun l p =>
      if x.posted ((off + p.2) / 64) ∨ 256 ≤ off + p.2 then l else Tbl.put 0 l (off + p.2) p.1.toNat) x.slots }

/-- POST: the slot at WR is posted as it stands, or the post is refused (R411, R412). -/
def State.mbxPostSlot (s : State) (n : Nat) : State :=
  let x := s.mbx_ n
  if s.chanState n ≠ 0 ∨ 4 ≤ x.msgs.length then s.setMbx n { x with refused := satAdd 8 x.refused 1 }
  else
    let m := x.slot x.wr
    let t := s.setMbx n { x with msgs := x.msgs ++ [(m, false)], seq := (x.seq + 1) % 65536 }
    let t := (t.ring (mbxReceiver n) (2 * n)).emit (.mailbox n m)
    if n = 12 ∨ n = 13 then t.emit (.twinMail n m) else t
/-- The sender writes the 64 octets of the slot at WR, and then POST (R411). -/
def State.mbxPut (s : State) (n : Nat) (msg : List Byte) : State :=
  (s.setMbx n ((s.mbx_ n).fill (64 * (s.mbx_ n).wr) (fitBytes 64 msg))).mbxPostSlot n
/-- A message with its header (R416). -/
def mbxMsg (kind seq ref : Nat) (body : List Byte) : List Byte :=
  le 2 kind ++ le 2 seq ++ le 2 ref ++ le 1 body.length ++ zeros 1 ++ fitBytes 56 body
/-- Firmware or the shed may post on a channel now. -/
def State.mayPost (s : State) (n : Nat) : Bool :=
  s.chanState n == 0 && decide ((s.mbx_ n).msgs.length < 4) && !(s.mbx.stopping && decide (6 ≤ n ∧ n ≤ 9))
/-- Kept answers of a channel are posted as slots free (R423). -/
def State.flushReplies (s : State) (n : Nat) : List (Nat × Nat × List Byte) → State
  | [] => { s with mbx := { s.mbx with replies := Tbl.put [] s.mbx.replies n [] } }
  | r :: rest =>
    if s.mayPost n then (s.mbxPut n (mbxMsg r.1 (s.mbx_ n).seq r.2.1 r.2.2)).flushReplies n rest
    else { s with mbx := { s.mbx with replies := Tbl.put [] s.mbx.replies n (r :: rest) } }
def State.flushAll (s : State) : State :=
  (List.range 6).foldl (fun t k => t.flushReplies (6 + k) (Tbl.get [] t.mbx.replies (6 + k))) s
/-- Firmware or the shed sends a message on a channel; with no slot free it keeps it, up to 32 (R423). -/
def State.answerMbx (s : State) (n kind ref : Nat) (body : List Byte) : State :=
  let kept := Tbl.get [] s.mbx.replies n
  if 32 ≤ kept.length then s.event 18 n 0x0D03 2 [n, kind]
  else s.flushReplies n (kept ++ [(kind, ref, body)])
/-- The shed's notice on channel 11 that a command waits for presence, with 60 s left (R407, R417). (DEDUCED, log 157) -/
def State.presenceWait (s : State) (op : Nat) : State := s.answerMbx 11 0x0010 0xFFFF (le 2 op ++ le 2 60)
/-- Its notice that the wait has ended: 0 presence given, 1 timed out, 2 aborted (R417). (DEDUCED, log 157) -/
def State.presenceDone (s : State) (how : Nat) : State := s.answerMbx 11 0x0011 0xFFFF (le 1 how)
/-- The message at RD is consumed (R413). -/
def State.mbxTake (s : State) (n : Nat) : State :=
  let x := s.mbx_ n
  match x.msgs with
  | [] => s
  | _ :: rest => (s.setMbx n { x with msgs := rest, rd := (x.rd + 1) % 4 }).ring (mbxSender n) (2 * n + 1)

/-! ## Resets of an end (R419 to R421) -/

/-- A reset of the receiver, or its CLEAR: the channel is cleared and ABORTED. -/
def State.mbxAbort (s : State) (n cause : Nat) : State :=
  let x := s.mbx_ n
  let t := s.setMbx n { x with msgs := [], rd := 0, aborted := true }
  let t := if n < 12 ∧ x.aborted = false then t.bump .MBX_ABORTS F.word else t
  ((t.ring (mbxSender n) (2 * n + 1)).event 18 n 0x0D01 1 [n, x.msgs.length, cause]).mbxTwinRefresh
/-- A reset of the sender, or its SRESET: its posted messages become orphans. -/
def State.mbxOrphan (s : State) (n : Nat) : State :=
  let x := s.mbx_ n
  let k := (x.msgs.filter (fun m => !m.2)).length
  if k = 0 then s
  else (s.setMbx n { x with msgs := x.msgs.map (fun m => (m.1, true)) }).event 18 n 0x0D02 0 [n, k]
/-- The host end is reset (R421). -/
def State.mbxHostReset (s : State) : State :=
  let t := (List.range 6).foldl State.mbxOrphan s
  let t := (List.range 6).foldl (fun u k => u.mbxAbort (6 + k) 0) t
  { t with mbx := { t.mbx with mask := 0xFFFFFFFF } }
/-- The shed end is reset. -/
def State.mbxShedReset (s : State) : State :=
  let t := ((s.mbxAbort 4 0).mbxAbort 5 0)
  let t : State := { t with mbx := { t.mbx with
    replies := Tbl.put [] (Tbl.put [] t.mbx.replies 10 []) 11 [] } }
  (t.mbxOrphan 10).mbxOrphan 11
/-- The twin lane is lost, which resets the peer's end: the receiver's rule for channels 12 and 13, the sender's for 14 and 15
(R421, R425). (DEDUCED, log 85) -/
def State.mbxLaneLost (s : State) : State := (((s.mbxAbort 12 2).mbxAbort 13 2).mbxOrphan 14).mbxOrphan 15
/-- The twin lane is up: the twin channels leave DISABLED. -/
def State.mbxLaneUp (s : State) : State :=
  State.mbxTwinRefresh { s with mbx := { s.mbx with twin := true } }

/-! ## The commands -/

/-- MBX_POST (R411, R412). A post of M0's own on channels 6 to 9 does not come while the driver is stopping (R417). -/
def execMbxPost (ch : Nat) (msg : List Byte) (s : State) : Host.Outcome State Fault Refusal :=
  quiet (fun s => if 15 < ch ∨ (s.mbx.stopping = true ∧ 6 ≤ ch ∧ ch ≤ 9) then s else s.mbxPut ch msg) s
/-- MBX_ACK (R413). -/
def execMbxAck (ch : Nat) (s : State) : Host.Outcome State Fault Refusal :=
  quiet (fun s => if 15 < ch then s else (s.mbxTake ch).flushAll) s
/-- MBX_CLEAR (R419). -/
def execMbxClear (ch : Nat) (s : State) : Host.Outcome State Fault Refusal :=
  quiet (fun s => if 15 < ch then s else s.mbxAbort ch 1) s
/-- MBX_SRESET (R420). -/
def execMbxSreset (ch : Nat) (s : State) : Host.Outcome State Fault Refusal :=
  quiet (fun s => if 15 < ch then s else s.mbxOrphan ch) s
/-- REOPEN: only while the receiver runs (R419). -/
def State.mbxReopen (s : State) (ch : Nat) : State :=
  if s.endRuns (mbxReceiver ch) = false then s
  else ((s.setMbx ch { s.mbx_ ch with aborted := false }).mbxTwinRefresh).flushAll
/-- MBX_REOPEN (R419). -/
def execMbxReopen (ch : Nat) (s : State) : Host.Outcome State Fault Refusal :=
  quiet (fun s => if 15 < ch then s else s.mbxReopen ch) s
/-- MBX_HDB_MASK is written: a bit that is unmasked while its doorbell is 1 raises HIF_INT_CAUSE.MBX (R415). -/
def State.hdbMaskWrite (s : State) (val : Nat) : State :=
  let v := val % 2 ^ 32
  let t : State := { s with mbx := { s.mbx with mask := v } }
  if (List.range 32).any (fun k => bit s.mbx.mask k && !bit v k && bit s.mbx.hdb k) then t.raiseCause 7 else t
/-- MBX_HDB_MASK_WRITE (R415). -/
def execMbxHdbMaskWrite (val : Nat) (s : State) : Host.Outcome State Fault Refusal := quiet (fun s => s.hdbMaskWrite val) s

/-! ## BAR4 (R28, R406, R408 to R410, R414) -/

/-- The number that stands for BAR4 offset 0 in a register write or read: BAR0's offsets lie below 2^32. (DEDUCED, log 13) -/
def bar4 : Nat := 0x400000000
/-- The host writes MBX_CHn_CTL: each bit acts where the host is the end it names, in ascending bit order (R409). -/
def State.chanCtl (s : State) (n val : Nat) : State :=
  let tx := mbxSender n == .host
  let s := if tx && bit val 0 then s.mbxPostSlot n else s
  let s := if !tx && bit val 1 then (s.mbxTake n).flushAll else s
  let s := if !tx && bit val 2 then s.mbxAbort n 1 else s
  let s := if tx && bit val 3 then s.mbxOrphan n else s
  if tx && bit val 4 then s.mbxReopen n else s
/-- A host write to BAR4: slots take octets of every width from their sender, MBX_CHn_CTL and the doorbell page take 32 bits, and
other offsets ignore it (R408, R409, R411, R414). (DEDUCED, log 13) -/
def State.bar4Write (s : State) (width off val : Nat) : State :=
  let n := off / 0x1000
  let o := off % 0x1000
  if n < 12 then
    if o < 256 then
      (if mbxSender n = .host then s.setMbx n ((s.mbx_ n).fill o (le (width / 8) (val % 2 ^ width))) else s)
    else if o = 0x800 ∧ width = 32 then s.chanCtl n val
    else s
  else if off = 0xF000 ∧ width = 32 then
    { s with mbx := { s.mbx with hdb := (BitVec.ofNat 32 s.mbx.hdb &&& ~~~ (BitVec.ofNat 32 val)).toNat } }
  else if off = 0xF004 ∧ width = 32 then s.hdbMaskWrite val
  else s
/-- The octet at an offset of BAR4 as the host reads it: reserved offsets and MBX_CHn_CTL read 0 (R408 to R410, R414). -/
def State.bar4Byte (s : State) (off : Nat) : Nat :=
  let n := off / 0x1000
  let o := off % 0x1000
  let of (word base : Nat) : Nat := word / 2 ^ (8 * (off - base)) % 256
  if n < 12 then
    if o < 256 then Tbl.get 0 (s.mbx_ n).slots o
    else if 0x804 ≤ o ∧ o < 0x808 then of (s.chanStat n) (0x1000 * n + 0x804) else 0
  else if 0xF000 ≤ off ∧ off < 0xF004 then of s.mbx.hdb 0xF000
  else if 0xF004 ≤ off ∧ off < 0xF008 then of s.mbx.mask 0xF004
  else 0
/-- A host read of BAR4 of a width. (DEDUCED, log 13) -/
def State.bar4Read (s : State) (width off : Nat) : Nat :=
  ((List.range (width / 8)).map (fun i => s.bar4Byte (off + i) * 2 ^ (8 * i))).foldl (· + ·) 0

/-! ## Messages that the module understands (R416 to R418) -/

def msgKind (m : List Byte) : Nat := leAt m 0 2
def msgSeq (m : List Byte) : Nat := leAt m 2 2
def msgLen (m : List Byte) : Nat := leAt m 6 1
/-- The message at RD of a channel. -/
def State.mbxHead (s : State) (n : Nat) : Option (List Byte) := (s.mbx_ n).msgs.head?.map (fun m => m.1)
/-- A receiving end takes the message at RD, and its doorbell with the last one. (DEDUCED, log 85) -/
def State.mbxServe (s : State) (n : Nat) : State :=
  let t := s.mbxTake n
  if (t.mbx_ n).msgs = [] then t.clearMdb (2 * n) else t
/-- The header's reserved octet is not 0: the message is refused for a reason to which R417 gives no code. -/
def msgBroken (m : List Byte) : Bool := leAt m 7 1 != 0
/-- Why a message at a host channel is refused: a NAK reason, or none (R417). -/
def nakReason (n : Nat) (m : List Byte) : Option Nat :=
  if 56 < msgLen m then some 2
  else if msgKind m = 0x0001 ∨ msgKind m = 0x0002 ∨ msgKind m = 0x0004 then none
  else if msgKind m = 0x0003 then (if n < 4 then none else some 3)
  else if msgKind m = 0x0010 ∨ msgKind m = 0x0011 then some 3
  else some 1
/-- An end of the module is served now: outside an activation pause and a replay, with firmware or the shed running (R421, R467). -/
def State.servesMbx (s : State) (n : Nat) : Bool := decide (n < 6) && s.endRuns (mbxReceiver n) && !s.paused && !s.replaying
/-- PING: M0 or the shed takes the message at RD of channel 0 to 5. A PING is answered with PONG; a message that breaks
R416 or whose kind R417 does not know is answered with NAK, whose reason is free where R417 gives none; an answer is taken and no more. (DEDUCED, log 86) -/
def execPing (ch : Nat) (s : State) : Host.Outcome State Fault Refusal :=
  quiet (fun s =>
    match s.mbxHead ch with
    | none => s
    | some m =>
      if s.servesMbx ch = false then s
      else
        let t := s.mbxServe ch
        if msgBroken m = true ∧ nakReason ch m = none then
          t.fresh.2.answerMbx (ch + 6) 0x0004 (msgSeq m) (le 2 (msgKind m) ++ le 1 (t.fresh.1 % 256))
        else
        match nakReason ch m with
        | some r => t.answerMbx (ch + 6) 0x0004 (msgSeq m) (le 2 (msgKind m) ++ le 1 r)
        | none =>
          if msgKind m = 0x0001 then t.answerMbx (ch + 6) 0x0002 (msgSeq m) ((m.drop 8).take (msgLen m))
          else if msgKind m = 0x0003 then s
          else t) s
/-- HOST_STATE: M0 takes the message at RD of the first of channels 0 to 3 that holds one (R417). (DEDUCED, log 85) -/
def execHostState (s : State) : Host.Outcome State Fault Refusal :=
  quiet (fun s =>
    match (List.range 4).find? (fun n => s.servesMbx n
      && ((s.mbxHead n).map (fun m => msgKind m == 0x0003 && decide (msgLen m ≤ 56) && !msgBroken m)).getD false) with
    | none => s
    | some n =>
      let b := leAt ((s.mbxHead n).getD []) 8 1
      let t := s.mbxServe n
      let t : State := { t with mbx := { t.mbx with
        stopping := if b = 0 then false else if b = 1 then true else t.mbx.stopping } }
      t.flushAll) s

end Sys2Proof.Machine
end

