-- ==== Sys2Proof/Machine/Yards.lean ====
section
/-! DEFINITION. Sys2Proof/Machine/Yards.lean: front ends, channel plans, regulatory profiles, yards, the lane pool and its
self-test, and run-time control (R68 to R78, R83 to R92, R95, R96, R98, R105, R106, R108). -/
namespace Sys2Proof.Machine

/-! ## Regulatory profiles (R92, R95, R96, R98, R114) -/

/-- The limit references of R92 and R114. -/
inductive LimitRef where
  | erp
  | eirp
  | gainRule
  | conducted
  deriving DecidableEq, Repr

/-- A sub-band: its number, edges in kHz, duty limit in 0.1 % (1,000: none), power limit in 0.25 dBm, its reference,
single-channel modes only, and the dwell rule. -/
structure SubBand where
  num : Nat
  lo : Nat
  hi : Nat
  duty : Nat
  limit : Int
  ref : LimitRef
  narrow : Bool
  dwell : Bool
  deriving DecidableEq, Repr

/-- The built-in profiles (R95). -/
def builtinProfile (p : Nat) : List SubBand :=
  if p = 0 then
    [⟨0, 863000, 865000, 1, 56, .erp, false, false⟩, ⟨1, 865000, 868000, 10, 56, .erp, false, false⟩,
     ⟨2, 868000, 868600, 10, 56, .erp, false, false⟩, ⟨3, 868700, 869200, 1, 56, .erp, false, false⟩,
     ⟨4, 869400, 869650, 100, 108, .erp, false, false⟩, ⟨5, 869700, 870000, 10, 56, .erp, false, false⟩]
  else if p = 1 then [⟨0, 902000, 928000, 1000, 120, .gainRule, false, true⟩]
  else [⟨0, 865000, 867000, 1000, 144, .erp, true, false⟩]

/-- The reference of a LREF code (R114). -/
def lrefOf (c : Nat) : LimitRef := if c = 0 then .erp else if c = 1 then .eirp else if c = 2 then .gainRule else .conducted

/-- The CUSTOM profile: the sub-bands with VALID = 1 (R114). -/
def State.customProfile (s : State) : List SubBand :=
  (List.range 8).filterMap (fun k =>
    if s.cf (.YRD_CUST_SB_HI k) F.YRD_CUST_SB_HI_VALID = 1 then
      some { num := k, lo := s.cf (.YRD_CUST_SB_LO k) F.YRD_CUST_SB_LO_FREQ
             hi := s.cf (.YRD_CUST_SB_HI k) F.YRD_CUST_SB_HI_FREQ
             duty := s.cf (.YRD_CUST_SB_LIM k) F.YRD_CUST_SB_LIM_DUTY
             limit := s.cf (.YRD_CUST_SB_LIM k) F.YRD_CUST_SB_LIM_LIMIT
             ref := lrefOf (s.cf (.YRD_CUST_SB_LIM k) F.YRD_CUST_SB_LIM_LREF)
             narrow := s.cf (.YRD_CUST_SB_LIM k) F.YRD_CUST_SB_LIM_NARROW == 1
             dwell := s.cf (.YRD_CUST_SB_LIM k) F.YRD_CUST_SB_LIM_DWELL == 1 }
    else none)

/-- CUSTOM is in force (R98). -/
def State.customOn (s : State) : Bool := s.cf .YRD_REGION F.YRD_REGION_CUSTOM == 1
/-- The profile in force. -/
def State.profile (s : State) : List SubBand :=
  if s.customOn then s.customProfile else builtinProfile (s.cf .YRD_REGION F.YRD_REGION_PROFILE)
/-- The profile's number in PROFILE_CHANGE: the built-in code, 3 for CUSTOM, whose code R98 and R108 do not give. (DESIGN CHOICE, log 173) -/
def State.profileCode (s : State) : Nat := if s.customOn then 3 else s.cf .YRD_REGION F.YRD_REGION_PROFILE

/-- The lower edge of a front end's slice in kHz (R68). -/
def State.feLow (s : State) (f : Nat) : Nat := s.cf (.YRD_FE_CFG f) F.YRD_FE_CFG_LOW
/-- A front end serves its yards: enabled, and its slice within the band (R68, R74). -/
def State.feOk (s : State) (f : Nat) : Bool :=
  s.cf (.YRD_FE_CFG f) F.YRD_FE_CFG_ENABLE == 1 && decide (750000 ≤ s.feLow f) && decide (s.feLow f ≤ 934400)
/-- A mode that occupies a wide pair (R70). -/
def wideMode (m : Nat) : Bool := decide (2 ≤ m ∧ m ≤ 4)
/-- The occupied range of a channel in kHz (R68). -/
def chanRange (low chan mode : Nat) : Nat × Nat :=
  (low + 200 * chan, low + 200 * chan + (if wideMode mode then 400 else 200))
/-- The sub-band that holds a channel, if one does and allows the mode (R96). -/
def State.subBandOf (s : State) (f chan mode : Nat) : Option SubBand :=
  let r := chanRange (s.feLow f) chan mode
  s.profile.find? (fun b => decide (b.lo ≤ r.1) && decide (r.2 ≤ b.hi) && !(b.narrow && wideMode mode))

/-- The conducted ceiling of a sub-band in 0.25 dBm, for a net antenna gain in 0.25 dB (R92). -/
def ceiling (b : SubBand) (gain : Int) : Int :=
  let c := match b.ref with
    | .erp => (b.limit * 25 + 215 - gain * 25) / 25
    | .eirp => b.limit - gain
    | .gainRule => b.limit - max 0 (gain - 24)
    | .conducted => b.limit
  min 108 c

/-! ## Channel plans (R73, R119) -/

/-- A valid plan entry. -/
structure PlanEntry where
  idx : Nat
  beacon : Bool
  tx : Bool
  rx : Bool
  prio : Nat
  mode : Nat
  chan : Nat
  deriving DecidableEq, Repr

/-- Entry `k` of a yard's plan, if it is part of the plan. -/
def State.planEntry (s : State) (y k : Nat) : Option PlanEntry :=
  let r := Reg.YRD_PLAN y k
  if s.cf r F.YRD_PLAN_VALID = 1 then
    some { idx := k, beacon := s.cf r F.YRD_PLAN_BEACON == 1, tx := s.cf r F.YRD_PLAN_TX == 1
           rx := s.cf r F.YRD_PLAN_RX == 1, prio := s.cf r F.YRD_PLAN_PRIO, mode := s.cf r F.YRD_PLAN_MODE
           chan := s.cf r F.YRD_PLAN_CHAN }
  else none
/-- A yard's plan, ascending. -/
def State.plan (s : State) (y : Nat) : List PlanEntry := (List.range 128).filterMap (s.planEntry y)
/-- A yard's RX entries. -/
def State.rxPlan (s : State) (y : Nat) : List PlanEntry := (s.plan y).filter (fun e => e.rx)
/-- A yard is enabled (R116). -/
def State.yardEnabled (s : State) (y : Nat) : Bool := s.cf (.YRD_CFG y) F.YRD_CFG_ENABLE == 1
/-- The chain of a yard (R90). -/
def State.yardChain (s : State) (y : Nat) : Nat := 2 * (y / 4) + s.cf (.YRD_CFG y) F.YRD_CFG_TXSEL
/-- The beacon entry of a yard. -/
def State.beaconEntry (s : State) (y : Nat) : Option PlanEntry := (s.plan y).find? (fun e => e.beacon)

/-- The channels that an entry occupies (R73 rule 4). -/
def PlanEntry.chans (e : PlanEntry) : List Nat := if wideMode e.mode then [e.chan, e.chan + 1] else [e.chan]

/-- Rules 1 and 2 of R73, and the set-up of R116. -/
def State.planLocalOk (s : State) (y : Nat) : Bool :=
  let p := s.plan y
  let b := p.filter (fun e => e.beacon)
  b.length == 1 && b.all (fun e => e.rx && e.tx)
    && p.all (fun e => decide (e.mode ≤ 4) && (!wideMode e.mode || e.chan % 2 == 0))
    && decide (4 ≤ s.cf (.YRD_PHY y) F.YRD_PHY_PREAMBLE) && s.cf (.YRD_PHY y) F.YRD_PHY_FEC != 3

/-- Two RX entries of one front end break rules 3 to 5 of R73: they share a channel, and are of different yards, of the
same channel and mode, or one wide and one single. -/
def rxClash (y1 : Nat) (e1 : PlanEntry) (y2 : Nat) (e2 : PlanEntry) : Bool :=
  e1.chans.any (fun c => e2.chans.contains c)
    && (y1 != y2 || e1.mode == e2.mode || wideMode e1.mode != wideMode e2.mode)

/-- Rules 3 to 5 of R73 hold for a yard's RX entries among those of the four yards of its front end. -/
def State.planSharedOk (s : State) (y : Nat) : Bool :=
  let fe := (List.range 4).map (fun i => 4 * (y / 4) + i)
  let all := fe.flatMap (fun v => (s.rxPlan v).map (fun e => (v, e)))
  (s.rxPlan y).all (fun e =>
    all.all (fun q => (q.1 == y && q.2.idx == e.idx) || !rxClash y e q.1 q.2)
      && e.chans.all (fun c => decide ((all.filter (fun q => q.2.chans.contains c)).length ≤ 2)))

/-- Rule 7 of R73: the TX entries satisfy the profile (R96). -/
def State.planRegionOk (s : State) (y : Nat) : Bool :=
  let tx := (s.plan y).filter (fun e => e.tx)
  tx.all (fun e => (s.subBandOf (y / 4) e.chan e.mode).isSome)
    && (!s.profile.any (fun b => b.dwell) || decide (50 ≤ (tx.map (fun e => e.chan)).eraseDups.length))

/-- 10^(i/40) in units of 10^-12. -/
def tenFortieth : List Nat :=
  [1000000000000, 1059253725177, 1122018454302, 1188502227437, 1258925411794, 1333521432163, 1412537544623, 1496235656094,
   1584893192461, 1678804018123, 1778279410039, 1883649089490, 1995262314969, 2113489039837, 2238721138568, 2371373705662,
   2511886431510, 2660725059799, 2818382931264, 2985382618918, 3162277660168, 3349654391578, 3548133892336, 3758374042884,
   3981071705535, 4216965034286, 4466835921510, 4731512589615, 5011872336273, 5308844442310, 5623413251903, 5956621435290,
   6309573444802, 6683439175686, 7079457843841, 7498942093325, 7943282347243, 8413951416452, 8912509381337, 9440608762859]
/-- The power of a code, −10 dBm + 0.25 dB × code, in 10^-13 mW (R90). -/
def powerMw (code : Nat) : Nat := (tenFortieth.getD (code % 40) 0) * 10 ^ (code / 40)

/-- The chain limit of R90 holds for a chain, over the yards that have passed the earlier checks. (DEDUCED, log 30) -/
def State.chainPowerOk (s : State) (passed : List Nat) (ch : Nat) : Bool :=
  let ys := passed.filter (fun y => s.yardChain y == ch)
  s.cf (.YRD_TX_CFG ch) F.YRD_TX_CFG_ENABLE == 1
    && ys.all (fun y => decide (s.cf (.YRD_CFG y) F.YRD_CFG_TXPWR ≤ 148))
    && decide ((ys.map (fun y => powerMw (s.cf (.YRD_CFG y) F.YRD_CFG_TXPWR))).foldl (· + ·) 0 ≤ 5011900000000000)

/-! ## Yard states (R74 to R76) -/

/-- STATE codes of R117 and CAUSE codes of R74. -/
def yDISABLED : Nat := 0
def yRUNNING : Nat := 1
def yHALTED : Nat := 2
def yDEGRADED : Nat := 3
def yFAULTED : Nat := 4

/-- STATE of a yard. -/
def State.yardState (s : State) (y : Nat) : Nat := s.sf (.YRD_STATE y) F.YRD_STATE_STATE
/-- The yard is in service: RUNNING, DEGRADED or HALTED. -/
def State.yardLive (s : State) (y : Nat) : Bool := decide (y < 16) && decide (1 ≤ s.yardState y ∧ s.yardState y ≤ 3)
/-- The yard transmits: RUNNING or DEGRADED. -/
def State.yardTx (s : State) (y : Nat) : Bool := s.yardLive y && s.yardState y != yHALTED
/-- An RX entry is withdrawn. -/
def State.withdrawn (s : State) (y k : Nat) : Bool := s.sf (.YRD_WDRAW y (k / 32)) ⟨k % 32, k % 32⟩ == 1
/-- Some RX entry of the yard is withdrawn. -/
def State.anyWithdrawn (s : State) (y : Nat) : Bool := (List.range 4).any (fun n => (s.sts.get (.YRD_WDRAW y n)) != 0#32)

/-- The capacity figure (R76). -/
def capacity (inserv planned : Nat) : Nat := if planned = 0 then 0 else 16384 * inserv / planned

/-- Lanes by role (R77). -/
def rSPARE : Nat := 0
def rACTIVE : Nat := 1
def rSHADOW : Nat := 2
def rTESTING : Nat := 3
def rRETIRED : Nat := 4
def rEXCLUDED : Nat := 5
/-- ROLE of a lane. -/
def State.role (s : State) (n : Nat) : Nat := s.sf (.LNE_ASSIGN n) F.LNE_ASSIGN_ROLE
/-- The field of YRD_POOL that counts a role (R113). -/
def poolField (role : Nat) : Fld :=
  if role = rSPARE then F.YRD_POOL_SPARE else if role ≤ rTESTING then F.YRD_POOL_BUSY else F.YRD_POOL_RETIRED
/-- A lane takes a role, and YRD_POOL follows. -/
def State.setRole (s : State) (n role : Nat) : State :=
  let old := poolField (s.role n)
  let t := s.setSf .YRD_POOL old (s.sf .YRD_POOL old - 1)
  (t.setSf .YRD_POOL (poolField role) (t.sf .YRD_POOL (poolField role) + 1)).setSf (.LNE_ASSIGN n) F.LNE_ASSIGN_ROLE role
/-- A lane takes a role and an entry of a yard (R121). -/
def State.assignLane (s : State) (n role y : Nat) (e : PlanEntry) : State :=
  let t := s.setRole n role
  t.setSw (.LNE_ASSIGN n)
    (role * 2 ^ 29 + (y / 4) * 2 ^ 27 + e.mode * 2 ^ 24 + y * 2 ^ 20 + e.idx * 2 ^ 12 + e.chan)
/-- The yard and entry of a lane that serves one. -/
def State.laneYard (s : State) (n : Nat) : Nat := s.sf (.LNE_ASSIGN n) F.LNE_ASSIGN_YARD
def State.laneEntry (s : State) (n : Nat) : Nat := s.sf (.LNE_ASSIGN n) F.LNE_ASSIGN_ENTRY
/-- The ACTIVE lane of an entry. -/
def State.laneOf (s : State) (y k : Nat) : Option Nat :=
  (List.range 544).find? (fun n => s.role n == rACTIVE && s.laneYard n == y && s.laneEntry n == k)
/-- The rolling test of a lane. -/
def State.testOf (s : State) (n : Nat) : Option LaneTest := s.lanes.tests.find? (fun t => t.lane == n)
/-- The lane that serves an entry: its ACTIVE lane, or the shadow to which that lane has handed it over (R83). -/
def State.servingLane (s : State) (y k : Nat) : Option Nat :=
  match s.laneOf y k with
  | some n => some n
  | none => (s.lanes.tests.find? (fun x => x.handed && (match x.shadow with
    | some sh => s.laneYard sh == y && s.laneEntry sh == k
    | none => false))).bind (fun x => x.shadow)
/-- A rolling test ends. -/
def State.endTest (s : State) (n : Nat) : State :=
  { s with lanes := { s.lanes with tests := s.lanes.tests.filter (fun t => t.lane != n) } }
/-- Lanes that count as SPARE: those of role SPARE, and those tested in place (R83, R84). (DEDUCED, log 31) -/
def State.spareCount (s : State) : Nat :=
  s.sf .YRD_POOL F.YRD_POOL_SPARE + (s.lanes.tests.filter (fun t => t.shadow == none)).length
/-- A lane counts as SPARE. -/
def State.isSpare (s : State) (n : Nat) : Bool :=
  s.role n == rSPARE || s.lanes.tests.any (fun t => t.lane == n && t.shadow == none)
/-- The lowest-numbered lane that counts as SPARE. -/
def State.lowestSpare (s : State) : Option Nat := (List.range 544).find? s.isSpare
/-- The SPARE lane that becomes a shadow: the lowest-numbered idle one, not under an in-place test; R83 leaves open which. (DESIGN CHOICE, log 173) -/
def State.idleSpare (s : State) : Option Nat := (List.range 544).find? (fun n => s.role n == rSPARE)

/-- The capacity figure follows PLANNED and INSERV; a change sets YRD_EVT.CAP (R76, R118). (DESIGN CHOICE, log 32) -/
def State.recap (s : State) (y : Nat) : State :=
  let c := capacity (s.sf (.YRD_STATE y) F.YRD_STATE_INSERV) (s.sf (.YRD_STATE y) F.YRD_STATE_PLANNED)
  if c = s.sf (.YRD_CAP y) F.YRD_CAP_CAPACITY then s
  else (s.setSf (.YRD_CAP y) F.YRD_CAP_CAPACITY c).setSf (.YRD_EVT y) F.YRD_EVT_CAP 1
/-- An RX entry is withdrawn: its bit, INSERV, the state, the capacity figure (R75, R76, R87). -/
def State.withdrawEntry (s : State) (y k : Nat) : State :=
  let t := (s.setSf (.YRD_WDRAW y (k / 32)) ⟨k % 32, k % 32⟩ 1).setSf (.YRD_STATE y) F.YRD_STATE_INSERV
    (s.sf (.YRD_STATE y) F.YRD_STATE_INSERV - 1)
  (if t.yardState y = yRUNNING then t.setSf (.YRD_STATE y) F.YRD_STATE_STATE yDEGRADED else t).recap y
/-- A withdrawn RX entry is restored (R75, R106). -/
def State.restoreEntry (s : State) (y k : Nat) : State :=
  let t := (s.setSf (.YRD_WDRAW y (k / 32)) ⟨k % 32, k % 32⟩ 0).setSf (.YRD_STATE y) F.YRD_STATE_INSERV
    (s.sf (.YRD_STATE y) F.YRD_STATE_INSERV + 1)
  (if t.yardState y = yDEGRADED ∧ t.anyWithdrawn y = false then t.setSf (.YRD_STATE y) F.YRD_STATE_STATE yRUNNING
   else t).recap y
/-- What follows a withdrawal that lane exhaustion makes (R87): all of it with the withdrawal, before the lane has moved; the
manual leaves the instant open. (DESIGN CHOICE, log 173) -/
def State.exhaust (s : State) (y k failed : Nat) : State :=
  let t := (s.withdrawEntry y k).setSf (.YRD_EVT y) F.YRD_EVT_EXHAUST 1
  t.event 6 y 0x0303 3 [y, k, failed, t.sf (.YRD_CAP y) F.YRD_CAP_CAPACITY]

/-- SPARES_LOW may be recorded again once the SPARE count has risen above the threshold (R89). -/
def State.rearmSpares (s : State) : State :=
  if s.cf .YRD_SPARE_WARN F.YRD_SPARE_WARN_THRESH < s.spareCount then { s with lanes := { s.lanes with lowArmed := true } } else s
/-- A yard enters FAULTED with a cause; its lanes become SPARE (R74, R75). -/
def State.faultYard (s : State) (y cause : Nat) : State :=
  let t := ((List.range 544).filter (fun n =>
      decide (1 ≤ s.role n ∧ s.role n ≤ 3) && s.laneYard n == y && !s.isSpare n)).foldl
    (fun t n => (t.endTest n).setRole n rSPARE) s
  let t := { t with lanes := { t.lanes with moves := t.lanes.moves.filter (fun m => t.laneYard m.lane != y) } }
  let t := t.rearmSpares
  (((t.setSf (.YRD_STATE y) F.YRD_STATE_STATE yFAULTED).setSf (.YRD_STATE y) F.YRD_STATE_CAUSE cause).setSf (.YRD_RUN y)
    F.YRD_RUN_HALT 0).event 6 y 0x0308 3 [y, cause]

/-- SPARES_LOW, once until the count has risen above the threshold (R89). -/
def State.checkSpares (s : State) : State :=
  let n := s.spareCount
  if s.cf .YRD_SPARE_WARN F.YRD_SPARE_WARN_THRESH < n then { s with lanes := { s.lanes with lowArmed := true } }
  else if s.lanes.lowArmed then ({ s with lanes := { s.lanes with lowArmed := false } }).event 6 16 0x0304 2 [n]
  else s
/-- Rolling self-test is suspended while no lane is SPARE, and resumes when one is (R86). -/
def State.checkSuspend (s : State) : State :=
  let s := s.rearmSpares
  if s.spareCount = 0 then
    (if s.lanes.suspended ∨ s.cf .YRD_BIST_CFG F.YRD_BIST_CFG_ENABLE = 0 then s
     else ({ s with lanes := { s.lanes with suspended := true } }).event 6 16 0x0305 2 [])
  else { s with lanes := { s.lanes with suspended := false } }

/-! ## At HIF_SETUP_DONE (R74, R78, R90) -/

/-- The first failing cause of an enabled yard before the chain limit (R74): 0 none. -/
def State.yardCheck (s : State) (y : Nat) : Nat :=
  if s.feOk (y / 4) = false then 1
  else if s.planLocalOk y = false ∨ s.planSharedOk y = false then 2
  else if s.planRegionOk y = false then 3
  else 0

/-- The entries that need lanes, in the order of R78. -/
def State.laneDemand (s : State) (ys : List Nat) : List (Nat × PlanEntry) :=
  isort (fun p => ((if p.2.beacon then 0 else 1) * 16 + (15 - p.2.prio)) * 2048 + p.1 * 128 + p.2.idx)
    (ys.flatMap (fun y => (s.rxPlan y).map (fun e => (y, e))))

/-- Give lanes to the demand in order; what is left is withdrawn, a beacon entry left faults its yard (R78). -/
def State.giveLanes : State → List (Nat × PlanEntry) → List Nat → State
  | s, [], _ => s
  | s, (y, e) :: t, [] =>
    if s.yardLive y = false then State.giveLanes s t []
    else if e.beacon then State.giveLanes (s.faultYard y 5) t []
    else State.giveLanes (s.exhaust y e.idx 0xFFFF) t []
  | s, (y, e) :: t, n :: free => State.giveLanes (s.assignLane n rACTIVE y e) t free

/-- The radio side of HIF_SETUP_DONE. The synthesiser of a front end in service locks here; a yard that faults here for LANES or
CLOCK keeps the capacity figure of its plan, and one that faults for FE, PLAN, REGION or POWER gets none. (DESIGN CHOICE, log 32, 173) -/
def State.setupYards (s : State) : State :=
  let en := (List.range 16).filter s.yardEnabled
  let passed := en.filter (fun y => s.yardCheck y == 0)
  let ok := passed.filter (fun y => s.chainPowerOk passed (s.yardChain y))
  let s1 := (List.range 4).foldl (fun t f => t.setSf (.YRD_FE_STAT f) F.YRD_FE_STAT_LOCK (b2n (s.feOk f))) s
  let s2 := (List.range 544).foldl (fun t n =>
    if t.cf (.LNE_CTL n) F.LNE_CTL_EXCLUDE = 1 then t.setRole n rEXCLUDED else t) s1
  let s2 := (List.range 16).foldl (fun t y =>
    let t := t.setSf (.YRD_RUN y) F.YRD_RUN_TXPWR_RUN (t.cf (.YRD_CFG y) F.YRD_CFG_TXPWR)
    let t := t.setSf (.YRD_STATE y) F.YRD_STATE_PLANNED (s.rxPlan y).length
    t.setSf (.YRD_STATE y) F.YRD_STATE_INSERV (s.rxPlan y).length) s2
  let s3 := en.foldl (fun t y =>
    if y ∈ ok then
      (t.setSf (.YRD_STATE y) F.YRD_STATE_STATE yRUNNING).setSf (.YRD_CAP y) F.YRD_CAP_CAPACITY
        (capacity (s.rxPlan y).length (s.rxPlan y).length)
    else t.faultYard y (if s.yardCheck y = 0 then 4 else s.yardCheck y)) s2
  let free := (List.range 544).filter (fun n => s3.role n == rSPARE)
  let demand := s3.laneDemand ok
  let s4 := s3.giveLanes demand free
  let s5 := en.foldl (fun t y => t.setSf (.YRD_EVT y) F.YRD_EVT_CAP 0) s4
  let clk := s.sf .CLK_SRC_STAT ⟨1, 0⟩ = 2 ∨ s.sf .CLK_SRC_STAT ⟨13, 12⟩ = 2
  let s6 := if clk then ok.foldl (fun t y => if t.yardLive y then t.faultYard y 6 else t) s5 else s5
  let s7 := if free.length < demand.length then s6.checkSpares else s6
  { s7 with lanes := { s7.lanes with bistAt := s7.tsu.raw + s7.cf .YRD_BIST_CFG F.YRD_BIST_CFG_INTERVAL * msT } }

/-! ## Rolling self-test (R83, R86) -/

/-- Lanes from `from_` upward, wrapping (R83). -/
def laneRound (from_ : Nat) : List Nat := (List.range 544).map (fun i => (from_ + i) % 544)

/-- A lane whose turn counts: not RETIRED, EXCLUDED or SHADOW, and not under test already. -/
def State.turnCounts (s : State) (n : Nat) : Bool := s.role n == rSPARE || (s.role n == rACTIVE && (s.testOf n).isNone)

/-- A test of an ACTIVE lane starts: an idle SPARE lane becomes its shadow (R83 step 1). -/
def State.shadowTest (s : State) (n sh : Nat) : State :=
  let e : PlanEntry := { idx := s.laneEntry n, beacon := false, tx := false, rx := true, prio := 0
                         mode := s.sf (.LNE_ASSIGN n) F.LNE_ASSIGN_MODE, chan := s.sf (.LNE_ASSIGN n) F.LNE_ASSIGN_CHAN }
  let t := s.assignLane sh rSHADOW (s.laneYard n) e
  { t with lanes := { t.lanes with tests := t.lanes.tests ++ [⟨n, some sh, false, t.tsu.raw⟩] } }

/-- BIST_INTERVAL: the next lane in rotation starts a test; none starts before HIF_SETUP_DONE. (DESIGN CHOICE, log 173) -/
def execBistInterval (s : State) : Host.Outcome State Fault Refusal :=
  quiet (fun s =>
    if s.done = false ∨ s.cf .YRD_BIST_CFG F.YRD_BIST_CFG_ENABLE = 0 then s
    else
      let t := s.elapseTo s.lanes.bistAt
      let t := { t with lanes := { t.lanes with
        bistAt := t.tsu.raw + t.cf .YRD_BIST_CFG F.YRD_BIST_CFG_INTERVAL * msT } }
      let t := t.checkSuspend
      if t.lanes.suspended then t
      else
        match (laneRound t.lanes.next).find? t.turnCounts with
        | none => t
        | some n =>
          let t := { t with lanes := { t.lanes with next := (n + 1) % 544 } }
          if t.role n = rSPARE then
            let u := t.setRole n rTESTING
            { u with lanes := { u.lanes with tests := u.lanes.tests ++ [⟨n, none, true, u.tsu.raw⟩] } }
          else
            match t.idleSpare with
            | some sh => t.shadowTest n sh
            | none => t.event 7 n 0x0306 0 [n]) s

/-- LANE_TEST_HANDOVER: the lane under test has no frame in progress and becomes TESTING (R83 step 2). -/
def execLaneTestHandover (lane : Nat) (s : State) : Host.Outcome State Fault Refusal :=
  quiet (fun s =>
    match s.testOf lane with
    | some t =>
      if t.shadow.isSome ∧ t.handed = false then
        let u := s.setRole lane rTESTING
        { u with lanes := { u.lanes with
          tests := u.lanes.tests.map (fun x => if x.lane == lane then { x with handed := true } else x) } }
      else s
    | none => s) s

/-- BIST_SHADOW_TIMEOUT: the lane under test was never idle within 2 s (R83). -/
def execBistShadowTimeout (lane : Nat) (s : State) : Host.Outcome State Fault Refusal :=
  quiet (fun s =>
    match s.testOf lane with
    | some t =>
      match t.shadow with
      | some sh =>
        if t.handed then s
        else ((((s.elapseTo (t.at_ + 2 * secT)).endTest lane).setRole sh rSPARE).event 7 lane 0x0306 0 [lane]).checkSuspend
      | none => s
    | none => s) s

/-- A lane is retired: its test result and event bit, and LANE_FAIL (R84, R108, R122). -/
def State.retire (s : State) (n cause y k : Nat) : State :=
  let t := s.setRole n rRETIRED
  let t := (t.setSf (.LNE_BIST n) F.LNE_BIST_RESULT 2).setSf (.LNE_BIST n) F.LNE_BIST_CAUSE cause
  (t.setSf (.LNE_EVT n) F.LNE_EVT_FAIL 1).event 7 n 0x0301 2 [n, cause, y, k]

/-- LANE_REPLACED, with the event bits of the new lane and the yard (R84). `mark` is false for a handover after a failed
rolling test of a lane whose shadow already served. -/
def State.replaced (s : State) (old new y k : Nat) : State :=
  ((s.setSf (.LNE_EVT new) F.LNE_EVT_REPLACED 1).setSf (.YRD_EVT y) F.YRD_EVT_REPLACE 1).event 7 old 0x0302 1 [old, new, y, k]

/-- A lane that waits to move on gives its place to another, which serves its entry in its stead (R83, R87). -/
def State.reMove (s : State) (a b : Nat) : State :=
  { s with lanes := { s.lanes with moves := s.lanes.moves.map (fun m => if m.lane = a then { m with lane := b } else m) } }

/-- LANE_TEST_DONE: a test ends with a cause, 0 for a pass (R83 steps 4 to 6). -/
def execLaneTestDone (lane cause : Nat) (s : State) : Host.Outcome State Fault Refusal :=
  quiet (fun s =>
    match s.testOf lane with
    | none => s
    | some t =>
      if t.handed = false then s
      else
        let y := s.laneYard lane
        let k := s.laneEntry lane
        let u := s.endTest lane
        let passed := ((u.setSf (.LNE_BIST lane) F.LNE_BIST_RESULT 1).setSf (.LNE_BIST lane) F.LNE_BIST_CAUSE 0).bumpSat
          (.LNE_BIST lane) F.LNE_BIST_PASSES
        match t.shadow with
        | none => if cause = 0 then (passed.setRole lane rSPARE).checkSuspend
                  else ((u.retire lane (cause % 16) 0xFF 0xFF).checkSpares).checkSuspend
        | some sh =>
          if cause = 0 then (((passed.setRole lane rSPARE).setRole sh rACTIVE).reMove lane sh).checkSuspend
          else (((((u.retire lane (cause % 16) y k).setRole sh rACTIVE).reMove lane sh).replaced lane sh y k).checkSpares).checkSuspend) s

/-! ## Continuous checks (R84 to R89) -/

/-- The entry that R87 gives up: lowest PRIO, then higher CHAN, higher MODE, higher index; never the beacon entry. -/
def State.giveUp (s : State) (y : Nat) : Option PlanEntry :=
  ((s.rxPlan y).filter (fun e => !e.beacon && !s.withdrawn y e.idx)).foldl (fun best e =>
    match best with
    | none => some e
    | some b =>
      let key (x : PlanEntry) : Nat := ((15 - x.prio) * 128 + x.chan) * 1024 + x.mode * 128 + x.idx
      if key b < key e then some e else best) none

/-- A SPARE lane takes an entry; an in-place test of it is abandoned (R83, R84). -/
def State.takeSpare (s : State) (sp y : Nat) (e : PlanEntry) : State := (s.endTest sp).assignLane sp rACTIVE y e

/-- An entry has lost its lane: a SPARE lane takes it, or the yard gives up an entry (R84, R87, R88). A lane on its way to the
entry given up goes to this one instead. -/
def State.entryLost (s : State) (lane y k : Nat) : State :=
  match s.planEntry y k with
  | none => s
  | some e =>
    match s.lowestSpare with
    | some sp => (s.takeSpare sp y e).replaced lane sp y k
    | none =>
      match s.giveUp y with
      | none => s.faultYard y 5
      | some c =>
        if c.idx = k then s.exhaust y k lane
        else
          let t := s.exhaust y c.idx lane
          match s.servingLane y c.idx with
          | some cl => { t with lanes := { t.lanes with moves := t.lanes.moves ++ [⟨cl, k, lane⟩] } }
          | none =>
            let redirect (m : LaneMove) : LaneMove :=
              if m.entry = c.idx ∧ t.laneYard m.lane = y then { m with entry := k, failed := lane } else m
            { t with lanes := { t.lanes with moves := t.lanes.moves.map redirect } }

/-- The frame in progress on a lane is lost with it (R84). -/
def State.dropFrame (s : State) (n : Nat) (busy : Bool) : State := if busy then s.bump (.LNE_DROP n) F.word else s

/-- LANE_CHECK_FAIL: a lane fails a continuous check; `busy` tells whether a frame was in progress (R83 to R88). Where a shadow
fails that serves alone, the lane under test serves again, with no LANE_REPLACED: R83 gives the case before step 2 only. (DESIGN CHOICE, log 173) -/
def execLaneCheckFail (lane cause : Nat) (busy : Bool) (s : State) : Host.Outcome State Fault Refusal :=
  quiet (fun s =>
    let r := s.role lane
    if 544 ≤ lane ∨ r = rRETIRED ∨ r = rEXCLUDED then s
    else
      let y := s.laneYard lane
      let k := s.laneEntry lane
      let c := cause % 16
      let t :=
        if r = rSPARE then s.retire lane c 0xFF 0xFF
        else if r = rSHADOW then
          match s.lanes.tests.find? (fun x => x.shadow == some lane) with
          | some x =>
            let u := (((s.dropFrame lane (busy && x.handed)).endTest x.lane).retire lane c y k).reMove lane x.lane
            if x.handed then u.setRole x.lane rACTIVE else u
          | none => s.retire lane c y k
        else
          match s.testOf lane with
          | some x =>
            match x.shadow with
            | none => (s.endTest lane).retire lane c 0xFF 0xFF
            | some sh => ((((s.endTest lane).retire lane c y k).setRole sh rACTIVE).reMove lane sh).replaced lane sh y k
          | none =>
            let k' := match s.lanes.moves.find? (fun m => m.lane == lane) with
              | some m => m.entry
              | none => k
            let u := (s.dropFrame lane busy).retire lane c y k
            let u := { u with lanes := { u.lanes with moves := u.lanes.moves.filter (fun m => m.lane != lane) } }
            u.entryLost lane y k'
      (t.checkSpares).checkSuspend) s

/-- LANE_MOVE: the chosen lane has finished its frame and takes the failed lane's entry (R87 step 4). A shadow that serves
alone leaves the lane under test without an entry: its test goes on in place. -/
def execLaneMove (lane : Nat) (s : State) : Host.Outcome State Fault Refusal :=
  quiet (fun s =>
    match s.lanes.moves.find? (fun m => m.lane == lane) with
    | none => s
    | some m =>
      let y := s.laneYard lane
      match s.planEntry y m.entry with
      | none => s
      | some e =>
        let t := { s with lanes := { s.lanes with moves := s.lanes.moves.filter (fun x => x.lane != lane) } }
        let t := match t.testOf lane with
          | some x => match x.shadow with
            | some sh => t.assignLane sh rSHADOW y e
            | none => t
          | none => if t.role lane = rSHADOW then
              { t.setRole lane rACTIVE with lanes := { t.lanes with
                tests := t.lanes.tests.map (fun (x : LaneTest) => if x.shadow = some lane then { x with shadow := none } else x) } }
            else t
        (t.assignLane lane (t.role lane) y e).setSf (.LNE_EVT lane) F.LNE_EVT_REPLACED 1) s

/-! ## YARD_CTL (R105, R106) -/

/-- An action record. -/
structure YardAct where
  action : Nat
  entry : Nat
  value : Nat
  rest : Nat
  deriving DecidableEq, Repr

/-- The records of a YARD_CTL list. -/
def yardActs (b : List Byte) : List YardAct :=
  (List.range (b.length / 8)).map (fun i =>
    { action := leAt b (8 * i) 1, entry := leAt b (8 * i + 1) 1, value := leAt b (8 * i + 2) 2, rest := leAt b (8 * i + 4) 4 })

/-- The frame that a lane is receiving goes on to its end for the entry that it leaves (R20). (DESIGN CHOICE, log 174) -/
def State.leave (s : State) (n : Nat) : State :=
  { s with lanes := { s.lanes with leaving := s.lanes.leaving.filter (fun x => x.lane != n) ++
    [{ lane := n, yard := s.laneYard n, chan := s.sf (.LNE_ASSIGN n) F.LNE_ASSIGN_CHAN, mode := s.sf (.LNE_ASSIGN n) F.LNE_ASSIGN_MODE
       at_ := s.tsu.raw : LaneLeave }] } }
/-- A lane, with the other lane of its test, is free. -/
def State.freeLane (s : State) (n : Nat) : State :=
  let t := match s.lanes.tests.find? (fun x => x.lane == n || x.shadow == some n) with
    | some x => match x.shadow with
      | some sh => ((s.endTest x.lane).setRole sh rSPARE).setRole x.lane rSPARE
      | none => s
    | none => s
  { t.setRole n rSPARE with lanes := { t.lanes with moves := t.lanes.moves.filter (fun m => m.lane != n) } }
/-- The lane of an entry that is withdrawn is free; a lane about to take the entry too (R87, R106). -/
def State.freeEntry (s : State) (y k : Nat) : State :=
  match s.lanes.moves.find? (fun m => m.entry == k && s.laneYard m.lane == y) with
  | some m => s.freeLane m.lane
  | none => match s.servingLane y k with
    | some n => (s.leave n).freeLane n
    | none => s
/-- One action on a yard: the state it leaves, or the status with which it fails (R106). -/
def State.yardAct (s : State) (y : Nat) (a : YardAct) : Except Nat State :=
  let e := if a.entry < 128 then s.planEntry y a.entry else none
  if a.rest ≠ 0 then .error stERR_ARG
  else if a.action = 1 then
    .ok ((s.setSf (.YRD_STATE y) F.YRD_STATE_STATE yHALTED).setSf (.YRD_RUN y) F.YRD_RUN_HALT 1)
  else if a.action = 2 then
    if s.yardState y = yHALTED then
      let t := (s.setSf (.YRD_STATE y) F.YRD_STATE_STATE (if s.anyWithdrawn y then yDEGRADED else yRUNNING)).setSf (.YRD_RUN y)
        F.YRD_RUN_HALT 0
      let q := Tbl.get SeqY.reset t.air.seqs y
      .ok { t with air := { t.air with seqs := Tbl.put SeqY.reset t.air.seqs y { q with wait := true } } }
    else .ok s
  else if a.action = 3 then
    match e with
    | some p =>
      if p.rx = true ∧ p.beacon = false ∧ s.withdrawn y p.idx = false then
        let t := s.freeEntry y p.idx
        .ok (((t.withdrawEntry y p.idx).checkSpares).checkSuspend)
      else .error stERR_ARG
    | none => .error stERR_ARG
  else if a.action = 4 then
    match e with
    | some p =>
      if s.withdrawn y p.idx = true then
        match s.lowestSpare with
        | some sp => .ok (((s.takeSpare sp y p).restoreEntry y p.idx).checkSuspend)
        | none => .error stBUSY
      else .error stERR_ARG
    | none => .error stERR_ARG
  else if a.action = 5 then
    if a.value ≤ s.cf (.YRD_CFG y) F.YRD_CFG_TXPWR then .ok (s.setSf (.YRD_RUN y) F.YRD_RUN_TXPWR_RUN a.value)
    else .error stERR_ARG
  else if a.action = 6 then
    match e with
    | some p =>
      if p.rx = true ∧ s.withdrawn y p.idx = false then
        match s.laneOf y p.idx with
        | some n =>
          if (s.testOf n).isSome then .error stBUSY
          else match s.idleSpare with
            | some sh => .ok (s.shadowTest n sh)
            | none => .error stBUSY
        | none => .error stBUSY
      else .error stERR_ARG
    | none => .error stERR_ARG
  else .error stERR_ARG

/-- No record of a list fails but for want of a lane; a record that fails leaves the state as it is. (DEDUCED, log 153) -/
def State.onlyBusy (s : State) (y : Nat) : List YardAct → Bool
  | [] => true
  | a :: t =>
    match s.yardAct y a with
    | .error st => st == stBUSY && State.onlyBusy s y t
    | .ok s' => State.onlyBusy s' y t
/-- The list, each record judged against the state that the earlier ones leave; an error carries the index of the first
record that fails, and is BUSY where every record that fails does so for want of a lane (R106). (DEDUCED, log 153) -/
def State.yardList (s : State) (y : Nat) : Nat → List YardAct → Except (Nat × Nat) State
  | _, [] => .ok s
  | i, a :: t =>
    match s.yardAct y a with
    | .error _ => .error (if s.onlyBusy y (a :: t) then stBUSY else stERR_ARG, i)
    | .ok s' => State.yardList s' y (i + 1) t

/-- A yard has a carrier on the air: its chain stands within an item (R20). -/
def State.yardOnAir (s : State) (y : Nat) : Bool := s.air.carriers.any (fun c => c.on && c.yard == y)
/-- The list is applied, and completes, once the yard's chain stands at an item boundary (R20, R106); `held` tells that it does
not. -/
def State.yardCtlApply (s : State) (held : Bool) (d : Desc) : State :=
  let y := bits d.target 3 0
  if s.yardLive y = false then s.fail d stERR_ARG 0xFF
  else
    match s.yardList y 0 (yardActs d.buf) with
    | .error (st, i) => s.fail d st i
    | .ok t => if held then s else t.ok d (t.regValue .host (.YRD_STATE y)).toNat
/-- YARD_CTL's action: at once, or when its launch slot fires; a list that HALTs, RESUMEs or sets the power of a yard with a
carrier on the air waits for the carrier's end (R20, R105, R106). -/
def State.yardCtlRun (s : State) (d : Desc) : State :=
  let y := bits d.target 3 0
  let radio (a : YardAct) : Bool := a.action == 1 || a.action == 2 || a.action == 5
  if d.target / 16 ≠ 0 ∨ d.len % 8 ≠ 0 ∨ d.len < 8 ∨ 128 < d.len then s.fail d stERR_ARG
  else s.yardCtlApply (s.yardOnAir y && (yardActs d.buf).any radio) d
/-- A carrier of a yard has ended: the YARD_CTL lists that waited for it are applied in order (R20). (DESIGN CHOICE, log 174) -/
def State.ctlSettle (s : State) (y : Nat) : State :=
  if s.yardOnAir y then s
  else (s.hif.inflight.filter (fun d => d.op == 0x22 && d.stage == .begun && bits d.target 3 0 == y)).foldl
    (fun t d => t.yardCtlApply false d) s

/-- A YARD_CTL whose first record has an action of a row: accepted for its launch time, or run (R54, R106). -/
def State.yardCtl (s : State) (did : Nat) (read : HostRead) (mine : Nat → Bool) : State :=
  s.operationIn did 0x22 read (fun d => mine (leAt d.buf 0 1)) (fun s d => s.acceptLaunch d State.yardCtlRun)

/-- YARD_CTL whose list begins with HALT; one that begins with no listed action completes here with ERR_ARG. -/
def execYardCtlHalt (did : Nat) (read : HostRead) (s : State) : Host.Outcome State Fault Refusal :=
  quiet (fun s => s.yardCtl did read (fun a => a == 1 || a == 0 || decide (6 < a))) s
/-- YARD_CTL whose list begins with RESUME. -/
def execYardCtlResume (did : Nat) (read : HostRead) (s : State) : Host.Outcome State Fault Refusal :=
  quiet (fun s => s.yardCtl did read (fun a => a == 2)) s
/-- YARD_CTL whose list begins with WITHDRAW. -/
def execYardCtlWithdraw (did : Nat) (read : HostRead) (s : State) : Host.Outcome State Fault Refusal :=
  quiet (fun s => s.yardCtl did read (fun a => a == 3)) s
/-- YARD_CTL whose list begins with RESTORE. -/
def execYardCtlRestore (did : Nat) (read : HostRead) (s : State) : Host.Outcome State Fault Refusal :=
  quiet (fun s => s.yardCtl did read (fun a => a == 4)) s
/-- YARD_CTL whose list begins with TXPWR. -/
def execYardCtlTxpwr (did : Nat) (read : HostRead) (s : State) : Host.Outcome State Fault Refusal :=
  quiet (fun s => s.yardCtl did read (fun a => a == 5)) s
/-- YARD_CTL whose list begins with TEST. -/
def execYardCtlTest (did : Nat) (read : HostRead) (s : State) : Host.Outcome State Fault Refusal :=
  quiet (fun s => s.yardCtl did read (fun a => a == 6)) s

end Sys2Proof.Machine
end

