-- ==== Sys2Proof/Machine/Radio.lean ====
section
/-! DEFINITION. Sys2Proof/Machine/Radio.lean: slot maps, superframe times, airtime, duty and dwell accounts, carriers, and
the form of a frame (R69 to R71, R91 to R104, R124 to R131, R149). -/
namespace Sys2Proof.Machine

/-! ## Slots and superframes (R124 to R127) -/

/-- The yard's front end (R1). -/
def feOf (y : Nat) : Nat := y / 4
/-- Ticks of a superframe (R124). -/
def State.biT (s : State) : Nat := 512000000 * 2 ^ s.cf .YRD_MAC_CFG F.YRD_MAC_CFG_BO
/-- Ticks of a slot. -/
def State.slotT (s : State) : Nat := 2000000 * 2 ^ s.cf .YRD_MAC_CFG F.YRD_MAC_CFG_BO
/-- The offset of a yard's superframes, in ticks. -/
def State.boffT (s : State) (y : Nat) : Nat := s.cf (.YRD_MAC y) F.YRD_MAC_BOFF * s.slotT
/-- The start of a yard's superframe of whole number `k` (R124). -/
def State.sfStart (s : State) (y : Nat) (k : Int) : Int := k * s.biT + s.boffT y
/-- The whole number of the superframe that holds an output time. -/
def State.sfAt (s : State) (y : Nat) (t : Int) : Int := (t - s.boffT y) / s.biT

/-- The slot type codes (R126). -/
def slBEACON : Nat := 0
def slCONTENTION : Nat := 1
def slDOWNLINK : Nat := 2
def slUPLINK : Nat := 3
/-- The default map (R126). -/
def defaultSlot (k : Nat) : Nat := if k = 0 then 0 else if k ≤ 31 then 2 else if k ≤ 223 then 1 else 3
/-- The code that a yard's YRD_SLOTMAPk registers hold for a slot. -/
def State.mapCode (s : State) (y k : Nat) : Nat := s.cf (.YRD_SLOTMAP y (k / 16)) ⟨2 * (k % 16) + 1, 2 * (k % 16)⟩
/-- The map has at least 8 CONTENTION slots (R126). -/
def State.mapOk (s : State) (y : Nat) : Bool :=
  decide (8 ≤ ((List.range 256).filter (fun k => k != 0 && decide (s.mapCode y k ≤ 1))).length)
/-- The slot types in force (R126). -/
def State.slots (s : State) (y : Nat) : List Nat :=
  if s.mapOk y then (List.range 256).map (fun k => if k = 0 then 0 else if s.mapCode y k = 0 then 1 else s.mapCode y k)
  else (List.range 256).map defaultSlot
/-- The runs of DOWNLINK slots in a map: first slot and length. -/
def dlRuns : Nat → List Nat → List (Nat × Nat)
  | _, [] => []
  | k, c :: t =>
    match dlRuns (k + 1) t with
    | [] => if c = 2 then [(k, 1)] else []
    | (a, n) :: r =>
      if c = 2 then (if a = k + 1 then (k, n + 1) :: r else (k, 1) :: (a, n) :: r) else (a, n) :: r
/-- A yard's runs of DOWNLINK slots (R127). -/
def State.runs (s : State) (y : Nat) : List (Nat × Nat) := dlRuns 0 (s.slots y)

/-! ## Frames on the air (R70, R71) -/

/-- kbit/s of a mode (R70). -/
def modeRate (m : Nat) : Nat := [50, 100, 150, 200, 300].getD m 50
/-- Ticks of some octets in a mode, rounded up. -/
def octetsT (m n : Nat) : Nat := ceilDiv (n * 8 * 500000) (modeRate m)
/-- Octets of the FCS that a yard sends (R71). -/
def State.fcsLen (s : State) (y : Nat) : Nat := if s.cf (.YRD_PHY y) F.YRD_PHY_FCS = 1 then 2 else 4
/-- Preamble octets of a yard. -/
def State.preamble (s : State) (y : Nat) : Nat := s.cf (.YRD_PHY y) F.YRD_PHY_PREAMBLE
/-- Ticks from the first preamble bit to the last SFD bit. -/
def State.sfdT (s : State) (y m : Nat) : Nat := octetsT m (s.preamble y + 2)
/-- The airtime of a PSDU: preamble, SFD, PHR and PSDU; a rate-1/2 code doubles what follows the SFD (R71). (DEDUCED, log 33) -/
def State.airT (s : State) (y m psdu : Nat) : Nat :=
  let coded := s.cf (.YRD_PHY y) F.YRD_PHY_FEC != 0 && decide (m ≤ 2)
  octetsT m (s.preamble y + 2 + (if coded then 2 * (2 + psdu) else 2 + psdu))
/-- PSDU octets of a frame with a payload (R128). -/
def State.psduLen (s : State) (y payload : Nat) : Nat := 10 + payload + 8 + s.fcsLen y

/-- The frame types (R129). -/
def tyBEACON : Nat := 0
def tyUP : Nat := 1
def tyDOWN : Nat := 2
def tyGROUP : Nat := 3
def tyANS : Nat := 4
def tyJOIN : Nat := 5
def tySCENE_NOW : Nat := 6

/-- The segment ID (R2). -/
def State.segid (s : State) : Nat := s.cf .YRD_MAC_SEG F.YRD_MAC_SEG_SEGID
/-- The MAC header (R128). -/
def macHeader (typ : Nat) (ar pend epoch : Bool) (addr fc seclvl : Nat) : List Byte :=
  le 1 (typ * 32 + 16 * b2n ar + 8 * b2n pend + 4 * b2n epoch) ++ le 4 addr ++ le 4 fc ++ le 1 seclvl
/-- The direction octet of the nonce (R131). -/
def direction (typ : Nat) : Nat :=
  if typ = tyUP then 1 else if typ = tyDOWN ∨ typ = tyANS then 2 else if typ = tyGROUP ∨ typ = tySCENE_NOW then 3 else 4
/-- The nonce (R131): for JOIN frames the source part is the EUI-64. FC stands in it as IEEE 802.15.4 orders a frame counter in
a CCM* nonce, the most significant octet first. (PRESUMED, log 175) -/
def nonce (typ addr eui fc seclvl : Nat) : List Byte :=
  (if typ = tyJOIN then le 8 eui else le 4 addr ++ zeros 3 ++ le 1 (direction typ)) ++ (le 4 fc).reverse ++ le 1 seclvl
/-- A secured frame without its FCS (R128, R131). -/
def secured (key typ : Nat) (ar pend epoch : Bool) (addr eui fc seclvl : Nat) (payload : List Byte) : List Byte :=
  let h := macHeader typ ar pend epoch addr fc seclvl
  let c := Config.ccmStar key (nonce typ addr eui fc seclvl) h payload (seclvl == 6)
  h ++ (if seclvl = 6 then fitBytes (payload.length + 8) c else payload ++ fitBytes 8 c)
/-- A frame's PSDU as a yard sends it: the FCS behind it (R71). -/
def State.withFcs (s : State) (y : Nat) (b : List Byte) : List Byte :=
  b ++ fitBytes (s.fcsLen y) (Config.fcs (s.fcsLen y) b)

/-! ## Whether the unit may emit (R65, R350, R436, R467, R569) -/

/-- TWN_STAT.ROLE: 0 SOLO, 1 LISTEN, 2 STANDBY, 3 ACTIVE. -/
def State.twinRole (s : State) : Nat := s.sf .TWN_STAT F.TWN_STAT_ROLE
/-- The unit does an active unit's work (R357, R363). -/
def State.serving (s : State) : Bool := s.done && (s.twinRole == 0 || s.twinRole == 3) && !s.replaying
/-- The radio sequencers are stopped for their reload (R436). -/
def State.radioPaused (s : State) : Bool :=
  match s.upd.pause with
  | some p => p.radioMs.isNone
  | none => false
/-- The gate is open and the lease holds (R350, R352, R569). -/
def State.gateOpen (s : State) : Bool := s.twn.gateUntil.isNone && !s.twn.lapsed
/-- Any chain may emit. -/
def State.mayEmit (s : State) : Bool := s.serving && s.gateOpen && !s.radioPaused
/-- The shed holds what keys are formed from: an owner, WK, identity, no debug unlock, and no replay (R376, R379, R389, R393, R467). (DEDUCED, log 56) -/
def State.keysHeld (s : State) : Bool :=
  s.tack.owner.isSome && s.tack.wk.isSome && s.shed.identity && s.sf .SEC_STAT F.SEC_STAT_DEBUG == 0 && !s.replaying
/-- The shed can form keys: it holds what they are formed from, and runs. (DEDUCED, log 56) -/
def State.keyed (s : State) : Bool := s.keysHeld && !s.shed.down

/-! ## Duty accounts (R99 to R103, R222) -/

/-- The number of a duty account: chain and sub-band, or the shared one of a sub-band (R100). -/
def State.account (s : State) (chain sb : Nat) : Nat :=
  (if s.cf .YRD_REGION F.YRD_REGION_SHARED = 1 then 8 else chain) * 8 + sb
/-- The number of a dwell ledger: chain and channel, or the one that all eight chains share of a channel, by the kHz of its lower
edge (R97, R100). (DEDUCED, log 36) -/
def State.ledger (s : State) (chain chan : Nat) : Nat :=
  if s.cf .YRD_REGION F.YRD_REGION_SHARED = 1 then 1024 + (s.feLow (chain / 2) + 200 * chan) else chain * 128 + chan
/-- The channels that a frame emits on: both of a wide pair (R68). -/
def chansOf (chan mode : Nat) : List Nat := if wideMode mode then [chan, chan + 1] else [chan]
/-- The budget B of a sub-band in slots (R99); DUTY is in 0.1 %. -/
def SubBand.budget (b : SubBand) : Nat := b.duty * 3600
/-- A sub-band has a duty limit. -/
def SubBand.limited (b : SubBand) : Bool := decide (b.duty < 1000)
/-- The reserve R of an account (R101). -/
def State.reserve (s : State) (b : SubBand) : Nat := b.budget * s.cf .YRD_REGION F.YRD_REGION_RESERVE / 100
/-- The 1 ms slot of an output time. -/
def dutySlot (t : Int) : Int := t / 500000
/-- The slots that a frame touches. -/
def touched (t : Int) (dur : Nat) : List Int :=
  (List.range (dutySlot (t + dur - 1) - dutySlot t + 1).toNat).map (fun i => dutySlot t + i)
/-- The charges of an account that count at a slot (R99). -/
def State.charges (s : State) (acct : Nat) (at_ : Int) : List Charge :=
  (Tbl.get [] s.air.duty acct).filter (fun c => decide (at_ - 3599999 ≤ c.slot))
/-- Usage of an account by reserved and by ordinary frames (R101), and by the frames of a campaign (R222). -/
def State.usedR (s : State) (acct : Nat) (at_ : Int) : Nat :=
  ((s.charges acct at_).filter (fun c => c.cls == .reserved)).length
def State.usedO (s : State) (acct : Nat) (at_ : Int) : Nat :=
  ((s.charges acct at_).filter (fun c => c.cls != .reserved)).length
def State.usedF (s : State) (acct id : Nat) (at_ : Int) : Nat :=
  ((s.charges acct at_).filter (fun c => c.cls == .campaign id)).length
/-- New slots that a frame would charge (R101). (DEDUCED, log 34) -/
def State.newSlots (s : State) (acct : Nat) (t : Int) (dur : Nat) : List Int :=
  let l := Tbl.get [] s.air.duty acct
  (touched t dur).filter (fun x => l.all (fun c => decide (c.slot ≠ x)))

/-- Ticks that a ledger's channel has been emitted on in the 20 s that end at a raw count (R97). -/
def State.dwellT (s : State) (led stop : Nat) : Nat :=
  ((Tbl.get [] s.air.dwell led).map (fun d => min d.stop stop - max d.start (stop - 20 * secT))).foldl (· + ·) 0
/-- Every channel that a frame of a mode emits on has room for some ticks in the 20 s that end at a raw count (R97). -/
def State.dwellRoom (s : State) (chain chan mode stop dur : Nat) : Bool :=
  (chansOf chan mode).all (fun c => decide (s.dwellT (s.ledger chain c) stop + dur ≤ 400 * msT))
/-- The dwell rule lets a frame go (R97). (DEDUCED, log 36) -/
def State.dwellOk (s : State) (b : SubBand) (chain chan mode dur : Nat) : Bool :=
  !b.dwell || s.dwellRoom chain chan mode (s.tsu.raw + dur) dur

/-- The answer of the duty account and the dwell rule to a frame. -/
inductive Admission where
  | yes
  /-- refused by this account (R101, R222) or by the dwell rule (R97) -/
  | held (acct : Nat) (byDuty : Bool)
  /-- the channel lies in no sub-band, or its sub-band bars the mode (R96) -/
  | outside
  deriving DecidableEq, Repr

/-- Whether a frame that starts now on a channel is admitted (R97, R101, R222); `share` is the SHARE of a campaign. -/
def State.admission (s : State) (chain chan mode dur : Nat) (cls : ChargeClass) (share : Nat) : Admission :=
  match s.subBandOf (chain / 2) chan mode with
  | none => .outside
  | some b =>
    let a := s.account chain b.num
    if s.dwellOk b chain chan mode dur = false then .held a false
    else if b.limited = false then .yes
    else
      let at_ := dutySlot s.outputTime
      let k := (s.newSlots a s.outputTime dur).length
      let fits := decide (s.usedO a at_ + s.usedR a at_ + k ≤ b.budget)
      let room := decide (s.usedO a at_ + k ≤ b.budget - s.reserve b)
      let ok := match cls with
        | .reserved => fits
        | .ordinary => fits && room
        | .campaign id => fits && room && decide (s.usedF a id at_ + k ≤ (b.budget - s.reserve b) * share / 100)
      if ok then .yes else .held a true

/-- A frame that starts now charges its account and its ledger (R97, R99). (DEDUCED, log 34) -/
def State.charge (s : State) (chain chan mode dur carrier : Nat) (cls : ChargeClass) : State :=
  match s.subBandOf (chain / 2) chan mode with
  | none => s
  | some b =>
    let a := s.account chain b.num
    let old := (Tbl.get [] s.air.duty a).filter (fun c => decide (dutySlot s.outputTime - 3599999 ≤ c.slot))
    let new := (s.newSlots a s.outputTime dur).map (fun x => { slot := x, cls := cls, carrier := carrier : Charge })
    let s1 : State := if b.limited then { s with air := { s.air with duty := Tbl.put [] s.air.duty a (old ++ new) } } else s
    let emit (t : State) (c : Nat) : State :=
      let l := t.ledger chain c
      let kept := (Tbl.get [] t.air.dwell l).filter (fun d => decide (t.tsu.raw < d.stop + 20 * secT))
      { t with air := { t.air with dwell := Tbl.put [] t.air.dwell l (kept ++ [⟨t.tsu.raw, t.tsu.raw + dur, carrier⟩]) } }
    if b.dwell then (chansOf chan mode).foldl emit s1 else s1

/-- A carrier that stops early charges nothing beyond the slot in which it stops. (DEDUCED, log 34) -/
def State.uncharge (s : State) (carrier : Nat) : State :=
  let now := dutySlot s.outputTime
  { s with air := { s.air with
    duty := (s.air.duty.map (fun p => (p.1, p.2.filter (fun c => c.carrier != carrier || decide (c.slot ≤ now))))).filter
      (fun p => p.2 != [])
    dwell := s.air.dwell.map (fun p => (p.1, p.2.map (fun d =>
      if d.carrier = carrier then { d with stop := min d.stop s.tsu.raw } else d))) } }

/-! ## Transmitter chains (R13, R69, R90 to R94) -/

/-- Carriers now on the air. -/
def State.onAir (s : State) : List Carrier := s.air.carriers.filter (fun c => c.on)
/-- Carriers of a chain. -/
def State.chainLoad (s : State) (chain : Nat) : Nat := (s.onAir.filter (fun c => c.chain == chain)).length
/-- Chains that emit. -/
def State.chainsOn (s : State) : Nat := ((List.range 8).filter (fun c => decide (0 < s.chainLoad c))).length
/-- Chains that may emit at once (R13, R493). -/
def State.chainLimit (s : State) : Nat := if s.clk.regionHot then 2 else 4
/-- YRD_TXn_STAT follows the carriers (R112). -/
def State.txRefresh (s : State) (chain : Nat) : State :=
  (s.setSf (.YRD_TX_STAT chain) F.YRD_TX_STAT_ON (b2n (decide (0 < s.chainLoad chain)))).setSf (.YRD_TX_STAT chain)
    F.YRD_TX_STAT_CARRIERS (s.chainLoad chain)
/-- The declared gain of a chain in 0.25 dB (R92). -/
def State.antGain (s : State) (chain : Nat) : Int := signed 8 (s.cf (.YRD_TX_CFG chain) F.YRD_TX_CFG_ANT_GAIN)
/-- The power at which a frame leaves, in 0.25 dBm (R91). -/
def State.sendPower (s : State) (y chain : Nat) (b : SubBand) : Int :=
  min ((s.sf (.YRD_RUN y) F.YRD_RUN_TXPWR_RUN : Int) - 40) (ceiling b (s.antGain chain))
/-- Two frames meet on one channel of a front end (R94). -/
def chansMeet (chan1 mode1 chan2 mode2 : Nat) : Bool :=
  let a := chanRange 0 chan1 mode1
  let b := chanRange 0 chan2 mode2
  decide (a.1 < b.2 ∧ b.1 < a.2)
/-- A yard has a carrier on its chain: a chain sends one for each yard at once (R13). -/
def State.carrierOf (s : State) (chain yard : Nat) : Bool := s.onAir.any (fun c => c.chain == chain && c.yard == yard)
/-- A carrier of the front end is on the channel (R94). -/
def State.chanBusy (s : State) (chain chan mode : Nat) : Bool :=
  s.onAir.any (fun c => c.chain / 2 == chain / 2 && chansMeet c.chan c.mode chan mode)

/-- A frame asks the transmit arbiter for its chain (R93): its item enters the yard's downlink queue, of a number of words that
the manual leaves open. (DESIGN CHOICE, log 65) -/
def State.ask (s : State) (r : TxReq) : State :=
  let g := s.fresh
  let t := g.2.setSf (.QUE_STAT (56 + r.yard)) F.QUE_STAT_DISCARD 0
  { t with air := { t.air with
    reqs := s.air.reqs ++ [{ r with id := s.air.nextTx, words := 1 + g.1 % 256, queued := true }], nextTx := s.air.nextTx + 1 } }
/-- A request leaves the arbiter. -/
def State.unask (s : State) (id : Nat) : State :=
  { s with air := { s.air with reqs := s.air.reqs.filter (fun r => r.id != id) } }
/-- Some request or carrier of a kind is under way. -/
def State.asked (s : State) (k : TxKind) : Bool := s.air.reqs.any (fun r => r.kind == k)

/-- The duty class of a kind of frame (R101, R222). -/
def TxKind.cls : TxKind → ChargeClass
  | .sceneNow _ => .reserved
  | .beacon => .reserved
  | .job _ => .ordinary
  | .answer _ => .ordinary
  | .item _ => .ordinary
  | .image id => .campaign id

/-- A carrier starts now on a chain (R20, R69, R91, R99). -/
def State.startCarrier (s : State) (r : TxReq) (cls : ChargeClass) (item : Option Nat) (psdu : List Byte) : State :=
  let dur := s.airT r.yard r.mode psdu.length
  let power := match s.subBandOf (r.chain / 2) r.chan r.mode with
    | some b => s.sendPower r.yard r.chain b
    | none => 0
  let s1 := (s.charge r.chain r.chan r.mode dur r.id cls).emit
    (.carrier r.chain r.yard r.chan (s.cfg.get (.YRD_PHY r.yard)).toNat power dur psdu)
  let old := s1.air.carriers.filter (fun c => c.on || decide (s1.tsu.raw < c.stop + 2 * secT))
  let c : Carrier := { id := r.id, kind := r.kind, yard := r.yard, chain := r.chain, chan := r.chan, mode := r.mode
                       start := s1.tsu.raw, stop := s1.tsu.raw + dur, item := item, on := true }
  ({ s1 with air := { s1.air with carriers := old ++ [c] } }).txRefresh r.chain
/-- A carrier is off the air from now on. -/
def State.stopCarrier (s : State) (id : Nat) : State :=
  match s.onAir.find? (fun c => c.id == id) with
  | none => s
  | some c =>
    let early := decide (s.tsu.raw < c.stop)
    let s1 := { s with air := { s.air with carriers := s.air.carriers.map (fun x =>
      if x.id = id then { x with on := false, stop := min x.stop s.tsu.raw } else x) } }
    let s2 : State := if early then s1.uncharge id else s1
    ((s2.emit (.carrierEnd c.chain c.yard)).txRefresh c.chain).ctlSettle c.yard

/-! ## Downlink channel (R149) -/

/-- The plan entry that a yard's DLENT names, if it is a TX entry. -/
def State.dlEntry (s : State) (y : Nat) : Option PlanEntry :=
  match s.planEntry y (s.cf (.YRD_MAC y) F.YRD_MAC_DLENT) with
  | some e => if e.tx then some e else none
  | none => none
/-- Entries of distinct channels in ascending channel. -/
def distinctChans : List PlanEntry → List PlanEntry
  | [] => []
  | e :: t => e :: (distinctChans t).filter (fun x => x.chan != e.chan)
/-- The TX entries of distinct channels, ascending (R149). -/
def State.hopEntries (s : State) (y : Nat) : List PlanEntry :=
  isort (fun e => e.chan) (distinctChans ((s.plan y).filter (fun e => e.tx)))
/-- The step of the hop sequence: the smallest number from N/3 up that is coprime with N. -/
def hopStep (n : Nat) : Nat := ((List.range (n + 1)).find? (fun k => decide (n ≤ 3 * k) && Nat.gcd k n == 1)).getD 1
/-- Element `i` of a yard's hop sequence. -/
def State.hopElement (s : State) (y i : Nat) : Option PlanEntry :=
  let l := s.hopEntries y
  let n := l.length
  l[(((s.segid * 16 + y) % n) + i * hopStep n) % n]?
/-- The dwell rule is in force. -/
def State.dwellRule (s : State) : Bool := s.profile.any (fun b => b.dwell)
/-- The downlink channel and mode of a superframe (R149): under the dwell rule the first element of the hop sequence, from
element n mod N on, whose ledger has room for the ticks that the planned frames take in its mode. -/
def State.dlChoice (s : State) (y n : Nat) (planned : Nat → Nat) : Option PlanEntry :=
  if s.dwellRule = false then
    match s.dlEntry y with
    | some e => some e
    | none => s.beaconEntry y
  else
    let c := (s.hopEntries y).length
    let seq := (List.range c).filterMap (fun i => s.hopElement y (n % c + i))
    let chain := s.yardChain y
    match seq.find? (fun e => s.dwellRoom chain e.chan e.mode (s.tsu.raw + s.biT) (planned e.mode)) with
    | some e => some e
    | none => seq.head?

/-! ## At HIF_SETUP_DONE (R126, R149) -/

/-- MAC_DEFAULT for an enabled yard whose map or DLENT is replaced. -/
def State.setupMac (s : State) : State :=
  ((List.range 16).filter s.yardEnabled).foldl (fun t y =>
    let t1 := if t.mapOk y then t else t.event 6 y 0x0408 2 [y, 0]
    if (t1.dlEntry y).isSome then t1 else t1.event 6 y 0x0408 2 [y, 1]) s

end Sys2Proof.Machine
end

