-- ==== Sys2Proof/Machine/Segment.lean ====
section
/-! DEFINITION. Sys2Proof/Machine/Segment.lean: run-time parameters, the stall and paddock tables, keys, downlink items and
group jobs as every family uses them (R14, R16, R155, R163 to R181, R207). -/
namespace Sys2Proof.Machine

/-! ## Run-time parameters (R165, R194, R207) -/

/-- The range of a parameter's value; none: not defined (R567). 0x0701 is the flush command of R250. -/
def paramRange (id : Nat) : Option (Int × Int) :=
  match id with
  | 0x0401 => some (10, 86400)
  | 0x0402 => some (60, 43200)
  | 0x0403 => some (0, 255)
  | 0x0404 => some (-720, 840)
  | 0x0405 => some (0, 15)
  | 0x0501 => some (8, 1024)
  | 0x0502 => some (900, 86400)
  | 0x0503 => some (0, 200)
  | 0x0504 => some (0, 200)
  | 0x0505 => some (0, 100000)
  | 0x0506 => some (50, 100)
  | 0x0507 => some (10, 3600)
  | 0x0520 => some (16, 1024)
  | 0x0521 => some (1, 8)
  | 0x0522 => some (6, 336)
  | 0x0523 => some (1, 60)
  | _ => if 0x0510 ≤ id ∧ id ≤ 0x0515 then some (0, 0xFFFFFFFF) else none
/-- A value of 32 bits lies in a parameter's range; a feeder's PAIR is 0 to 3 (R194, R207). -/
def paramOk (id v : Nat) : Bool :=
  match paramRange id with
  | none => false
  | some (lo, hi) =>
    let x : Int := if id = 0x0404 then signed 32 v else v
    decide (lo ≤ x ∧ x ≤ hi) && (id != 0x0502 || 86400 % v == 0) && (id / 16 != 0x51 || decide (bits v 10 8 ≤ 3))
/-- A parameter's set-up value or default. -/
def State.paramDefault (s : State) (id : Nat) : Nat :=
  match id with
  | 0x0401 => s.cf .YRD_MAC_HOLD F.YRD_MAC_HOLD_HOLD_ADRIFT
  | 0x0402 => s.cf .YRD_MAC_LOST F.YRD_MAC_LOST_LOST_AFTER
  | 0x0403 => s.cf .YRD_MAC_TIME F.YRD_MAC_TIME_UTC_OFF
  | 0x0404 => twos 32 (signed 16 (s.cf .YRD_MAC_TIME F.YRD_MAC_TIME_LOCAL_OFF))
  | 0x0405 => s.cf .YRD_MAC_CFG F.YRD_MAC_CFG_RETRY_MAX
  | 0x0501 => 64
  | 0x0502 => 3600
  | 0x0503 => 40
  | 0x0504 => 20
  | 0x0505 => 50
  | 0x0506 => 90
  | 0x0507 => 300
  | 0x0520 => 256
  | 0x0521 => 3
  | 0x0522 => 72
  | 0x0523 => 5
  | _ => 0
/-- The value of a parameter as last set. -/
def State.param (s : State) (id : Nat) : Nat :=
  match s.seg.params.find? (fun p => p.1 == id) with
  | some p => p.2
  | none => s.paramDefault id
/-- The value in effect of a parameter that takes effect later than it is set: the rollover's and STALL_PERSIST (R207). -/
def State.inForce (s : State) (id : Nat) : Nat :=
  match s.seg.inForce.find? (fun p => p.1 == id) with
  | some p => p.2
  | none => s.paramDefault id
/-- Such parameters take effect. -/
def State.takeForce (s : State) (ids : List Nat) : State :=
  { s with seg := { s.seg with
    inForce := ids.map (fun i => (i, s.param i)) ++ s.seg.inForce.filter (fun p => !ids.contains p.1) } }
/-- Set a parameter. The bits that R194 reserves read 0. -/
def State.setParam (s : State) (id v : Nat) : State :=
  let v := if 0x0510 ≤ id ∧ id ≤ 0x0515 then bits v 31 31 * 2 ^ 31 + bits v 23 8 * 256 + bits v 5 0 else v
  { s with seg := { s.seg with params := (id, v) :: s.seg.params.filter (fun p => p.1 != id) } }
/-- UTC_OFF and LOCAL_OFF in force (R165). -/
def State.utcOff (s : State) : Nat := s.param 0x0403
def State.localOff (s : State) : Int := signed 32 (s.param 0x0404)
/-- Local time in seconds, with corrected time as TAI (R182). -/
def State.localTicks (s : State) (t : Int) : Int := t - s.utcOff * secT + s.localOff * 60 * secT

/-! ## The tables (R169, R175) -/

/-- Stall states (R154). -/
def sUNBOUND : Nat := 0
def sJOINING : Nat := 1
def sACTIVE : Nat := 2
def sDOZING : Nat := 3
def sADRIFT : Nat := 4
def sLOST : Nat := 5
def sRETIRED : Nat := 6

/-- The stalls of the module (R12). -/
def nStalls : Nat := 262144
/-- The yard of a stall index, and its place there (R2). -/
def yardOf (i : Nat) : Nat := i / 16384
def placeOf (i : Nat) : Nat := i % 16384
def State.stall (s : State) (i : Nat) : Stall := Tbl.get Stall.none s.seg.stalls i
def State.setStall (s : State) (i : Nat) (x : Stall) : State :=
  { s with seg := { s.seg with stalls := Tbl.put Stall.none s.seg.stalls i x } }
def State.modStall (s : State) (i : Nat) (f : Stall → Stall) : State := s.setStall i (f (s.stall i))
def State.pad (s : State) (p : Nat) : Paddock := Tbl.get Paddock.none s.seg.pads p
def State.setPad (s : State) (p : Nat) (x : Paddock) : State :=
  { s with seg := { s.seg with pads := Tbl.put Paddock.none s.seg.pads p x } }
def State.modPad (s : State) (p : Nat) (f : Paddock → Paddock) : State := s.setPad p (f (s.pad p))
/-- A stall outside UNBOUND and RETIRED. -/
def Stall.live (x : Stall) : Bool := decide (1 ≤ x.state ∧ x.state ≤ 5)
/-- A free stall (R170). -/
def Stall.free (x : Stall) : Bool := x.state == 0 && x.eui == 0
/-- A paddock exists; 0x000 always does (R175). -/
def State.padValid (s : State) (p : Nat) : Bool := p == 0 || (s.pad p).valid
/-- A stall lists a paddock. -/
def Stall.lists (x : Stall) (p : Nat) : Bool := x.pads.contains (some p)
/-- A stall is a member of a paddock (R175, R176). -/
def Stall.inPad (x : Stall) (p : Nat) : Bool := x.live && (p == 0 || x.lists p)
/-- The members of a paddock, ascending. -/
def State.members (s : State) (p : Nat) : List Nat := (s.seg.stalls.filter (fun q => q.2.inPad p)).map (fun q => q.1)
/-- The yards that hold a member. -/
def State.padYards (s : State) (p : Nat) : List Nat :=
  (List.range 16).filter (fun y => (s.members p).any (fun i => yardOf i == y))
/-- Stalls outside UNBOUND and RETIRED in a yard (R76). -/
def State.yardLoad (s : State) (y : Nat) : Nat :=
  (s.seg.stalls.filter (fun q => yardOf q.1 == y && q.2.live)).length
/-- The capacity figure forbids a new stall (R76). -/
def State.yardFull (s : State) (y : Nat) : Bool := decide (s.sf (.YRD_CAP y) F.YRD_CAP_CAPACITY ≤ s.yardLoad y)
/-- The paddocks of a stall, ascending, 0x000 first (R177). -/
def Stall.padList (x : Stall) : List Nat := 0 :: isort (fun p => p) (x.pads.filterMap id)
/-- Low 8 bits of the current epoch. -/
def State.epoch8 (s : State) : Nat := s.tack.epoch % 256
/-- A rollover window is open: START has come, and the close has not been carried out (R200, R203). -/
def State.rolling (s : State) : Bool := s.roll.phase != 0
/-- Low 8 bits of the epoch being rolled in. -/
def State.nextEpoch8 (s : State) : Nat := (s.tack.epoch + 1) % 256

/-- The scenes loaded: a number of 65,536 and more is that of one discarded whose launch has frames left (R187). -/
def State.loadedScenes (s : State) : List Scene := s.seg.scenes.filter (fun c => decide (c.id < 65536))
/-- The key of a paddock is pinned (R14, R185, R217): a scene is loaded with it, a group job of a scene or a schedule is
under way, or a campaign has started for it. -/
def State.pinned (s : State) (p : Nat) : Bool :=
  s.loadedScenes.any (fun c => c.carrier == p)
    || s.seg.jobs.any (fun j => j.pad == p && j.kind != .group)
    || s.flt.camps.any (fun c => decide (1 ≤ c.state ∧ c.state ≤ 3) && c.pads.contains p)

/-- Host items queued to a stall (R163, R169 QCOUNT). -/
def State.qcount (s : State) (i : Nat) : Nat :=
  (s.seg.items.filter (fun t => t.stall == i && t.kind == .msg && t.did.isSome)).length

/-- The 128 octets of a stall entry (R169). (DEDUCED, log 53) -/
def State.stallBytes (s : State) (i : Nat) : List Byte :=
  let x := s.stall i
  le 8 x.eui
    ++ le 1 (128 * b2n x.rolled + 64 * b2n x.relay + 32 * b2n x.sleepy + 8 * b2n x.stale + x.state)
    ++ le 1 x.tol ++ le 1 x.p ++ le 1 x.listen ++ le 1 x.wakeSlot ++ le 1 x.wakeEvery ++ le 1 x.wakePhase ++ le 1 x.hops
    ++ le 4 x.parent ++ le 8 x.key ++ le 8 x.keyNext ++ le 4 x.fcUp ++ le 4 x.fcWin ++ le 4 x.fcDown ++ le 4 x.joinFc
    ++ (x.pads.map (fun p => match p with | some v => le 2 (0x8000 + v) | none => le 2 0)).flatten
    ++ le 2 x.sched ++ le 1 x.epoch ++ zeros 1 ++ fitBytes 14 x.status ++ le 2 x.faults ++ le 8 x.energy ++ le 4 x.fwver
    ++ le 2 x.drift ++ le 1 (s.qcount i) ++ zeros 1 ++ le 6 x.lastSeen ++ le 2 x.syncAge ++ le 4 x.dozeEnd ++ le 4 i
    ++ le 8 x.user
/-- The 64 octets of a paddock entry (R175). -/
def State.padBytes (s : State) (p : Nat) : List Byte :=
  let x := s.pad p
  let m := s.members p
  le 2 (32768 * b2n (s.padValid p) + p) ++ le 1 x.epoch ++ le 1 (2 * b2n x.rolling + b2n (s.pinned p)) ++ le 4 m.length
    ++ le 2 (((s.padYards p).map (fun y => 2 ^ y)).foldl (· + ·) 0) ++ le 2 x.sched ++ le 8 x.key ++ le 8 x.keyNext
    ++ le 4 x.fc ++ le 2 x.sceneId ++ le 8 x.sceneT
    ++ le 4 (m.filter (fun i => (s.stall i).acked.contains (p, x.epoch))).length ++ zeros 2 ++ le 8 x.user ++ zeros 8

/-! ## Keys (R14, R379, R380) -/

/-- A fresh key handle: 64 bits of the DRBG, not 0, which stands for none (R379). (DESIGN CHOICE, log 8) -/
def State.freshHandle (s : State) : Nat × State := (max 1 s.fresh.1, s.fresh.2)
/-- The epoch of a handle of which an entry holds the low octet: the current one, or the open rollover's next; none: the shed
refuses to form the key (R379). -/
def State.keyEpoch (s : State) (e8 : Nat) : Option Nat :=
  if s.tack.epoch % 256 = e8 then some s.tack.epoch else s.tack.epochNext.filter (fun e => e % 256 == e8)
/-- The shed forms a key of a handle: there is one, of an epoch that the shed accepts (R379). -/
def State.forms (s : State) (handle e8 : Nat) : Bool := handle != 0 && (s.keyEpoch e8).isSome
/-- The key that the shed forms of a stall's handle, and of a paddock's (R379). -/
def State.stallKey (s : State) (i handle e8 : Nat) : Nat := Config.formKey (s.tack.wk.getD 0) handle 1 i ((s.keyEpoch e8).getD 0)
def State.padKey (s : State) (p handle e8 : Nat) : Nat := Config.formKey (s.tack.wk.getD 0) handle 2 p ((s.keyEpoch e8).getD 0)
/-- A key enters the cache, or is used there: it becomes the most recently used. Beyond 16,384 entries the least recently
used one that is not pinned leaves (R14). -/
def State.touchKey (s : State) (k : CacheKey) : State :=
  let l := k :: s.air.cache.filter (fun x => x != k)
  let keep (x : CacheKey) : Bool := x.kind == 1 && s.pinned x.id
  let l' := if l.length ≤ 16384 then l
    else match (l.reverse).find? (fun x => !keep x) with
      | some v => l.filter (fun x => x != v)
      | none => l.take 16384
  { s with air := { s.air with cache := l' } }
/-- A key is in the cache. -/
def State.cached (s : State) (k : CacheKey) : Bool := s.air.cache.contains k
/-- A key is destroyed: it leaves the cache (R380); its handles are the caller's to erase. -/
def State.evict (s : State) (handle : Nat) : State :=
  { s with air := { s.air with cache := s.air.cache.filter (fun x => x.handle != handle || x.kind == 2) } }
/-- The join root of an EUI: longest matching prefix, then the lower index (R381). -/
def State.joinRoot (s : State) (eui : Nat) : Option JoinRoot :=
  let fits := s.tack.roots.filter (fun r => eui / 2 ^ (64 - r.2.plen) == r.2.pref / 2 ^ (64 - r.2.plen))
  ((isort (fun r => (64 - r.2.plen) * 64 + r.1) fits).head?).map (fun r => r.2)

/-! ## Ends of items, jobs and runs -/

/-- RESULT of a unicast item: the FC used and the transmissions (R163). -/
def Item.result (t : Item) : Nat := t.fc.getD 0 + 2 ^ 32 * t.sent
/-- A schedule's distribution completes when nothing of it is left (R181). -/
def State.checkRun (s : State) (r : Nat) : State :=
  if s.seg.items.any (fun t => t.run == some r) ∨ s.seg.jobs.any (fun j => j.kind == .schedule r) then s
  else
    match s.seg.runs.find? (fun x => x.id == r) with
    | none => s
    | some x =>
      let t := { s with seg := { s.seg with runs := s.seg.runs.filter (fun y => y.id != r) } }
      match x.did with
      | none => t
      | some d =>
        match t.desc? d with
        | some e => t.ok e x.failed
        | none => t
/-- An item leaves its queue, and its descriptor or its schedule's distribution learns how it ended. -/
def State.endItem (s : State) (it : Item) (status detail : Nat) : State :=
  let s1 := { s with
    seg := { s.seg with items := s.seg.items.filter (fun t => t.id != it.id) }
    air := { s.air with reqs := s.air.reqs.filter (fun r => r.kind != .item it.id) } }
  let s2 : State := match it.did with
    | none => s1
    | some d =>
      match s1.desc? d with
      | some e => s1.finish e { status := status, detail := detail, result := it.result }
      | none => s1
  match it.run with
  | none => s2
  | some r =>
    let s3 := if status = stOK then s2
      else { s2 with seg := { s2.seg with
        runs := s2.seg.runs.map (fun x => if x.id = r then { x with failed := x.failed + 1 } else x) } }
    s3.checkRun r
/-- Change one item. -/
def State.modItem (s : State) (id : Nat) (f : Item → Item) : State :=
  { s with seg := { s.seg with items := s.seg.items.map (fun t => if t.id == id then f t else t) } }
def State.item? (s : State) (id : Nat) : Option Item := s.seg.items.find? (fun t => t.id == id)
/-- Change one job. -/
def State.modJob (s : State) (id : Nat) (f : Job → Job) : State :=
  { s with seg := { s.seg with jobs := s.seg.jobs.map (fun j => if j.id == id then f j else j) } }
def State.job? (s : State) (id : Nat) : Option Job := s.seg.jobs.find? (fun j => j.id == id)
/-- A set of yards as a mask: bit y is yard Y(y). (DEDUCED, log 154) -/
def yardMask (l : List Nat) : Nat := ((List.range 16).filter (fun y => l.contains y)).foldl (fun m y => m + 2 ^ y) 0
/-- RESULT of a group message: the yards served as a mask in bits 15:0, repeats in bits 23:16 (R164, R185). (DEDUCED, log 154) -/
def jobResult (yards reps : Nat) : Nat := yards % 65536 + 65536 * (reps % 256)
/-- The fewest repeats that any yard of a job has sent. -/
def Job.fewest (j : Job) : Nat := (j.yards.map (fun y => y.sent)).foldl min j.repeats
/-- Yards in which a job has sent a frame. -/
def Job.served (j : Job) : List Nat := (j.yards.filter (fun y => decide (0 < y.sent))).map (fun y => y.yard)
/-- A job leaves, and whatever waits for it learns of it. A scene's delivery is ended by its own rows. -/
def State.dropJob (s : State) (id : Nat) : State :=
  { s with
    seg := { s.seg with jobs := s.seg.jobs.filter (fun j => j.id != id) }
    air := { s.air with reqs := s.air.reqs.filter (fun r => r.kind != .job id) } }

/-- Host items and items of schedules queued to a stall end with a status, those that await their acknowledgement among them
(R155, R159, R174); one that is on the air runs to its end. -/
def State.endItems (s : State) (i status detail : Nat) : State :=
  (s.seg.items.filter (fun t => t.stall == i && !t.busy)).foldl
    (fun u t => if t.kind == .msg then u.endItem t status detail
      else { u with seg := { u.seg with items := u.seg.items.filter (fun x => x.id != t.id) } }) s

/-! ## Items and jobs are queued -/

/-- A unicast item joins its stall's queue (R145). -/
def State.addItem (s : State) (it : Item) : State :=
  { s with seg := { s.seg with items := s.seg.items ++ [{ it with id := s.seg.nextId }], nextId := s.seg.nextId + 1 } }
/-- An item with nothing sent yet. -/
def newItem (stall cls : Nat) (kind : ItemKind) (body : List Byte) (deliv : Nat) (ackReq : Bool) (raw : Nat) : Item :=
  { id := 0, stall := stall, kind := kind, did := none, run := none, cls := cls, body := body, deliv := deliv, ackReq := ackReq
    from_ := 0, hold := none, fc := none, psdu := [], sent := 0, ackDue := none, busy := false, held := none, at_ := raw }
/-- The hold of an item in ADRIFT starts (R159): at the later of the stall's entry into ADRIFT and the item's fetch. -/
def State.holdEnd (s : State) (i at_ : Nat) : Nat := max (s.stall i).adriftAt at_ + s.param 0x0401 * secT
/-- A KEY item is queued, once (R177, R198, R201). -/
def State.addKey (s : State) (i : Nat) (k : ItemKind) : State :=
  if s.seg.items.any (fun t => t.stall == i && t.kind == k) then s
  else s.addItem (newItem i 0x09 k [] 0 true s.tsu.raw)
/-- The KEY STALL item of a stall's renewal: of the key that it sends under (R198). (DEDUCED, log 179) -/
def State.renewKind (s : State) (i : Nat) : ItemKind :=
  .keyStall (if (s.stall i).nextHeld then s.nextEpoch8 else (s.stall i).epoch)
/-- A stall's key is to be renewed: a fresh one, in place of a renewal's under way, and its item (R198). -/
def State.renewKey (s : State) (i : Nat) : State :=
  let h := (s.evict (s.stall i).renew).freshHandle
  (h.2.modStall i (fun x => { x with renew := h.1 })).addKey i (s.renewKind i)
/-- The KEY PADDOCK items that a stall's node lacks (R177). -/
def State.queueKeys (s : State) (i : Nat) : State :=
  let x := s.stall i
  if x.live = false then s
  else
    x.padList.foldl (fun t p =>
      let q := t.pad p
      let t1 := if q.key ≠ 0 ∧ (p, q.epoch) ∉ x.acked then t.addKey i (.keyPad p q.epoch) else t
      if q.rolling ∧ (p, t.nextEpoch8) ∉ x.acked then t1.addKey i (.keyPad p t.nextEpoch8) else t1) s
/-- A group message is queued for the yards given (R148, R164). -/
def State.addJob (s : State) (kind : JobKind) (did : Option Nat) (pad cls : Nat) (body : List Byte) (reps : Nat)
    (yards : List Nat) (from_ : Int) (cut : Option Int) : State :=
  let j : Job := { id := s.seg.nextId, kind := kind, did := did, pad := pad, cls := cls, body := body, repeats := reps
                   yards := yards.map (fun y => { yard := y, sent := 0, last := none, held := none }), from_ := from_
                   cut := cut, fc := none }
  { s with seg := { s.seg with jobs := s.seg.jobs ++ [j], nextId := s.seg.nextId + 1 } }

/-- A schedule's distribution (R181): to paddocks as group frames, to stalls as unicast items. -/
def State.distribute (s : State) (did : Option Nat) (body : List Byte) (pads stalls : List Nat) : State :=
  let r := s.seg.nextId
  let s1 := { s with seg := { s.seg with nextId := r + 1, runs := s.seg.runs ++ [{ id := r, did := did, failed := 0 : SchedRun }] } }
  let s2 := pads.foldl (fun t p =>
    let ys := t.padYards p
    if ys = [] then t else t.addJob (.schedule r) none p 0x02 body 3 ys 0 none) s1
  let s3 := stalls.foldl (fun t i =>
    t.addItem { newItem i 0x02 .msg body 0 false t.tsu.raw with
      run := some r, hold := if (t.stall i).state = sADRIFT then some (t.holdEnd i t.tsu.raw) else none }) s2
  s3.checkRun r
/-- The stored body of a schedule. -/
def State.schedule (s : State) (id : Nat) : Option (List Byte) := (s.seg.scheds.find? (fun p => p.1 == id)).map (fun p => p.2)
/-- The paddocks, and the stalls in none of them, whose SCHED_ID names a schedule (R181). -/
def State.schedPads (s : State) (id : Nat) : List Nat :=
  (s.seg.pads.filter (fun q => (q.1 == 0 || q.2.valid) && q.2.sched == id)).map (fun q => q.1)
def State.schedStalls (s : State) (id : Nat) : List Nat :=
  let ps := s.schedPads id
  (s.seg.stalls.filter (fun q => q.2.live && q.2.sched == id && !ps.any (fun p => q.2.inPad p))).map (fun q => q.1)

/-! ## Persisting (R135) -/

/-- The stall and paddock tables go to NAND (R135). -/
def State.persistTables (s : State) : State :=
  let st : Tbl Stall := s.seg.stalls.map (fun q => (q.1, { q.2 with fcSaved := q.2.fcDown }))
  let pd : Tbl Paddock := s.seg.pads.map (fun q => (q.1, { q.2 with fcSaved := q.2.fc }))
  { s with seg := { s.seg with stalls := st, pads := pd }, nvseg := { s.nvseg with stalls := st, pads := pd } }

/-! ## Stall states (R155) -/

/-- Timed wakes of a stall may be used: a wake schedule, not stale, not DOZING (R145). -/
def Stall.timed (x : Stall) : Bool := decide (0 < x.wakeEvery) && !x.stale && x.state != sDOZING
/-- Every campaign notes what happened to a stall (R227). -/
def State.campMark (s : State) (f : Campaign → Campaign) : State :=
  { s with flt := { s.flt with camps := s.flt.camps.map f } }
/-- A stall leaves the segment: a campaign that waits for it, or would try it again, targets it no longer (R218, R227). -/
def State.campLeave (s : State) (i : Nat) : State :=
  s.campMark (fun c =>
    if Tbl.get 0 c.status i = 1 ∨ Tbl.get 0 c.status i = 5 then { c with status := Tbl.put 0 c.status i 0 } else c)
/-- Another node stands at a stall's index: NONE until the next plan (R227). -/
def State.campNew (s : State) (i : Nat) : State :=
  s.campMark (fun c => { c with status := Tbl.put 0 c.status i 0, plan := Tbl.put 0 c.plan i 0 })
/-- A join fails: the stall returns to UNBOUND, keeping its EUI, and its key is discarded (R153). -/
def State.failJoin (s : State) (i : Nat) : State :=
  let x := s.stall i
  let s1 := (((s.evict x.key).endItems i stABORTED 0).campLeave i).modStall i (fun x => { x with state := sUNBOUND, key := 0, acked := [] })
  s1.event 6 (yardOf i) 0x0404 2 [x.eui, yardOf i]
/-- A stall becomes UNBOUND and keeps its EUI: its keys are destroyed (R135, R203). -/
def State.unbind (s : State) (i : Nat) : State :=
  let x := s.stall i
  ((((((s.evict x.key).evict x.keyNext).evict x.oldKey).evict x.renew).endItems i stABORTED 0).campLeave i).modStall i (fun x =>
    { x with state := sUNBOUND, key := 0, keyNext := 0, oldKey := 0, renew := 0, nextHeld := false, rolled := false, acked := [] })
/-- An entry into ADRIFT at a raw count: the hold of each queued item starts (R155, R159). -/
def State.enterAdrift (s : State) (i at_ : Nat) : State :=
  let s1 := s.modStall i (fun x => { x with state := sADRIFT, adriftAt := at_ })
  let g (t : Item) : Item :=
    if t.stall = i ∧ t.kind = .msg then { t with hold := some (s1.holdEnd i t.at_) } else t
  let s2 : State := { s1 with seg := { s1.seg with items := s1.seg.items.map g } }
  s2.event 6 (yardOf i) 0x0401 1 [i, yardOf i]

/-! ## The yard uplink queues (R155, R248) -/

/-- The stall that a frame names. -/
def Rx.stall (r : Rx) : Nat := r.frame.addr % nStalls
/-- The EUI-64 of a JOIN frame. -/
def Rx.eui (r : Rx) : Nat := leAt r.frame.body 2 8
/-- Class and subtype of a received message. -/
def Rx.cls (r : Rx) : Nat := leAt r.frame.body 0 1
def Rx.sub (r : Rx) : Nat := leAt r.frame.body 1 1

/-- The first accepted frame of a yard that a message handler takes. -/
def State.upNext (s : State) (p : Rx → Bool) : Option Rx :=
  s.air.accepted.find? (fun r => p r && s.air.accepted.find? (fun q => q.yard == r.yard) == some r)
/-- M1 notes an accepted uplink: hops and parent, and the return from DOZING or ADRIFT (R155, R162). -/
def State.uplinked (s : State) (r : Rx) : State :=
  let i := r.stall
  let x := s.stall i
  let hops := match r.via with
    | some p => (s.stall p).hops + 1
    | none => 1
  let t := s.modStall i (fun x => { x with hops := hops % 256, parent := r.via.getD 0xFFFFFFFF })
  if x.state = sDOZING ∨ x.state = sADRIFT then
    let g (k : Item) : Item := if k.stall = i then { k with hold := none } else k
    let u : State := { t with seg := { t.seg with items := t.seg.items.map g } }
    let u := u.modStall i (fun x => { x with state := sACTIVE })
    if x.state = sADRIFT then u.event 6 (yardOf i) 0x0403 0 [i, x.state] else u
  else t
/-- M1 reads an item of a yard's uplink queue. One with a word that fails parity is discarded, which the Bool tells; what a RELAY
message held never stood there (R248). -/
def State.takeUp (s : State) (r : Rx) : State × Bool :=
  let t : State := { s with air := { s.air with accepted := s.air.accepted.erase r } }
  let q := 40 + r.yard
  match r.frame.upBad with
  | some off => if r.via.isSome then (t, false) else (t.poisonQueue q off, true)
  | none => (t, false)
/-- A message of an accepted frame is handled, while its stall is in the segment. (DEDUCED, log 46) -/
def State.handleUp (s : State) (r : Rx) (act : State → Rx → Nat → State) : State :=
  let t := s.takeUp r
  if t.2 = false ∧ (t.1.stall r.stall).live = true then act (t.1.uplinked r) r r.stall else t.1
/-- The next message of a class is handled. In an activation pause the accepted frames wait for M1 (R437). (DEDUCED, log 46) -/
def State.upRow (s : State) (p : Rx → Bool) (act : State → Rx → Nat → State) : State :=
  match s.upNext p with
  | none => s
  | some r => if s.paused then s else s.handleUp r act
/-- Octets of a message body, the class octet not counted. -/
def Rx.num (r : Rx) (off n : Nat) : Nat := leAt r.frame.body (1 + off) n
/-- UP frames of one class. -/
def isUp (cls : Nat) (r : Rx) : Bool := r.frame.typ == tyUP && r.cls == cls

end Sys2Proof.Machine
end

