-- ==== Sys2Proof/Machine/Meter.lean ====
section
/-! DEFINITION. Sys2Proof/Machine/Meter.lean: feeder metering (R324 to R345) and the reconciliation of an interval (R194 to
R196). Energy is held in units of 2^-32 mWh, power in nW: samples are in µA and mV. -/
namespace Sys2Proof.Machine

/-! ## Numbers -/

/-- The whole square root, bit by bit. -/
def isqrtBits : Nat → Nat → Nat → Nat
  | 0, _, r => r
  | k + 1, n, r => if (r + 2 ^ k) * (r + 2 ^ k) ≤ n then isqrtBits k n (r + 2 ^ k) else isqrtBits k n r
def isqrt (n : Nat) : Nat := isqrtBits 96 n 0
/-- The square root of a quotient as a whole number, rounded in the same way. (DESIGN CHOICE, log 75) -/
def State.roundSqrt (s : State) (a b : Nat) : Nat × State :=
  let r := isqrt (a / b)
  if r * r * b = a then (r, s)
  else
    let f := s.fresh
    (r + f.1 % 2, f.2)
/-- The divisor that takes a sum of products over samples of 125 µs, times 2^32, to units of 2^-32 mWh. -/
def energyDiv : Nat := 28800000000000

/-! ## Accumulators (R331, R332) -/

/-- The highest value of an accumulator. -/
def accMax : Nat := 2 ^ 96 - 1
def State.acc (s : State) (id : Nat) : Nat := Tbl.get 0 s.mtr.acc id
/-- The channel of an accumulator (R565). -/
def accChannel (id : Nat) : Nat := if id < 18 then id % 6 else 16 + (id - 18)
/-- Show an accumulator's SAT in MTR_I_STAT. -/
def State.showSat (s : State) (n : Nat) : State :=
  s.setSf (.MTR_I_STAT n) F.MTR_I_STAT_SAT (b2n (s.mtr.sat.any (fun i => decide (i < 18) && i % 6 == n)))
/-- Add to an accumulator, which never wraps (R332). -/
def State.addAcc (s : State) (id e : Nat) : State :=
  if s.mtr.sat.contains id then s
  else if s.acc id + e ≤ accMax then { s with mtr := { s.mtr with acc := Tbl.put 0 s.mtr.acc id (s.acc id + e) } }
  else
    let t : State := { s with mtr := { s.mtr with acc := Tbl.put 0 s.mtr.acc id accMax, sat := id :: s.mtr.sat } }
    let t := (t.event 16 (accChannel id) 0x0A03 3 [id]).setSf .MTR_EVT F.MTR_EVT_SAT 1
    if id < 18 then t.showSat (id % 6) else t

/-! ## Saves (R334 to R338) -/

/-- A slot holds a valid record (R334). -/
def saveValid : Option Save → Bool
  | none => false
  | some x => x.seq != 0
/-- The slot that holds the older record is slot A; a slot with no valid record counts as the older. -/
def NvMtr.olderIsA (v : NvMtr) : Bool :=
  match v.slotA, v.slotB with
  | some a, some b => if a.seq = 0 then true else if b.seq = 0 then false else seqLater b.seq a.seq
  | none, _ => true
  | some _, none => false
/-- The newest valid record. -/
def NvMtr.newest (v : NvMtr) : Option Save :=
  if saveValid v.slotA then (if saveValid v.slotB then (if v.olderIsA then v.slotB else v.slotA) else v.slotA)
  else if saveValid v.slotB then v.slotB else none
def State.mtrI (s : State) (n : Nat) : MtrI := Tbl.get MtrI.reset s.mtr.amps n
def State.setMtrI (s : State) (n : Nat) (x : MtrI) : State :=
  { s with mtr := { s.mtr with amps := Tbl.put MtrI.reset s.mtr.amps n x } }
def State.mtrV (s : State) (n : Nat) : MtrV := Tbl.get MtrV.reset s.mtr.volts n
def State.setMtrV (s : State) (n : Nat) (x : MtrV) : State :=
  { s with mtr := { s.mtr with volts := Tbl.put MtrV.reset s.mtr.volts n x } }
/-- GCAL of a current channel, and of the voltage channel that it takes its voltage from, in 1/32,768 (R324, R343, R344). -/
def State.gcalI (s : State) (n : Nat) : Nat := s.cf (.MTR_I_CAL n) F.MTR_I_CAL_GCAL
def State.gcalV (s : State) (k : Nat) : Nat := if k = 3 then 0 else s.cf (.MTR_V_CAL k) F.MTR_V_CAL_GCAL
/-- The calibrated sums of a channel's cycle, v × i in units of 2^-30 and i × i and v × v in units of 2^-30 (R324). -/
def State.calVI (s : State) (n : Nat) : Int :=
  (s.mtrI n).vi * (s.gcalI n * s.gcalV (s.cf (.MTR_I_CFG n) F.MTR_I_CFG_VSEL) : Nat)
def State.calII (s : State) (n : Nat) : Nat := (s.mtrI n).ii * s.gcalI n ^ 2
def State.calVV (s : State) (n : Nat) : Nat := (s.mtrI n).vv * s.gcalV (s.cf (.MTR_I_CFG n) F.MTR_I_CFG_VSEL) ^ 2
/-- PARTIAL of the six channels (R334). -/
def State.partials (s : State) : List Int × State :=
  (List.range 6).foldl (fun (p : List Int × State) (n : Nat) =>
    let r := p.2.roundI (s.calVI n * 4) energyDiv
    (p.1 ++ [r.1], r.2)) ([], s)
/-- Write a save record; the read-back holds or fails (R334). SEQ is one more than that of the last completed save. (DEDUCED, log 78) -/
def State.save (s : State) (readBackOk : Bool) : State :=
  let p := s.partials
  let t := p.2
  let seq := (t.sf .MTR_SAVESEQ F.MTR_SAVESEQ_VALUE + 1) % 2 ^ 32
  let rec_ : Save := { seq := seq, rtc := t.newt.tick, sat := t.mtr.sat, acc := t.mtr.acc, part := p.1 }
  let x := if readBackOk then some rec_ else none
  let t : State := { t with nvmtr := if t.nvmtr.olderIsA then { t.nvmtr with slotA := x } else { t.nvmtr with slotB := x } }
  let t := if readBackOk then t.setSf .MTR_SAVESEQ F.MTR_SAVESEQ_VALUE seq
    else (t.event 16 48 0x0A07 3 [seq]).setSf .MTR_EVT F.MTR_EVT_SAVEFAIL 1
  match t.mtr.savePend with
  | none => t
  | some p => { t.setSf .MTR_RUN F.MTR_RUN_SAVE p with mtr := { t.mtr with savePend := none } }
/-- SAVE_PERIOD in effect, in TSU ticks. -/
def State.savePeriod (s : State) : Nat := s.sf .MTR_RUN F.MTR_RUN_SAVE * 100 * msT
/-- E runs: the module has left reset. -/
def State.islandsUp (s : State) : Bool := s.clk.phase == .run || s.clk.phase == .starting
/-- METER_SAVE (R334, R335). -/
def execMeterSave (readBackOk : Bool) (s : State) : Host.Outcome State Fault Refusal :=
  quiet (fun s =>
    if s.clk.phase ≠ .run then s
    else
      let t := (s.elapseTo s.mtr.saveAt).save readBackOk
      { t with mtr := { t.mtr with saveAt := t.tsu.raw + t.savePeriod } }) s
/-- The restore of the totals at a start (R336); METER_LOST stands in place of METER_GAP only. (DEDUCED, log 156) -/
def State.meterRestore (s : State) (readBackOk : Bool) : State :=
  let t : State := { s with mtr := Mtr.reset }
  let gaps := (t.sf (.NEWT_ANCHOR 1) F.NEWT_ANCHOR_VALUE + 1) % 2 ^ 32
  let t := (t.setSf (.NEWT_ANCHOR 1) F.NEWT_ANCHOR_VALUE gaps).setSf .MTR_GAPS F.MTR_GAPS_VALUE gaps
  let t : State := { t with seg := { t.seg with reconGap := true } }
  let t := match t.nvmtr.newest with
    | none => t.event 16 48 0x0A02 3 []
    | some x =>
      let u : State := { t with mtr := { t.mtr with acc := x.acc, sat := x.sat } }
      let u := u.setSf .MTR_SAVESEQ F.MTR_SAVESEQ_VALUE x.seq
      let u := (List.range 6).foldl State.showSat u
      let u := (x.part.zipIdx).foldl (fun (w : State) (p : Int × Nat) =>
        if 0 < p.1 then w.addAcc p.2 p.1.toNat else if p.1 < 0 then w.addAcc (6 + p.2) (-p.1).toNat else w) u
      let u := u.event 16 48 0x0A01 2 [x.rtc, u.newt.tick, gaps % 65536, u.sf .NEWT_STAT F.NEWT_STAT_OSC_STOP]
      u.setSf .MTR_EVT F.MTR_EVT_GAP 1
  let t := t.save readBackOk
  { t with mtr := { t.mtr with saveAt := t.tsu.raw + t.savePeriod } }
/-- Metering takes its set-up at HIF_SETUP_DONE: a fixed gain is selected, and a channel enabled without a full scale stays idle
(R326, R342, R343). -/
def State.setupMeter (s : State) : State :=
  let t := (s.setSf .MTR_RUN F.MTR_RUN_REV_HOLD (s.cf .MTR_CFG F.MTR_CFG_REV_HOLD)).setSf .MTR_RUN F.MTR_RUN_SAVE
    (s.cf .MTR_CFG F.MTR_CFG_SAVE)
  (List.range 6).foldl (fun u n =>
    let u : State := if u.cf (.MTR_I_CFG n) F.MTR_I_CFG_AUTO = 0 then
        u.setSf (.MTR_I_STAT n) F.MTR_I_STAT_GAIN (u.cf (.MTR_I_CFG n) F.MTR_I_CFG_GFIX) else u
    if u.cf (.MTR_I_CFG n) F.MTR_I_CFG_ENABLE = 1 ∧ u.cf (.MTR_I_FS n) F.MTR_I_FS_VALUE = 0 then
      u.setupIgnored (.MTR_I_FS n) F.MTR_I_FS_VALUE 0 3
    else u) t

/-! ## Branch sampling (R324 to R326, R329) -/

/-- Metering runs (R342). -/
def State.metering (s : State) : Bool := s.done && s.cf .MTR_CFG F.MTR_CFG_ENABLE == 1 && s.clk.phase == .run
/-- A gain code's factor (R326). -/
def gainOf (code : Nat) : Nat := 4 ^ code
/-- FS of a channel in µA peak (R343). -/
def State.fullScale (s : State) (n : Nat) : Nat := s.cf (.MTR_I_FS n) F.MTR_I_FS_VALUE * 1000
/-- A channel is measured: enabled, with a full scale (R343). -/
def State.measured (s : State) (n : Nat) : Bool :=
  s.cf (.MTR_I_CFG n) F.MTR_I_CFG_ENABLE == 1 && s.fullScale n != 0
def State.mtrGain (s : State) (n : Nat) : Nat := s.sf (.MTR_I_STAT n) F.MTR_I_STAT_GAIN
/-- A gain change: the count restarts and 16 samples come from the ×1 path (R326). -/
def State.setGain (s : State) (n g : Nat) : State :=
  let t := (s.setSf (.MTR_I_STAT n) F.MTR_I_STAT_GAIN g).bumpSat (.MTR_I_STAT n) F.MTR_I_STAT_SWITCHES
  t.setMtrI n { t.mtrI n with cross := 16, lows := 0, low := false }
/-- The highest gain whose 7/8 × full scale exceeds a magnitude (R326). -/
def bestGain (fs mag : Nat) : Nat :=
  match [3, 2, 1].find? (fun g => decide (8 * mag * gainOf g < 7 * fs)) with
  | some g => g
  | none => 0
/-- A sample is clipped at its full scale: the cycle's mark, MTR_I_EVT.CLIP, and METER_CLIP once in 60 s (R326). (DEDUCED, log 74) -/
def State.clipped (s : State) (n : Nat) : State :=
  let x := s.mtrI n
  let t := (s.setMtrI n { x with clip := true }).setSf (.MTR_I_EVT n) F.MTR_I_EVT_CLIP 1
  if t.tsu.raw < x.clipRec then t
  else (t.setMtrI n { t.mtrI n with clipRec := t.tsu.raw + 60 * secT }).event 16 n 0x0A04 2 [n, t.mtrGain n]
/-- A sample held within ± a full scale. -/
def clampTo (fs : Nat) (i : Int) : Int := if (fs : Int) < i then fs else if i < -(fs : Int) then -(fs : Int) else i
/-- The sample that E takes of a channel, with gain switching (R326). (DEDUCED, log 74) -/
def State.takeSample (s : State) (n : Nat) (c : CurrentIn) : Int × State :=
  let fs := s.fullScale n
  let g := s.mtrGain n
  let x1 (t : State) : Int × State := (clampTo fs c.x1, if fs ≤ c.x1.natAbs then t.clipped n else t)
  if s.cf (.MTR_I_CFG n) F.MTR_I_CFG_AUTO = 0 then
    (clampTo (fs / gainOf g) c.gain, if fs ≤ c.gain.natAbs * gainOf g then s.clipped n else s)
  else if 0 < (s.mtrI n).cross then
    x1 (s.setMtrI n { s.mtrI n with cross := (s.mtrI n).cross - 1 })
  else if 7 * fs ≤ 8 * c.gain.natAbs * gainOf g then
    let h := bestGain fs c.x1.natAbs
    x1 (if h = g then s else s.setGain n h)
  else (c.gain, s)
/-- A coil's output is integrated before any other step (R324). (DESIGN CHOICE, log 188) -/
def State.coil (s : State) (n : Nat) (c : CurrentIn) : CurrentIn × State :=
  if s.cf (.MTR_I_CFG n) F.MTR_I_CFG_ROGO = 0 then (c, s)
  else
    let x := s.mtrI n
    let a := Config.rogowski x.coil1 c.x1
    let b := Config.rogowski x.coilG c.gain
    ({ c with x1 := a, gain := b }, s.setMtrI n { x with coil1 := a, coilG := b })
/-- The sample of the product v × i, with the phase correction (R324). (DESIGN CHOICE, log 188) -/
def State.phased (s : State) (n : Nat) (i : Int) : Int :=
  let p := s.cf (.MTR_I_CAL n) F.MTR_I_CAL_PCAL
  if p = 0 then i else Config.phaseCorrect p (s.mtrI n).last i
/-- The reverse check at a cycle's end (R329): P is `vi / k` nW. (DESIGN CHOICE, log 76) -/
def State.reverseCheck (s : State) (n : Nat) (vi : Int) (k : Nat) : State :=
  if s.cf (.MTR_I_CFG n) F.MTR_I_CFG_REV_EN = 0 then s
  else
    let below := decide (vi < -((s.cf .MTR_REV_MIN F.MTR_REV_MIN_REV_MIN : Int) * 1000000000 * k))
    let was := s.sf (.MTR_I_STAT n) F.MTR_I_STAT_REV == 1
    if below = was then s.setMtrI n { s.mtrI n with revs := 0 }
    else if (s.mtrI n).revs + 1 < s.sf .MTR_RUN F.MTR_RUN_REV_HOLD then
      s.setMtrI n { s.mtrI n with revs := (s.mtrI n).revs + 1 }
    else
      let t := s.setMtrI n { s.mtrI n with revs := 0 }
      let t := t.setSf (.MTR_I_STAT n) F.MTR_I_STAT_REV (b2n below)
      let t := t.setSf (.MTR_I_EVT n) (if below then F.MTR_I_EVT_REV_START else F.MTR_I_EVT_REV_END) 1
      let p := t.roundI vi (k * 1000000000)
      p.2.event 16 n 0x0A05 2 [n, b2n below, twos 32 p.1]
/-- The next higher gain after 4 complete cycles below FS_G / 8 (R326). (DEDUCED, log 77) -/
def State.gainUp (s : State) (n : Nat) : State :=
  let x := s.mtrI n
  let lows := if x.low then x.lows + 1 else 0
  let t := s.setMtrI n { x with lows := lows }
  if s.cf (.MTR_I_CFG n) F.MTR_I_CFG_AUTO = 1 ∧ 4 ≤ lows ∧ t.mtrGain n < 3 then t.setGain n (t.mtrGain n + 1) else t
/-- A channel's cycle ends: the measured quantities, the energies, the reverse check, and the gain (R324, R325). (DESIGN CHOICE, log 76) -/
def State.endCycle (s : State) (n : Nat) (lag : Bool) : State :=
  let x := s.mtrI n
  if x.n = 0 then s
  else
    let k := x.n * 2 ^ 30
    let vi := s.calVI n
    let vvii := s.calVV n * s.calII n
    let i := s.roundSqrt (s.calII n) (k * 1000000)
    let p := i.2.roundI vi (k * 1000000)
    let sa := p.2.roundSqrt vvii ((k * 1000000) ^ 2)
    let q := sa.2.roundSqrt (vvii - vi.natAbs ^ 2) ((k * 1000000) ^ 2)
    let e := q.2.round (vi.natAbs * 4) energyDiv
    let a := e.2.roundSqrt (vvii * 16) (energyDiv ^ 2)
    let t := (a.2.setSf (.MTR_I_IRMS n) F.MTR_I_IRMS_VALUE i.1).setSf (.MTR_I_P n) F.MTR_I_P_VALUE (twos 32 p.1)
    let t := (t.setSf (.MTR_I_S n) F.MTR_I_S_VALUE sa.1).setSf (.MTR_I_Q n) F.MTR_I_Q_VALUE
      (twos 32 (if lag then (q.1 : Int) else -(q.1 : Int)))
    let t := t.setSf (.MTR_I_STAT n) F.MTR_I_STAT_CLIP (b2n x.clip)
    let t := (if 0 ≤ vi then t.addAcc n e.1 else t.addAcc (6 + n) e.1).addAcc (12 + n) a.1
    let t := (t.reverseCheck n vi k).gainUp n
    t.setMtrI n { t.mtrI n with n := 0, vi := 0, ii := 0, vv := 0, low := true, clip := false }
/-- A voltage channel's cycle ends now: a positive-going crossing, or 160 samples without one for 100 ms (R324). (DEDUCED, log 77) -/
def MtrV.ends (x : MtrV) (v : Int) : Bool := (x.neg && decide (0 ≤ v)) || (decide (800 ≤ x.since) && decide (160 ≤ x.n))
/-- The sample of a voltage channel; a channel that is not measured shows no voltage. (DEDUCED, log 77) -/
def State.voltIn (s : State) (k : Nat) (m : MeterIn) : Int :=
  if s.cf (.MTR_V_CFG k) F.MTR_V_CFG_ENABLE = 1 then m.volts.getD k 0 else 0
/-- One sample of a voltage channel: its own cycle, Vrms, frequency and NOV (R324). The manual gives no computation of the
frequency between two crossings: it is a free value. -/
def State.sampleVolt (s : State) (k : Nat) (m : MeterIn) : State :=
  let v := s.voltIn k m
  let x := s.mtrV k
  let cross := x.neg && decide (0 ≤ v)
  let t := if x.ends v ∧ x.n ≠ 0 ∧ s.cf (.MTR_V_CFG k) F.MTR_V_CFG_ENABLE = 1 then
      let r := s.roundSqrt (x.vv * s.gcalV k ^ 2) (x.n * 2 ^ 30 * 100)
      let f := r.2.fresh
      let u := f.2.setSf (.MTR_V_RMS k) F.MTR_V_RMS_VALUE r.1
      if cross then u.setSf (.MTR_V_FREQ k) F.MTR_V_FREQ_FREQ f.1 else u
    else s
  let since := if x.neg = decide (v < 0) then min 800 (x.since + 1) else 1
  let t := if s.cf (.MTR_V_CFG k) F.MTR_V_CFG_ENABLE = 1 then
      t.setSf (.MTR_V_FREQ k) F.MTR_V_FREQ_NOV (b2n (decide (800 ≤ since)))
    else t
  let n := if x.ends v then 1 else x.n + 1
  let vv := (if x.ends v then 0 else x.vv) + v.natAbs * v.natAbs
  t.setMtrV k { neg := decide (v < 0), since := since, n := n, vv := vv }
/-- One sample of a current channel (R324 to R326); `ended`: its voltage's cycle has ended at this sample. (DEDUCED, log 77) -/
def State.sampleAmp (s : State) (n : Nat) (m : MeterIn) : State :=
  if s.measured n = false then s
  else
    let k := s.cf (.MTR_I_CFG n) F.MTR_I_CFG_VSEL
    let c := m.amps.getD n { x1 := 0, gain := 0, lag := true }
    let ended := if k = 3 then decide (160 ≤ (s.mtrI n).n) else (s.mtrV k).ends (s.voltIn k m)
    let t := if ended then s.endCycle n c.lag else s
    let v := if k = 3 then 0 else s.voltIn k m
    let c := t.coil n c
    let i := c.2.takeSample n c.1
    let u := i.2
    let x := u.mtrI n
    let low := x.low && decide (8 * i.1.natAbs * gainOf (u.mtrGain n) < u.fullScale n)
    let u := u.setMtrI n { x with n := x.n + 1, vi := x.vi + v * u.phased n i.1, last := i.1
                                  ii := x.ii + i.1.natAbs * i.1.natAbs
                                  vv := x.vv + v.natAbs * v.natAbs, low := low }
    u.setSf (.MTR_I_STAT n) F.MTR_I_STAT_PATH (b2n (decide (0 < x.cross)))
/-- REV_HOLD of METER_CTL takes effect when a cycle begins (R340). (DEDUCED, log 78) -/
def State.applyRevHold (before s : State) : State :=
  match s.mtr.revPend with
  | none => s
  | some v =>
    if (List.range 6).any (fun n => before.measured n && decide ((s.mtrI n).n = 1)) then
      { s.setSf .MTR_RUN F.MTR_RUN_REV_HOLD v with mtr := { s.mtr with revPend := none } }
    else s
/-- The snapshot record (R333). -/
def State.meterRecord (s : State) : List Byte :=
  le 8 (twos 64 s.outputTime) ++ le 6 s.newt.tick ++ zeros 2 ++ le 4 (s.sf .MTR_GAPS F.MTR_GAPS_VALUE)
    ++ le 4 (s.sf .MTR_SAVESEQ F.MTR_SAVESEQ_VALUE) ++ zeros 8
    ++ ((List.range 26).map (fun i =>
      le 12 (s.acc i) ++ le 1 i ++ le 1 (b2n (s.mtr.sat.contains i)) ++ zeros 2)).flatten
/-- A METER_SNAPSHOT completes with the totals of this instant (R333). -/
def State.meterSnap (s : State) (d : Desc) : State := s.okData { d with actTime := some s.outputTime } s.meterRecord 0
/-- The sample instant serves the snapshots that wait, in arrival order (R333, R338). -/
def State.snapAll (s : State) : State :=
  s.mtr.snaps.foldl (fun u i =>
    match u.desc? i with
    | some d => u.meterSnap d
    | none => u) { s with mtr := { s.mtr with snaps := [] } }
/-- METER_SAMPLE (R324 to R326, R329). -/
def execMeterSample (sample : MeterIn) (s : State) : Host.Outcome State Fault Refusal :=
  quiet (fun s =>
    if s.metering = false then s
    else
      let t := s.elapseTo s.mtr.sampleAt
      let t : State := { t with mtr := { t.mtr with sampleAt := t.tsu.raw + 125 * usT } }
      let u := (List.range 6).foldl (fun w n => w.sampleAmp n sample) t
      let u := (List.range 3).foldl (fun w k => w.sampleVolt k sample) u
      (State.applyRevHold t u).snapAll) s

/-! ## Pulse inputs (R327 to R330) -/

/-- A pulse input counts (R327). -/
def State.pulseOn (s : State) (i : Nat) : Bool :=
  decide (i < 8) && s.metering && s.cf (.MTR_PI_CFG i) F.MTR_PI_CFG_ENABLE == 1
/-- The next pulse counts no sooner than after DEB ms inactive and DEB ms active (R327). -/
def State.pulseNext (s : State) (i : Nat) : State :=
  let next := s.tsu.raw + 2 * s.cf (.MTR_PI_CFG i) F.MTR_PI_CFG_DEB * msT
  { s with mtr := { s.mtr with pulseAt := Tbl.put 0 s.mtr.pulseAt i next } }
/-- PULSE_COUNT (R327). (DEDUCED, log 78) -/
def execPulseCount (i : Nat) (s : State) : Host.Outcome State Fault Refusal :=
  quiet (fun s =>
    if s.pulseOn i = false then s
    else
      let s := s.elapseTo (Tbl.get 0 s.mtr.pulseAt i)
      let w := s.cf (.MTR_PI_WT i) F.MTR_PI_WT_VALUE
      let added := if s.mtr.sat.contains (18 + i) then 0 else w
      let t := ((s.addAcc (18 + i) (w * 2 ^ 32)).setSf (.MTR_PI_STAT i) F.MTR_PI_STAT_ACTIVE 1).pulseNext i
      { t with mtr := { t.mtr with minute := Tbl.put 0 t.mtr.minute i (Tbl.get 0 t.mtr.minute i + added) } }) s
/-- PULSE_REJECTED (R327): the input is inactive again. (DEDUCED, log 78) -/
def execPulseRejected (i : Nat) (s : State) : Host.Outcome State Fault Refusal :=
  quiet (fun s => if s.pulseOn i = false then s
    else ((s.bumpSat (.MTR_PI_STAT i) F.MTR_PI_STAT_REJECT).setSf (.MTR_PI_STAT i) F.MTR_PI_STAT_ACTIVE 0).pulseNext i) s
/-- The reverse check of one pair at a minute carry (R330). The power in the event is free: the manual does not say how a
pair's is computed. -/
def State.pairCheck (s : State) (k : Nat) : State :=
  if bit (s.cf .MTR_PAIR F.MTR_PAIR_PAIR) k = false then s
  else
    let rev := decide (Tbl.get 0 s.mtr.minute (2 * k) < Tbl.get 0 s.mtr.minute (2 * k + 1))
    if rev = (s.sf .MTR_PAIR_STAT ⟨k, k⟩ == 1) then s
    else
      let t := (s.setSf .MTR_PAIR_STAT ⟨k, k⟩ (b2n rev)).setSf .MTR_EVT F.MTR_EVT_PREV 1
      let f := t.fresh
      f.2.event 16 (32 + k) 0x0A05 2 [16 + k, b2n rev, f.1 % 2 ^ 32]
/-- The minute carry of the calendar unit (R330). -/
def State.minuteCarry (s : State) : State :=
  if s.metering = false then s
  else
    let t := (List.range 4).foldl (fun u k => u.pairCheck k) s
    { t with mtr := { t.mtr with minute := [] } }

/-! ## METER_SNAPSHOT and METER_CTL (R333, R340) -/

/-- METER_SNAPSHOT (R333): the next sample instant serves it; while E takes no samples, this instant does. (DEDUCED, log 78) -/
def execMeterSnapshot (did : Nat) (s : State) : Host.Outcome State Fault Refusal :=
  quiet (fun s => s.operation did 0x52 (fun _ => true) (fun s d =>
    if d.len < 448 then s.fail d stERR_ARG 1
    else if s.metering then { s with mtr := { s.mtr with snaps := s.mtr.snaps ++ [did] } }
    else s.meterSnap d)) s

/-- ACTION and VALUE of a METER_CTL record, and its form (R340). -/
def meterAction (d : Desc) : Nat := leAt d.buf 0 1
def meterValue (d : Desc) : Nat := leAt d.buf 4 4
def meterForm (d : Desc) : Bool := d.len == 8 && leAt d.buf 1 3 == 0
/-- METER_CTL CLEAR_EVT; a code that the table does not hold completes with ERR_ARG. -/
def execMeterCtlClearEvt (did : Nat) (read : HostRead) (s : State) : Host.Outcome State Fault Refusal :=
  quiet (fun s => s.operationIn did 0x53 read (fun d => meterAction d == 0 || decide (4 < meterAction d)) (fun s d =>
    if meterForm d = false ∨ meterAction d ≠ 0 then s.fail d stERR_ARG
    else ((List.range 6).foldl (fun t n => t.setSw (.MTR_I_EVT n) 0) (s.setSw .MTR_EVT 0)).ok d)) s
/-- METER_CTL SAVE_NOW: RESULT is the SEQ of the save. -/
def execMeterCtlSaveNow (did : Nat) (read : HostRead) (readBackOk : Bool) (s : State) :
    Host.Outcome State Fault Refusal :=
  quiet (fun s => s.operationIn did 0x53 read (fun d => meterAction d == 1) (fun s d =>
    if meterForm d = false then s.fail d stERR_ARG
    else (s.save readBackOk).ok d ((s.sf .MTR_SAVESEQ F.MTR_SAVESEQ_VALUE + 1) % 2 ^ 32))) s
/-- METER_CTL SAVE_PERIOD. -/
def execMeterCtlSavePeriod (did : Nat) (read : HostRead) (s : State) : Host.Outcome State Fault Refusal :=
  quiet (fun s => s.operationIn did 0x53 read (fun d => meterAction d == 2) (fun s d =>
    let v := meterValue d
    if meterForm d = false ∨ v < 100 ∨ 10000 < v ∨ v % 100 ≠ 0 then s.fail d stERR_ARG
    else State.ok { s with mtr := { s.mtr with savePend := some (v / 100) } } d)) s
/-- METER_CTL REV_HOLD. -/
def execMeterCtlRevHold (did : Nat) (read : HostRead) (s : State) : Host.Outcome State Fault Refusal :=
  quiet (fun s => s.operationIn did 0x53 read (fun d => meterAction d == 3) (fun s d =>
    let v := meterValue d
    if meterForm d = false ∨ v < 1 ∨ 255 < v then s.fail d stERR_ARG
    else State.ok { s with mtr := { s.mtr with revPend := some v } } d)) s
/-- The accumulators that a mask selects are zeroed and their SAT cleared. (DEDUCED, log 79) -/
def State.zeroAccs (s : State) (mask : Nat) : State :=
  let t : State := { s with mtr := { s.mtr with
    acc := s.mtr.acc.filter (fun p => !bit mask p.1), sat := s.mtr.sat.filter (fun i => !bit mask i) } }
  let t := (List.range 6).foldl (fun u n => u.showSat n) t
  { t with seg := { t.seg with reconGap := true } }
/-- METER_CTL ZERO: owner authority; a save follows at once. (DEDUCED, log 26, 79) -/
def execMeterCtlZero (did : Nat) (read : HostRead) (readBackOk : Bool) (s : State) : Host.Outcome State Fault Refusal :=
  quiet (fun s => s.operationIn did 0x53 read (fun d => meterAction d == 4) (fun s d =>
    let v := meterValue d
    match d.src with
    | .ring _ => s.fail d stDENIED
    | _ =>
      if meterForm d = false ∨ v = 0 ∨ 2 ^ 26 ≤ v then s.fail d stERR_ARG
      else (((s.zeroAccs v).event 16 48 0x0A06 1 [v]).save readBackOk).ok d)) s

/-! ## Reconciliation (R194 to R196) -/

/-- A parameter in effect for the running interval (R207). -/
def State.reconParam (s : State) (id : Nat) : Nat :=
  match s.seg.reconPar.find? (fun p => p.1 == id) with
  | some p => p.2
  | none => s.paramDefault id
/-- The import energy of the channels of a mask, in units of 2^-32 mWh. -/
def State.importOf (s : State) (mask : Nat) : Nat :=
  (List.range 6).foldl (fun a i => if bit mask i then a + s.acc i else a) 0
/-- Import less export of a pulse pair, in units of 2^-32 mWh, modulo 2^97. -/
def State.pairNet (s : State) (k : Nat) : Nat := (s.acc (18 + 2 * k) + 2 ^ 97 - s.acc (19 + 2 * k)) % 2 ^ 97
/-- A feeder has a pulse pair: PULSE = 1, and its pair is enabled (R194, R328). (DEDUCED, log 80) -/
def State.pulsed (s : State) (v : Nat) : Bool := bit v 11 && bit (s.cf .MTR_PAIR F.MTR_PAIR_PAIR) (bits v 10 8)
/-- A source of a feeder has SAT (R196). -/
def State.feederSat (s : State) (v : Nat) : Bool :=
  s.mtr.sat.any (fun i => (decide (i < 6) && bit (bits v 5 0) i)
    || (s.pulsed v && (i == 18 + 2 * bits v 10 8 || i == 19 + 2 * bits v 10 8)))
/-- The latest report timed before a tick. -/
def reportBefore (l : List (Nat × Nat)) (t : Nat) : Option (Nat × Nat) :=
  (l.filter (fun p => decide (p.1 < t))).foldl (fun m p =>
    match m with
    | none => some p
    | some q => if q.1 < p.1 then some p else some q) none
/-- A member has reported within an interval (R195). -/
def Stall.reported (x : Stall) (from_ till : Nat) : Bool := x.reports.any (fun p => decide (from_ ≤ p.1 ∧ p.1 < till))
/-- A member's share of L: where no report was timed before the start, the manual states none, and it is free (R195). (DEDUCED, log 80) -/
def State.share (s : State) (x : Stall) (from_ till : Nat) : Nat × State :=
  match reportBefore x.reports till, reportBefore x.reports from_ with
  | some e, some b => ((e.2 + 2 ^ 64 - b.2) % 2 ^ 64, s)
  | _, _ => s.fresh
/-- One feeder's interval (R195, R196). U is taken from an enabled pair with PULSE = 1; the manual states none without, and it is free
(R194). (DEDUCED, log 80) -/
def State.reconcile (s : State) (f : Nat) (till : Nat) : State :=
  let v := s.reconParam (0x0510 + f)
  if bit v 31 = false then s
  else
    let from_ := s.seg.reconAt
    let mem := (s.members (bits v 23 12)).filter (fun i => (s.stall i).state != sDOZING)
    let rep := mem.filter (fun i => (s.stall i).reported from_ till)
    let l : Nat × State := rep.foldl (fun (p : Nat × State) (i : Nat) =>
      let r := p.2.share (s.stall i) from_ till
      (p.1 + r.1, r.2)) (0, s)
    let b := l.2.round ((s.importOf (bits v 5 0) + 2 ^ 96 - Tbl.get 0 s.seg.reconB f % 2 ^ 96) % 2 ^ 96) (2 ^ 32)
    let f0 := b.2.fresh
    let net : Int := signed 97 ((s.pairNet (bits v 10 8) + 2 ^ 97 - Tbl.get 0 s.seg.reconU f) % 2 ^ 97)
    let u := if s.pulsed v then b.2.roundI net (2 ^ 32) else (signed 64 (f0.1 % 2 ^ 64), f0.2)
    let t := u.2
    let floor := s.reconParam 0x0505 * 1000
    let inc := decide (100 * rep.length < s.reconParam 0x0506 * mem.length) || s.seg.reconGap || s.feederSat v
    let above (x : Int) (per : Nat) : Bool := decide ((floor : Int) < x) && decide ((per * b.1 : Int) < 1000 * x)
    let un := !inc && above ((b.1 : Int) - l.1) (s.reconParam 0x0503)
    let la := !inc && above ((l.1 : Int) - b.1) (s.reconParam 0x0504)
    let md := !inc && s.pulsed v && above (((u.1 - b.1).natAbs : Nat) : Int) (s.reconParam 0x0504)
    let flags := b2n inc + 2 * b2n un + 4 * b2n la + 8 * b2n md
    let rec_ : Recon := { feeder := f, flags := flags, reported := rep.length, members := mem.length, start := from_
                          l := l.1 % 2 ^ 64, b := b.1 % 2 ^ 64, u := u.1, period := (till - from_) / 32768 }
    let older := (t.seg.recon.filter (fun r => r.feeder == f)).take 23
    let t : State := { t with seg := { t.seg with recon := rec_ :: (older ++ t.seg.recon.filter (fun r => r.feeder != f)) } }
    if un ∨ la ∨ md then
      let x := t.roundI ((b.1 : Int) - l.1) 1000
      let y := x.2.roundI (u.1 - b.1) 1000
      y.2.event 12 0 0x0504 3 [f, flags, twos 64 x.1, twos 64 y.1]
    else t
/-- The start of an interval: the parameters that take effect, and the accumulators' values there (R195, R207). (DEDUCED, log 80) -/
def State.reconStart (s : State) : State :=
  let ids := (List.range 5).map (fun k => 0x0502 + k) ++ (List.range 6).map (fun k => 0x0510 + k)
  let par := ids.map (fun i => (i, s.param i))
  let t : State := { s with seg := { s.seg with reconAt := s.newt.tick, reconGap := false, reconPar := par } }
  (List.range 6).foldl (fun u f =>
    let v := u.reconParam (0x0510 + f)
    { u with seg := { u.seg with
      reconB := Tbl.put 0 u.seg.reconB f (u.importOf (bits v 5 0))
      reconU := Tbl.put 0 u.seg.reconU f (u.pairNet (bits v 10 8)) } }) t
/-- The number that two hexadecimal digits held as BCD stand for. -/
def bcd (v : Nat) : Nat := v / 16 * 10 + v % 16
/-- The second of the day from the held fields (R520). -/
def Cal.secondOfDay (c : Cal) : Nat := bcd c.hour * 3600 + bcd c.min * 60 + bcd c.sec
/-- Reports that no later interval needs are dropped: the newest before its start and all after it stay. -/
def pruneReports (l : List (Nat × Nat)) (t : Nat) : List (Nat × Nat) :=
  l.filter (fun p => decide (t ≤ p.1) || reportBefore l t == some p)
/-- RECON_INTERVAL_END (R195, R196, R207). -/
def execReconIntervalEnd (s : State) : Host.Outcome State Fault Refusal :=
  quiet (fun s =>
    let per := s.reconParam 0x0502
    if s.ready = false ∨ s.newt.cal.secondOfDay % per ≠ 0 ∨ s.newt.tick / 32768 = s.seg.reconAt / 32768 then s
    else
      let t := (List.range 6).foldl (fun u f => u.reconcile f s.newt.tick) s
      let t := t.seg.stalls.foldl (fun u q =>
        u.modStall q.1 (fun x => { x with reports := pruneReports x.reports s.newt.tick })) t
      t.reconStart) s

end Sys2Proof.Machine
end

