-- ==== Sys2Proof/Machine/Recorder.lean ====
section
/-! DEFINITION. Sys2Proof/Machine/Recorder.lean: the event recorder, its log in NAND, the journal gate, the capture and
the replay (R450 to R471). -/
namespace Sys2Proof.Machine

/-! ## Newt anchor words that firmware writes (R511) -/

/-- EVR_NEXT, anchor bytes 0 to 3. (DEDUCED, log 146) -/
def State.setEvrNext (s : State) (v : Nat) : State := s.setSw (.NEWT_ANCHOR 0) v
/-- A bit of FLAGS, anchor byte 8: 0 REVERT, 1 CAPTURE_ARM, 2 REPLAY. (DEDUCED, log 146) -/
def State.anchorFlag (s : State) (b : Nat) : Bool := s.sf (.NEWT_ANCHOR 2) ⟨b, b⟩ == 1
def State.setAnchorFlag (s : State) (b : Nat) (v : Bool) : State := s.setSf (.NEWT_ANCHOR 2) ⟨b, b⟩ (b2n v)

/-! ## Admission (R453, R456) -/

/-- The octets of an argument of an event: those that the event tables state, else Config's. (DESIGN CHOICE, log 27) -/
def argWidth (code k : Nat) : Nat :=
  match code, k with
  | 0x0A01, 0 | 0x0A01, 1 | 0x1106, 0 | 0x1106, 1 => 6
  | 0x0A01, 2 | 0x0A01, 3 => 2
  | 0x0404, 0 | 0x0501, 0 | 0x0C09, 0 | 0x0F04, 0 => 8
  | 0x0C01, 2 => 4
  | _, _ => Config.argWidth code k
/-- The octets of an event's arguments (R450): each little-endian, packed in order, 16 octets in all. (DESIGN CHOICE, log 27) -/
def argBytes (code : Nat) (args : List Nat) : List Byte :=
  ((args.zipIdx.map (fun p => le (argWidth code p.2) p.1)).flatten ++ zeros 16).take 16

/-- Of two events, the one that takes its SEQ first: the earlier CTL cycle, then SOURCE, then CODE (R453). -/
def evBefore (a b : Ev) : Bool :=
  let ca := a.at_ / 5
  let cb := b.at_ / 5
  decide (ca < cb) || (ca == cb && (decide (a.src < b.src) || (a.src == b.src && decide (a.code < b.code))))

/-- The event that arrives next, and the others. -/
def nextEv : List Ev → Option (Ev × List Ev)
  | [] => none
  | e :: t =>
    match nextEv t with
    | none => some (e, [])
    | some (x, rest) => if evBefore x e then some (x, e :: rest) else some (e, t)

/-- The slot whose record a new one of a severity displaces: the lowest SEQ among severities at or below it (R456). -/
def victim (sev : Nat) : List (Nat × Rec) → Option (Nat × Rec)
  | [] => none
  | p :: t =>
    match victim sev t with
    | none => if p.2.sev ≤ sev then some p else none
    | some q => if p.2.sev ≤ sev ∧ seqLater q.2.seq p.2.seq = true then some p else some q

/-- Put a record into the store's slot. (DEDUCED, log 127) -/
def putSlot (i : Nat) (r : Rec) : List (Nat × Rec) → List (Nat × Rec)
  | [] => [(i, r)]
  | (k, x) :: t => if i < k then (i, r) :: (k, x) :: t else if i = k then (i, r) :: t else (k, x) :: putSlot i r t

/-- The store takes a record: a free slot, or the slot it displaces; the flag tells whether it was admitted (R456). Slots
are never freed, so the free slots are those from the number of held records on. (DEDUCED, log 127) -/
def State.admitRec (s : State) (r : Rec) : State × Bool :=
  let held := s.evr.store.length
  if held < 65536 then
    (({ s with evr := { s.evr with store := putSlot held r s.evr.store } }).setSf .EVR_STAT F.EVR_STAT_HELD (held + 1), true)
  else
    match victim r.sev s.evr.store with
    | some (i, _) =>
      (({ s with evr := { s.evr with store := putSlot i r s.evr.store } }).bump .EVR_OVERWR F.word, true)
    | none => (s, false)

/-- A record is dropped: its severity's counter, and the event bit (R456, R462). -/
def State.dropRec (s : State) (sev : Nat) : State :=
  (s.bumpSat (.EVR_DROP sev) F.word).setSf .EVR_EVT F.EVR_EVT_DROP 1

/-- R456 as a whole: a record is admitted, or dropped. (DEDUCED, log 125) -/
def State.takeRec (s : State) (r : Rec) : State :=
  let a := s.admitRec r
  if a.2 then a.1 else a.1.dropRec r.sev
/-- An admitted record joins the page that M2 fills (R459), unless the log is stopped (R462). -/
def State.pageAdd (s : State) (r : Rec) : State :=
  if s.sf .EVR_STAT F.EVR_STAT_RAM_ONLY = 1 then s
  else { s with evr := { s.evr with
    page := s.evr.page ++ [r], pageAt := if s.evr.page = [] then s.tsu.raw else s.evr.pageAt } }

/-- An event reaches the recorder: SEQ, admission, the page, the capture trigger and the event rings (R453, R456, R459,
R462, R465, R51). `bad`: an event ring whose entry fails parity on the way, and the word (R248). -/
def State.arrive (s : State) (bad : Option (Nat × Nat)) (e : Ev) : State :=
  let seq := s.sf .EVR_FENCE F.word
  let r : Rec := { seq := seq, rtc := s.newt.tick, gen := s.evr.gen % 4096, sev := e.sev, src := e.src, code := e.code
                   args := argBytes e.code e.args }
  let s1 := (s.setSw .EVR_FENCE ((seq + 1) % 2 ^ 32)).setEvrNext ((seq + 1) % 2 ^ 32)
  let s2 :=
    if s.sf .EVR_STAT F.EVR_STAT_RAM_ONLY = 1 ∧ e.sev < 3 then s1.dropRec e.sev
    else
      let a := s1.admitRec r
      if a.2 then a.1.pageAdd r else a.1.dropRec e.sev
  let s3 :=
    if s2.sf .EVR_STAT F.EVR_STAT_CAPTURING = 1 ∧ s2.cf .EVR_CFG F.EVR_CFG_TRIG_SEV ≤ e.sev ∧ s2.evr.trigAt = none then
      { s2 with evr := { s2.evr with trigAt := some (s2.tsu.raw + secT) } }
    else s2
  (List.range 8).foldl (fun t n =>
    match bad with
    | some (k, off) => if k = n then t.eqPoison r n off else t.eqCopy r n
    | none => t.eqCopy r n) s3

/-- The next event on its way reaches the recorder. -/
def State.arriveNext (s : State) (bad : Option (Nat × Nat)) : State :=
  match nextEv s.evq with
  | none => s
  | some (e, rest) => ({ s with evq := rest }).arrive bad e
/-- EVENT_ARRIVAL: the next event on its way reaches the recorder, which runs once the store is rebuilt (R460). `bad`: the event
ring whose entry fails parity, and the word. -/
def execEventArrival (bad : Option (Nat × Nat)) (s : State) : Host.Outcome State Fault Refusal :=
  quiet (fun s => if s.clk.phase = .run then s.arriveNext bad else s) s

/-! ## The log in NAND (R459 to R462) -/

/-- The newest record of a page. -/
def pageNewest (p : List Rec) : Nat := (p.getLast?.map (fun r => r.seq)).getD 0

/-- The block that the next page goes to: blocks of the log are 0 to 511, and the spares from 512 on in the order in which they
are taken. (DESIGN CHOICE, log 184) -/
def State.logBlock (s : State) : Nat :=
  let b := s.nvlog.place / 32
  if Tbl.get 0 s.nvlog.moved b = 0 then b else Tbl.get 0 s.nvlog.moved b
/-- Write the page in hand to the log: a full log first erases its oldest block (R459). -/
def State.writePage (s : State) : State :=
  if s.evr.page = [] then s
  else
    let p := s.evr.page.take 128
    let pages := if s.nvlog.pages.length < 512 * 32 then s.nvlog.pages else s.nvlog.pages.drop 32
    let t := { s with
      nvlog := { s.nvlog with pages := pages ++ [p], place := (s.nvlog.place + 1) % (512 * 32) }
      evr := { s.evr with page := s.evr.page.drop 128, pageAt := s.tsu.raw } }
    t.setSw .EVR_PSEQ (pageNewest p)

/-- EVR_PAGE_PERSIST: the page in hand is full, or PERSIST ms old; a block that fails is retired to a spare (R461), or with
no spare left the log stops and the page is lost (R462, R468). -/
def execEvrPagePersist (programOk : Bool) (s : State) : Host.Outcome State Fault Refusal :=
  quiet (fun s =>
    if s.evr.page = [] ∨ s.sf .EVR_STAT F.EVR_STAT_RAM_ONLY = 1 then s
    else
      let t := if 128 ≤ s.evr.page.length then s
        else s.elapseTo (s.evr.pageAt + s.cf .EVR_CFG F.EVR_CFG_PERSIST * msT)
      let block := t.logBlock
      if programOk then t.writePage
      else if t.nvlog.spares = 0 then
        let u := (t.setSf .EVR_STAT F.EVR_STAT_RAM_ONLY 1).event 23 1 0x0F03 4 [block]
        { u with evr := { u.evr with page := [] }, nvlog := { u.nvlog with sparesOut := true } }
      else
        let u := { t with nvlog := { t.nvlog with
          spares := t.nvlog.spares - 1, retired := t.nvlog.retired + 1
          moved := Tbl.put 0 t.nvlog.moved (t.nvlog.place / 32) (512 + t.nvlog.retired) } }
        let u := (u.setSf .EVR_NAND F.EVR_NAND_SPARES u.nvlog.spares).setSf .EVR_NAND F.EVR_NAND_RETIRED u.nvlog.retired
        ((u.setSf .EVR_EVT F.EVR_EVT_NAND 1).event 23 1 0x0F02 2 [block, u.nvlog.spares]).writePage) s

/-! ## Calendar anchors (R454) -/

/-- The calendar's octets, year first. -/
def Cal.bytes (c : Cal) : List Byte := le 1 c.year ++ le 1 c.month ++ le 1 c.day ++ le 1 c.hour ++ le 1 c.min ++ le 1 c.sec
/-- The octets of an anchor entry. -/
def Anchor.bytes (a : Anchor) : List Byte := le 4 a.firstSeq ++ le 6 a.rtc ++ a.cal

/-- The recorder writes a new anchor: its generation lives in entry g mod 4,096, in LPDDR4X and in NAND (R454). -/
def State.newAnchor (s : State) : State :=
  let g := s.nvlog.nextGen
  let a : Anchor := { firstSeq := s.sf .EVR_FENCE F.word, rtc := s.newt.tick - s.newt.tick % 32768, cal := s.newt.cal.bytes }
  { s with
    nvlog := { s.nvlog with
      anchors := (s.nvlog.anchors.filter (fun p => p.1 != g % 4096)) ++ [(g % 4096, a)], nextGen := g + 1 }
    evr := { s.evr with gen := g } }

/-! ## EVR_READ (R457) -/

/-- The held records whose SEQ lies in a part of a range, in SEQ order. -/
def State.bySeq (s : State) (first lo hi : Nat) : List Rec :=
  let k (r : Rec) : Nat := (r.seq + 2 ^ 32 - first) % 2 ^ 32
  isort k ((s.evr.store.map (fun p => p.2)).filter (fun r => decide (lo ≤ k r ∧ k r < hi)))
/-- The held records in a part of the slots, in slot order. -/
def State.bySlot (s : State) (lo hi : Nat) : List Rec :=
  (s.evr.store.filter (fun p => decide (lo ≤ p.1 ∧ p.1 < hi))).map (fun p => p.2)
/-- The copy of an EVR_READ from place `lo` to `hi`, with room for so many records, while events arrive: each where the copy
has reached the place that `during` gives (R457, R458, R468). -/
def State.copyStore (part : State → Nat → Nat → List Rec) (s : State) (lo hi room : Nat) : List Nat → State × List Rec
  | [] => (s, part s lo hi)
  | k :: ks =>
    let m := max lo (min k hi)
    let rs := part s lo m
    if room < rs.length then (s, rs)
    else
      let r := State.copyStore part (s.arriveNext none) m hi (room - rs.length) ks
      (r.1, rs ++ r.2)
/-- EVR_READ in modes 0 and 1: the copy, with the fence F1 when it began and F2 when it ended in RESULT (R457). (DEDUCED, log 128) -/
def State.readStore (s : State) (d : Desc) (part : State → Nat → Nat → List Rec) (hi : Nat) (during : List Nat) : State :=
  let r := State.copyStore part s 0 hi (d.len / 32) during
  r.1.okItems d 32 (r.2.map Rec.bytes) (fun _ => s.sf .EVR_FENCE F.word + 2 ^ 32 * r.1.sf .EVR_FENCE F.word)

/-- EVR_READ BY_SEQ; a mode that R457 does not list completes here with ERR_ARG. (DESIGN CHOICE, log 11; DEDUCED, log 128) -/
def execEvrReadBySeq (did : Nat) (during : List Nat) (s : State) : Host.Outcome State Fault Refusal :=
  quiet (fun s => s.operation did 0x80 (fun d => d.pByte 0 != 1 && d.pByte 0 != 2) (fun s d =>
    let count := d.pNum 8 4
    if d.pByte 0 ≠ 0 ∨ d.len = 0 ∨ count = 0 ∨ 65536 < count then s.fail d stERR_ARG
    else s.readStore d (fun s => s.bySeq (d.pNum 4 4)) count during)) s

/-- EVR_READ ALL. (DEDUCED, log 128) -/
def execEvrReadAll (did : Nat) (during : List Nat) (s : State) : Host.Outcome State Fault Refusal :=
  quiet (fun s => s.operation did 0x80 (fun d => d.pByte 0 == 1) (fun s d =>
    if d.len = 0 then s.fail d stERR_ARG
    else s.readStore d State.bySlot 65536 during)) s

/-- An anchor entry by its place; an entry never written holds zeros (LPDDR4X at start, DESIGN CHOICE). (DESIGN CHOICE, log 129) -/
def State.anchorAt (s : State) (g : Nat) : List Byte :=
  match s.nvlog.anchors.find? (fun p => p.1 == g % 4096) with
  | some p => p.2.bytes
  | none => zeros 16

/-- EVR_READ ANCHORS. -/
def execEvrReadAnchors (did : Nat) (s : State) : Host.Outcome State Fault Refusal :=
  quiet (fun s => s.operation did 0x80 (fun d => d.pByte 0 == 2) (fun s d =>
    let count := d.pNum 8 4
    if d.len = 0 ∨ count = 0 ∨ 4096 < count then s.fail d stERR_ARG
    else s.okItems d 16 ((List.range count).map (fun i => s.anchorAt (d.pNum 4 4 + i))) (fun n => n))) s

/-! ## The journal gate and the capture (R463 to R467) -/

/-- A payload padded with zeros to a multiple of 8 octets. -/
def pad8 (b : List Byte) : List Byte := b ++ zeros ((8 - b.length % 8) % 8)
/-- An entry of the capture ring (R464). -/
def capEntry (gseq core kind point source : Nat) (payload : List Byte) : List Byte :=
  le 4 gseq ++ le 1 (core % 4) ++ le 1 kind ++ le 2 payload.length ++ le 4 point ++ le 4 source ++ pad8 payload
/-- Octets of the capture ring. -/
def capSize : Nat := 268435456

/-- The capture stops with a cause: the final DIGEST entry is written, and the stop is recorded (R465). The digest is of
commands that this model does not list, so its octets are free. (DESIGN CHOICE, log 130) -/
def State.stopCapture (s : State) (cause : Nat) : State :=
  if s.sf .EVR_STAT F.EVR_STAT_CAPTURING = 0 then s
  else
    let (dig, s0) := s.freshBytes 32
    let e := capEntry s0.evr.gseq 0 0x0D 0 0 dig
    let used := s0.sf .EVR_CAPLEN F.word + e.length
    let s1 := { s0 with evr := { s0.evr with
      cap := e :: s0.evr.cap, gseq := s0.evr.gseq + 1, capStopped := true, trigAt := none } }
    let s2 := ((s1.setSw .EVR_CAPLEN used).setSf .EVR_STAT F.EVR_STAT_CAPTURING 0).setSf .EVR_STAT F.EVR_STAT_STOP cause
    (s2.setSf .EVR_EVT F.EVR_EVT_CAPSTOP 1).event 19 0 0x0F05 1 [cause, used, s0.evr.gseq]

/-- The gate writes an entry to the capture ring; where it would leave no room for
the final DIGEST entry, the capture stops with FULL (R464, R465). (DESIGN CHOICE, log 130) -/
def State.gateWrite (s : State) (core kind source : Nat) (payload : List Byte) : State :=
  let e := capEntry s.evr.gseq core kind (Tbl.get 0 s.evr.points core) source payload
  let used := s.sf .EVR_CAPLEN F.word
  if capSize < used + e.length + 48 then s.stopCapture 1
  else
    ({ s with evr := { s.evr with
        cap := e :: s.evr.cap, gseq := s.evr.gseq + 1, sinceDigest := s.evr.sinceDigest + 1 } }).setSw .EVR_CAPLEN
      (used + e.length)

/-- A DIGEST entry after every 65,536 other entries (R463). (DESIGN CHOICE, log 130) -/
def State.gateDigest (s : State) : State :=
  if s.sf .EVR_STAT F.EVR_STAT_CAPTURING = 1 ∧ 65536 ≤ s.evr.sinceDigest then
    let (dig, t) := s.freshBytes 32
    let u := t.gateWrite 0 0x0D 0 dig
    { u with evr := { u.evr with sinceDigest := 0 } }
  else s

/-- The replay takes the next entry of the export (R467): a DIGEST entry is compared, and a mismatch stops the replay; the
last entry ends it. (DESIGN CHOICE, log 130) -/
def State.replayStep (s : State) (digestOk : Bool) : State :=
  match s.evr.replay with
  | none => s
  | some [] => s
  | some (e :: rest) =>
    let kind := leAt e 5 1
    let n := s.evr.replayed + 1
    if kind = 0x0D ∧ digestOk = false then
      ({ s with evr := { s.evr with replay := none } }).event 19 0 0x0F06 3 [leAt e 0 4]
    else if rest = [] then
      ({ s with evr := { s.evr with replay := none, replayed := n } }).event 19 0 0x0F07 1 [n]
    else { s with evr := { s.evr with replay := some rest, replayed := n } }

/-- A core has read the gate once more. -/
def State.countRead (s : State) (c : Nat) : State :=
  { s with evr := { s.evr with points := Tbl.put 0 s.evr.points c (Tbl.get 0 s.evr.points c + 1) } }
/-- JOURNAL_GATE_INPUT: a core reads an input through the gate (R463); in a replay the core is the next entry's (R467). -/
def execJournalGateInput (input : GateInput) (s : State) : Host.Outcome State Fault Refusal :=
  quiet (fun s =>
    let c := input.core % 4
    if s.replaying then
      (match s.evr.replay with
       | some (e :: _) => (s.countRead (leAt e 4 1 % 4)).replayStep input.digestOk
       | _ => s)
    else
      let s := s.countRead c
      if s.sf .EVR_STAT F.EVR_STAT_CAPTURING = 1 then
        (s.gateWrite c (input.kind % 256) (input.source % 2 ^ 32) (input.payload.take 2048)).gateDigest
      else s) s

/-- CAPTURE_TRIGGER_STOP: one second has passed since a record at TRIG_SEV (R465). -/
def execCaptureTriggerStop (s : State) : Host.Outcome State Fault Refusal :=
  quiet (fun s =>
    match s.evr.trigAt with
    | none => s
    | some t => (s.elapseTo t).stopCapture 3) s

/-- The state of the capture as STATUS reports it: 0 none, 1 running, 2 stopped. -/
def State.capState (s : State) : Nat :=
  if s.sf .EVR_STAT F.EVR_STAT_CAPTURING = 1 then 1 else if s.evr.capStopped then 2 else 0

/-- Octets of the capture that is held. -/
def State.capUsed (s : State) : Nat := (s.evr.cap.map List.length).sum
/-- The capture that is held goes (R465, R466). -/
def State.dropCapture (s : State) : State :=
  ({ s with evr := { s.evr with cap := [], capStopped := false } }).setSw .EVR_CAPLEN 0
/-- CAPTURE_CTL STATUS: 32 octets whose field places R466 does not state; an action that R466 does not list completes here
with ERR_ARG. (DESIGN CHOICE, log 11, 28) -/
def execCaptureCtlStatus (did : Nat) (s : State) : Host.Outcome State Fault Refusal :=
  quiet (fun s => s.operation did 0x81 (fun d => d.pByte 0 == 0 || decide (6 < d.pByte 0)) (fun s d =>
    if d.pByte 0 ≠ 0 ∨ d.len = 0 then s.fail d stERR_ARG
    else
      let vals := [s.capState, s.capUsed, s.evr.cap.length, (s.evr.cap.head?.map (fun e => leAt e 0 4)).getD 0
                   , s.sf .EVR_STAT F.EVR_STAT_STOP, b2n s.nvlog.exportData.isSome]
      s.okData d (fitBytes 32 (Config.layout 0x81 vals)) 0)) s

/-- CAPTURE_CTL ARM (R465, R466): BUSY while capture runs; a stopped capture goes. -/
def execCaptureCtlArm (did : Nat) (s : State) : Host.Outcome State Fault Refusal :=
  quiet (fun s => s.operation did 0x81 (fun d => d.pByte 0 == 1) (fun s d =>
    if s.capState = 1 then s.fail d stBUSY
    else
      let t := s.dropCapture
      ((t.setAnchorFlag 1 true).setSf .EVR_STAT F.EVR_STAT_ARMED 1).ok d)) s

/-- CAPTURE_CTL DISARM. -/
def execCaptureCtlDisarm (did : Nat) (s : State) : Host.Outcome State Fault Refusal :=
  quiet (fun s => s.operation did 0x81 (fun d => d.pByte 0 == 2) (fun s d =>
    ((s.setAnchorFlag 1 false).setSf .EVR_STAT F.EVR_STAT_ARMED 0).ok d)) s

/-- CAPTURE_CTL STOP. -/
def execCaptureCtlStop (did : Nat) (s : State) : Host.Outcome State Fault Refusal :=
  quiet (fun s => s.operation did 0x81 (fun d => d.pByte 0 == 3) (fun s d => (s.stopCapture 2).ok d)) s

/-- CAPTURE_CTL EXPORT: the stopped capture goes to the export region behind a header signed by IK over its SHA-256 (R466), for
which the shed must run (R22). The manual states no layout of that header, so its octets come from Config.layout; the
signature is a free value. (DESIGN CHOICE, log 28) -/
def execCaptureCtlExport (did : Nat) (s : State) : Host.Outcome State Fault Refusal :=
  quiet (fun s => s.operation did 0x81 (fun d => d.pByte 0 == 4) (fun s d =>
    if s.evr.capStopped = false then s.fail d stERR_ARG 0x01
    else if s.shed.down then s.fail d stERR_ABSENT
    else
      let entries := s.evr.cap.reverse
      let body := entries.flatten
      let sig := s.freshBytes 64
      let header := Config.layout 0x8104 [(Config.devId).toNat, (Config.sha256 body).toNat, leAt sig.1 0 64]
      let t := sig.2.dropCapture
      let t := { t with nvlog := { t.nvlog with exportData := some (header ++ body), exportEntries := entries } }
      t.ok d)) s

/-- CAPTURE_CTL READ: export octets from an offset; RESULT holds the octets written. -/
def execCaptureCtlRead (did : Nat) (s : State) : Host.Outcome State Fault Refusal :=
  quiet (fun s => s.operation did 0x81 (fun d => d.pByte 0 == 5) (fun s d =>
    if d.len = 0 then s.fail d stERR_ARG
    else
      let data := ((s.nvlog.exportData.getD []).drop (d.pNum 4 4)).take d.len
      s.okData d data data.length)) s

/-- CAPTURE_CTL REPLAY_ARM: an export is copied from host memory, checked, and the replay flag set for the next start
(R466). -/
def execCaptureCtlReplayArm (did : Nat) (read : HostRead) (check : ExportCheck) (s : State) :
    Host.Outcome State Fault Refusal :=
  quiet (fun s => s.operation did 0x81 (fun d => d.pByte 0 == 6 && s.hostUp) (fun s d =>
    if d.pNum 16 8 % 8 ≠ 0 then s.fail d stERR_ARG
    else
      match read with
      | .failed => s.hostMemFail.fail d stPOISON
      | .ok b =>
        let body := fitBytes (d.pNum 12 4) b
        let t := { s with nvlog := { s.nvlog with exportData := some body, exportEntries := check.entries } }
        if check.sigOk ∧ check.measOk then (t.setAnchorFlag 2 true).ok d else t.fail d stERR_ARG 0x02)) s

end Sys2Proof.Machine
end

