-- ==== Sys2Proof/Machine/Rollover.lean ====
section
/-! DEFINITION. Sys2Proof/Machine/Rollover.lean: the epoch rollover and its journal (R199 to R205). -/
namespace Sys2Proof.Machine

/-- Stalls of the module with an index and an entry. -/
def State.liveStalls (s : State) : List Nat := (s.seg.stalls.filter (fun q => q.2.live)).map (fun q => q.1)
/-- Stalls outside UNBOUND and RETIRED that have not completed the open rollover (R199). -/
def State.rollPending (s : State) : List Nat := s.liveStalls.filter (fun i => !(s.stall i).rolled)
/-- Stalls with ROLLED = 1 (R199). -/
def State.rollDone (s : State) : Nat := (s.seg.stalls.filter (fun q => q.2.rolled)).length
/-- The progress record (R199). -/
def State.rollRecord (s : State) : List Byte :=
  le 2 (if s.roll.phase = 0 then s.tack.epoch else s.roll.epoch) ++ le 1 s.roll.phase ++ le 1 s.roll.pass
    ++ le 4 s.rollDone ++ le 4 s.rollPending.length ++ le 4 s.seg.inflight.length ++ le 6 s.roll.start ++ zeros 2
    ++ le 4 s.roll.stragglers ++ zeros 4
/-- An EPOCH_ROLL completes with its record, written for every action (R199). -/
def State.rollAnswer (s : State) (d : Desc) (status : Nat) : State :=
  s.finish d { status := status, result := s.rollDone, data := s.rollRecord }

/-! ## The journal (R204) -/

/-- The cursors: of each yard the lowest place whose stall is still to be done, 16,384 where none is. (DEDUCED, log 180) -/
def State.rollCursors (s : State) : Tbl Nat :=
  (List.range 16).map (fun y => (y, ((s.rollPending.filter (fun i => yardOf i == y)).map placeOf).foldl min 16384))
/-- A write of the journal: the copies that it replaces become the older ones. -/
def State.journal (s : State) (f : Roll → Roll) : State :=
  { s with rollOld := s.roll, roll := { f s.roll with seq := s.roll.seq + 1, cursors := s.rollCursors } }
/-- A power cut tears the last write, and the older copy stands (R204). -/
def State.tearJournal (s : State) (tear : JournalTear) : State :=
  match tear with
  | .none => s
  | .header => { s with roll := { s.rollOld with done := s.roll.done } }
  | .chunk => { s with roll := s.rollOld }

/-! ## Keying (R201) -/

/-- Keying of one stall starts: its new key, persisted, and its KEY STALL item (R201 steps 1 and 2). A stall that holds the new
key already goes on at step 3. The rollover's parameters as last set take effect (R207). (DEDUCED, log 155) -/
def State.rollStall (s : State) (i : Nat) : State :=
  let s := s.takeForce [0x0520, 0x0521, 0x0522]
  let s : State := { s with seg := { s.seg with inflight := s.seg.inflight ++ [i], tried := s.seg.tried ++ [i] } }
  if (s.stall i).nextHeld then s.queueKeys i
  else
    let h := s.freshHandle
    let s1 := h.2.modStall i (fun x => { x with keyNext := h.1 })
    let s2 := { s1 with nvseg := { s1.nvseg with stalls := Tbl.put Stall.none s1.nvseg.stalls i (s1.stall i) } }
    s2.addKey i (.keyStall s2.nextEpoch8)
/-- Each yard goes on with its stalls, ROLL_INFLIGHT at once (R201). -/
def State.rollYard (s : State) (y : Nat) : State :=
  let todo := s.rollPending.filter (fun i => yardOf i == y && (s.stall i).state != sJOINING && !s.seg.inflight.contains i
    && !s.seg.tried.contains i)
  todo.foldl (fun t i =>
    if (t.seg.inflight.filter (fun k => yardOf k == y)).length < t.inForce 0x0520 then t.rollStall i else t) s
/-- Every yard's share of a roll call's joins. (DEDUCED, log 51) -/
def State.rollFill (s : State) : State := (List.range 16).foldl State.rollYard s

/-! ## The close (R203) -/

/-- A stall at the close: still pending, it becomes UNBOUND; else the new key is its key, and every old one is destroyed. -/
def State.closeStall (s : State) (i e : Nat) : State :=
  let x := s.stall i
  if x.rolled = false then s.unbind i
  else
    let t := if x.keyNext ≠ 0 then
        (s.evict x.key).modStall i (fun x => { x with key := x.keyNext, keyNext := 0, nextHeld := false, epoch := e })
      else s
    if x.oldEp = e then t else (t.evict x.oldKey).modStall i (fun x => { x with oldKey := 0 })
/-- The close is carried out (R203 steps 1 to 4): the new paddock keys become current, their counters restart once, and the
tables are persisted. (DEDUCED, log 51) -/
def State.rollFinish (s : State) : State :=
  let e := s.roll.epoch % 256
  let restarted := s.roll.restarted
  let s1 := (s.seg.pads.filter (fun q => q.2.rolling)).foldl (fun t q =>
    (t.evict q.2.key).modPad q.1 (fun x => { x with
      key := x.keyNext, keyNext := 0, rolling := false, epoch := e, fc := if restarted then x.fc else 0 })) s
  let s2 : State := { s1.journal (fun r => { r with restarted := true }) with
    tack := { s1.tack with epoch := s1.roll.epoch, epochNext := none } }
  let late := s2.rollPending
  let done := s2.rollDone
  let s3 := s2.liveStalls.foldl (fun t i => t.closeStall i e) s2
  let keep (it : Item) : Bool := match it.kind with
    | .keyPad _ k => k == e
    | .keyStall _ => (s3.stall it.stall).renew != 0
    | _ => true
  let s4 : State := { s3 with seg := { s3.seg with
    items := s3.seg.items.filter keep, inflight := [], tried := []
    jobs := s3.seg.jobs.map (fun j => { j with fc := none }) } }
  ((s4.event 11 0 0x0507 1 [s4.roll.epoch, done, late.length]).journal (fun r => { r with
    phase := 0, stragglers := late.length, restarted := false })).persistTables
/-- A yard is on the way to a superframe boundary. -/
def State.boundaryAhead (s : State) : Bool := s.serving && s.air.seqs.any (fun q => q.2.started && s.yardLive q.1)
/-- The close begins (R203): PHASE = CLOSING; it is carried out at the next superframe boundary, or at once where no yard runs. (DEDUCED, log 51) -/
def State.rollClose (s : State) : State :=
  let t := s.journal (fun r => { r with phase := 2 })
  if t.boundaryAhead then t else t.rollFinish
/-- A superframe boundary has come: a close that has begun is carried out. -/
def State.rollBoundary (s : State) : State := if s.roll.phase = 2 then s.rollFinish else s

/-- A close that no superframe boundary is to come for is carried out. -/
def State.rollIdle (s : State) : State := if s.boundaryAhead then s else s.rollBoundary

/-- A pass that has tried every stall ends: the close, or the next pass (R201, R203). (DEDUCED, log 51) -/
def State.rollPass (s : State) : State :=
  if s.roll.phase ≠ 1 ∨ s.seg.inflight ≠ [] then s
  else if s.rollPending = [] then s.rollClose
  else if s.rollPending.any (fun i => (s.stall i).state != sJOINING && !s.seg.tried.contains i) then s
  else if s.roll.pass < s.inForce 0x0521 then
    let t := s.journal (fun r => { r with pass := r.pass + 1 })
    ({ t with seg := { t.seg with tried := [] } }).rollFill
  else s
/-- What follows when stalls finish, give up or leave in a pass. -/
def State.rollOn (s : State) : State := if s.roll.phase = 1 then s.rollFill.rollPass else s
/-- A stall is no longer under way in the rollover. -/
def State.rollLeave (s : State) (i : Nat) : State :=
  ({ s with seg := { s.seg with inflight := s.seg.inflight.filter (fun k => k != i) } }).rollOn

/-- A rollover opens (R200); its keys are persisted. -/
def State.rollOpen (s : State) : State :=
  let e := (s.tack.epoch + 1) % 65536
  let s0 : State := { s with
    tack := { s.tack with epochNext := some e }
    seg := { s.seg with
      stalls := s.seg.stalls.map (fun q => (q.1, { q.2 with rolled := false, nextHeld := false })), inflight := [], tried := [] } }
  let s1 := s0.journal (fun r => { r with epoch := e, phase := 1, pass := 1, start := s.newt.tick, done := [], restarted := false })
  let pads := (List.range 4096).filter s1.padValid
  let s2 := pads.foldl (fun t p =>
    let h := t.freshHandle
    h.2.modPad p (fun x => { x with keyNext := h.1, rolling := true })) s1
  (s2.persistTables.event 11 0 0x0505 1 [e]).rollOn

/-! ## EPOCH_ROLL (R199) -/

/-- The operands of EPOCH_ROLL. -/
def rollArgsOk (d : Desc) : Bool := d.target == 0 && d.pZero 1 32 && decide (d.len ≠ 0)
/-- EPOCH_ROLL with QUERY; an action that R199 does not list completes here with ERR_ARG. -/
def execEpochRollQuery (did : Nat) (s : State) : Host.Outcome State Fault Refusal :=
  quiet (fun s => s.operation did 0x19 (fun d => d.pByte 0 == 0 || decide (2 < d.pByte 0)) (fun s d =>
    if rollArgsOk d = false ∨ d.pByte 0 ≠ 0 then s.fail d stERR_ARG else s.rollAnswer d stOK)) s
/-- EPOCH_ROLL with START. (DEDUCED, log 56) -/
def execEpochRollStart (did : Nat) (s : State) : Host.Outcome State Fault Refusal :=
  quiet (fun s => s.operation did 0x19 (fun d => d.pByte 0 == 1) (fun s d =>
    if rollArgsOk d = false then s.fail d stERR_ARG
    else if s.roll.phase ≠ 0 then s.rollAnswer d stBUSY
    else if s.shed.down then s.rollAnswer d stERR_ABSENT
    else if s.keyed = false then s.rollAnswer d stDENIED
    else s.rollOpen.rollAnswer d stOK)) s
/-- EPOCH_ROLL with CLOSE. With no rollover open, or its close under way, there is nothing to close, and the record says so. -/
def execEpochRollClose (did : Nat) (s : State) : Host.Outcome State Fault Refusal :=
  quiet (fun s => s.operation did 0x19 (fun d => d.pByte 0 == 2) (fun s d =>
    if rollArgsOk d = false then s.fail d stERR_ARG
    else if s.roll.phase ≠ 1 then s.rollAnswer d stOK
    else s.rollClose.rollAnswer d stOK)) s

/-- ROLL_CLOSE_AFTER_EXPIRY (R203). -/
def execRollCloseAfterExpiry (s : State) : Host.Outcome State Fault Refusal :=
  quiet (fun s =>
    if s.roll.phase = 1 ∧ s.serving = true then
      (s.elapseRtc (s.roll.start + s.inForce 0x0522 * 3600 * 32768)).rollClose
    else s) s

end Sys2Proof.Machine
end

