-- ==== Sys2Proof/Machine/Stalls.lean ====
section
/-! DEFINITION. Sys2Proof/Machine/Stalls.lean: the stall, paddock, admission, schedule and message opcodes (R163, R164,
R169 to R181). -/
namespace Sys2Proof.Machine

/-! ## Stall commands -/

/-- STALL_READ (R170, R180). (DEDUCED, log 55) -/
def execStallRead (did : Nat) (s : State) : Host.Outcome State Fault Refusal :=
  quiet (fun s => s.operation did 0x10 (fun _ => true) (fun s d =>
    let count := d.pNum 0 4
    let mask := d.pByte 4
    if d.len = 0 ∨ nStalls ≤ d.target ∨ count = 0 ∨ 131072 < count ∨ 128 ≤ mask ∨ d.pZero 5 32 = false then s.fail d stERR_ARG
    else
      let last := min (d.target + count) nStalls
      let hits := ((List.range (last - d.target)).map (fun k => d.target + k)).filter (fun i =>
        mask == 0 || bit mask (s.stall i).state)
      let n := min hits.length (d.len / 128)
      let after := match hits[n]? with
        | some i => i
        | none => last
      s.finish d { status := stOK, result := n + 2 ^ 32 * after, data := ((hits.take n).map s.stallBytes).flatten
                   trunc := decide (n < hits.length) })) s

/-- The eight slots of a PADDOCKS image (R169). -/
def padSlots (b : List Byte) : List (Option Nat) :=
  (List.range 8).map (fun k => if bit (leAt b (52 + 2 * k) 2) 15 then some (leAt b (52 + 2 * k) 2 % 4096) else none)
/-- A list names nothing twice. -/
def noTwice (l : List Nat) : Bool := l.eraseDups.length == l.length
/-- A PADDOCKS image that R180 allows. -/
def State.padsOk (s : State) (b : List Byte) : Bool :=
  let l := (padSlots b).filterMap id
  noTwice l && !l.contains 0 && l.all s.padValid && (List.range 8).all (fun k => bits (leAt b (52 + 2 * k) 2) 14 12 == 0)
/-- A SCHED_ID names a stored schedule, or none (R181). -/
def State.schedOk (s : State) (id : Nat) : Bool := id == 0xFFFF || (s.schedule id).isSome

/-- STALL_WRITE (R180, R181, R177). -/
def execStallWrite (did : Nat) (read : HostRead) (s : State) : Host.Outcome State Fault Refusal :=
  quiet (fun s => s.operationIn did 0x11 read (fun _ => true) (fun s d =>
    let i := d.target
    let sel := d.pByte 0
    let x := s.stall i
    let newSched := leAt d.buf 68 2
    if d.len ≠ 128 ∨ nStalls ≤ i ∨ 8 ≤ sel ∨ d.pZero 1 32 = false then s.fail d stERR_ARG
    else if x.free = true ∨ x.state = sRETIRED then s.fail d stERR_ARG 1
    else if bit sel 0 = true ∧ s.padsOk d.buf = false then s.fail d stERR_ARG 2
    else if bit sel 1 = true ∧ s.schedOk newSched = false then s.fail d stERR_ARG
    else
      let y := { x with
        pads := if bit sel 0 then padSlots d.buf else x.pads
        sched := if bit sel 1 then newSched else x.sched
        user := if bit sel 2 then leAt d.buf 120 8 else x.user }
      let s1 := s.setStall i y
      let s2 := if bit sel 0 then s1.queueKeys i else s1
      let s3 := match s2.schedule newSched with
        | some body => if bit sel 1 = true ∧ i ∈ s2.schedStalls newSched then s2.distribute none body [] [i] else s2
        | none => s2
      s3.ok d)) s

/-! ## Admission (R171) -/

/-- The admission entry of an EUI. -/
def State.admitOf (s : State) (eui : Nat) : Option Admit := s.seg.admits.find? (fun a => a.eui == eui)
/-- The admission list without an EUI. -/
def State.unadmit (s : State) (eui : Nat) : State :=
  { s with seg := { s.seg with admits := s.seg.admits.filter (fun a => a.eui != eui) } }
/-- A STALL_ADMIT of one action, its operands checked. -/
def State.admitOp (s : State) (did : Nat) (mine : Nat → Bool) (body : State → Desc → Nat → State) : State :=
  s.operation did 0x12 (fun d => mine (d.pByte 8)) (fun s d =>
    let eui := d.pNum 0 8
    if 65536 ≤ d.target ∨ 2 < d.pByte 8 ∨ d.pZero 9 32 = false then s.fail d stERR_ARG
    else body s d eui)
/-- A new entry of the admission list replaces the old one of its EUI (R171). -/
def State.admitEntry (s : State) (d : Desc) (eui : Nat) (refuse : Bool) : State :=
  let old := s.admitOf eui
  if old = none ∧ 4096 ≤ s.seg.admits.length then s.fail d stBUSY
  else if s.seg.stalls.any (fun q => q.2.eui == eui && q.2.state != sUNBOUND) then s.fail d stERR_ARG 1
  else
    let a : Admit := { eui := eui, refuse := refuse, mask := if d.target = 0 then 0xFFFF else d.target, tick := s.newt.tick
                       joinFc := (old.map (fun a => a.joinFc)).getD 0 }
    let t := s.unadmit eui
    ({ t with seg := { t.seg with admits := t.seg.admits ++ [a] } }).ok d
/-- STALL_ADMIT with ADMIT; an action that R171 does not list completes here with ERR_ARG. -/
def execStallAdmit (did : Nat) (s : State) : Host.Outcome State Fault Refusal :=
  quiet (fun s => s.admitOp did (fun a => a == 0 || decide (2 < a)) (fun s d eui => s.admitEntry d eui false)) s
/-- STALL_ADMIT with REFUSE. -/
def execStallRefuse (did : Nat) (s : State) : Host.Outcome State Fault Refusal :=
  quiet (fun s => s.admitOp did (fun a => a == 1) (fun s d eui => s.admitEntry d eui true)) s
/-- STALL_ADMIT with REVOKE: the checks of R171 in its order. -/
def execStallRevoke (did : Nat) (s : State) : Host.Outcome State Fault Refusal :=
  quiet (fun s => s.admitOp did (fun a => a == 2) (fun s d eui =>
    if s.seg.stalls.any (fun q => q.2.eui == eui && q.2.state != sUNBOUND) then s.fail d stERR_ARG 1
    else if (s.admitOf eui).isNone then s.fail d stERR_ARG 2
    else (s.unadmit eui).ok d)) s
/-- REFUSE_LAPSE: a REFUSE entry lapses 86,400 s after it was written (R171). -/
def execRefuseLapse (eui : Nat) (s : State) : Host.Outcome State Fault Refusal :=
  quiet (fun s =>
    match s.admitOf eui with
    | some a => if a.refuse then (s.elapseRtc (a.tick + 86400 * 32768)).unadmit eui else s
    | none => s) s

/-! ## Retiring (R174) -/

/-- A stall's keys are destroyed, and every frame and item for it ends; an open rollover goes on without it (R155, R174, R201). (DEDUCED, log 152) -/
def State.retireStall (s : State) (i : Nat) : State :=
  let x := s.stall i
  let s1 := ((((s.evict x.key).evict x.keyNext).evict x.oldKey).evict x.renew).endItems i stABORTED 2
  let s2 := s1.modStall i (fun x =>
    { x with state := sRETIRED, key := 0, keyNext := 0, oldKey := 0, renew := 0, nextHeld := false })
  let s3 : State := { s2 with
    air := { s2.air with answers := s2.air.answers.filter (fun a => a.stall != i) } }
  (s3.campLeave i).rollLeave i
/-- The operands of STALL_RETIRE. -/
def retireArgsOk (d : Desc) : Bool := decide (d.target < nStalls) && decide (d.pByte 0 < 2) && d.pZero 1 32
/-- STALL_RETIRE with FREE = 0. -/
def execStallRetire (did : Nat) (s : State) : Host.Outcome State Fault Refusal :=
  quiet (fun s => s.operation did 0x13 (fun d => !bit (d.pByte 0) 0) (fun s d =>
    if retireArgsOk d = false ∨ (s.stall d.target).live = false then s.fail d stERR_ARG
    else (s.retireStall d.target).ok d)) s
/-- STALL_RETIRE with FREE = 1: every field but INDEX is cleared (R16, R174). -/
def execStallFree (did : Nat) (s : State) : Host.Outcome State Fault Refusal :=
  quiet (fun s => s.operation did 0x13 (fun d => bit (d.pByte 0) 0) (fun s d =>
    if retireArgsOk d = false ∨ (s.stall d.target).state ≠ sRETIRED then s.fail d stERR_ARG
    else ((s.campNew d.target).setStall d.target Stall.none).ok d)) s

/-! ## Paddock commands (R175 to R180) -/

/-- PADDOCK_READ. -/
def execPaddockRead (did : Nat) (s : State) : Host.Outcome State Fault Refusal :=
  quiet (fun s => s.operation did 0x14 (fun _ => true) (fun s d =>
    let count := d.pNum 0 2
    if d.len = 0 ∨ 4096 ≤ d.target ∨ count = 0 ∨ 4096 < count ∨ d.pZero 2 32 = false then s.fail d stERR_ARG
    else
      let ids := (List.range (min count (4096 - d.target))).map (fun k => d.target + k)
      s.okItems d 64 (ids.map s.padBytes) (fun n => n))) s

/-- A PADDOCK_WRITE of one action, its operands checked. -/
def State.padOp (s : State) (did : Nat) (read : HostRead) (mine : Nat → Bool) (body : State → Desc → State) : State :=
  s.operationIn did 0x15 read (fun d => mine (d.pByte 0)) (fun s d =>
    if 4096 ≤ d.target ∨ 3 < d.pByte 0 ∨ d.pZero 1 32 = false then s.fail d stERR_ARG else body s d)

/-- PADDOCK_WRITE with CREATE; an action that R180 does not list completes here with ERR_ARG. A new key needs an owner and
WK (R389). (DEDUCED, log 56) -/
def execPaddockCreate (did : Nat) (read : HostRead) (s : State) : Host.Outcome State Fault Refusal :=
  quiet (fun s => s.padOp did read (fun a => a == 0 || decide (3 < a)) (fun s d =>
    let p := d.target
    let x := s.pad p
    let sched := leAt d.buf 10 2
    let fresh := !s.padValid p
    if d.len ≠ 64 ∨ s.schedOk sched = false then s.fail d stERR_ARG
    else if fresh = true ∧ s.shed.down = true then s.fail d stERR_ABSENT
    else if fresh = true ∧ s.keyed = false then s.fail d stDENIED
    else
      let y := { x with valid := decide (p ≠ 0), sched := sched, user := leAt d.buf 48 8 }
      let s1 := s.setPad p y
      let s2 := if fresh then
          let h := s1.freshHandle
          let g := h.2.freshHandle
          let roll := g.2.rolling
          g.2.modPad p (fun x => { x with
            key := h.1, epoch := g.2.epoch8, rolling := roll, keyNext := if roll then g.1 else 0 })
        else s1
      let s3 := match s2.schedule sched with
        | some b => s2.distribute none b [p] []
        | none => s2
      s3.ok d)) s

/-- The stall indices of an ADD or REMOVE list. -/
def stallList (b : List Byte) : List Nat := (List.range (b.length / 4)).map (fun k => leAt b (4 * k) 4)
/-- The list of ADD and REMOVE has a length that R180 allows. -/
def listOk (d : Desc) : Bool := d.len % 4 == 0 && decide (4 ≤ d.len) && decide (d.len ≤ 65536)
/-- One stall of an ADD list: the entry it leaves, or none where it fails. -/
def addPad (p : Nat) (x : Stall) : Option Stall :=
  if x.free = true ∨ x.state = sRETIRED then none
  else
    match x.pads.findIdx? (fun q => q.isNone) with
    | some k => some (if x.lists p then x else { x with pads := x.pads.set k (some p) })
    | none => none
/-- One stall of a REMOVE list. -/
def removePad (p : Nat) (x : Stall) : Option Stall :=
  if x.lists p then some { x with pads := x.pads.map (fun q => if q = some p then none else q) } else none
/-- Run a list over the stalls: the state and the stalls changed, or the place of the first item that fails. -/
def State.runList (s : State) (f : Stall → Option Stall) : Nat → Nat → List Nat → Except Nat (State × Nat)
  | _, n, [] => .ok (s, n)
  | k, n, i :: t =>
    if nStalls ≤ i then .error k
    else
      match f (s.stall i) with
      | none => .error k
      | some y => State.runList (s.setStall i y) f (k + 1) (if y = s.stall i then n else n + 1) t

/-- PADDOCK_WRITE with ADD. -/
def execPaddockAdd (did : Nat) (read : HostRead) (s : State) : Host.Outcome State Fault Refusal :=
  quiet (fun s => s.padOp did read (fun a => a == 1) (fun s d =>
    let p := d.target
    if p = 0 ∨ listOk d = false ∨ s.padValid p = false then s.fail d stERR_ARG
    else
      match s.runList (addPad p) 0 0 (stallList d.buf) with
      | .error k => s.finish d { status := stERR_ARG, result := k }
      | .ok (t, n) => ((stallList d.buf).foldl State.queueKeys t).ok d n)) s

/-- PADDOCK_WRITE with REMOVE (R179). -/
def execPaddockRemove (did : Nat) (read : HostRead) (s : State) : Host.Outcome State Fault Refusal :=
  quiet (fun s => s.padOp did read (fun a => a == 2) (fun s d =>
    let p := d.target
    if p = 0 ∨ listOk d = false then s.fail d stERR_ARG
    else
      match s.runList (removePad p) 0 0 (stallList d.buf) with
      | .error k => s.finish d { status := stERR_ARG, result := k }
      | .ok (t, n) => t.ok d n)) s

/-- A scene, a schedule under way or a campaign names a paddock (R180). -/
def State.padNamed (s : State) (p : Nat) : Bool :=
  s.loadedScenes.any (fun c => c.carrier == p || (List.range (leAt c.body 12 1)).any (fun k => leAt c.body (13 + 4 * k) 2 % 4096 == p))
    || s.seg.jobs.any (fun j => j.pad == p && j.kind != .group) || s.flt.camps.any (fun c => c.pads.contains p)

/-- KEY PADDOCK items of a paddock whose key is destroyed are not sent (R180). (DEDUCED, log 56) -/
def State.dropPadKeys (s : State) (p : Nat) : State :=
  let of_ (k : ItemKind) : Bool := match k with
    | .keyPad q _ => q == p
    | _ => false
  { s with seg := { s.seg with items := s.seg.items.filter (fun t => !of_ t.kind) } }
/-- PADDOCK_WRITE with DELETE: no acknowledgement of the key destroyed stands, of members past ones among them (R177, R180). -/
def execPaddockDelete (did : Nat) (s : State) : Host.Outcome State Fault Refusal :=
  quiet (fun s => s.operation did 0x15 (fun d => d.pByte 0 == 3) (fun s d =>
    let p := d.target
    if 4096 ≤ p ∨ p = 0 ∨ d.len ≠ 0 ∨ d.pZero 1 32 = false ∨ s.padValid p = false then s.fail d stERR_ARG
    else if s.padNamed p then s.fail d stBUSY
    else
      let hit := (s.seg.stalls.filter (fun q => q.2.lists p)).map (fun q => q.1)
      let had := (s.seg.stalls.filter (fun q => q.2.lists p || q.2.acked.any (fun a => a.1 == p))).map (fun q => q.1)
      let s1 := had.foldl (fun t i => t.modStall i (fun x =>
        { x with pads := x.pads.map (fun q => if q = some p then none else q), acked := x.acked.filter (fun a => a.1 != p) })) s
      let x := s1.pad p
      let s2 := ((s1.evict x.key).evict x.keyNext).setPad p
        { x with valid := false, key := 0, keyNext := 0, rolling := false }
      s2.dropPadKeys p |>.ok d hit.length)) s

/-! ## Messages (R161, R163, R164) -/

/-- A message body has the length of its class (R161, R163). -/
def bodyOk (cls : Nat) (b : List Byte) : Bool :=
  if cls = 0x01 then b.length == 7
  else if cls = 0x02 then decide (3 ≤ b.length) && b.length == 3 + 5 * leAt b 2 1 && decide (1 ≤ leAt b 2 1 ∧ leAt b 2 1 ≤ 48)
  else if cls = 0x20 then decide (1 ≤ b.length ∧ b.length ≤ 1024)
  else false

/-- SCHEDULE_LOAD (R181). -/
def execScheduleLoad (did : Nat) (read : HostRead) (s : State) : Host.Outcome State Fault Refusal :=
  quiet (fun s => s.operationIn did 0x16 read (fun _ => true) (fun s d =>
    let id := d.target
    if 65536 ≤ id ∨ d.pZero 0 32 = false ∨ bodyOk 0x02 d.buf = false ∨ leAt d.buf 0 2 ≠ id then s.fail d stERR_ARG
    else if (s.schedule id).isNone ∧ 1024 ≤ s.seg.scheds.length then s.fail d stBUSY
    else
      let s1 := { s with seg := { s.seg with scheds := (id, d.buf) :: s.seg.scheds.filter (fun p => p.1 != id) } }
      let s2 := s1.beginDesc did
      s2.distribute (some did) d.buf (s2.schedPads id) (s2.schedStalls id))) s

/-- The run of DOWNLINK slots that holds a stall's wake slot ends at this slot. -/
def State.wakeRunEnd (s : State) (i : Nat) : Nat :=
  let k := (s.stall i).wakeSlot
  match (s.runs (yardOf i)).find? (fun r => decide (r.1 ≤ k ∧ k < r.1 + r.2)) with
  | some r => r.1 + r.2
  | none => 0
/-- A timed frame of some payload octets fits a stall's wake run (R127, R147). -/
def State.timedFits (s : State) (i payload : Nat) : Bool :=
  let y := yardOf i
  match s.beaconEntry y with
  | none => false
  | some b =>
    let m := ((s.dlEntry y).getD b).mode
    let from_ := (s.stall i).wakeSlot * s.slotT + 32 * msT - s.sfdT y m
    decide (0 < (s.stall i).wakeEvery) && decide (from_ + s.airT y m (s.psduLen y payload) ≤ s.wakeRunEnd i * s.slotT)

/-- DOWNLINK_SEND (R163): the item is queued; a launch-timed one becomes eligible when its general slot fires (R145). -/
def execDownlinkSend (did : Nat) (read : HostRead) (s : State) : Host.Outcome State Fault Refusal :=
  quiet (fun s => s.operationIn did 0x20 read (fun _ => true) (fun s d =>
    let i := d.target % 2 ^ 18
    let x := s.stall i
    let cls := d.pByte 0
    let deliv := d.pByte 1
    if 2 < deliv ∨ 1 < d.pByte 2 ∨ d.pZero 3 32 = false then s.fail d stERR_ARG
    else if d.target / 2 ^ 18 ≠ s.segid then s.fail d stERR_ARG 1
    else if x.state = sUNBOUND ∨ x.state = sJOINING ∨ x.state = sRETIRED then s.fail d stERR_ARG 2
    else if bodyOk cls d.buf = false then s.fail d stERR_ARG 3
    else if deliv = 2 ∧ s.timedFits i (1 + d.len) = false then s.fail d stERR_ARG 4
    else if x.state = sLOST then s.fail d stEXPIRED 2
    else if 8 ≤ s.qcount i ∨ 65536 ≤ (s.seg.items.filter (fun t => t.kind == .msg)).length then s.fail d stBUSY
    else if d.launch = true ∧ 4096 ≤ s.pend then s.fail d stBUSY
    else
      let it := newItem i cls .msg d.buf deliv (bit (d.pByte 2) 0) d.at_
      let s1 := if d.launch then s.updDesc did (fun x => { x with stage := .launchWait }) else s
      s1.addItem { it with
        did := some did, from_ := if d.launch then d.launchTime else 0
        hold := if x.state = sADRIFT then some (s.holdEnd i d.at_) else none })) s

/-- GROUP_SEND (R164). (DEDUCED, log 55) -/
def execGroupSend (did : Nat) (read : HostRead) (s : State) : Host.Outcome State Fault Refusal :=
  quiet (fun s => s.operationIn did 0x21 read (fun _ => true) (fun s d =>
    let p := d.target
    let reps := d.pByte 1
    let mask := d.pNum 2 2
    if 4096 ≤ p ∨ d.pZero 4 32 = false ∨ reps = 0 ∨ 8 < reps ∨ bodyOk (d.pByte 0) d.buf = false ∨ s.padValid p = false then
      s.fail d stERR_ARG
    else if d.launch = true ∧ 4096 ≤ s.pend then s.fail d stBUSY
    else
      let ys := (s.padYards p).filter (fun y => mask == 0 || bit mask y)
      if ys = [] then s.ok d
      else
        let s1 := if d.launch then s.updDesc did (fun x => { x with stage := .launchWait }) else s
        s1.addJob .group (some did) p (d.pByte 0) d.buf reps ys (if d.launch then d.launchTime else 0) none)) s

end Sys2Proof.Machine
end

