-- ==== Sys2Proof/Machine/Scenes.lean ====
section
/-! DEFINITION. Sys2Proof/Machine/Scenes.lean: scenes, and reading reconciliation records (R183 to R189, R197). -/
namespace Sys2Proof.Machine

/-! ## Scenes -/

def State.scene? (s : State) (id : Nat) : Option Scene := s.seg.scenes.find? (fun c => c.id == id)
def State.modScene (s : State) (id : Nat) (f : Scene → Scene) : State :=
  { s with seg := { s.seg with scenes := s.seg.scenes.map (fun c => if c.id == id then f c else c) } }
/-- A scene is loaded no more. (DEDUCED, log 54) -/
def State.dropScene (s : State) (id : Nat) : State :=
  { s with seg := { s.seg with scenes := s.seg.scenes.filter (fun c => c.id != id) } }
/-- What is armed for a scene, or waits to go, is withdrawn: launch slots, scene-now frames, drive changes (R187, R188). -/
def State.disarmScene (s : State) (id : Nat) : State :=
  let t := s.putSlots (s.tsu.slots.filter (fun x => x.scene != some id))
  { t with
    air := { t.air with reqs := t.air.reqs.filter (fun r => r.kind != TxKind.sceneNow id) }
    drv := { t.drv with changes := t.drv.changes.filter (fun c => c.scene != some id) } }
/-- A scene whose launch has frames or channels left at T + 1 s is discarded like any other (R187). What is left goes on under a
number that no SCENE_ID has, whose low 16 bits are the scene's. (DEDUCED, log 54) -/
def State.orphanScene (s : State) (id : Nat) : State :=
  let new := 65536 * (s.seg.nextId + 1) + id % 65536
  let kind (k : TxKind) : TxKind := if k = .sceneNow id then .sceneNow new else k
  let move (o : Option Nat) : Option Nat := if o = some id then some new else o
  { s with
    seg := { s.seg with
      nextId := s.seg.nextId + 1, scenes := s.seg.scenes.map (fun c => if c.id = id then { c with id := new } else c) }
    air := { s.air with
      reqs := s.air.reqs.map (fun r => { r with kind := kind r.kind })
      carriers := s.air.carriers.map (fun c => { c with kind := kind c.kind }) }
    tsu := { s.tsu with slots := s.tsu.slots.map (fun x => { x with scene := move x.scene }) }
    drv := { s.drv with changes := s.drv.changes.map (fun c => { c with scene := move c.scene }) } }
/-- The entries of a SCENE body (R161). -/
def sceneN (b : List Byte) : Nat := leAt b 12 1
/-- The drive section of a SCENE_LOAD's buffer: DMASK and its levels (R183). -/
def driveMask (b : List Byte) : Nat := leAt b 0 8
/-- The channels of a DMASK, ascending. -/
def maskChans (m : Nat) : List Nat := (List.range 64).filter (fun k => bit m k)
/-- A drive section's length matches its DMASK, which names channels 0 to 47 (R184, R311). -/
def driveSectionOk (b : List Byte) : Bool :=
  decide (8 ≤ b.length) && decide (driveMask b < 2 ^ 48) && b.length == 8 + 2 * (maskChans (driveMask b)).length
/-- The levels of a drive section. -/
def driveLevels (b : List Byte) : List Nat := (List.range ((b.length - 8) / 2)).map (fun k => leAt b (8 + 2 * k) 2)

/-- The delivery job of a scene. -/
def State.sceneJob (s : State) (id : Nat) : Option Job := s.seg.jobs.find? (fun j => j.kind == .scene id)
/-- A descriptor that waits for something else completes. -/
def State.endDid (s : State) (did : Option Nat) (status detail result : Nat) : State :=
  match did with
  | none => s
  | some k =>
    match s.desc? k with
    | some d => s.finish d { status := status, detail := detail, result := result }
    | none => s
/-- A loaded scene's delivery ends (R185): its descriptor completes; a yard with no repeat sent discards the scene. -/
def State.endDelivery (s : State) (id : Nat) : State :=
  match s.scene? id, s.sceneJob id with
  | some c, some j =>
    let t := s.dropJob j.id
    if j.yards.all (fun y => decide (0 < y.sent)) then
      (t.modScene id (fun c => { c with delivered := j.served, loadDid := none })).endDid c.loadDid stOK 0
        (jobResult (yardMask j.served) j.fewest)
    else
      ((t.endDid c.loadDid stEXPIRED 0 (jobResult (yardMask j.served) j.fewest)).endDid c.launchDid stEXPIRED 0 0).dropScene id
  | _, _ => s

/-- The checks of R184 on a load fetched at an output time: a DETAIL, or none. -/
def State.sceneCheck (s : State) (now : Int) (id carrier : Nat) (b : List Byte) : Option Nat :=
  let n := sceneN b
  let t : Int := leAt b 2 8
  let ent (k : Nat) : Nat := leAt b (13 + 4 * k) 2 % 4096
  if leAt b 0 2 ≠ id ∨ n = 0 ∨ 128 < n ∨ b.length < 13 + 4 * n then some 1
  else if t < now + 10 * secT ∨ now + 172800 * secT < t then some 2
  else if (carrier ≠ 0 ∧ (n ≠ 1 ∨ ent 0 ≠ carrier)) ∨ s.padValid carrier = false
      ∨ (List.range n).any (fun k => !s.padValid (ent k)) = true then some 3
  else if s.loadedScenes.any (fun c => c.id != id && (c.t : Int) == t && (carrier == 0 || c.carrier == 0 || c.carrier == carrier))
    then some 4
  else if b.length ≠ 13 + 4 * n ∧ driveSectionOk (b.drop (13 + 4 * n)) = false then some 5
  else none

/-- The operands of SCENE_LOAD. -/
def sceneArgsOk (d : Desc) : Bool :=
  decide (d.target < 65536) && decide (d.pByte 0 ≤ 8) && decide (d.pByte 1 < 2) && decide (d.pNum 2 2 < 4096) && d.pZero 4 32

/-- SCENE_LOAD (R183 to R185). (DEDUCED, log 54) -/
def execSceneLoad (did : Nat) (read : HostRead) (s : State) : Host.Outcome State Fault Refusal :=
  quiet (fun s => s.operationIn did 0x17 read (fun d => !bit (d.pByte 1) 0) (fun s d =>
    let id := d.target
    let carrier := d.pNum 2 2
    let n := sceneN d.buf
    let body := d.buf.take (13 + 4 * n)
    let rest := d.buf.drop (13 + 4 * n)
    let old := s.scene? id
    if sceneArgsOk d = false ∨ d.len = 0 then s.fail d stERR_ARG
    else
      match s.sceneCheck d.atOut id carrier d.buf with
      | some det => s.fail d stERR_ARG det
      | none =>
        if old = none ∧ 64 ≤ s.loadedScenes.length then s.fail d stBUSY
        else if (old.map (fun c => c.armed)).getD false = true then s.fail d stBUSY
        else
          let t := leAt d.buf 2 8
          let ended := match old with
            | none => s
            | some c =>
              let u := match s.sceneJob id with
                | some j => s.dropJob j.id
                | none => s
              let u := u.endDid c.loadDid stABORTED 0 0
              (if c.t = t then u else u.endDid c.launchDid stERR_ARG 0 0).dropScene id
          let lead := ended.param 0x0523
          let reps := if d.pByte 0 = 0 then 3 else d.pByte 0
          let ys := ended.padYards carrier
          let c : Scene :=
            { id := id, t := t, body := body, carrier := carrier, repeats := reps
              dmask := if rest = [] then 0 else driveMask rest, levels := driveLevels rest, lead := lead
              loadDid := some did, launchDid := match old with | some o => if o.t = t then o.launchDid else none | none => none
              armed := false, delivered := [], left := 0, late := false, yardsOut := 0, latched := 0, latching := 0 }
          let s1 := { ended with seg := { ended.seg with scenes := ended.seg.scenes ++ [c] } }
          let s2 := s1.modPad carrier (fun p => { p with sceneId := id, sceneT := t })
          let s3 := s2.addJob (.scene id) (some did) carrier 0x03 body reps ys 0 (some ((t : Int) - lead * secT))
          if ys = [] then s3.endDelivery id else s3)) s

/-- SCENE_CANCEL: SCENE_LOAD with CANCEL = 1 (R188). (DEDUCED, log 54) -/
def execSceneCancel (did : Nat) (read : HostRead) (s : State) : Host.Outcome State Fault Refusal :=
  quiet (fun s => s.operationIn did 0x17 read (fun d => bit (d.pByte 1) 0) (fun s d =>
    let id := d.target
    if sceneArgsOk d = false ∨ d.len ≠ 0 then s.fail d stERR_ARG
    else
      match s.scene? id with
      | none => s.fail d stERR_ARG
      | some c =>
        let u := match s.sceneJob id with
          | some j => s.dropJob j.id
          | none => s
        let u := (u.endDid c.loadDid stABORTED 0 0).endDid c.launchDid stABORTED 0 0
        let u := (u.disarmScene id).dropScene id
        let body := le 2 id ++ zeros 8 ++ zeros 2 ++ le 1 1 ++ le 2 c.carrier ++ zeros 2
        let ys := u.padYards c.carrier
        let v := if ys = [] then u
          else u.addJob (.cancel id) none c.carrier 0x03 body c.repeats ys 0 (some ((c.t : Int) - c.lead * secT))
        v.ok d)) s

/-- SCENE_LAUNCH (R187): accepted; SCENE_ARM arms it. (DEDUCED, log 54) -/
def execSceneLaunch (did : Nat) (s : State) : Host.Outcome State Fault Refusal :=
  quiet (fun s => s.operation did 0x18 (fun _ => true) (fun s d =>
    match s.scene? d.target with
    | none => s.fail d stERR_ARG
    | some c =>
      if d.launch = false ∨ d.launchTime ≠ c.t ∨ d.pZero 0 32 = false then s.fail d stERR_ARG
      else if c.launchDid.isSome ∨ 4096 ≤ s.pend then s.fail d stBUSY
      else (s.updDesc did (fun x => { x with stage := .launchWait })).modScene c.id (fun c => { c with launchDid := some did }))) s

/-- The scene-now frames of a scene: for each front end and each distinct channel and mode, the yards that it serves (R187). -/
def State.sceneFrames (s : State) (c : Scene) : List (Nat × Nat × List Nat) :=
  (List.range 4).flatMap (fun f =>
    let ys := c.delivered.filter (fun y => feOf y == f)
    let dl (y : Nat) : Option (Nat × Nat) := (s.dlChoice y (s.sfAt y c.t).toNat 0).map (fun e => (e.chan, e.mode))
    let kinds := (ys.filterMap dl).eraseDups
    kinds.map (fun k => (k.1, k.2, isort (fun y => y) (ys.filter (fun y => dl y == some k)))))

/-- The slots that an armed scene asks for. -/
def State.sceneSlots (s : State) (c : Scene) (did : Nat) : List Slot :=
  ((s.sceneFrames c).map (fun f =>
      { cls := .radio (s.yardChain (f.2.2.headD 0)), did := did, time := c.t, scene := some c.id
        yards := (f.2.2.map (fun y => 2 ^ y)).foldl (· + ·) 0, late := false : Slot }))
    ++ (if c.dmask = 0 then [] else [{ cls := .drive, did := did, time := c.t, scene := some c.id, yards := 0, late := false : Slot }])

/-- SCENE_ARM: T − SCENE_ARM_LEAD has come. Delivery ends, and a launch takes its slots; an action with no free slot is sent
when one frees, late (R185, R187, R281). The cancel frames of a scene withdrawn end here (R188). -/
def execSceneArm (scene : Nat) (s : State) : Host.Outcome State Fault Refusal :=
  quiet (fun s =>
    match s.scene? scene with
    | none =>
      (match s.seg.jobs.find? (fun j => j.kind == .cancel scene) with
      | some j => (s.elapseOut (j.cut.getD 0)).dropJob j.id
      | none => s)
    | some c =>
      if s.paused then s
      else
        let s1 := (s.elapseOut ((c.t : Int) - c.lead * secT)).endDelivery scene
        match s1.scene? scene with
        | none => s1
        | some c =>
          match c.launchDid with
          | none => s1
          | some k =>
            if c.armed ∨ s1.serving = false then s1
            else
              let want := s1.sceneSlots c k
              let got := want.foldl State.takeSlot s1
              (got.updDesc k (fun x => { x with stage := .armed })).modScene scene (fun c =>
                { c with armed := true, left := want.length })) s

/-- SCENE_DISCARD: T + 1 s has come (R185, R187). A launch with frames left goes on without the scene; one that has not been
carried out completes with EXPIRED, and one that had nothing to do with OK. (DEDUCED, log 54) -/
def execSceneDiscard (scene : Nat) (s : State) : Host.Outcome State Fault Refusal :=
  quiet (fun s =>
    match s.scene? scene with
    | none => s
    | some c =>
      let s1 := (s.elapseOut ((c.t : Int) + secT)).endDelivery scene
      match s1.scene? scene with
      | none => s1
      | some c => if c.armed = true ∧ (c.left ≠ 0 ∨ c.latching ≠ 0) then s1.orphanScene scene
        else (s1.endDid c.launchDid (if c.armed then stOK else stEXPIRED) 0 0).dropScene scene) s

/-! ## Reconciliation records (R197) -/

/-- A reconciliation record. -/
def Recon.bytes (r : Recon) : List Byte :=
  le 1 r.feeder ++ le 1 r.flags ++ zeros 2 ++ le 4 r.reported ++ le 4 r.members ++ le 6 r.start ++ zeros 2 ++ le 8 r.l
    ++ le 8 r.b ++ le 8 (twos 64 r.u) ++ le 4 r.period

/-- RECONCILE_READ. (DEDUCED, log 55) -/
def execReconcileRead (did : Nat) (s : State) : Host.Outcome State Fault Refusal :=
  quiet (fun s => s.operation did 0x1A (fun _ => true) (fun s d =>
    let count := if d.pByte 0 = 0 then 1 else d.pByte 0
    if d.len = 0 ∨ (5 < d.target ∧ d.target ≠ 15) ∨ 24 < count ∨ d.pZero 1 32 = false then s.fail d stERR_ARG
    else
      let fs := if d.target = 15 then List.range 6 else [d.target]
      let l := fs.flatMap (fun f => ((s.seg.recon.filter (fun r => r.feeder == f)).take count).map Recon.bytes)
      s.okItems d 48 l (fun _ => 0))) s

end Sys2Proof.Machine
end

