-- ==== Sys2Proof/Machine/Fleet.lean ====
section
/-! DEFINITION. Sys2Proof/Machine/Fleet.lean: the node image cache and campaigns (R209 to R231). -/
namespace Sys2Proof.Machine

/-! ## Image slots (R209 to R211) -/

def State.img (s : State) (k : Nat) : ImgSlot := Tbl.get ImgSlot.empty s.flt.slots k
def State.setImg (s : State) (k : Nat) (x : ImgSlot) : State :=
  { s with flt := { s.flt with slots := Tbl.put ImgSlot.empty s.flt.slots k x } }
/-- Campaign states (R217). -/
def cDEFINED : Nat := 0
def cARMED : Nat := 1
def cSENDING : Nat := 2
def cPAUSED : Nat := 3
def cDONE : Nat := 4
def cSTOPPED : Nat := 5
def cFAULTED : Nat := 6
/-- A campaign that has not ended names the slot. -/
def State.slotInUse (s : State) (k : Nat) : Bool := s.flt.camps.any (fun c => c.slot == k && decide (c.state ≤ 3))
/-- The manifest check of R211: bytes 32 to 63 hold the SHA-256 of the payload, its first octet first (R210). -/
def manifestOk (b : List Byte) (total : Nat) : Bool :=
  leAt b 0 4 == 0x4E494D31 && leAt b 4 1 == 1 && leAt b 28 4 + 128 == total
    && beAt b 32 32 == (Config.sha256 (b.drop 128)).toNat

/-- IMAGE_STORE. -/
def execImageStore (did : Nat) (read : HostRead) (s : State) : Host.Outcome State Fault Refusal :=
  quiet (fun s => s.operationIn did 0x30 read (fun _ => true) (fun s d =>
    let k := d.target
    let off := d.pNum 0 4
    let total := d.pNum 4 4
    let first := bit (d.pByte 8) 0
    let last := bit (d.pByte 8) 1
    let x := if first then { state := 1, total := total, data := [] } else s.img k
    if d.len = 0 ∨ 65536 < d.len ∨ 8 ≤ k ∨ 4 ≤ d.pByte 8 ∨ d.pZero 9 32 = false ∨ total < 129 ∨ 4194304 < total then
      s.fail d stERR_ARG
    else if s.slotInUse k then s.fail d stBUSY
    else if x.state ≠ 1 ∨ off ≠ x.data.length ∨ total ≠ x.total then s.fail d stERR_ARG 1
    else if total < off + d.len ∨ (last = true ∧ off + d.len ≠ total) then s.fail d stERR_ARG 2
    else
      let data := x.data ++ d.buf
      if last = false then (s.setImg k { x with data := data }).ok d
      else if manifestOk data total then (s.setImg k { x with state := 2, data := data }).ok d
      else (s.setImg k ImgSlot.empty).fail d stERR_ARG 3)) s

/-! ## Campaign records (R212 to R216) -/

def State.camp? (s : State) (id : Nat) : Option Campaign := s.flt.camps.find? (fun c => c.id == id)
def State.modCamp (s : State) (id : Nat) (f : Campaign → Campaign) : State :=
  { s with flt := { s.flt with camps := s.flt.camps.map (fun c => if c.id == id then f c else c) } }
/-- FLT_STATUS follows the campaigns (R229). -/
def State.fltRefresh (s : State) : State :=
  let act := s.flt.camps.find? (fun c => decide (1 ≤ c.state ∧ c.state ≤ 3))
  let last := s.flt.camps.foldl (fun b c =>
    match b with
    | some (x : Campaign) => if x.chg < c.chg then some c else some x
    | none => some c) none
  match act.orElse (fun _ => last) with
  | some c => s.setSw .FLT_STATUS (c.id * 65536 + c.state * 4096 + c.night % 16 * 256 + c.slot)
  | none => s.setSw .FLT_STATUS 0
/-- A campaign takes a state. -/
def State.setCamp (s : State) (id st : Nat) : State :=
  let t := { s with flt := { s.flt with latest := s.flt.latest + 1 } }
  (t.modCamp id (fun c => { c with state := st, chg := s.flt.latest + 1 })).fltRefresh

/-- Source symbols Kt and source blocks Z (R212). -/
def Campaign.kt (c : Campaign) : Nat := ceilDiv c.len (max c.t 1)
def Campaign.z (c : Campaign) : Nat := ceilDiv c.kt 8192
/-- Symbols that a step may send (R219). -/
def Campaign.ceiling (c : Campaign) : Nat := c.kt + ceilDiv (c.kt * c.overhead) 100
/-- Fields of an image's manifest (R210). -/
def ImgSlot.field (x : ImgSlot) (off n : Nat) : Nat := leAt x.data off n

/-- The next window after an output time: when it opens and closes, in output time (R215). (DEDUCED, log 57) -/
def State.nextWindow (s : State) (now : Int) (start stop : Nat) : Int × Int :=
  let day : Int := 86400 * secT
  let l := s.localTicks now
  let len : Int := ((stop + 1440 - start) % 1440 * 60 * secT : Nat)
  let first := l / day * day + start * 60 * secT
  let open_ := if first ≤ l then first + day else first
  (now + (open_ - l), now + (open_ - l) + len)
/-- The close of the window that is open at an output time, if one is. -/
def State.openWindow (s : State) (now : Int) (start stop : Nat) : Option Int :=
  let w := s.nextWindow now start stop
  let day : Int := 86400 * secT
  if now < w.2 - day then some (w.2 - day) else none

/-- A definition record (R215). -/
def campOf (id : Nat) (b : List Byte) : Campaign :=
  { id := id, state := 0, slot := leAt b 0 1, npad := leAt b 1 1, winStart := leAt b 2 2, winEnd := leAt b 4 2
    overhead := leAt b 6 1, share := leAt b 7 1, nights := leAt b 8 1, descRepeats := leAt b 9 1, t := leAt b 10 2
    actT := leAt b 12 8, pads := (List.range (min (leAt b 1 1) 16)).map (fun k => leAt b (24 + 2 * k) 2), user := leAt b 56 8
    len := 0, night := 0, counted := false, winClose := none, status := [], plan := [], yards := [], symbols := 0, steps := 0, blocks := []
    place := 0, chg := 0, resumed := false }
/-- The octets that R215 reserves are zero. -/
def campReserved (b : List Byte) : Bool :=
  leAt b 20 4 == 0 && (List.range 16).all (fun k => decide (k < leAt b 1 1) || leAt b (24 + 2 * k) 2 == 0)
/-- A symbol frame fits the shortest run of DOWNLINK slots of every yard that holds a target member (R216). -/
def State.symbolFits (s : State) (c : Campaign) : Bool :=
  ((List.range 16).filter (fun y => c.pads.any (fun p => (s.padYards p).contains y))).all (fun y =>
    match s.dlChoice y 0 0 with
    | none => false
    | some e => s.runs y != [] && (s.runs y).all (fun r => decide (s.airT y e.mode (s.psduLen y (8 + c.t)) ≤ r.2 * s.slotT)))
/-- The checks 0x02 to 0x0A of R216: a DETAIL, or none. -/
def State.campCheck (s : State) (c : Campaign) : Option Nat :=
  let x := s.img c.slot
  let c : Campaign := { c with len := x.data.length }
  if 8 ≤ c.slot ∨ x.state ≠ 2 then some 2
  else if 2 < x.field 6 1 ∨ x.field 7 1 < 2 then some 3
  else if (s.regValue .host .HIF_BUNDLE).toNat < x.field 24 4 then some 4
  else if c.npad = 0 ∨ 16 < c.npad ∨ noTwice c.pads = false ∨ c.pads.all (fun p => decide (p < 4096) && s.padValid p) = false
    then some 5
  else if 1439 < c.winStart ∨ 1439 < c.winEnd ∨ (c.winEnd + 1440 - c.winStart) % 1440 < 30 then some 6
  else if c.t < 64 ∨ 2016 < c.t ∨ c.t % 4 ≠ 0 ∨ 65536 < c.kt ∨ s.symbolFits c = false then some 7
  else if x.field 5 1 = 1 ∧ (c.actT = 0 ∨ (c.actT : Int) ≤ (s.nextWindow s.outputTime c.winStart c.winEnd).2) then some 8
  else if 200 < c.overhead ∨ c.share < 10 ∨ 100 < c.share ∨ c.nights = 0 ∨ 14 < c.nights ∨ c.descRepeats = 0
      ∨ 8 < c.descRepeats ∨ s.cf .FLT_CFG F.FLT_CFG_SHARE_MAX < c.share then some 9
  else if s.cf .FLT_CFG F.FLT_CFG_ENABLE = 0 then some 10
  else none

/-- A CAMPAIGN_CTL of one action, its operands checked. -/
def campArgsOk (d : Desc) : Bool := decide (1 ≤ d.target ∧ d.target ≤ 0xFFFE) && d.pZero 1 32
/-- CAMPAIGN_CTL with DEFINE; an action that R215 does not list completes here with ERR_ARG. -/
def execCampaignDefine (did : Nat) (read : HostRead) (s : State) : Host.Outcome State Fault Refusal :=
  quiet (fun s => s.operationIn did 0x31 read (fun d => d.pByte 0 == 0 || decide (5 < d.pByte 0)) (fun s d =>
    let c := campOf d.target d.buf
    if campArgsOk d = false ∨ d.pByte 0 ≠ 0 ∨ d.len ≠ 64 ∨ campReserved d.buf = false then s.fail d stERR_ARG
    else if (s.camp? d.target).isSome then s.fail d stERR_ARG 1
    else
      match s.campCheck c with
      | some det => s.fail d stERR_ARG det
      | none =>
        if 8 ≤ s.flt.camps.length then s.fail d stBUSY
        else
          let pl := ((List.range 8).find? (fun k => s.flt.camps.all (fun x => x.place != k))).getD 0
          let t := { s with flt := { s.flt with camps := s.flt.camps ++ [{ c with place := pl, len := (s.img c.slot).data.length }] } }
          (t.setCamp c.id cDEFINED).ok d)) s

/-- A CAMPAIGN_CTL other than DEFINE on a campaign that exists. -/
def State.campOp (s : State) (did act : Nat) (body : State → Desc → Campaign → State) : State :=
  s.operation did 0x31 (fun d => d.pByte 0 == act) (fun s d =>
    if campArgsOk d = false ∨ d.len ≠ 0 then s.fail d stERR_ARG
    else
      match s.camp? d.target with
      | none => s.fail d stERR_ARG 1
      | some c => body s d c)
/-- A campaign event of R231. -/
def State.campEvent (s : State) (c : Campaign) (code sev : Nat) (args : List Nat) : State := s.event 21 c.place code sev args
/-- Stalls of a campaign with a status. -/
def Campaign.count (c : Campaign) (st : Nat) : Nat := (c.status.filter (fun q => q.2 == st)).length
/-- The status of every stall of some statuses changes. -/
def Campaign.remark (c : Campaign) (from_ : List Nat) (to_ : Nat) : Campaign :=
  { c with status := c.status.map (fun q => if from_.contains q.2 then (q.1, to_) else q) }

/-- CAMPAIGN_CTL with START (R216, R217). (DEDUCED, log 57) -/
def execCampaignStart (did : Nat) (s : State) : Host.Outcome State Fault Refusal :=
  quiet (fun s => s.campOp did 1 (fun s d c =>
    if c.state ≠ cDEFINED then s.fail d stERR_ARG 1
    else
      match s.campCheck c with
      | some det => s.fail d stERR_ARG det
      | none =>
        if s.flt.camps.any (fun x => decide (1 ≤ x.state ∧ x.state ≤ 3)) then s.fail d stBUSY
        else
          let t := (s.setCamp c.id cARMED).modCamp c.id (fun c => { c with len := (s.img c.slot).data.length })
          (t.campEvent c 0x0601 1 [c.id, c.slot, (s.img c.slot).field 8 4]).ok d)) s
/-- The campaign sends no more: its frames that wait for a chain are not sent, and the encoder leaves off. (DEDUCED, log 57) -/
def State.dropImages (s : State) (id : Nat) : State :=
  { s with air := { s.air with reqs := s.air.reqs.filter (fun r => r.kind != TxKind.image id) } }.setSf
    .FLT_ENC_STAT F.FLT_ENC_STAT_BUSY 0
/-- Nothing of a campaign's night is left to send. -/
def Campaign.clearSteps (c : Campaign) : Campaign :=
  { c with yards := c.yards.map (fun k => { k with steps := [], final := none }) }
/-- CAMPAIGN_CTL with PAUSE. -/
def execCampaignPause (did : Nat) (s : State) : Host.Outcome State Fault Refusal :=
  quiet (fun s => s.campOp did 2 (fun s d c =>
    if c.state = cARMED ∨ c.state = cSENDING then ((s.setCamp c.id cPAUSED).dropImages c.id).ok d
    else s.fail d stERR_ARG 1)) s
/-- CAMPAIGN_CTL with RESUME. (DEDUCED, log 57) -/
def execCampaignResume (did : Nat) (s : State) : Host.Outcome State Fault Refusal :=
  quiet (fun s => s.campOp did 3 (fun s d c =>
    if c.state = cPAUSED then ((s.setCamp c.id cARMED).modCamp c.id (fun c => { c with resumed := true })).ok d
    else s.fail d stERR_ARG 1)) s
/-- CAMPAIGN_CTL with STOP. -/
def execCampaignStop (did : Nat) (s : State) : Host.Outcome State Fault Refusal :=
  quiet (fun s => s.campOp did 4 (fun s d c =>
    if c.state = cARMED ∨ c.state = cSENDING ∨ c.state = cPAUSED then
      let t := ((s.modCamp c.id (fun c => (c.remark [1, 5] 6).clearSteps)).setCamp c.id cSTOPPED).dropImages c.id
      let n := ((t.camp? c.id).map (fun c => c.count 6)).getD 0
      ((t.setSf .FLT_EVT F.FLT_EVT_DONE 1).campEvent c 0x0603 1 [c.id, 2, n]).ok d
    else s.fail d stERR_ARG 1)) s
/-- CAMPAIGN_CTL with DELETE: what the campaign has used of the duty accounts stays charged as ordinary usage (R99, R222). -/
def execCampaignDelete (did : Nat) (s : State) : Host.Outcome State Fault Refusal :=
  quiet (fun s => s.campOp did 5 (fun s d c =>
    if c.state ≤ 3 then s.fail d stBUSY
    else
      let g (k : Charge) : Charge := if k.cls = .campaign c.id then { k with cls := .ordinary } else k
      let duty : Tbl (List Charge) := s.air.duty.map (fun (q : Nat × List Charge) => (q.1, q.2.map g))
      ({ s with
        flt := { s.flt with camps := s.flt.camps.filter (fun x => x.id != c.id) }
        air := { s.air with duty := duty } }.fltRefresh).ok d)) s

/-! ## The night (R217 to R220) -/

/-- The first target paddock that a stall is a member of. -/
def State.target (s : State) (c : Campaign) (i : Nat) : Option Nat := c.pads.find? (fun p => (s.stall i).inPad p)
/-- The status that the plan of a night gives a stall (R218). -/
def State.planStatus (s : State) (c : Campaign) (i : Nat) : Nat :=
  let x := s.stall i
  let m := s.img c.slot
  if x.fwver = m.field 8 4 then 7
  else if x.fwver < m.field 16 4 ∨ m.field 20 4 < x.fwver then 8
  else if x.state = sACTIVE then 1
  else 5
/-- A yard's part of a campaign. -/
def Campaign.yard (c : Campaign) (y : Nat) : CampYard :=
  (c.yards.find? (fun k => k.yard == y)).getD
    { yard := y, steps := [], descs := 0, descLast := none, syms := 0, final := none, turn := 0, esi := [] }
/-- Change a yard's part. -/
def Campaign.setYard (c : Campaign) (k : CampYard) : Campaign :=
  { c with yards := k :: c.yards.filter (fun j => j.yard != k.yard) }
/-- Some PENDING stall of a yard belongs to a paddock's step, as the night was planned, and is still a member (R219, R227). -/
def State.stepWaits (s : State) (c : Campaign) (y p : Nat) : Bool :=
  c.status.any (fun q => q.2 == 1 && yardOf q.1 == y && Tbl.get 0 c.plan q.1 == p + 1 && (s.stall q.1).inPad p)
/-- The night goes on where its window was left: each step restarts with its opening descriptors, and its symbol count goes
on (R217, R224). -/
def Campaign.goOn (c : Campaign) : Campaign :=
  { c with yards := c.yards.map (fun k => { k with descs := 0, descLast := none }) }
/-- The night is planned (R218). -/
def State.planNight (s : State) (c : Campaign) : Campaign :=
  let aimed (i : Nat) : Bool := (s.stall i).live && (s.target c i).isSome
  let c0 : Campaign := { c with status := c.status.filter (fun q => q.2 != 5 || aimed q.1) }
  let todo := s.liveStalls.filter (fun i => (Tbl.get 0 c0.status i == 0 || Tbl.get 0 c0.status i == 5) && aimed i)
  let c1 := todo.foldl (fun c i => { c with status := Tbl.put 0 c.status i (s.planStatus c i)
                                            plan := Tbl.put 0 c.plan i ((s.target c i).getD 0 + 1) }) { c0 with plan := [] }
  (List.range 16).foldl (fun c y =>
    c.setYard { c.yard y with
      steps := c.pads.filter (fun p => s.stepWaits c y p), descs := 0, descLast := none, syms := 0, final := none }) c1

/-- M2 writes the campaigns to NAND (R224). -/
def State.persistCamps (s : State) : State := { s with flt := { s.flt with saved := s.flt.camps } }

/-- The night ends: the window closes on a SENDING campaign, or its step lists have ended (R217, R219). A close ends each step
that is running. -/
def State.nightEnd (s : State) (id : Nat) (closed : Bool) : State :=
  match s.camp? id with
  | none => s
  | some c0 =>
    let cut := (c0.yards.filter (fun k => k.steps != [] && k.final == none)).length
    let c : Campaign := { (c0.remark [1] 5).clearSteps with steps := c0.steps + cut }
    let t := (s.modCamp id (fun _ => c)).dropImages id
    let t := if closed then t.setSf .FLT_EVT F.FLT_EVT_NIGHT 1 else t
    let t := t.campEvent c 0x0602 1 [id, c.night, c.count 2 + c.count 3, c.count 5]
    let t := if 0 < c.count 5 ∧ c.night < c.nights then t.setCamp id cARMED
      else
        let reason := if c.count 5 = 0 then 0 else 1
        let u := (t.modCamp id (fun c => c.remark [1, 5] 6)).setCamp id cDONE
        (u.setSf .FLT_EVT F.FLT_EVT_DONE 1).campEvent c 0x0603 1 [id, reason, c.count 5 + c.count 6]
    if cut = 0 then t else t.persistCamps
/-- A SENDING campaign whose yards have nothing left ends its night. -/
def State.campIdle (s : State) (id : Nat) : State :=
  match s.camp? id with
  | some c => if c.state = cSENDING ∧ c.yards.all (fun k => k.steps == [] && k.final == none) = true then s.nightEnd id false else s
  | none => s
/-- The campaign sends in the window that closes at an output time: the night counts once, and is planned anew unless it goes on
(R217, R218, R224). The encoder computes the blocks that it does not hold from this window (R212). (DEDUCED, log 57) -/
def State.campGo (s : State) (c : Campaign) (close : Int) : State :=
  let again := c.counted && c.winClose.any (fun w => decide (s.outputTime < w))
  if again = false ∧ c.nights ≤ c.night then s
  else
    let goes := again && c.yards.any (fun k => k.steps != [] || k.final.isSome)
    let c1 : Campaign := { c with night := if again then c.night else c.night + 1, counted := true, winClose := some close
                                  resumed := false, blocks := if again then c.blocks else [] }
    let t := (s.modCamp c.id (fun _ => if goes then c1.goOn else s.planNight c1)).setCamp c.id cSENDING
    (t.setSf .FLT_ENC_STAT F.FLT_ENC_STAT_BUSY (b2n (decide (c1.blocks.length < c1.z)))).campIdle c.id
/-- The window of a campaign has closed: one that sends, or would have gone on in it, ends its night; of a PAUSED one the step
ends, and the stalls that have not reported wait for the next window (R217, R219, R227). (DEDUCED, log 57) -/
def State.campClose (s : State) (c : Campaign) : State :=
  let t :=
    if c.state = cSENDING ∨ (c.state = cARMED ∧ c.resumed = true ∧ c.counted = true) then s.nightEnd c.id true
    else s.modCamp c.id (fun c => if c.state = cPAUSED then (c.remark [1] 5).clearSteps else c)
  t.modCamp c.id (fun c => { c with counted := false, winClose := none, resumed := false })

/-- CAMPAIGN_WINDOW_OPEN: the window opens (R217, R218). A campaign that RESUME or a restart finds in its open window goes on at
a superframe's start, and not here. -/
def execCampaignWindowOpen (id : Nat) (s : State) : Host.Outcome State Fault Refusal :=
  quiet (fun s =>
    match s.camp? id with
    | none => s
    | some c =>
      if c.state ≠ cARMED ∨ s.serving = false ∨ (c.resumed = true ∧ (s.openWindow s.outputTime c.winStart c.winEnd).isSome = true) then s
      else
        let w := s.nextWindow s.outputTime c.winStart c.winEnd
        let t := s.elapseOut w.1
        let t := if c.winClose.isSome then t.campClose c else t
        match t.camp? id with
        | none => t
        | some c => if c.state = cARMED then t.campGo c w.2 else t) s
/-- A superframe starts: a campaign that is to go on in its open window does (R217, R224). -/
def State.campAgain (s : State) : State :=
  match s.flt.camps.find? (fun c => c.state == cARMED && c.resumed) with
  | none => s
  | some c =>
    match s.openWindow s.outputTime c.winStart c.winEnd with
    | none => s
    | some w => s.campGo c w

/-- CAMPAIGN_WINDOW_CLOSE. -/
def execCampaignWindowClose (id : Nat) (s : State) : Host.Outcome State Fault Refusal :=
  quiet (fun s =>
    match s.camp? id with
    | none => s
    | some c =>
      match c.winClose with
      | none => s
      | some t0 => (s.elapseOut t0).campClose c) s

/-- CAMPAIGN_PERSIST: the running period of 60 s ends (R224). -/
def execCampaignPersist (s : State) : Host.Outcome State Fault Refusal :=
  quiet (fun s =>
    if s.done then
      let due := s.flt.savedAt + 60 * 32768
      let t := (s.elapseRtc due).persistCamps
      { t with flt := { t.flt with savedAt := max due t.newt.tick } }
    else s) s

/-- CAMPAIGN_IMAGE_READ_FAIL: a read of the image fails in NAND; the event's block number is free. -/
def execCampaignImageReadFail (id : Nat) (s : State) : Host.Outcome State Fault Refusal :=
  quiet (fun s =>
    match s.camp? id with
    | none => s
    | some c =>
      if c.state = cARMED ∨ c.state = cSENDING then
        let t := (((s.modCamp id Campaign.clearSteps).setCamp id cFAULTED).dropImages id).setSf .FLT_EVT F.FLT_EVT_FAULT 1
        t.fresh.2.campEvent c 0x0604 3 [id, c.slot, t.fresh.1]
      else s) s

/-- ENCODER_BLOCK_READY: the encoder has a block's intermediate symbols (R212). -/
def execEncoderBlockReady (s : State) : Host.Outcome State Fault Refusal :=
  quiet (fun s =>
    match s.flt.camps.find? (fun c => c.state == cSENDING) with
    | none => s
    | some c =>
      if c.blocks.length < c.z then
        let t := s.modCamp c.id (fun c => { c with blocks := c.blocks ++ [c.blocks.length] })
        t.setSf .FLT_ENC_STAT F.FLT_ENC_STAT_BUSY (b2n (decide (c.blocks.length + 1 < c.z)))
      else s) s

/-! ## A yard's campaign frames (R213, R214, R219) -/

/-- What a yard sends next of a campaign. -/
inductive CampFrame where
  | desc (pad : Nat) (final : Bool)
  | symbol (pad sbn esi : Nat)
  deriving DecidableEq, Repr

/-- The paddock of a campaign frame. -/
def CampFrame.pad : CampFrame → Nat
  | .desc p _ => p
  | .symbol p _ _ => p
/-- The spacing of repeats in a yard: the largest LISTEN_EVERY of the paddock's members there (R148). -/
def State.spacing (s : State) (y p : Nat) : Nat :=
  (((s.members p).filter (fun i => yardOf i == y)).map (fun i => (s.stall i).listen)).foldl max 1
/-- The campaign that sends, and its next frame in a yard; superframe `n` (R219). A step has no more symbols than OVERHEAD allows
(R215). -/
def State.campNext (s : State) (y n : Nat) : Option (Campaign × CampFrame) :=
  match s.flt.camps.find? (fun c => c.state == cSENDING) with
  | none => none
  | some c =>
    let k := c.yard y
    match k.final with
    | some p => some (c, .desc p true)
    | none =>
      match k.steps with
      | [] => none
      | p :: _ =>
        if k.descs < c.descRepeats then
          (match k.descLast with
          | some l => if n < l + s.spacing y p then none else some (c, .desc p false)
          | none => some (c, .desc p false))
        else
          let b := k.turn % max c.z 1
          if c.blocks.contains b ∧ k.syms < c.ceiling then some (c, .symbol p b (Tbl.get 0 k.esi b)) else none
/-- A descriptor's 48 octets (R214); KEEP_UNTIL is free. -/
def State.campDesc (s : State) (c : Campaign) (final : Bool) : List Byte × State :=
  let x := s.img c.slot
  let u := s.fresh
  let timed := x.field 5 1 == 1
  (le 4 c.len ++ le 2 c.t ++ le 1 c.z ++ le 1 (b2n final + 2 * b2n timed) ++ le 4 (x.field 8 4) ++ le 4 (x.field 12 4)
    ++ le 8 (if timed then c.actT else 0) ++ le 8 (twos 64 (c.winClose.getD 0)) ++ le 8 u.1 ++ zeros 8, u.2)
/-- The payload of a campaign frame: class IMAGE, subtype BLOCK (R161). -/
def State.campPayload (s : State) (c : Campaign) (f : CampFrame) : List Byte × State :=
  match f with
  | .desc _ final =>
    let d := s.campDesc c final
    (le 1 0x07 ++ le 1 0 ++ le 2 c.id ++ le 1 0xFF ++ le 3 0 ++ d.1, d.2)
  | .symbol _ sbn esi =>
    (le 1 0x07 ++ le 1 0 ++ le 2 c.id ++ le 1 sbn ++ le 3 esi
      ++ fitBytes c.t (Config.symbol (s.img c.slot).data c.t sbn esi), s)
/-- Octets of that payload. -/
def Campaign.payloadLen (c : Campaign) : CampFrame → Nat
  | .desc _ _ => 56
  | .symbol _ _ _ => 8 + c.t
/-- A campaign frame starts: its counts, and its ESI is used (R213, R228). -/
def State.campSent (s : State) (c : Campaign) (y n : Nat) (f : CampFrame) : State :=
  match f with
  | .desc _ true => (s.modCamp c.id (fun c => c.setYard { c.yard y with final := none })).campIdle c.id
  | .desc _ false => s.modCamp c.id (fun c => c.setYard { c.yard y with descs := (c.yard y).descs + 1, descLast := some n })
  | .symbol _ sbn esi =>
    (s.modCamp c.id (fun c => { c.setYard { c.yard y with
      syms := (c.yard y).syms + 1, turn := (c.yard y).turn + 1, esi := Tbl.put 0 (c.yard y).esi sbn (esi + 1) } with
        symbols := c.symbols + 1 })).bump .FLT_SYMS F.word
/-- A symbol fails the encoder's parity check: it is not sent, and the yard goes on with the block's next ESI (R213). -/
def State.campSkip (s : State) (c : Campaign) (y sbn esi : Nat) : State :=
  (s.modCamp c.id (fun c => c.setYard { c.yard y with esi := Tbl.put 0 (c.yard y).esi sbn (esi + 1) })).bumpSat
    .FLT_ENC_STAT F.FLT_ENC_STAT_PERR
/-- At a superframe boundary of a yard, its closing superframe's reports handled: a step whose stalls have all reported, or whose symbols are all sent, ends (R219). -/
def State.campBoundary (s : State) (y : Nat) : State :=
  match s.flt.camps.find? (fun c => c.state == cSENDING) with
  | none => s
  | some c =>
    let k := c.yard y
    match k.steps with
    | [] => s
    | p :: rest =>
      if k.final = none ∧ (s.stepWaits c y p = false ∨ c.ceiling ≤ k.syms) then
        (s.modCamp c.id (fun c => { c.setYard { k with steps := rest, descs := 0, descLast := none, syms := 0, final := some p } with
          steps := c.steps + 1 })).persistCamps
      else s

/-! ## Reports (R220) -/

/-- The step that the plan gave a stall has ended, or the night has. -/
def Campaign.stepOver (c : Campaign) (i : Nat) : Bool :=
  let p := Tbl.get 0 c.plan i
  p != 0 && !(c.yard (yardOf i)).steps.contains (p - 1)
/-- An accepted IMAGE REPORT of a stall is handled (R220). -/
def State.imageReport (s : State) (r : Rx) (i : Nat) : State :=
  if r.sub ≠ 1 then s
  else
    match s.camp? (r.num 1 2) with
    | none => s
    | some c =>
      let t := s.bump .FLT_RPTS F.word
      let old := Tbl.get 0 c.status i
      let put (u : State) (st : Nat) : State := u.modCamp c.id (fun c => { c with status := Tbl.put 0 c.status i st })
      match r.num 3 1 with
      | 0 => if old = 3 then t else put t 2
      | 1 => if c.stepOver i then put t 5 else t
      | 2 => (put t 4).campEvent c 0x0605 0 [c.id, i]
      | 3 => put t 3
      | _ => t
/-- IMAGE_REPORT (R220). -/
def execImageReport (s : State) : Host.Outcome State Fault Refusal :=
  quiet (fun s => s.upRow (isUp 0x07) (fun t r i => t.imageReport r i)) s
/-- The accepted reports of a yard whose frames began before its boundary are handled (R219, R227). -/
def State.imageReports (s : State) (y at_ : Nat) : State :=
  (s.air.accepted.filter (fun r => r.yard == y && isUp 0x07 r && decide (r.frame.sfd < at_))).foldl (fun t r => t.handleUp r State.imageReport) s

/-! ## Progress (R228) -/

/-- A CAMPAIGN_READ of one record. -/
def State.campRead (s : State) (did : Nat) (mine : Nat → Bool) (body : State → Desc → Campaign → State) : State :=
  s.operation did 0x32 (fun d => mine (d.pByte 0)) (fun s d =>
    match s.camp? d.target with
    | none => s.fail d stERR_ARG
    | some c => if d.len = 0 ∨ 1 < d.pByte 0 then s.fail d stERR_ARG else body s d c)
/-- CAMPAIGN_READ SUMMARY; a record that R228 does not list completes here with ERR_ARG. -/
def execCampaignReadSummary (did : Nat) (s : State) : Host.Outcome State Fault Refusal :=
  quiet (fun s => s.campRead did (fun a => a == 0 || decide (1 < a)) (fun s d c =>
    if d.pZero 1 32 = false then s.fail d stERR_ARG
    else
      let counted := (c.status.filter (fun q => q.2 != 0)).length
      let counts := (le 4 (nStalls - counted)) ++ ((List.range 8).map (fun k => le 4 (c.count (k + 1)))).flatten
      let b := le 2 c.id ++ le 1 c.state ++ le 1 c.night ++ counts ++ le 8 c.symbols
        ++ le 4 c.kt ++ le 4 c.steps ++ zeros 8
      s.okData d b (min 64 d.len))) s
/-- CAMPAIGN_READ MAP. -/
def execCampaignReadMap (did : Nat) (s : State) : Host.Outcome State Fault Refusal :=
  quiet (fun s => s.campRead did (fun a => a == 1) (fun s d c =>
    let first := d.pNum 4 4
    let count := d.pNum 8 4
    if d.pZero 1 4 = false ∨ d.pZero 12 32 = false ∨ count = 0 ∨ nStalls < count ∨ nStalls < first + count then
      s.fail d stERR_ARG
    else
      let at_ (i : Nat) : Nat := if i < first + count then Tbl.get 0 c.status i else 0
      let b := (List.range ((count + 1) / 2)).map (fun k =>
        BitVec.ofNat 8 (at_ (first + 2 * k) + 16 * at_ (first + 2 * k + 1)))
      s.okData d b (min b.length d.len))) s

end Sys2Proof.Machine
end

