-- ==== Sys2Proof/Machine/Downlink.lean ====
section
/-! DEFINITION. Sys2Proof/Machine/Downlink.lean: what the module sends: superframes and beacons, downlink runs, timed frames,
answers, the transmit arbiter, and the duty ledger's rows (R93 to R107, R124 to R150). -/
namespace Sys2Proof.Machine

def State.seq (s : State) (y : Nat) : SeqY := Tbl.get SeqY.reset s.air.seqs y
def State.setSeq (s : State) (y : Nat) (q : SeqY) : State :=
  { s with air := { s.air with seqs := Tbl.put SeqY.reset s.air.seqs y q } }
/-- A yard may put a frame on the air now: it transmits (R75), the unit may emit, and keys can be formed. -/
def State.yardSends (s : State) (y : Nat) : Bool := s.yardTx y && s.mayEmit && s.keyed && !(s.seq y).wait

/-- Change one request of the arbiter's. -/
def State.modReq (s : State) (id : Nat) (f : TxReq → TxReq) : State :=
  { s with air := { s.air with reqs := s.air.reqs.map (fun r => if r.id == id then f r else r) } }

/-! ## Holding (R102, R568) -/

/-- A frame or item is held for the first time: a launch-timed one goes late (R102, R104). (DEDUCED, log 35) -/
def State.noteHeld (s : State) (y : Nat) (did : Option Nat) : State :=
  let t := (s.bump (.YRD_DEFER y) F.word).setSf (.YRD_EVT y) F.YRD_EVT_DEFER 1
  match did with
  | some d => (t.deferDesc d).updDesc d (fun x => { x with late := x.late || x.launch })
  | none => t
/-- The descriptor that a schedule's distribution, or a scene's delivery, is for (R47, R181, R185). -/
def State.runDid (s : State) (r : Nat) : Option Nat := (s.seg.runs.find? (fun x => x.id == r)).bind (fun x => x.did)
def State.itemDid (s : State) (it : Item) : Option Nat := it.did.or (it.run.bind s.runDid)
def State.jobDid (s : State) (j : Job) : Option Nat :=
  match j.kind with
  | .schedule r => s.runDid r
  | .scene c => (s.seg.scenes.find? (fun x => x.id == c)).bind (fun x => x.loadDid)
  | _ => j.did
/-- An item is held in an account: as the frame that would carry it, or for an answer that was refused (R568). -/
def State.holdItem (s : State) (it : Item) (acct : Nat) (frame : Bool) : State :=
  let t := s.modItem it.id (fun t => { t with held := some (acct, b2n frame) })
  match it.held with
  | some h => if frame = true ∧ h.2 = 0 then t else s
  | none => t.noteHeld (yardOf it.stall) (s.itemDid it)
/-- A yard's frame of a job is held. -/
def State.holdJob (s : State) (j : Job) (y acct : Nat) : State :=
  if j.yards.any (fun k => k.yard == y && k.held.isSome) then s
  else
    let g (k : JobYard) : JobYard := if k.yard = y then { k with held := some (acct, 1) } else k
    (s.modJob j.id (fun j => { j with yards := j.yards.map g })).noteHeld y (s.jobDid j)
/-- Frames held in an account (R107). (DEDUCED, log 35) -/
def State.heldIn (s : State) (acct : Nat) : Nat :=
  (s.seg.items.filter (fun t => t.held.any (fun h => h.1 == acct))).length
    + (s.seg.jobs.flatMap (fun j => j.yards.filter (fun k => k.held.any (fun h => h.1 == acct)))).length
    + (s.air.reqs.filter (fun r => r.heldBy == some acct)).length

/-! ## Counters (R132, R134, R135) -/

/-- The last downlink FC of a stall that its ordinary frames use: those from 0xFFFF0000 on are the renewal's (R134). -/
def fcLimit : Nat := 0xFFFEFFFF
/-- A downlink counter reaches its limit: the stall's key is renewed (R134, R198). -/
def State.limitStall (s : State) (i : Nat) : State :=
  (s.event 6 (yardOf i) 0x0406 2 [i]).renewKey i
/-- The entry is persisted at once when its counter has advanced by 32,768 (R135). -/
def State.saveStall (s : State) (i : Nat) : State :=
  let x := s.stall i
  if x.fcSaved + 32768 ≤ x.fcDown then
    let y := { x with fcSaved := x.fcDown }
    let t := s.setStall i y
    { t with nvseg := { t.nvseg with stalls := Tbl.put Stall.none t.nvseg.stalls i y } }
  else s
/-- The next downlink FC of a stall. -/
def State.useFc (s : State) (i : Nat) : Nat × State :=
  let fc := (s.stall i).fcDown + 1
  let t := (s.modStall i (fun x => { x with fcDown := fc })).saveStall i
  (fc, if fc = fcLimit then t.limitStall i else t)
/-- A paddock's counter has reached its end (R134). -/
def State.padBlocked (s : State) (p : Nat) : Bool := decide (0xFFFF0000 ≤ (s.pad p).fc)
/-- The next FC of a paddock (R134, R135). -/
def State.usePadFc (s : State) (p : Nat) : Nat × State :=
  let fc := (s.pad p).fc + 1
  let t := s.modPad p (fun x => { x with fc := fc })
  let x := t.pad p
  let t1 : State := if x.fcSaved + 32768 ≤ fc then
      let y := { x with fcSaved := fc }
      let u := t.setPad p y
      { u with nvseg := { u.nvseg with pads := Tbl.put Paddock.none u.nvseg.pads p y } }
    else t
  let t2 : State := if fc = 0xF0000000 then
      let u := t1.event 11 0 0x0406 2 [p]
      if u.roll.phase = 0 then u.rollOpen else u
    else t1
  (fc, t2)

/-! ## Frames to a stall (R142, R144, R161, R162) -/

/-- The handle of the key under which frames to a stall leave, and the low octet of its epoch (R136, R200). -/
def State.sendKey (s : State) (i : Nat) : Nat × Nat :=
  let x := s.stall i
  if x.nextHeld then (x.keyNext, s.nextEpoch8) else (x.key, x.epoch)
/-- The shed forms the key under which frames to a stall leave (R379). -/
def State.sendable (s : State) (i : Nat) : Bool := s.forms (s.sendKey i).1 (s.sendKey i).2
/-- The system address of a stall (R2). -/
def State.addr (s : State) (i : Nat) : Nat := s.segid * 2 ^ 18 + i
/-- The chain of parents by which frames reach a stall beyond the first hop, nearest first (R162); no longer than its hop count. -/
def State.parents (s : State) : Nat → Nat → List Nat
  | 0, _ => []
  | k + 1, i =>
    let x := s.stall i
    if 1 < x.hops ∧ x.parent < nStalls then x.parent :: s.parents k x.parent else []
/-- The stall to which the frames for a stall go: its first-hop ancestor (R162). -/
def State.firstHop (s : State) (i : Nat) : Nat := (s.parents (s.stall i).hops i).getLastD i
/-- A key wrapped under another (RFC 3394): 24 octets. -/
def wrapKey (k1 k2 : Nat) : List Byte := fitBytes 24 (Config.keyWrap k1 k2)
/-- The message of an item: class and body. -/
def State.itemMsg (s : State) (it : Item) : List Byte :=
  let x := s.stall it.stall
  let k := s.stallKey it.stall (s.sendKey it.stall).1 (s.sendKey it.stall).2
  match it.kind with
  | .msg => le 1 it.cls ++ it.body
  | .keyPad p e =>
    let q := s.pad p
    le 1 0x09 ++ le 1 0 ++ le 2 p ++ le 1 e ++ wrapKey k (s.padKey p (if e = q.epoch then q.key else q.keyNext) e)
  | .keyStall e => le 1 0x09 ++ le 1 1 ++ le 1 e
    ++ wrapKey k (s.stallKey it.stall (if it.kind = s.renewKind it.stall then x.renew else x.keyNext) e)
  | .relayed => le 1 0x14 ++ it.body
/-- Octets of that message. -/
def Item.msgLen (it : Item) : Nat :=
  match it.kind with
  | .msg => 1 + it.body.length
  | .keyPad _ _ => 29
  | .keyStall _ => 27
  | .relayed => 1 + it.body.length
/-- Octets of the message as the first hop carries it: each RELAY adds its class and a DOWN frame's header and MIC. (DEDUCED, log 42) -/
def State.hopLen (s : State) (it : Item) : Nat := 19 * (s.parents (s.stall it.stall).hops it.stall).length + it.msgLen
/-- A frame of a key is secured: the key enters the cache or is used there (R14). -/
def State.useKey (s : State) (kind id handle : Nat) : State :=
  if kind ≠ 2 ∧ handle = 0 then s else s.touchKey { kind := kind, id := id, handle := handle }
/-- A frame to a stall without its FCS, its FC, and the state that has used both. -/
def State.stallFrame (s : State) (i typ : Nat) (ar pend : Bool) (msg : List Byte) : Nat × List Byte × State :=
  let f := s.useFc i
  let k := f.2.sendKey i
  (f.1, secured (s.stallKey i k.1 k.2) typ ar pend (bit k.2 0) (s.addr i) 0 f.1 6 msg, f.2.useKey 0 i k.1)
/-- A message on its way to the first hop: a DOWN frame of each stall beyond it, in a RELAY message to its parent (R162). (DEDUCED, log 42) -/
def State.wrapHops (s : State) (i : Nat) (ar : Bool) (msg : List Byte) : List Nat → List Byte × State
  | [] => (msg, s)
  | p :: t =>
    let f := s.stallFrame i tyDOWN ar false msg
    f.2.2.wrapHops p false (le 1 0x14 ++ f.2.1) t
/-- The message as the first hop carries it: wrapped in RELAY beyond the first hop, in a DOWN frame of the stall's own
(R162); with the FC used for the stall, where that is settled here. (DEDUCED, log 42) -/
def State.hopMsg (s : State) (it : Item) : List Byte × Option Nat × State :=
  let m := s.itemMsg it
  let hops := s.parents (s.stall it.stall).hops it.stall
  let w := s.wrapHops it.stall it.ackReq m hops
  (w.1, if hops = [] then none else some ((s.stall it.stall).fcDown + 1), w.2)

/-- The counter of a stall has reached its limit (R134). -/
def State.atLimit (s : State) (i : Nat) : Bool := decide (fcLimit ≤ (s.stall i).fcDown)
/-- An item may leave now: not under way, its launch time passed, and only the renewal's item at the counter's limit, of its
stall or of a parent that would relay it (R134, R145). -/
def State.itemReady (s : State) (it : Item) : Bool :=
  let x := s.stall it.stall
  !it.busy && it.ackDue.isNone && decide (it.from_ ≤ s.outputTime)
    && (match it.did with
      | some d => (match s.desc? d with
        | some e => e.stage != .launchWait && e.stage != .armed
        | none => true)
      | none => true)
    && (!s.atLimit it.stall || it.kind == s.renewKind it.stall) && s.sendable it.stall
    && (s.parents x.hops it.stall).all (fun p => !s.atLimit p && s.sendable p)
/-- Items for a first hop, keys first, in the order queued (R145, R177). -/
def State.queueOf (s : State) (p : Nat) : List Item :=
  let l := s.seg.items.filter (fun t => s.firstHop t.stall == p)
  l.filter (fun t => t.kind != .msg && t.kind != .relayed) ++ l.filter (fun t => t.kind == .msg || t.kind == .relayed)
/-- Of each stall the first item that may leave, in the order of the queue: items to one stall leave in the order queued (R145). -/
def stallHeads : List Nat → List Item → List Item
  | _, [] => []
  | seen, t :: l => if seen.contains t.stall then stallHeads seen l else t :: stallHeads (t.stall :: seen) l
def State.headsOf (s : State) (p : Nat) : List Item := stallHeads [] ((s.queueOf p).filter s.itemReady)
/-- The item that an answer to a stall carries; `timed` where a TIMED item may be it (R142, R145). -/
def State.answerItem (s : State) (p : Nat) (timed : Bool) : Option Item :=
  (s.headsOf p).find? (fun t => t.deliv != 2 || timed || (s.stall p).wakeEvery == 0)
/-- The item that a timed frame to a stall carries (R145). -/
def State.timedItem (s : State) (p : Nat) : Option Item := (s.headsOf p).find? (fun t => decide (t.deliv ≠ 1))
/-- More items remain for a stall beside one (PEND). -/
def State.moreItems (s : State) (p : Nat) (but : Option Nat) : Bool :=
  (s.queueOf p).any (fun t => some t.id != but)

/-- An item goes out in a frame: its counts, and its frame for retries (R144). -/
def State.itemSent (s : State) (it : Item) (fc : Nat) (psdu : List Byte) : State :=
  let t := match it.did with
    | some d => if it.sent = 0 then s.beginDesc d else s
    | none => s
  t.modItem it.id (fun x => { x with busy := true, sent := x.sent + 1, fc := some (x.fc.getD fc), psdu := psdu, held := none })

/-! ## Group jobs (R148, R164, R185) -/

/-- A yard of a job is due for a frame in superframe `n`. -/
def State.jobReady (s : State) (j : Job) (y n : Nat) : Bool :=
  j.yards.any (fun k => k.yard == y && decide (k.sent < j.repeats) && (match k.last with
    | some l => decide (l + s.spacing y j.pad ≤ n)
    | none => true))
    && decide (j.from_ ≤ s.outputTime) && s.forms (s.pad j.pad).key (s.pad j.pad).epoch && !s.padBlocked j.pad
    && (match j.cut with
      | some c => decide (s.outputTime < c)
      | none => true)
    && (match j.did with
      | some d => (match s.desc? d with
        | some e => e.stage != .launchWait && e.stage != .armed
        | none => true)
      | none => true)
/-- Scene deliveries and cancel frames are reserved-class (R101, R185, R188). -/
def Job.reserved (j : Job) : Bool :=
  match j.kind with
  | .scene _ => true
  | .cancel _ => true
  | _ => false
/-- Octets of a job's PSDU in a yard. -/
def State.jobLen (s : State) (j : Job) (y : Nat) : Nat := s.psduLen y (1 + j.body.length)
/-- A job's frame (R129): the same FC in every yard and repeat. -/
def State.jobFrame (s : State) (j : Job) (y : Nat) : List Byte × State :=
  let f := match j.fc with
    | some fc => (fc, s)
    | none => s.usePadFc j.pad
  let q := f.2.pad j.pad
  let b := secured (s.padKey j.pad q.key q.epoch) tyGROUP false false (bit q.epoch 0) (s.segid * 2 ^ 18 + j.pad) 0 f.1 6 (le 1 j.cls ++ j.body)
  (s.withFcs y b, (f.2.useKey 1 j.pad q.key).modJob j.id (fun x => { x with fc := some f.1 }))
/-- A job whose frames have all been sent completes (R164, R181, R185). -/
def State.checkJob (s : State) (id : Nat) : State :=
  match s.job? id with
  | none => s
  | some j =>
    if j.yards.all (fun k => decide (j.repeats ≤ k.sent)) then
      match j.kind with
      | .group => (s.dropJob id).endDid j.did stOK 0 (jobResult (yardMask j.served) j.fewest)
      | .schedule r => (s.dropJob id).checkRun r
      | .scene c => s.endDelivery c
      | .cancel _ => s.dropJob id
    else s

/-- An ordinary frame would overtake one that its account holds and that was submitted before it; `own` is its item's or job's
number, which rises in order of submission, and none of a campaign's frame (R102). (DEDUCED, log 35) -/
def State.overtakes (s : State) (chain chan mode : Nat) (own : Option Nat) : Bool :=
  match s.subBandOf (chain / 2) chan mode with
  | none => false
  | some b =>
    let before (id : Nat) (h : Option (Nat × Nat)) : Bool :=
      h.any (fun p => p.1 == s.account chain b.num && p.2 == 1) && own.all (fun o => decide (id < o))
    s.seg.items.any (fun t => before t.id t.held)
      || s.seg.jobs.any (fun j => !j.reserved && j.yards.any (fun k => before j.id k.held))

/-! ## A boundary is judged (R156, R219) -/

/-- RTC ticks at a raw count that has passed. -/
def State.tickAt (s : State) (raw : Nat) : Nat := s.newt.tick - (s.tsu.raw - raw) * 128 / 1953125
/-- A stall whose third expected poll window has closed at the boundary `at_`, where superframe `n` began, becomes ADRIFT; a doze
end that had passed then is noted (R155, R156). -/
def State.judgeStall (s : State) (n at_ i : Nat) : State :=
  let x := s.stall i
  if x.state = sACTIVE then (if x.lastSf + 3 * x.p < n then s.enterAdrift i at_ else s)
  else if x.state = sDOZING then
    match x.dozeSf with
    | some d => if d + 3 * x.p < n then s.enterAdrift i at_ else s
    | none => if x.dozeEnd * 65536 ≤ s.tickAt at_ then s.modStall i (fun x => { x with dozeSf := some (n - 1) }) else s
  else s
/-- A yard's last boundary is judged, its closed superframe handled: a campaign's step may end there (R219), and the stalls whose
poll windows closed there may be ADRIFT (R156). -/
def State.judgeYard (s : State) (y : Nat) : State :=
  match (s.seq y).judge with
  | none => s
  | some (n, at_) =>
    let t := ((s.setSeq y { s.seq y with judge := none }).imageReports y at_).campBoundary y
    (t.liveStalls.filter (fun i => yardOf i == y)).foldl (fun u i => u.judgeStall n at_ i) t
/-- Ticks after its SFD within which any frame has ended: the longest PSDU behind its PHR, coded, in the slowest mode (R70, R71). -/
def longestT : Nat := octetsT 0 (2 * (2 + 2047))
/-- Every frame whose SFD lies before a yard's boundary has been handled: none can still be on its way, nor waits for its key
(R156). (DESIGN CHOICE, log 176) -/
def State.judgeDue (s : State) (y : Nat) : Bool :=
  match (s.seq y).judge with
  | none => false
  | some (_, at_) => decide (at_ + longestT ≤ s.tsu.raw) && s.air.waiting.all (fun r => r.yard != y || decide (at_ ≤ r.frame.sfd))
/-- The yards whose closed superframe has been handled are judged. -/
def State.judge (s : State) : State := ((List.range 16).filter s.judgeDue).foldl State.judgeYard s

/-! ## A run of DOWNLINK slots (R127) -/

/-- A yard has a frame of its run on the air or asked for. -/
def State.runBusy (s : State) (y : Nat) : Bool :=
  let k (t : TxKind) : Bool := match t with
    | .job _ => true
    | .image _ => true
    | .item _ => true
    | _ => false
  s.air.reqs.any (fun r => r.yard == y && k r.kind) || s.onAir.any (fun c => c.yard == y && k c.kind)

/-- A request for the yard's downlink channel. -/
def State.dlReq (s : State) (y : Nat) (kind : TxKind) (len : Nat) (endBy : Int) : TxReq :=
  let q := s.seq y
  { id := 0, kind := kind, yard := y, yards := 2 ^ y, chain := s.yardChain y, chan := q.dlChan, mode := q.dlMode, len := len
    latest := none, endBy := some endBy, waited := false, heldBy := none, words := 0, queued := true }

/-- Offer the jobs of a list in turn: the first that fits and is admitted asks for its chain; a refused one is held and, for
ordinary frames, ends the list (R101, R102, R127). The Bool tells whether anything asked or stopped it. -/
def State.offerJobs (s : State) (y : Nat) (stop : Int) (ordinary : Bool) : List Job → State × Bool
  | [] => (s, false)
  | j :: t =>
    let q := s.seq y
    let dur := s.airT y q.dlMode (s.jobLen j y)
    let endBy := match j.cut with
      | some c => min c stop
      | none => stop
    if endBy < s.outputTime + dur then State.offerJobs s y stop ordinary t
    else if ordinary = true ∧ s.overtakes (s.yardChain y) q.dlChan q.dlMode (some j.id) = true then (s, true)
    else
      match s.admission (s.yardChain y) q.dlChan q.dlMode dur (if ordinary then .ordinary else .reserved) 0 with
      | .yes => (s.ask (s.dlReq y (.job j.id) (s.jobLen j y) endBy), true)
      | .held a _ => if ordinary then (s.holdJob j y a, true) else State.offerJobs (s.holdJob j y a) y stop ordinary t
      | .outside => State.offerJobs s y stop ordinary t

/-- A campaign frame is offered in a run; none during an activation pause (R219, R222, R223, R225). -/
def State.offerImage (s : State) (y : Nat) (stop : Int) : State :=
  let q := s.seq y
  match s.campNext y q.n with
  | none => s
  | some (c, f) =>
    let len := s.psduLen y (c.payloadLen f)
    let dur := s.airT y q.dlMode len
    let endBy := match c.winClose with
      | some w => min w stop
      | none => stop
    if s.paused = true ∨ q.ann.contains f.pad = false ∨ endBy < s.outputTime + dur ∨ s.forms (s.pad f.pad).key (s.pad f.pad).epoch = false ∨ s.padBlocked f.pad = true
        ∨ s.overtakes (s.yardChain y) q.dlChan q.dlMode none = true then s
    else
      match s.admission (s.yardChain y) q.dlChan q.dlMode dur (.campaign c.id) c.share with
      | .yes => s.ask (s.dlReq y (.image c.id) len endBy)
      | _ => s

/-- The next frame of the run under way in a yard is offered, in class order (R93, R127). -/
def State.offer (s : State) (y : Nat) : State :=
  let q := s.seq y
  match q.runEnd with
  | none => s
  | some stop =>
    if s.outputTime < stop ∧ s.yardSends y = true ∧ s.runBusy y = false then
      let due := s.seg.jobs.filter (fun j => q.ann.contains j.pad && s.jobReady j y q.n)
      let r := s.offerJobs y stop false (due.filter (fun j => j.reserved))
      if r.2 then r.1
      else
        let o := r.1.offerJobs y stop true (due.filter (fun j => !j.reserved))
        if o.2 then o.1 else o.1.offerImage y stop
    else s

/-- DOWNLINK_RUN: the next run of DOWNLINK slots of the superframe begins, once the beacon has ended (R127). -/
def execDownlinkRun (y : Nat) (s : State) : Host.Outcome State Fault Refusal :=
  quiet (fun s =>
    let q := s.seq y
    if q.started = false ∨ s.yardLive y = false ∨ s.serving = false then s
    else
      let stopOf (r : Nat × Nat) : Int := q.start + (r.1 + r.2 : Nat) * s.slotT
      match (s.runs y).find? (fun r => decide (max s.outputTime q.beaconEnd < stopOf r ∧ q.runEnd.getD q.start < stopOf r)) with
      | none => s
      | some r =>
        let t := (s.elapseOut (max (q.start + r.1 * s.slotT) q.beaconEnd)).judge
        (t.setSeq y { t.seq y with runEnd := some (stopOf r) }).offer y) s

/-! ## Beacons (R103, R125, R137, R138) -/

/-- A beacon is skipped (R103, R150): what it would have announced is not sent in this superframe. -/
def State.skipBeacon (s : State) (y sb : Nat) : State :=
  let t := ((s.bump (.YRD_BSKIP y) F.word).setSf (.YRD_EVT y) F.YRD_EVT_BSKIP 1).event 6 y 0x0307 2 [y, s.yardChain y, sb]
  t.setSeq y { t.seq y with ann := [] }
/-- Octets of a set-bit list: bit i of byte i / 8. -/
def bitBytes (n : Nat) (l : List Nat) : List Byte := le n ((l.eraseDups.map (fun k => 2 ^ k)).foldl (· + ·) 0)
/-- The summary bits of the announced paddocks, ascending (R137). -/
def annGroups (ann : List Nat) : List Nat := isort (fun k => k) ((ann.map (fun p => p / 64)).eraseDups)
/-- The stalls of the poll schedule with their slots (R138). -/
def State.polls (s : State) (y n : Nat) : List (Nat × Nat) :=
  let hears (i : Nat) : Bool := yardOf i == y && (s.stall i).live && n % max (s.stall i).listen 1 == placeOf i % max (s.stall i).listen 1
  let stalls := ((s.seg.items.filter s.itemReady).map (fun t => s.firstHop t.stall)).eraseDups.filter hears
  let slots := (List.range 256).filter (fun k => (s.slots y).getD k 0 == slUPLINK)
  (List.zip slots stalls).take 16
/-- Octets of a beacon's payload. -/
def State.beaconLen (s : State) (y n : Nat) (ann : List Nat) : Nat :=
  let g := (annGroups ann).length
  29 + (if 8 < g then 0 else 8 * g) + 3 * (s.polls y n).length + (if n % 8 = 0 then 64 else 0)
/-- The payload of a beacon that starts now (R137). -/
def State.beaconPayload (s : State) (y mode : Nat) : List Byte :=
  let q := s.seq y
  let g := annGroups q.ann
  let all := decide (8 < g.length)
  let polls := s.polls y q.n
  let full := q.n % 8 == 0
  let leaf (k : Nat) : List Byte := bitBytes 8 ((q.ann.filter (fun p => p / 64 == k)).map (fun p => p % 64))
  le 2 (s.cf .YRD_MAC_CFG F.YRD_MAC_CFG_BO + 8 * b2n full + 16 * b2n all + 32 * b2n q.roll + 256 * 2)
    ++ le 4 (s.sf .TWN_CLAIM F.word) ++ le 8 (twos 64 (s.outputTime + s.sfdT y mode))
    ++ le 1 (s.sf .TSU_STAT F.TSU_STAT_SYNCED + 2 * s.act + 4 * s.sf .TSU_STAT F.TSU_STAT_HOLDOVER)
    ++ le 1 s.utcOff ++ le 2 (twos 16 s.localOff) ++ le 2 (q.dlChan + 256 * q.dlMode) ++ bitBytes 8 g
    ++ le 1 polls.length ++ (if all then [] else (g.map leaf).flatten)
    ++ (polls.map (fun p => le 3 (p.1 + 256 * placeOf p.2))).flatten
    ++ (if full then le 64 (((s.slots y).zipIdx.map (fun c => c.1 * 4 ^ c.2)).foldl (· + ·) 0) else [])

/-- The timed frames that a superframe of a yard plans: the items, in stalls that wake in it (R145, R146). -/
def State.timedPlan (s : State) (y n : Nat) : List Item :=
  let stalls := ((s.seg.items.filter s.itemReady).map (fun t => s.firstHop t.stall)).eraseDups
  (stalls.filter (fun i => yardOf i == y && (s.stall i).live && (s.stall i).timed
    && n % max (s.stall i).wakeEvery 1 == (s.stall i).wakePhase)).filterMap s.timedItem
/-- The ticks that the frames planned for a superframe's DOWNLINK slots take in a mode (R149): group frames, one campaign frame,
and timed frames. (DEDUCED, log 36) -/
def State.plannedT (s : State) (y n : Nat) (jobs : List Job) (m : Nat) : Nat :=
  (jobs.map (fun j => s.airT y m (s.jobLen j y))).foldl (· + ·) 0
    + ((s.campNext y n).map (fun c => s.airT y m (s.psduLen y (c.1.payloadLen c.2)))).getD 0
    + ((s.timedPlan y n).map (fun t => s.airT y m (s.psduLen y (s.hopLen t)))).foldl (· + ·) 0

/-- The number that a yard takes at the superframe of whole number `k` (R125). -/
def State.nextN (s : State) (y : Nat) (k : Int) : Nat :=
  let q := s.seq y
  let saved := Tbl.get 0 s.nvseg.yardN y
  let prev : Int :=
    if q.takeover ∧ q.fcRx ≠ 0 then (q.fcRx : Int) - 1 + 16
    else if q.started then q.n
    else if saved ≠ 0 then (saved : Int) - 1 + 4096
    else k - 1
  (max k (prev + 1)).toNat

/-- SUPERFRAME_START (R124, R125, R156, R217, R219): the yard takes its number, the boundary is to be judged, a campaign may go on
in its open window, and the beacon asks for its chain. -/
def execSuperframeStart (y : Nat) (s : State) : Host.Outcome State Fault Refusal :=
  quiet (fun s =>
    if s.yardLive y = false ∨ s.serving = false then s
    else
      let q := s.seq y
      let now := s.outputTime
      let k0 := s.sfAt y now
      let k := if s.sfStart y k0 = now ∧ ¬(q.started = true ∧ q.start = now) then k0 else k0 + 1
      let t := ((s.elapseOut (s.sfStart y k)).judgeYard y).rollBoundary
      let n := t.nextN y k
      let t := (t.setSf (.YRD_SFNUM y) F.word n).setSeq y
        { q with n := n, prev := q.n, started := true, start := t.sfStart y k, startRaw := t.tsu.raw, beaconEnd := t.sfStart y k
                 ann := [], runEnd := none, takeover := false, wait := false, roll := t.rolling
                 judge := if q.started then some (n, t.tsu.raw) else none }
      let t := t.campAgain
      let jobs := t.seg.jobs.filter (fun j => t.jobReady j y n)
      let camp := ((t.campNext y n).map (fun c => c.2.pad)).toList
      let ann := ((jobs.map (fun j => j.pad)) ++ camp).eraseDups
      let dl := t.dlChoice y n (t.plannedT y n jobs)
      let t := t.setSeq y { t.seq y with ann := ann, dlChan := (dl.map (fun e => e.chan)).getD 0
                                         dlMode := (dl.map (fun e => e.mode)).getD 0 }
      match t.beaconEntry y with
      | none => t
      | some b =>
        if t.yardTx y = false ∨ t.keyed = false ∨ t.forms (t.pad 0).key (t.pad 0).epoch = false then t.setSeq y { t.seq y with ann := [] }
        else if t.mayEmit = false then t.skipBeacon y 0xFF
        else
          let len := t.psduLen y (t.beaconLen y n ann)
          match t.admission (t.yardChain y) b.chan b.mode (t.airT y b.mode len) .reserved 0 with
          | .yes =>
            t.ask { id := 0, kind := .beacon, yard := y, yards := 2 ^ y, chain := t.yardChain y, chan := b.chan, mode := b.mode
                    len := len, latest := some (t.tsu.raw + msT), endBy := none, waited := false, heldBy := none, words := 0, queued := true }
          | .held a _ => t.skipBeacon y (a % 8)
          | .outside => t.skipBeacon y 0xFF) s

/-- BEACON_SKIP: 1 ms after the superframe's start the beacon has not started (R150). -/
def execBeaconSkip (y : Nat) (s : State) : Host.Outcome State Fault Refusal :=
  quiet (fun s =>
    match s.air.reqs.find? (fun r => r.kind == .beacon && r.yard == y) with
    | some r => (((s.elapseTo (r.latest.getD 0)).unask r.id).skipBeacon y 0xFF)
    | none => s) s

/-! ## Timed frames (R145, R147) -/

/-- The ticks beyond BASE_WIN that a stall's window would have, in 10^-6 ticks. -/
def Stall.drift6 (x : Stall) (dt : Int) : Int := 2 * (x.tol + 5 : Nat) * dt
/-- TIMED_FRAME: a stall's wake in the superframe under way. -/
def execTimedFrame (stall : Nat) (s : State) : Host.Outcome State Fault Refusal :=
  quiet (fun s =>
    let y := yardOf stall
    let q := s.seq y
    let x := s.stall stall
    let m := q.dlMode
    let tx := q.start + x.wakeSlot * s.slotT + 32 * msT
    let from_ := tx - s.sfdT y m
    if q.started = false ∨ x.live = false ∨ x.timed = false ∨ q.n % max x.wakeEvery 1 ≠ x.wakePhase ∨ from_ < s.outputTime
        ∨ s.serving = false then s
    else
      let t := s.elapseOut from_
      let base := s.cf .YRD_MAC_CFG F.YRD_MAC_CFG_BASE_WIN * msT
      let w6 := x.drift6 ((t.tsu.raw : Int) + s.sfdT y m - x.syncRaw)
      if (64 * msT - base : Nat) * 1000000 < w6 then
        (t.modStall stall (fun x => { x with stale := true })).event 6 y 0x0407 0
          [stall, ((base * 1000000 + w6) / 500000000).toNat]
      else
        match t.timedItem stall with
        | none => t
        | some it =>
          let len := t.psduLen y (t.hopLen it)
          let dur := t.airT y m len
          let stop := q.start + t.wakeRunEnd stall * t.slotT
          if t.yardSends y = false ∨ stop < t.outputTime + dur ∨ t.overtakes (t.yardChain y) q.dlChan m (some it.id) = true then t
          else
            match t.admission (t.yardChain y) q.dlChan m dur .ordinary 0 with
            | .held a _ => t.holdItem it a true
            | .outside => t
            | .yes => (t.modItem it.id (fun x => { x with busy := true })).ask
                { t.dlReq y (.item it.id) len stop with latest := some t.tsu.raw }) s

/-! ## Answers (R141 to R143) -/

/-- Octets of an answer's payload, with the item it would carry. -/
def State.ansLen (s : State) (a : Ans) : Nat :=
  match a.kind with
  | .answer t => 13 + ((s.answerItem a.stall t).map s.hopLen).getD 0
  | .rejoin r => 14 + r.length
  | .join _ r => 1 + r.length
  | .again p => p.length - 18
/-- An answer is not sent (R143): an item that the duty account refused with it is held. -/
def State.missAnswer (s : State) (a : Ans) (acct : Option Nat) : State :=
  let t := { s with air := { s.air with answers := s.air.answers.filter (fun b => b.id != a.id) } }
  let t := t.bump (.YRD_ANSMISS a.yard) F.word
  match acct, a.kind with
  | some k, .answer timed => (match t.answerItem a.stall timed with
    | some it => t.holdItem it k false
    | none => t)
  | _, _ => t
/-- ANS_SEND: the answer that is due first asks for its chain, or counts as a miss. -/
def execAnsSend (s : State) : Host.Outcome State Fault Refusal :=
  quiet (fun s =>
    match (isort (fun a => a.due) (s.air.answers.filter (fun a => !a.asked))).head? with
    | none => s
    | some a =>
      let t := s.elapseTo a.due
      let ch := t.yardChain a.yard
      if t.yardSends a.yard = false ∨ a.due + 10000 < t.tsu.raw then t.missAnswer a none
      else
        let len := t.psduLen a.yard (t.ansLen a)
        match t.admission ch a.chan a.mode (t.airT a.yard a.mode len) .ordinary 0 with
        | .held k byDuty => t.missAnswer a (if byDuty then some k else none)
        | .outside => t.missAnswer a none
        | .yes =>
          let g (b : Ans) : Ans := if b.id = a.id then { b with asked := true } else b
          let u : State := { t with air := { t.air with answers := t.air.answers.map g } }
          u.ask { id := 0, kind := .answer a.id, yard := a.yard, yards := 2 ^ a.yard, chain := ch, chan := a.chan, mode := a.mode
                  len := len, latest := some (a.due + 10000), endBy := none, waited := false, heldBy := none, words := 0, queued := true }) s

/-- An ANSWER message (class 0x12) of a frame that starts now (R161). -/
def State.answerMsg (s : State) (y mode fc : Nat) : List Byte :=
  le 1 0x12 ++ le 8 (twos 64 (s.outputTime + s.sfdT y mode)) ++ le 4 fc
/-- A fresh ANS frame of a stall with a message behind the ANSWER, without its FCS, its FC and state (R142). -/
def State.ansFrame (s : State) (a : Ans) (ar pend : Bool) (msg : List Byte) : Nat × List Byte × State :=
  s.stallFrame a.stall tyANS ar pend (s.answerMsg a.yard a.mode a.fc ++ msg)
/-- The answer to the frame of the highest accepted counter is remembered for its duplicates (R133). -/
def State.keepAnswer (s : State) (a : Ans) (psdu : List Byte) : State :=
  s.modStall a.stall (fun x => if a.fc = x.ansFc then { x with ansPsdu := psdu, ansAt := a.at_ } else x)
/-- The JOIN RESP to a request, without its FCS, under the join key of its EUI (R151). -/
def State.joinFrame (s : State) (eui fc : Nat) (resp : List Byte) : List Byte × State :=
  let key := ((s.joinRoot eui).map (fun j => Config.joinKey j.key eui)).getD 0
  (secured key tyJOIN false false false (s.segid * 2 ^ 18) eui fc 6 (le 1 0x08 ++ resp), s.useKey 2 eui 0)
/-- The answer to a join request is remembered for its duplicates (R133). -/
def State.keepJoin (s : State) (eui fc at_ : Nat) (psdu : List Byte) : State :=
  { s with seg := { s.seg with
    joinAns := { eui := eui, fc := fc, at_ := at_, psdu := psdu } :: s.seg.joinAns.filter (fun x => x.eui != eui) } }
/-- An answer leaves on its granted chain. -/
def State.sendAnswer (s : State) (a : Ans) (r : TxReq) : State :=
  let t := { s with air := { s.air with answers := s.air.answers.filter (fun b => b.id != a.id) } }
  let go (u : State) (item : Option Nat) (b : List Byte) : State := u.startCarrier r .ordinary item (u.withFcs a.yard b)
  match a.kind with
  | .again p => go t none p
  | .join eui resp =>
    let f := t.joinFrame eui a.fc resp
    go (f.2.keepJoin eui a.fc a.at_ f.1) none f.1
  | .rejoin resp =>
    let f := t.ansFrame a false (t.moreItems a.stall none) (le 1 0x08 ++ resp)
    go (f.2.2.keepAnswer a f.2.1) none f.2.1
  | .answer timed =>
    match t.answerItem a.stall timed with
    | none =>
      let f := t.ansFrame a false (t.moreItems a.stall none) []
      go (f.2.2.keepAnswer a f.2.1) none f.2.1
    | some it =>
      if it.psdu ≠ [] then go ((t.itemSent it 0 it.psdu).keepAnswer a it.psdu) (some it.id) it.psdu
      else
        let h := t.hopMsg it
        let f := h.2.2.ansFrame a it.ackReq (t.moreItems a.stall (some it.id)) h.1
        go ((f.2.2.itemSent it (h.2.1.getD f.1) f.2.1).keepAnswer a f.2.1) (some it.id) f.2.1
/-- A timed frame leaves on its granted chain. -/
def State.sendItem (s : State) (it : Item) (r : TxReq) : State :=
  if it.psdu ≠ [] then (s.itemSent it 0 it.psdu).startCarrier r .ordinary (some it.id) (s.withFcs r.yard it.psdu)
  else
    let p := s.firstHop it.stall
    let h := s.hopMsg it
    let f := h.2.2.stallFrame p tyDOWN it.ackReq (s.moreItems p (some it.id)) h.1
    (f.2.2.itemSent it (h.2.1.getD f.1) f.2.1).startCarrier r .ordinary (some it.id) (s.withFcs r.yard f.2.1)

/-! ## Scene-now frames (R104, R187, R189) -/

/-- A launched scene completes when every frame has left and every channel has latched (R54, R187). -/
def State.checkScene (s : State) (id : Nat) : State :=
  match s.scene? id with
  | none => s
  | some c =>
    if c.armed ∧ c.left = 0 ∧ c.latching = 0 then
      let t := (s.modScene id (fun c => { c with launchDid := none })).endDid c.launchDid (if c.late then stLATE else stOK) 0
        (jobResult c.yardsOut c.latched)
      if id < 65536 then t else t.dropScene id
    else s
/-- A scene-now frame leaves (R129, R187). (DEDUCED, log 154) -/
def State.sendScene (s : State) (c : Scene) (r : TxReq) : State :=
  let f := s.usePadFc c.carrier
  let q := f.2.pad c.carrier
  let b := secured (s.padKey c.carrier q.key q.epoch) tySCENE_NOW false false (bit q.epoch 0) (s.segid * 2 ^ 18 + c.carrier) 0 f.1 2
    (le 1 0x13 ++ le 2 c.id ++ le 8 c.t)
  let late := decide ((c.t : Int) + 250 < s.outputTime)
  ((f.2.useKey 1 c.carrier q.key).modScene c.id (fun c => { c with late := c.late || late, yardsOut := c.yardsOut ||| r.yards })).startCarrier r .reserved none
    (s.withFcs r.yard b)

/-! ## The transmit arbiter (R93, R94, R150, R569) -/

/-- The place of a frame in the order of R93, from 1. (DEDUCED, log 37) -/
def State.txRank (s : State) (k : TxKind) : Nat :=
  match k with
  | .sceneNow _ => 1
  | .beacon => 2
  | .job id => (match s.job? id with
    | some j => if j.reserved then 3 else 5
    | none => 5)
  | .answer _ => 4
  | .item _ => 5
  | .image _ => 6
/-- A request ends without its frame (R150). -/
def State.giveUpReq (s : State) (r : TxReq) : State :=
  let t := s.unask r.id
  match r.kind with
  | .beacon => t.skipBeacon r.yard 0xFF
  | .answer id => (match t.air.answers.find? (fun a => a.id == id) with
    | some a => t.missAnswer a none
    | none => t)
  | .item id => t.modItem id (fun x => { x with busy := false })
  | .sceneNow id => (t.modScene id (fun c => { c with left := c.left - 1 })).checkScene id
  | _ => t
/-- The paddock's counter stops a frame (R134), or it has no key. -/
def State.reqStopped (s : State) (r : TxReq) : Bool :=
  match r.kind with
  | .sceneNow id => (match s.scene? id with
    | some c => s.padBlocked c.carrier || !s.forms (s.pad c.carrier).key (s.pad c.carrier).epoch
    | none => true)
  | .job id => (match s.job? id with
    | some j => s.padBlocked j.pad || !s.forms (s.pad j.pad).key (s.pad j.pad).epoch
    | none => true)
  | _ => false
/-- A request can no longer be met (R127, R134, R150, R225, R569). -/
def State.reqLapsed (s : State) (r : TxReq) : Bool :=
  let dur := s.airT r.yard r.mode r.len
  (match r.latest with
  | some l => decide (l < s.tsu.raw)
  | none => false)
    || (match r.endBy with
      | some e => decide (e < s.outputTime + dur)
      | none => false)
    || (match r.kind with
      | .sceneNow _ => s.reqStopped r
      | .image _ => s.paused || !s.mayEmit || !s.yardTx r.yard
      | _ => !s.mayEmit || !s.yardTx r.yard)
/-- Requests that can no longer be met end. (DEDUCED, log 35) -/
def State.settle (s : State) : State :=
  s.air.reqs.foldl (fun t r => if t.reqLapsed r then t.giveUpReq r else t) s
/-- A unicast item ends with its frame not acknowledged or not sent: a KEY item is given up for this pass (R201); a renewal's
is queued again (R198). -/
def State.giveUpItem (s : State) (it : Item) (status detail : Nat) : State :=
  let u := s.endItem it status detail
  let leave := u.rollLeave it.stall
  match it.kind with
  | .msg => u
  | .relayed => u
  | .keyStall _ => if it.kind = u.renewKind it.stall then u.addKey it.stall it.kind else leave
  | .keyPad _ _ => leave
/-- The granted frame's item has a word that fails parity: the frame is not sent, and its descriptor completes with POISON
(R248). (DEDUCED, log 68) -/
def State.poisonReq (s : State) (r : TxReq) (off : Nat) : State :=
  let t := (s.unask r.id).poisonQueue (56 + r.yard) off
  match r.kind with
  | .beacon => t.skipBeacon r.yard 0xFF
  | .answer id => (match t.air.answers.find? (fun x => x.id == id) with
    | some x => t.missAnswer x none
    | none => t)
  | .item id => (match t.item? id with
    | some it => t.giveUpItem it stPOISON 0
    | none => t)
  | .image _ => t
  | .sceneNow id =>
    let u := t.endDid ((t.scene? id).bind (fun c => c.launchDid)) stPOISON 0 0
    (u.modScene id (fun c => { c with left := c.left - 1, launchDid := none })).checkScene id
  | .job id => (match t.job? id with
    | some j =>
      match j.kind with
      | .group => (t.dropJob id).endDid j.did stPOISON 0 (jobResult (yardMask j.served) j.fewest)
      | .schedule n =>
        let u := t.endDid ((t.seg.runs.find? (fun x => x.id == n)).bind (fun x => x.did)) stPOISON 0 0
        let g (x : SchedRun) : SchedRun := if x.id = n then { x with did := none } else x
        (({ u with seg := { u.seg with runs := u.seg.runs.map g } }).dropJob id).checkRun n
      | .scene c =>
        let u := t.endDid ((t.scene? c).bind (fun x => x.loadDid)) stPOISON 0 0
        (u.modScene c (fun x => { x with loadDid := none })).endDelivery c
      | .cancel _ => t.dropJob id
    | none => t)
/-- The granted frame starts, unless its duty account has changed its mind since it asked (R101, R104); `bad` is the word of its
item that fails parity, and `symBad` tells that a campaign's symbol fails the encoder's check (R213). -/
def State.startReq (s : State) (bad : Option Nat) (symBad : Bool) (r : TxReq) : State :=
  let dur := s.airT r.yard r.mode r.len
  let t := s.unask r.id
  let cls := match r.kind with
    | .job id => (match s.job? id with
      | some j => if j.reserved then ChargeClass.reserved else .ordinary
      | none => .ordinary)
    | k => k.cls
  let share := match r.kind with
    | .image id => ((s.camp? id).map (fun c => c.share)).getD 0
    | _ => 0
  match s.admission r.chain r.chan r.mode dur cls share with
  | .outside => s.giveUpReq r
  | .held a byDuty =>
    match r.kind with
    | .beacon => t.skipBeacon r.yard (a % 8)
    | .answer id => (match t.air.answers.find? (fun x => x.id == id) with
      | some x => t.missAnswer x (if byDuty then some a else none)
      | none => t)
    | .job id => (match t.job? id with
      | some j => t.holdJob j r.yard a
      | none => t)
    | .item id => (match t.item? id with
      | some it => (t.modItem id (fun x => { x with busy := false })).holdItem it a true
      | none => t)
    | .image _ => t
    | .sceneNow id =>
      let u := if r.heldBy.isSome then s else s.noteHeld r.yard ((s.scene? id).bind (fun c => c.launchDid))
      u.modReq r.id (fun x => { x with heldBy := some a })
  | .yes =>
    match bad with
    | some off => s.poisonReq r off
    | none =>
    match r.kind with
    | .beacon =>
      let q := t.seq r.yard
      let k := t.pad 0
      let b := secured (t.padKey 0 k.key k.epoch) tyBEACON false false (bit k.epoch 0) (t.segid * 2 ^ 18 + r.yard * 2 ^ 14) 0 (q.n % 2 ^ 32) 2
        (t.beaconPayload r.yard r.mode)
      let psdu := t.withFcs r.yard b
      (t.setSeq r.yard { q with beaconEnd := t.outputTime + t.airT r.yard r.mode psdu.length
                                fcSeen := max q.fcSeen (q.n % 2 ^ 32 + 1) }).useKey 1 0 k.key |>.startCarrier r .reserved none psdu
    | .answer id => (match t.air.answers.find? (fun a => a.id == id) with
      | some a => t.sendAnswer a r
      | none => t)
    | .item id => (match t.item? id with
      | some it => t.sendItem it r
      | none => t)
    | .job id => (match t.job? id with
      | some j =>
        let f := t.jobFrame j r.yard
        let u := match j.did with
          | some d => f.2.beginDesc d
          | none => f.2
        u.startCarrier r cls none f.1
      | none => t)
    | .image _ => (match t.campNext r.yard (t.seq r.yard).n with
      | some (c, f) =>
        match symBad, f with
        | true, .symbol _ sbn esi => (t.campSkip c r.yard sbn esi).offer r.yard
        | _, _ =>
        let p := t.campPayload c f
        let u := p.2.usePadFc f.pad
        let k := u.2.pad f.pad
        let b := secured (t.padKey f.pad k.key k.epoch) tyGROUP false false (bit k.epoch 0) (u.2.segid * 2 ^ 18 + f.pad) 0 u.1 6 p.1
        ((u.2.useKey 1 f.pad k.key).startCarrier r (.campaign c.id) none (u.2.withFcs r.yard b)).campSent c r.yard (t.seq r.yard).n f
      | none => t)
    | .sceneNow id => (match t.scene? id with
      | some c => t.sendScene c r
      | none => t)

/-- A request is refused for want of a chain, and counts as such once (R93). -/
def State.refuseReq (s : State) (r : TxReq) : State :=
  if r.waited then s
  else
    let t := s.modReq r.id (fun x => { x with waited := true })
    (t.bumpSat (.YRD_TX_STAT r.chain) F.YRD_TX_STAT_WAITS).event 8 r.chain 0x0309 0 [r.chain, s.txRank r.kind]
/-- A chain can take one more carrier now (R13, R93, R493). -/
def State.chainTakes (s : State) (chain : Nat) : Bool :=
  if 0 < s.chainLoad chain then decide (s.chainLoad chain < 4) else decide (s.chainsOn < s.chainLimit)
/-- A scene-now frame that the duty account or the dwell rule refuses is held, and other frames may go ahead (R102, R104). -/
def State.sceneHeld (s : State) (r : TxReq) : Bool :=
  match r.kind, s.admission r.chain r.chan r.mode (s.airT r.yard r.mode r.len) .reserved 0 with
  | .sceneNow _, .held _ _ => true
  | _, _ => false
/-- Grant the first request, in the order of R93, that its duty account, its channel and a chain allow; a chain sends one
carrier for each yard (R13). -/
def State.grant (s : State) (bad : Option Nat) (symBad : Bool) : List TxReq → State
  | [] => s
  | r :: t =>
    if s.sceneHeld r then State.grant (s.startReq none false r) bad symBad t
    else if s.chanBusy r.chain r.chan r.mode ∨ s.carrierOf r.chain r.yard then State.grant s bad symBad t
    else if s.chainTakes r.chain then s.startReq bad symBad r
    else if 0 < s.chainLoad r.chain then State.grant s bad symBad t
    else State.grant (s.refuseReq r) bad symBad t
/-- Items that a flush took from the yard downlink queues are offered again (R251). -/
def State.requeue (s : State) : State :=
  let ys := ((s.air.reqs.filter (fun r => !r.queued)).map (fun r => r.yard)).eraseDups
  let t := ys.foldl (fun t y => t.setSf (.QUE_STAT (56 + y)) F.QUE_STAT_DISCARD 0) s
  { t with air := { t.air with reqs := t.air.reqs.map (fun r => { r with queued := true }) } }

/-- CHAIN_GRANT: requests that can no longer be met end, and the arbiter grants one; `bad` is the word of its item that fails
parity in the yard's downlink queue, `symBad` a failure in the encoder's symbol buffer. A yard that RESUME has taken out of HALTED waits for its beacon boundary (R75). -/
def execChainGrant (bad : Option Nat) (symBad : Bool) (s : State) : Host.Outcome State Fault Refusal :=
  quiet (fun s =>
    let t := s.requeue.settle
    if t.mayEmit = false ∨ t.keyed = false then t
    else
      t.grant bad symBad ((isort (fun r => (t.txRank r.kind * 8 + r.chain) * 2 ^ 40 + r.id) t.air.reqs).filter (fun r =>
        t.yardTx r.yard && !(t.seq r.yard).wait && !t.reqStopped r))) s

/-! ## A carrier ends -/

/-- The ticks after a frame's end within which its ACK ends: ANS_DELAY, its tolerance, and the airtime of an ACK (R144). (DEDUCED, log 49) -/
def State.ackWindow (s : State) (y mode : Nat) : Nat :=
  s.cf .YRD_MAC_CFG F.YRD_MAC_CFG_ANS_DELAY * msT + 10000 + s.airT y mode (s.psduLen y 5)
/-- An item's frame has ended (R144, R163). -/
def State.itemFrameEnd (s : State) (id y mode : Nat) : State :=
  match s.item? id with
  | none => s
  | some it =>
    if it.ackReq then
      (if (s.stall it.stall).live then
        s.modItem id (fun x => { x with busy := false, ackDue := some (s.tsu.raw + s.ackWindow y mode) })
      else s.endItem it stABORTED 2)
    else s.endItem it stOK 0
/-- A frame on the air has ended, and what it was for follows. -/
def State.frameEnd (s : State) (c : Carrier) : State :=
  let t := match c.item with
    | some id => s.itemFrameEnd id c.yard c.mode
    | none => s
  match c.kind with
  | .job id =>
    let n := (t.seq c.yard).n
    let g (k : JobYard) : JobYard := if k.yard = c.yard then { k with sent := k.sent + 1, last := some n, held := none } else k
    (t.modJob id (fun j => { j with yards := j.yards.map g })).checkJob id
  | .sceneNow id => (t.modScene id (fun c => { c with left := c.left - 1 })).checkScene id
  | _ => t
/-- TX_FRAME_END: a carrier ends; its yard's run goes on with its next frame, and frames that waited for the channel or the
chain are for the arbiter again. -/
def execTxFrameEnd (chain yard : Nat) (s : State) : Host.Outcome State Fault Refusal :=
  quiet (fun s =>
    match s.onAir.find? (fun c => c.chain == chain && c.yard == yard) with
    | none => s
    | some c =>
      let t := ((s.elapseTo c.stop).stopCarrier c.id).frameEnd c
      match t.upd.pause with
      | some p =>
        if p.radioMs.isSome then t.offer yard
        else if p.radioAt.isNone ∧ t.onAir = [] then { t with upd := { t.upd with pause := some { p with radioAt := some t.tsu.raw } } }
        else t
      | none => t.offer yard) s

/-- ACK_WINDOW_END (R144): no ACK has come; the item waits for a retry, or ends (R155, R163). -/
def execAckWindowEnd (stall : Nat) (s : State) : Host.Outcome State Fault Refusal :=
  quiet (fun s =>
    match s.seg.items.find? (fun t => t.stall == stall && t.ackDue.isSome) with
    | none => s
    | some it =>
      let t := s.elapseTo (it.ackDue.getD 0)
      let x := t.stall stall
      if x.live = false then t.endItem it stABORTED 2
      else if x.state = sLOST then t.endItem it stEXPIRED 2
      else if it.sent ≤ t.param 0x0405 then t.modItem it.id (fun x => { x with ackDue := none })
      else t.giveUpItem it stEXPIRED 3) s

/-! ## The duty ledger's rows (R98, R99, R107) -/

/-- DUTY_SLOT_TICK: a slot of 1 ms ends; old charges expire, and yards whose run is under way offer again. -/
def execDutySlotTick (s : State) : Host.Outcome State Fault Refusal :=
  quiet (fun s =>
    let t := s.elapseOut ((dutySlot s.outputTime + 1) * 500000)
    let old (c : Charge) : Bool := decide (dutySlot t.outputTime - 3599999 ≤ c.slot)
    let duty : Tbl (List Charge) :=
      (t.air.duty.map (fun (p : Nat × List Charge) => (p.1, p.2.filter old))).filter (fun p => p.2 != [])
    let t : State := { t with air := { t.air with duty := duty } }
    (List.range 16).foldl State.offer t.judge) s

/-- A duty record (R107). -/
def State.dutyRecord (s : State) (chain : Nat) (b : SubBand) : List Byte :=
  let shared := s.cf .YRD_REGION F.YRD_REGION_SHARED == 1
  let a := s.account chain b.num
  let now := dutySlot s.outputTime
  le 1 (if shared then 0xFF else chain) ++ le 1 b.num
    ++ (if b.limited then le 2 (s.heldIn a) ++ le 4 b.budget ++ le 4 (s.usedR a now) ++ le 4 (s.usedO a now)
        else le 2 0 ++ le 4 0xFFFFFFFF ++ zeros 8)
/-- DUTY_READ. -/
def execDutyRead (did : Nat) (s : State) : Host.Outcome State Fault Refusal :=
  quiet (fun s => s.operation did 0x23 (fun _ => true) (fun s d =>
    if d.len = 0 ∨ (7 < d.target ∧ d.target ≠ 15) ∨ d.pZero 0 32 = false then s.fail d stERR_ARG
    else
      let chains := if s.cf .YRD_REGION F.YRD_REGION_SHARED = 1 then [0]
        else if d.target = 15 then List.range 8 else [d.target]
      let l := chains.flatMap (fun c => (isort (fun b => b.num) s.profile).map (s.dutyRecord c))
      s.okItems d 16 l (fun n => n + 2 ^ 32 * l.length))) s

/-- CUSTOM is written: it changes inside the presence-unlocked window (R98, R114). -/
def State.customWrite (s : State) (val : Nat) : State :=
  let on := bit val 31
  if s.winOpen = false ∨ on = s.customOn ∨ (on = true ∧ s.customProfile = []) then s
  else
    let old := s.profileCode
    (s.setCf .YRD_REGION F.YRD_REGION_CUSTOM (b2n on)).hold (fun t =>
    let bad := (List.range 16).filter (fun y => t.yardLive y && !t.planRegionOk y)
    let t := bad.foldl (fun t y => t.faultYard y 3) t
    let t := { t with air := { t.air with duty := [], dwell := [] } }
    t.event 6 16 0x030A 1 [old, t.profileCode])
/-- YRD_REGION_CUSTOM_WRITE. -/
def execYrdRegionCustomWrite (val : Nat) (s : State) : Host.Outcome State Fault Refusal := loud (fun s => s.customWrite val) s

end Sys2Proof.Machine
end

