-- ==== Sys2Proof/Machine/Uplink.lean ====
section
/-! DEFINITION. Sys2Proof/Machine/Uplink.lean: what the module receives: lanes and overlaps, link security, the replay window,
the uplink messages, joining, and the stalls' timers (R14, R69, R71, R72, R79 to R82, R129 to R136, R141, R151 to R162, R172,
R191, R192, R198, R201, R220). -/
namespace Sys2Proof.Machine

/-! ## Lanes (R69, R71, R72, R79, R80, R82) -/

/-- A lane serves its entry: ACTIVE, or SHADOW after the handover of a rolling test (R83). -/
def State.laneServes (s : State) (n : Nat) : Bool :=
  decide (n < 544) && (s.role n == rACTIVE || (s.role n == rSHADOW && s.lanes.tests.any (fun t => t.shadow == some n && t.handed)))
    && s.yardLive (s.laneYard n)
/-- How a lane receives now: its yard, channel and mode. -/
def State.laneNow (s : State) (n : Nat) : LaneLeave :=
  { lane := n, yard := s.laneYard n, chan := s.sf (.LNE_ASSIGN n) F.LNE_ASSIGN_CHAN
    mode := s.sf (.LNE_ASSIGN n) F.LNE_ASSIGN_MODE, at_ := 0 }
/-- The centre of a channel over its front end's lower edge, in kHz. -/
def centre (chan mode : Nat) : Nat := 200 * chan + (if wideMode mode then 200 else 100)
/-- A frame on a lane overlaps the blanking of a carrier of its front end (R69). (DESIGN CHOICE, log 39) -/
def State.blanked (s : State) (a : LaneLeave) (f : AirRx) : Bool :=
  let c := centre a.chan a.mode
  s.air.carriers.any (fun k =>
    let d := centre k.chan k.mode
    k.chain / 2 == feOf a.yard && decide (d ≤ c + 600 ∧ c ≤ d + 600)
      && decide (f.first < k.stop + 50000 ∧ k.start < f.last + 50000))
/-- Two frames overlap in time. (DEDUCED, log 38) -/
def framesMeet (a b : AirRx) : Bool := decide (a.first < b.last ∧ b.first < a.last)
/-- The stronger power is at least 3 dB, or at least 6 dB, over the other: 10^0.3 and 10^0.6 in whole powers (R79). (DEDUCED, log 38) -/
def over3 (p q : Nat) : Bool := decide (10 ^ 3 * q ^ 10 ≤ p ^ 10)
/-- At least 6 dB over the other (R79). (DEDUCED, log 38) -/
def over6 (p q : Nat) : Bool := decide (10 ^ 3 * q ^ 5 ≤ p ^ 5)
/-- 3 dB over the reference sensitivity of a mode (R548), as a power of 10 that the tenth power of a power in 10^-24 mW must
reach (R79). -/
def overSens (mode p : Nat) : Bool := decide (10 ^ [129, 132, 136, 139, 142].getD mode 142 ≤ p ^ 10)
/-- Ticks that the residue buffer holds. -/
def residueT (mode : Nat) : Nat := if mode ≤ 1 then 25600000 else 12800000
/-- A frame is demodulated: it fails a check of R72, or is recovered and passes upward. The Bool tells which. (DEDUCED, log 151) -/
def State.demodulate (s : State) (a : LaneLeave) (f : AirRx) (sic : Bool) : State × Option Rx :=
  let n := a.lane
  let y := a.yard
  if f.ms = true ∨ f.parityOk = false ∨ f.len < f.fcsLen + 1 then (s.bump (.LNE_PHRERR n) F.word, none)
  else if f.fcsOk = false then ((s.bump (.LNE_CRCERR n) F.word).bump (.YRD_CRCERR y) F.word, none)
  else
    let t := (s.bump (.LNE_RXOK n) F.word).bump (.YRD_RXOK y) F.word
    let t : State := if sic then (t.bump (.LNE_SIC n) F.word).bump (.YRD_SIC y) F.word else t
    let t := (t.setSf (.LNE_RSSI n) F.LNE_RSSI_RSSI (twos 16 f.rssi)).setSf (.LNE_RSSI n) F.LNE_RSSI_SNR f.snr
    (t, some { lane := n, yard := y, chan := a.chan, mode := a.mode, frame := f, sic := sic, via := none
               out := s.outputTime - (s.tsu.raw - f.sfd : Nat), words := 0 })
/-- The frames of an overlap group, strongest first. -/
def byPower (g : List AirRx) : List AirRx := (isort (fun f => f.power) g).reverse
/-- The summed power of the frames of a group that overlap the first of it. (DEDUCED, log 38) -/
def overlapPower (f : AirRx) (rest : List AirRx) : Nat := ((rest.filter (fun x => framesMeet x f)).map (fun x => x.power)).foldl (· + ·) 0
/-- A lane acquires a frame: four octets of preamble, the yard's SFD pair, and a coded SFD in modes 0 to 2 only (R71). -/
def State.acquires (s : State) (a : LaneLeave) (f : AirRx) : Bool :=
  decide (4 ≤ f.preamble) && f.sfdSet == s.cf (.YRD_PHY a.yard) F.YRD_PHY_SFDSET && !(f.coded && decide (3 ≤ a.mode))
/-- The lane's treatment of one overlap group, strongest frame first (R69, R71, R79, R80): the frames it recovers. The power of a
frame that it does not acquire counts all the same. (DEDUCED, log 38) -/
def State.receive (s : State) (a : LaneLeave) (g : List AirRx) : State × List Rx :=
  let n := a.lane
  let y := a.yard
  let gone (f : AirRx) : Bool := s.blanked a f || !s.acquires a f
  let s0 := g.foldl (fun t f => if s.blanked a f ∧ s.acquires a f = true then t.bump (.LNE_BLANK n) F.word else t) s
  let lose (t : State) (l : List AirRx) : State :=
    (l.filter (fun f => !gone f)).foldl (fun u _ => (u.bump (.LNE_COLLIDE n) F.word).bump (.YRD_COLLIDE y) F.word) t
  match byPower g with
  | [] => (s0, [])
  | [f] => if gone f then (s0, []) else ((s0.demodulate a f false).1, (s0.demodulate a f false).2.toList)
  | f :: b :: rest =>
    let sum := overlapPower f (b :: rest)
    let span := (g.map (fun x => x.last)).foldl max 0 - (g.map (fun x => x.first)).foldl min f.first
    if gone f then (lose s0 (b :: rest), [])
    else if over3 f.power b.power = false ∨ over3 f.power sum = false then (lose s0 (f :: b :: rest), [])
    else
      let r := s0.demodulate a f false
      match r.2 with
      | none => (lose r.1 (b :: rest), [])
      | some x =>
        if gone b = false ∧ over6 f.power b.power = true ∧ over6 f.power sum = true ∧ over3 b.power (overlapPower b rest) = true
            ∧ overSens a.mode b.power = true ∧ span ≤ residueT a.mode then
          let q := r.1.demodulate a b true
          (lose q.1 rest, x :: q.2.toList)
        else (lose r.1 (b :: rest), [x])

/-! ## Link security (R14, R129, R130, R136, R198) -/

/-- The key that a frame needs in the cache (R14); none: no key exists. -/
def State.rxKey (s : State) (r : Rx) : Option CacheKey :=
  let x := s.stall r.stall
  if s.keysHeld = false then none
  else if r.frame.typ = tyBEACON then
    let q := s.pad 0
    let h := match r.frame.key with
      | .next => (if q.rolling then q.keyNext else 0, s.nextEpoch8)
      | _ => (q.key, q.epoch)
    if s.forms h.1 h.2 then some { kind := 1, id := 0, handle := h.1 } else none
  else if r.frame.typ = tyJOIN then
    (s.joinRoot r.eui).map (fun _ => { kind := 2, id := r.eui, handle := 0 })
  else
    let h := match r.frame.key with
      | .next => (x.keyNext, s.nextEpoch8)
      | .old => (x.oldKey, x.oldEp)
      | _ => (x.key, x.epoch)
    if s.forms h.1 h.2 then some { kind := 0, id := r.stall, handle := h.1 } else none
/-- The checks of R130 that need no key. -/
def State.rxForm (s : State) (r : Rx) : Bool :=
  let f := r.frame
  f.ver == 0 && (f.typ == tyBEACON || f.typ == tyUP || f.typ == tyJOIN) && f.addr / nStalls == s.segid
    && f.seclvl == (if f.typ = tyUP then 6 else 2) && (f.typ != tyUP || (s.stall r.stall).live)
/-- The frame authenticates under the key that it names (R130, R136, R198). -/
def State.rxAuth (s : State) (r : Rx) : Bool :=
  let f := r.frame
  let x := s.stall r.stall
  if f.typ = tyUP then
    match f.key with
    | .none => false
    | .next => s.rolling && f.epoch == s.nextEpoch8 % 2
    | .old => f.epoch == x.oldEp % 2
    | .current => f.epoch == x.epoch % 2
  else if f.typ = tyBEACON then
    match f.key with
    | .current => f.epoch == (s.pad 0).epoch % 2
    | .next => s.rolling && f.epoch == s.nextEpoch8 % 2
    | _ => false
  else f.key == .current
/-- The frame is discarded (R130); one from inside a RELAY message was never counted as received (R120). -/
def State.authFail (s : State) (r : Rx) : State := if r.via.isSome then s else s.bump (.LNE_AUTHFAIL r.lane) F.word

/-! ## Acceptance by the sequencer (R132, R133, R141, R142, R160, R169) -/

/-- The classes that a frame type may carry upward (R160). -/
def classOk (typ cls : Nat) : Bool :=
  if typ = tyJOIN then cls == 0x08
  else [0x04, 0x05, 0x06, 0x07, 0x08, 0x09, 0x10, 0x11, 0x14, 0x15, 0x20].contains cls
/-- An UP frame that carries a rejoin of its own stall (R152). -/
def Rx.rejoins (r : Rx) : Bool :=
  r.frame.typ == tyUP && r.cls == 0x08 && r.sub == 0 && bit (leAt r.frame.body 14 1) 1 && leAt r.frame.body 15 3 == r.stall
/-- The frame is refused as a replay or for its class: YRD_REPLAY (R133, R160). -/
def State.replayed (s : State) (r : Rx) : State := s.bump (.YRD_REPLAY r.yard) F.word
/-- The SYNC_AGE that a message reports (R147, R161). (DEDUCED, log 48) -/
def Rx.syncAge (r : Rx) : Option Nat :=
  if r.cls = 0x04 then some (leAt r.frame.body 8 2) else if r.cls = 0x10 then some (leAt r.frame.body 1 2) else none
/-- The replay window after a new highest counter (R132, R169). -/
def shiftWindow (old win d : Nat) : Nat :=
  if 32 < d then 0 else ((2 * win + (if old = 0 then 0 else 1)) * 2 ^ (d - 1)) % 2 ^ 32
/-- An answer is due ANS_DELAY after a frame (R141). -/
def State.addAnswer (s : State) (r : Rx) (k : AnsKind) (stall : Nat) : State :=
  let a : Ans := { id := s.air.nextTx, kind := k, stall := stall, yard := r.yard, chan := r.chan, mode := r.mode
                   due := r.frame.last + s.cf .YRD_MAC_CFG F.YRD_MAC_CFG_ANS_DELAY * msT, fc := r.frame.fc
                   at_ := r.frame.last, asked := false }
  { s with air := { s.air with answers := s.air.answers ++ [a], nextTx := s.air.nextTx + 1 } }
/-- A frame without its FCS goes to a node through its parent, inside a RELAY item (R162). -/
def State.relayTo (s : State) (p : Nat) (psdu : List Byte) : State :=
  s.addItem (newItem p 0x14 .relayed psdu 0 false s.tsu.raw)
/-- An identical answer goes out again (R133). -/
def State.answerAgain (s : State) (r : Rx) (stall : Nat) (psdu : List Byte) : State :=
  match r.via with
  | none => s.addAnswer r (.again psdu) stall
  | some p => s.relayTo p psdu
/-- The answer to a frame that came through a parent: an ANS frame of the stall inside a RELAY item (R162). (DEDUCED, log 42) -/
def State.relayAnswer (s : State) (r : Rx) (p : Nat) (msg : List Byte) : State :=
  let i := r.stall
  let f := s.stallFrame i tyANS false (s.moreItems i none) (s.answerMsg r.yard r.mode r.frame.fc ++ msg)
  let t := f.2.2.modStall i (fun x => if r.frame.fc = x.ansFc then { x with ansPsdu := f.2.1, ansAt := r.frame.last } else x)
  t.relayTo p f.2.1
/-- A frame is answered with a message behind its ANSWER. -/
def State.answerUp (s : State) (r : Rx) (k : AnsKind) (msg : List Byte) : State :=
  match r.via with
  | none => s.addAnswer r k r.stall
  | some p => s.relayAnswer r p msg
/-- The fields that the sequencer writes for an accepted frame (R147, R156, R169). A boundary that the frame follows is judged
for its stall first. (DESIGN CHOICE, log 47, 176) -/
def State.seen (s : State) (r : Rx) : State :=
  let q := s.seq r.yard
  let s := match q.judge with
    | some (n, at_) => if at_ ≤ r.frame.sfd then s.judgeStall n at_ r.stall else s
    | none => s
  let d := s.fresh
  let n := if r.frame.sfd < q.startRaw then q.prev else q.n
  d.2.modStall r.stall (fun x =>
    let x := { x with lastSeen := s.tickAt r.frame.sfd, lastSf := n, dozeSf := none, stale := false, drift := d.1 % 65536 }
    let x := if r.frame.fc = x.fcUp then { x with ansFc := r.frame.fc, ansPsdu := [], ansAt := r.frame.last } else x
    match r.syncAge with
    | some a => { x with syncAge := a, syncRaw := (r.frame.sfd : Int) - a * secT }
    | none => x)
/-- An accepted frame is stored in its yard's uplink queue, whose discarding a new item ends (R249); M1 takes up at once what
it found inside a RELAY message (R162). The words of an item are free. In an activation pause nothing leaves the queue: a
frame with no room there waits in its lane's buffer, or is lost and counted in LNE_DROP (R437); which, is free. (DESIGN CHOICE, log 65, 183) -/
def State.pushUp (s : State) (r : Rx) : State :=
  let t : State := { s with air := { s.air with rxCount := s.air.rxCount + 1 } }
  if r.via.isSome then { t with air := { t.air with accepted := { r with words := 0 } :: t.air.accepted } }
  else
    let f := t.fresh
    let words := 1 + f.1 % 512
    if s.paused = true ∧ queueDepth 40 < (s.queWords (40 + r.yard)).sum + words ∧ f.1 / 512 % 2 = 1 then f.2.bump (.LNE_DROP r.lane) F.word
    else
      { f.2 with air := { f.2.air with accepted := f.2.air.accepted ++ [{ r with words := words }] } }.setSf
        (.QUE_STAT (40 + r.yard)) F.QUE_STAT_DISCARD 0
/-- An accepted frame goes up its yard's uplink queue, and is answered where it asks for it (R141, R145). -/
def State.passUp (s : State) (r : Rx) : State :=
  let x := s.stall r.stall
  let t := (s.seen r).pushUp r
  if r.frame.ar = true ∧ r.rejoins = false then t.answerUp r (.answer (x.stale || x.state == sDOZING)) [] else t
/-- The first frame under a renewed key starts the counters afresh, and the old key is discarded (R198). -/
def State.newKeyUsed (s : State) (r : Rx) : State :=
  let x := s.stall r.stall
  if x.oldKey ≠ 0 ∧ r.frame.key = (if x.nextHeld = true ∧ x.oldEp = s.nextEpoch8 then AirKey.next else .current) then
    (s.evict x.oldKey).modStall r.stall (fun x => { x with oldKey := 0, fcUp := 0, fcWin := 0 })
  else s
/-- A frame whose counter has been accepted before, or lies below the window (R133). (DEDUCED, log 41) -/
def State.duplicate (s : State) (r : Rx) : State :=
  let x := s.stall r.stall
  let f := r.frame
  if f.ar = true ∧ f.fc = x.fcUp ∧ f.last ≤ x.ansAt + 10 * secT then
    let t := s.bump (.YRD_DUP r.yard) F.word
    if x.ansPsdu ≠ [] then t.answerAgain r r.stall x.ansPsdu else t
  else (s.replayed r).event 6 r.yard 0x0405 1 [r.stall, f.fc, x.fcUp]
/-- An authenticated UP frame: class, replay window, acceptance. -/
def State.acceptUp (s : State) (r : Rx) : State :=
  if classOk r.frame.typ r.cls = false then s.replayed r
  else
    let t := s.newKeyUsed r
    let x := t.stall r.stall
    let fc := r.frame.fc
    let k := x.fcUp - 1 - fc
    if x.fcUp < fc then
      (t.modStall r.stall (fun x => { x with fcUp := fc, fcWin := shiftWindow x.fcUp x.fcWin (fc - x.fcUp) })).passUp r
    else if fc < x.fcUp ∧ x.fcUp ≤ fc + 31 ∧ bit x.fcWin k = false ∧ fc ≠ 0 then
      (t.modStall r.stall (fun x => { x with fcWin := x.fcWin + 2 ^ k })).passUp r
    else t.duplicate r
/-- An authenticated frame goes where R130 sends it. A standby unit's sequencers take nothing (R356). -/
def State.accept (s : State) (r : Rx) : State :=
  if r.frame.typ = tyBEACON then { s with air := { s.air with beacons := s.air.beacons ++ [r] } }
  else if s.serving = false then s
  else if r.frame.typ = tyJOIN then
    (if classOk tyJOIN r.cls then s.pushUp r else s.replayed r)
  else s.acceptUp r
/-- A frame meets link security with its key at hand (R130). -/
def State.secure (s : State) (r : Rx) : State :=
  if s.rxForm r = false then s.authFail r
  else
    match s.rxKey r with
    | none => s.authFail r
    | some k =>
      let t := s.touchKey k
      if t.rxAuth r then t.accept r else t.authFail r
/-- A recovered frame: it waits in its lane's output buffer while its key, or one before it there, is not in the cache (R14). -/
def State.arriveRx (s : State) (r : Rx) : State :=
  let have_ := match s.rxKey r with
    | some k => s.cached k || !s.rxForm r
    | none => true
  if have_ = true ∧ s.air.waiting.any (fun w => w.lane == r.lane) = false then s.secure r
  else { s with air := { s.air with waiting := s.air.waiting ++ [r] } }

/-- FRAME_RX: the frames of one overlap group on a lane's channel have ended, and its front end's ADC has overloaded `ovld`
times meanwhile (R111). A lane that has left its entry still ends the frame that was in progress then (R20). (DESIGN CHOICE, log 39; DEDUCED, log 151) -/
def execFrameRx (lane : Nat) (group : List AirRx) (ovld : Nat) (s : State) : Host.Outcome State Fault Refusal :=
  quiet (fun s =>
    let t := s.elapseTo ((group.map (fun f => f.last)).foldl max 0)
    let old := t.lanes.leaving.find? (fun e => e.lane == lane && group.any (fun f => decide (f.first < e.at_)))
    let a := old.getD (t.laneNow lane)
    let t := if ovld = 0 ∨ 544 ≤ lane then t else t.bumpSat (.YRD_FE_STAT (feOf a.yard)) F.YRD_FE_STAT_OVLD ovld
    let t : State := { t with lanes := { t.lanes with leaving := t.lanes.leaving.filter (fun e => e.lane != lane) } }
    if old.isNone = true ∧ t.laneServes lane = false then t
    else
      let r := t.receive a group
      r.2.foldl State.arriveRx r.1) s

/-- KEY_CACHE_FILL (R14): the shed unwraps the key that the first waiting frame needs; one in reset unwraps none. -/
def execKeyCacheFill (s : State) : Host.Outcome State Fault Refusal :=
  quiet (fun s =>
    match s.air.waiting with
    | [] => s
    | r :: l => if s.shed.down then s else (({ s with air := { s.air with waiting := l } }).secure r).judge) s

/-! ## Messages (R157, R161, R191, R192, R220) -/

/-- POLL (R145, R161). Its answer is due already. -/
def execPoll (s : State) : Host.Outcome State Fault Refusal :=
  quiet (fun s => s.upRow (isUp 0x10) (fun t _ _ => t)) s
/-- STATUS (R191). -/
def execStatus (s : State) : Host.Outcome State Fault Refusal :=
  quiet (fun s => s.upRow (isUp 0x04) (fun t r i =>
    t.modStall i (fun x => { x with status := fitBytes 14 (r.frame.body.drop 1), fwver := r.num 10 4 }))) s
/-- ENERGY (R191, R195). -/
def execEnergy (s : State) : Host.Outcome State Fault Refusal :=
  quiet (fun s => s.upRow (isUp 0x06) (fun t r i =>
    t.modStall i (fun x => { x with
      energy := r.num 0 8, reports := (t.tickAt r.frame.sfd - r.num 8 2 * 32768, r.num 0 8) :: x.reports }))) s
/-- FAULTS after a FAULT message (R161, R169). -/
def faultBits (old code st : Nat) : Nat :=
  let f : Option Fld := if 1 ≤ code ∧ code ≤ 6 then some ⟨code - 1, code - 1⟩ else if 0x8000 ≤ code then some ⟨15, 15⟩ else none
  match f with
  | none => old
  | some f => (f.set (BitVec.ofNat 32 old) (if st = 0 then 0 else 1)).toNat
/-- FAULT (R191, R192). -/
def execFault (s : State) : Host.Outcome State Fault Refusal :=
  quiet (fun s => s.upRow (isUp 0x05) (fun t r i =>
    let x := t.stall i
    let y := yardOf i
    let new := faultBits x.faults (r.num 0 2) (r.num 2 1)
    if new = x.faults then t
    else
      let c := Tbl.get (0, 0) t.seg.storm y
      let c := if r.num 2 1 = 0 then (c.1, c.2 + 1) else (c.1 + 1, c.2)
      let t := t.modStall i (fun x => { x with faults := new })
      let enter := decide (t.param 0x0501 < c.1 + c.2) && !t.seg.summary.contains y
      let t : State := { t with seg := { t.seg with
        storm := Tbl.put (0, 0) t.seg.storm y c, summary := if enter then t.seg.summary ++ [y] else t.seg.summary } }
      if t.seg.summary.contains y then t else t.event 6 y 0x0502 2 [i, r.num 0 2, r.num 2 1])) s
/-- FAULT_STORM_PERIOD (R192): a 10 s period of the RTC ends. -/
def execFaultStormPeriod (s : State) : Host.Outcome State Fault Refusal :=
  quiet (fun s =>
    let t := s.elapseRtc ((s.newt.tick / 327680 + 1) * 327680)
    let t := t.seg.summary.foldl (fun u y =>
      let c := Tbl.get (0, 0) u.seg.storm y
      u.event 6 y 0x0503 2 [y, c.1, c.2]) t
    let stays (y : Nat) : Bool := decide (t.param 0x0501 / 4 < (Tbl.get (0, 0) t.seg.storm y).1 + (Tbl.get (0, 0) t.seg.storm y).2)
    { t with seg := { t.seg with summary := t.seg.summary.filter stays, storm := [] } }) s
/-- DOZE (R155, R157). (DEDUCED, log 46) -/
def execDoze (s : State) : Host.Outcome State Fault Refusal :=
  quiet (fun s => s.upRow (isUp 0x11) (fun t r i =>
    let x := t.stall i
    let d := r.num 0 4
    if 60 ≤ d ∧ d ≤ 64800 ∧ x.state = sACTIVE then
      t.modStall i (fun x => { x with state := sDOZING, dozeEnd := (t.tickAt r.frame.sfd + d * 32768) / 65536 % 2 ^ 32, dozeSf := none })
    else t)) s
/-- ACK (R144): the item that went out with the counter completes. (DEDUCED, log 50) -/
def execAck (s : State) : Host.Outcome State Fault Refusal :=
  quiet (fun s => s.upRow (isUp 0x15) (fun t r i =>
    match t.seg.items.find? (fun k => k.stall == i && k.ackReq && k.fc == some (r.num 0 4)) with
    | some it => t.endItem it stOK 0
    | none => t)) s
/-- APP (R160): the message goes to the cabinet application. -/
def execApp (s : State) : Host.Outcome State Fault Refusal :=
  quiet (fun s => s.upRow (isUp 0x20) (fun t _ _ => { t with seg := { t.seg with apps := t.seg.apps + 1 } })) s
/-- RELAY (R162): M1 opens the inner frame, has it checked under the inner stall's key and counters, and takes it up. -/
def execRelay (inner : RelayCheck) (s : State) : Host.Outcome State Fault Refusal :=
  quiet (fun s => s.upRow (isUp 0x14) (fun t r i => t.secure { r with frame := inner.frame, via := some i, words := 0 })) s

/-! ## Keys (R177, R198, R201) -/

/-- A stall has everything of the open rollover: ROLLED, and its bit in the journal (R201, R204). -/
def State.rolledDone (s : State) (i : Nat) : State :=
  let t := s.modStall i (fun x => { x with rolled := true })
  (t.journal (fun r => { r with done := if r.done.contains i then r.done else r.done ++ [i] })).rollLeave i
/-- Step 4 of R201 for a stall, where every KEY_ACK of the new epoch has come. -/
def State.checkRolled (s : State) (i : Nat) : State :=
  let x := s.stall i
  if s.rolling ∧ x.nextHeld = true ∧ x.rolled = false ∧ (x.padList.all (fun p => x.acked.contains (p, s.nextEpoch8))) = true then
    s.rolledDone i
  else s
/-- An item of a kind ends for a stall as acknowledged. -/
def State.endKey (s : State) (i : Nat) (k : ItemKind) : State :=
  match s.seg.items.find? (fun t => t.stall == i && t.kind == k) with
  | some it => s.endItem it stOK 0
  | none => s
/-- A stall's KEY item of a kind is sent no more. -/
def State.dropKey (s : State) (i : Nat) (k : ItemKind) : State :=
  { s with seg := { s.seg with items := s.seg.items.filter (fun t => !(t.stall == i && t.kind == k)) } }
/-- KEY_ACK. A renewal puts a new key in the place of the one that the stall's frames leave under; one under way as the stall
comes to hold the next epoch's key begins afresh for that key (R198, R201). (DEDUCED, log 50, 179) -/
def execKeyAck (s : State) : Host.Outcome State Fault Refusal :=
  quiet (fun s => s.upRow (isUp 0x09) (fun t r i =>
    let x := t.stall i
    let p := r.num 1 2
    let e := r.num 3 1
    if r.sub ≠ 2 then t
    else if p = 0xFFFF then
      (if x.renew ≠ 0 ∧ .keyStall e = t.renewKind i then
        (((t.evict x.oldKey).endKey i (.keyStall e)).modStall i (fun x => { x with
          oldKey := if x.nextHeld then x.keyNext else x.key, oldEp := e
          key := if x.nextHeld then x.key else x.renew, keyNext := if x.nextHeld then x.renew else x.keyNext
          renew := 0, fcDown := 0, fcSaved := 0 })).event 6 (yardOf i) 0x0508 0 [i]
       else if t.rolling ∧ e = t.nextEpoch8 ∧ x.keyNext ≠ 0 ∧ x.nextHeld = false then
        let t := t.endKey i (.keyStall e)
        let t := if x.renew = 0 then t else t.dropKey i (t.renewKind i)
        let t := t.modStall i (fun x => { x with nextHeld := true })
        let t := if x.renew = 0 then t else t.renewKey i
        x.padList.foldl (fun u q => u.addKey i (.keyPad q e)) t
       else t)
    else
      let q := t.pad p
      if p < 4096 ∧ (p = 0 ∨ x.lists p = true) ∧ ((e = q.epoch ∧ q.key ≠ 0) ∨ (q.rolling = true ∧ e = t.nextEpoch8)) then
        let t := (t.endKey i (.keyPad p e)).modStall i (fun x => { x with
          acked := if x.acked.contains (p, e) then x.acked else x.acked ++ [(p, e)] })
        t.checkRolled i
      else (t.endKey i (.keyPad p e)).checkRolled i)) s

/-! ## Joining (R146, R151 to R153, R172) -/

/-- The JOIN RESP codes (R161). -/
def jACCEPT : Nat := 0
def jWAIT : Nat := 1
def jCAPACITY : Nat := 2
def jUNKNOWN : Nat := 3
def jVERSION : Nat := 4
def jRETIRED : Nat := 5
/-- The body of a JOIN RESP other than ACCEPT. Octets that R161 gives no meaning in such an answer are free. (DESIGN CHOICE, log 44) -/
def State.joinResp (s : State) (result : Nat) (retry : Option Nat) : List Byte × State :=
  let f := s.freshBytes 32
  (le 1 1 ++ le 1 result ++ (match retry with
    | some v => le 1 v ++ f.1.drop 1
    | none => f.1), f.2)
/-- The body of a JOIN RESP with ACCEPT (R161). (DEDUCED, log 45) -/
def State.joinAccept (s : State) (i : Nat) (key : List Byte) : List Byte × State :=
  let x := s.stall i
  let f := s.freshBytes 1
  (le 1 1 ++ le 1 jACCEPT ++ f.1 ++ le 3 i ++ le 1 x.wakeSlot ++ le 1 x.wakeEvery ++ le 1 x.wakePhase ++ le 1 x.epoch
    ++ fitBytes 24 key, f.2)
/-- The slots that a wake schedule may use (R146). (DESIGN CHOICE, log 44) -/
def State.wakeSlots (s : State) (y : Nat) : List Nat :=
  match s.beaconEntry y with
  | none => []
  | some b =>
    let m := ((s.dlEntry y).getD b).mode
    let full := s.airT y b.mode (s.psduLen y 205)
    let need := 64 * msT + s.airT y m (s.psduLen y 1025)
    (List.range 256).filter (fun k =>
      decide (full ≤ k * s.slotT) && (s.runs y).any (fun r =>
        decide (r.1 ≤ k ∧ k < r.1 + r.2) && decide (need ≤ (r.1 + r.2 - k) * s.slotT)))
/-- A wake schedule (R146): slot, every, phase. Which of those allowed is free. (DESIGN CHOICE, log 44) -/
def State.wakeSchedule (s : State) (y : Nat) : (Nat × Nat × Nat) × State :=
  let a := s.fresh
  let b := a.2.fresh
  let c := b.2.fresh
  let l := s.wakeSlots y
  let every := if l = [] then 0 else 1 + b.1 % 255
  ((if l = [] then a.1 % 256 else l.getD (a.1 % l.length) 0, every, if every = 0 then c.1 % 256 else c.1 % every), c.2)
/-- The stall that holds an EUI, in the order in which R172 asks: RETIRED, JOINING, any other state, and an UNBOUND one of the
yard itself. -/
def State.holder (s : State) (eui y : Nat) : Option Nat :=
  let of_ (p : Nat → Stall → Bool) : Option Nat :=
    (s.seg.stalls.find? (fun q => eui != 0 && q.2.eui == eui && p q.1 q.2)).map (fun q => q.1)
  (of_ (fun _ x => x.state == sRETIRED)).or ((of_ (fun _ x => x.state == sJOINING)).or
    ((of_ (fun _ x => x.state != sUNBOUND)).or (of_ (fun i _ => yardOf i == y))))
/-- The lowest-numbered free stall of a yard (R172). -/
def State.freeStall (s : State) (y : Nat) : Option Nat :=
  ((List.range 16384).map (fun k => y * 16384 + k)).find? (fun i => (s.stall i).free)
/-- An answer to a JOIN REQ: at ANS_DELAY, or inside a RELAY item to the parent that brought it (R151, R162). -/
def State.answerJoin (s : State) (r : Rx) (stall : Nat) (resp : List Byte) : State :=
  if r.frame.ar = false then s
  else
    match r.via with
    | none => s.addAnswer r (.join r.eui resp) stall
    | some p =>
      let f := s.joinFrame r.eui r.frame.fc resp
      (f.2.keepJoin r.eui r.frame.fc r.frame.last f.1).relayTo p f.1
/-- JOIN_REQUEST, at most once per EUI in 600 s (R172). -/
def State.joinEvent (s : State) (r : Rx) (bound : Nat) : State :=
  let e := r.eui
  if s.seg.asked.any (fun a => a.1 == e && decide (s.newt.tick < a.2 + 600 * 32768)) then s
  else ({ s with seg := { s.seg with asked := (e, s.newt.tick) :: s.seg.asked.filter (fun a => a.1 != e) } }).event 6 r.yard
    0x0501 1 [e, r.yard, r.num 9 1, bound]
/-- A stall takes a node (R172): what the request and the answer say, and a stall key. -/
def State.joinStall (s : State) (r : Rx) (i handle : Nat) : State :=
  let w := s.wakeSchedule (yardOf i)
  let fl := r.num 13 1
  let hops := match r.via with
    | some p => (s.stall p).hops + 1
    | none => 1
  (w.2.campNew i).modStall i (fun x => { x with
    eui := r.eui, tol := r.num 10 1, p := r.num 11 1, listen := r.num 12 1, sleepy := bit fl 0, relay := bit fl 2
    wakeSlot := w.1.1, wakeEvery := w.1.2.1, wakePhase := w.1.2.2, fwver := r.num 17 4, state := sJOINING, key := handle
    keyNext := 0, oldKey := 0, oldEp := 0, renew := 0, nextHeld := false, rolled := false, acked := []
    epoch := if s.rolling then s.nextEpoch8 else s.epoch8
    fcUp := 0, fcWin := 0, fcDown := 0, fcSaved := 0, joinFc := r.frame.fc, hops := hops % 256
    parent := r.via.getD 0xFFFFFFFF, joinAt := s.tsu.raw, lastSf := (s.seq r.yard).n, syncRaw := (r.frame.sfd : Int)
    stale := false, dozeSf := none, ansFc := 0, ansPsdu := [], ansAt := r.frame.last })
/-- The stall answers ACCEPT with its wrapped key. (DEDUCED, log 45) -/
def State.acceptJoin (s : State) (r : Rx) (i handle : Nat) : State :=
  let t := s.joinStall r i handle
  let key := ((t.joinRoot r.eui).map (fun j => Config.joinKey j.key r.eui)).getD 0
  let a := t.joinAccept i (Config.keyWrap key (t.stallKey i handle (t.stall i).epoch))
  a.2.answerJoin r i a.1
/-- The last accepted join counter of a node (R132). (DEDUCED, log 40) -/
def State.joinFcOf (s : State) (r : Rx) : Option Nat :=
  match s.seg.stalls.find? (fun q => q.2.eui == r.eui) with
  | some q => some q.2.joinFc
  | none => (s.admitOf r.eui).map (fun a => a.joinFc)
/-- The counter of an accepted request is kept with the node's record. -/
def State.keepJoinFc (s : State) (r : Rx) : State :=
  let g (a : Admit) : Admit := if a.eui = r.eui then { a with joinFc := r.frame.fc } else a
  match s.seg.stalls.find? (fun q => q.2.eui == r.eui) with
  | some q => s.modStall q.1 (fun x => { x with joinFc := r.frame.fc })
  | none => { s with seg := { s.seg with admits := s.seg.admits.map g } }
/-- A JOIN REQ whose counter is new is answered by the first check that applies (R172). (DEDUCED, log 40) -/
def State.joinRequest (s : State) (r : Rx) : State :=
  let eui := r.eui
  let y := r.yard
  let hold := s.holder eui y
  let st := hold.map (fun i => (s.stall i).state)
  let adm := s.admitOf eui
  let retry := s.cf .YRD_MAC_JOIN F.YRD_MAC_JOIN_RETRY_AFTER
  let say (t : State) (code : Nat) (again : Option Nat) : State :=
    let a := t.joinResp code again
    a.2.answerJoin r (hold.getD 0) a.1
  if r.num 9 1 ≠ 2 then say s jVERSION none
  else if st = some sRETIRED then say s jRETIRED none
  else if st = some sJOINING then
    let i := hold.getD 0
    let h := (s.evict (s.stall i).key).freshHandle
    h.2.acceptJoin r i h.1
  else if st ≠ none ∧ st ≠ some sUNBOUND then say (s.joinEvent r 1) jWAIT (some retry)
  else if adm.any (fun a => a.refuse || !(a.mask == 0 || bit a.mask y)) then say s jUNKNOWN none
  else if adm = none ∧ hold = none then say (s.joinEvent r 0) jWAIT (some retry)
  else if s.yardFull y then say s jCAPACITY (some 255)
  else
    match hold.or (s.freeStall y) with
    | none => say s jCAPACITY (some 255)
    | some i =>
      match s.seg.preps.find? (fun p => p.eui == eui) with
      | none => say { s with seg := { s.seg with preps := s.seg.preps ++ [{ stall := i, eui := eui, handle := none }] } }
          jWAIT (some retry)
      | some p =>
        match p.handle with
        | none => say s jWAIT (some retry)
        | some h =>
          let t : State := { s with seg := { s.seg with preps := s.seg.preps.filter (fun q => q.eui != eui) } }
          t.acceptJoin r i h
/-- JOIN_REQ. -/
def execJoinReq (s : State) : Host.Outcome State Fault Refusal :=
  quiet (fun s =>
    match s.upNext (fun r => r.frame.typ == tyJOIN) with
    | none => s
    | some r =>
      let p := s.takeUp r
      let t := p.1
      let last := t.joinFcOf r
      if p.2 = true ∨ r.sub ≠ 0 then t
      else if last.any (fun v => decide (r.frame.fc ≤ v)) then
        match t.seg.stalls.find? (fun q => q.2.eui == r.eui) with
        | some q =>
          let kept := t.seg.joinAns.find? (fun a => a.eui == r.eui && a.fc == r.frame.fc && decide (r.frame.last ≤ a.at_ + 10 * secT))
          if r.frame.ar = true ∧ some r.frame.fc = last ∧ kept.isSome = true then
            (t.bump (.YRD_DUP r.yard) F.word).answerAgain r q.1 ((kept.map (fun a => a.psdu)).getD [])
          else (t.replayed r).event 6 r.yard 0x0405 1 [q.1, r.frame.fc, last.getD 0]
        | none =>
          let f := (t.replayed r).fresh
          f.2.event 6 r.yard 0x0405 1 [f.1, r.frame.fc, last.getD 0]
      else (t.keepJoinFc r).joinRequest r) s
/-- STALL_KEY_READY (R172): the shed has prepared a stall key, for the first node that waits for the stall's. -/
def execStallKeyReady (stall : Nat) (s : State) : Host.Outcome State Fault Refusal :=
  quiet (fun s =>
    if s.keyed = false ∨ s.seg.preps.any (fun p => p.stall == stall && p.handle.isNone) = false then s
    else
      let h := s.freshHandle
      let first := s.seg.preps.find? (fun p => p.stall == stall && p.handle.isNone)
      let g (p : Prep) : Prep := if some p = first then { p with handle := some h.1 } else p
      { h.2 with seg := { h.2.seg with preps := h.2.seg.preps.map g } }) s
/-- REJOIN (R152). (DEDUCED, log 43) -/
def execRejoin (s : State) : Host.Outcome State Fault Refusal :=
  quiet (fun s => s.upRow (fun r => isUp 0x08 r && r.sub != 2) (fun t r i =>
    if r.rejoins = false then t
    else
      let x := t.stall i
      let fl := r.num 13 1
      let t := t.modStall i (fun x => { x with
        tol := r.num 10 1, p := r.num 11 1, listen := r.num 12 1, sleepy := bit fl 0, relay := bit fl 2, fwver := r.num 17 4 })
      let t : State := if x.state = sLOST then
          (t.modStall i (fun x => { x with state := sACTIVE })).event 6 (yardOf i) 0x0403 0 [i, sLOST]
        else t
      let a := t.joinAccept i (zeros 24)
      if r.frame.ar then a.2.answerUp r (.rejoin a.1) (le 1 0x08 ++ a.1) else a.2)) s
/-- JOIN_CONFIRM (R151, R155, R172, R177, R201). -/
def execJoinConfirm (s : State) : Host.Outcome State Fault Refusal :=
  quiet (fun s => s.upRow (fun r => isUp 0x08 r && r.sub == 2) (fun t r i =>
    let x := t.stall i
    if x.state ≠ sJOINING ∨ r.num 1 1 ≠ 2 then t
    else
      let t := ((t.unadmit x.eui).modStall i (fun x => { x with state := sACTIVE })).queueKeys i
      if t.rolling = true ∧ x.epoch = t.nextEpoch8 then t.rolledDone i else t.rollOn)) s
/-- JOIN_TIMEOUT (R153). -/
def execJoinTimeout (stall : Nat) (s : State) : Host.Outcome State Fault Refusal :=
  quiet (fun s =>
    let x := s.stall stall
    if x.state = sJOINING ∧ s.serving = true then
      (s.elapseTo (x.joinAt + s.cf .YRD_MAC_JOIN F.YRD_MAC_JOIN_JOIN_TIMEOUT * secT)).failJoin stall |>.rollOn
    else s) s

/-! ## Stall timers (R155, R157, R159, R135) -/

/-- HOLD_ADRIFT (R159): the earliest hold of a stall's items expires. -/
def execHoldAdrift (stall : Nat) (s : State) : Host.Outcome State Fault Refusal :=
  quiet (fun s =>
    if (s.stall stall).state ≠ sADRIFT ∨ s.serving = false then s
    else
      match isort (fun h => h) ((s.seg.items.filter (fun t => t.stall == stall)).filterMap (fun t => t.hold)) with
      | [] => s
      | h :: _ =>
        let t := s.elapseTo h
        if (t.air.accepted ++ t.air.waiting).any (fun r => r.stall == stall && r.frame.typ == tyUP && decide (r.frame.sfd < h)) then t
        else
          (t.seg.items.filter (fun k => k.stall == stall && k.hold.any (fun v => decide (v ≤ h)) && !k.busy
            && k.ackDue.isNone)).foldl (fun u k => u.endItem k stEXPIRED 1) t) s
/-- LOST_AFTER (R155, R157). -/
def execLostAfter (stall : Nat) (s : State) : Host.Outcome State Fault Refusal :=
  quiet (fun s =>
    let x := s.stall stall
    if x.state ≠ sADRIFT ∨ s.serving = false then s
    else
      let t := s.elapseRtc (max x.lastSeen (x.dozeEnd * 65536) + s.param 0x0402 * 60 * 32768)
      let t := (t.endItems stall stEXPIRED 2).modStall stall (fun x => { x with state := sLOST })
      (t.event 6 (yardOf stall) 0x0402 2 [stall, yardOf stall]).rollLeave stall) s
/-- STALL_PERSIST (R135): the stall state goes to NAND; a new period takes effect here (R207). -/
def execStallPersist (s : State) : Host.Outcome State Fault Refusal :=
  quiet (fun s =>
    let due := s.seg.savedAt + s.inForce 0x0507 * 32768
    let t := ((s.elapseRtc due).persistTables).takeForce [0x0507]
    let n := ((List.range 16).filter t.yardEnabled).foldl (fun l y =>
      if (t.seq y).started then Tbl.put 0 l y ((t.seq y).n + 1) else l) t.nvseg.yardN
    { t with
      seg := { t.seg with savedAt := max due t.newt.tick }
      nvseg := { t.nvseg with yardN := n, claimEpoch := t.twn.epoch } }) s

end Sys2Proof.Machine
end

