-- ==== Sys2Proof/Machine/Drive.lean ====
section
/-! DEFINITION. Sys2Proof/Machine/Drive.lean: the direct drive channels: periods, levels, curves, derating, diagnosis and
their commands (R296 to R323). -/
namespace Sys2Proof.Machine

/-! ## Channels -/

def State.drvChan (s : State) (n : Nat) : DrvChan := Tbl.get DrvChan.reset s.drv.chans n
def State.setDrvChan (s : State) (n : Nat) (x : DrvChan) : State :=
  { s with drv := { s.drv with chans := Tbl.put DrvChan.reset s.drv.chans n x } }
def State.modDrvChan (s : State) (n : Nat) (f : DrvChan → DrvChan) : State := s.setDrvChan n (f (s.drvChan n))
/-- A field of a channel's set-up. -/
def State.chEnabled (s : State) (n : Nat) : Bool := s.done && s.cf (.DRV_CH_CFG n) F.DRV_CH_CFG_ENABLE == 1
def State.chRes (s : State) (n : Nat) : Nat := s.cf (.DRV_CH_CFG n) F.DRV_CH_CFG_RES
/-- The claim gate is closed (R314). -/
def State.gateClosed (s : State) : Bool := s.sf .DRV_GATE F.DRV_GATE_CLOSED == 1
/-- DSTATE codes (R321). -/
def dsOFF : Nat := 0
def dsOK : Nat := 1
def dsUNMEASURABLE : Nat := 2
def dsOPEN : Nat := 3
def dsOVER : Nat := 4
def dsGATED : Nat := 5
def dsDISABLED : Nat := 6
/-- The output of a channel is forced low: OVER, or OPEN with OPEN_OFF (R308, R309). -/
def State.forcedLow (s : State) (n : Nat) : Bool :=
  (s.drvChan n).overLatch || ((s.drvChan n).isOpen && s.cf (.DRV_CH_CFG n) F.DRV_CH_CFG_OPEN_OFF == 1)
/-- DSTATE follows the channel (R305, R321). -/
def State.drvRefresh (s : State) (n : Nat) : State :=
  let x := s.drvChan n
  let st := if s.chEnabled n = false then dsDISABLED
    else if s.gateClosed then dsGATED
    else if x.overLatch then dsOVER
    else if x.isOpen then dsOPEN
    else if x.on = 0 then dsOFF
    else if x.on < 800 then dsUNMEASURABLE
    else dsOK
  s.setSf (.DRV_CH_STAT n) F.DRV_CH_STAT_DSTATE st

/-! ## From level to on-time (R300, R301) -/

/-- The greatest number below 2^k, on top of `acc`, that a downward closed test accepts. -/
def greatest (p : Nat → Bool) : Nat → Nat → Nat
  | 0, acc => acc
  | k + 1, acc => if p (acc + 2 ^ k) then greatest p k (acc + 2 ^ k) else greatest p k acc
/-- LOG (R301): round(65,535 × 10^(3 × (i / 4,095 − 1))), exactly. -/
def curveLog (i : Nat) : Nat :=
  if i = 0 then 0
  else greatest (fun n => decide (((2 * n - 1) * 1000) ^ 1365 ≤ 131070 ^ 1365 * 10 ^ i)) 16 0
/-- GAMMA (R301): round(65,535 × (i / 4,095)^2.2), exactly. -/
def curveGamma (i : Nat) : Nat :=
  greatest (fun n => decide ((2 * n - 1) ^ 5 * 4095 ^ 11 ≤ 131070 ^ 5 * i ^ 11)) 16 0
/-- Entry `i` of a channel's curve (R301). -/
def State.curve (s : State) (code i : Nat) : Nat :=
  if code = 0 then (2 * 65535 * i + 4095) / 8190
  else if code = 1 then curveLog i
  else if code = 2 then curveGamma i
  else if code = 3 then s.cf (.DRV_CURVEA (i / 2)) (if i % 2 = 0 then F.DRV_CURVEA_EVEN else F.DRV_CURVEA_ODD)
  else s.cf (.DRV_CURVEB (i / 2)) (if i % 2 = 0 then F.DRV_CURVEB_EVEN else F.DRV_CURVEB_ODD)
/-- The on-time of a level, in DRV cycles (R300). -/
def State.onTime (s : State) (n level : Nat) : Nat :=
  let code := s.cf (.DRV_CH_CFG n) F.DRV_CH_CFG_CURVE
  let i := level / 16
  let e0 := s.curve code i
  let e1 := s.curve code (min (i + 1) 4095)
  let d : Int := e0 + ((e1 : Int) - e0) * (level % 16 : Nat) / 16
  let d' := d.toNat * s.sf (.DRV_NTC_STAT (n / 6)) F.DRV_NTC_STAT_FACTOR / 256
  (d' * 2 ^ s.chRes n + 32767) / 65535
/-- The level of a fade after some ticks (R302). (DEDUCED, log 69) -/
def fadeLevel (from_ target ticks fade : Nat) : Nat :=
  if fade * msT ≤ ticks then target
  else ((from_ : Int) + ((target : Int) - from_) * ticks / (fade * msT : Nat)).toNat

/-! ## Diagnosis (R305 to R309) -/

/-- What a voltage at DRVn_ISNS reads as, in 0.5 mV: 1,200 mV at most (R305). -/
def isnsCode (v : Nat) : Nat := min v 2400
/-- A measurement of a channel (R307, R308). -/
def State.measureCh (s : State) (n v : Nat) (probe : Bool) : State :=
  let thr := s.cf (.DRV_CH_DIAG n) F.DRV_CH_DIAG_OPEN_THR
  let t := (s.setSf (.DRV_CH_ISNS n) F.DRV_CH_ISNS_VALUE (min v 4095)).setSf (.DRV_CH_ISNS n) F.DRV_CH_ISNS_PROBE (b2n probe)
  if thr = 0 then t
  else if thr ≤ v then
    let u := t.setSf (.DRV_CH_STAT n) F.DRV_CH_STAT_LOW 0
    if (u.drvChan n).isOpen then
      (((u.modDrvChan n (fun x => { x with isOpen := false })).setSf (.DRV_CH_EVT n) F.DRV_CH_EVT_RESTORED 1).event 15 n
        0x0902 1 [n, v]).drvRefresh n
    else u
  else
    let low := min 3 (t.sf (.DRV_CH_STAT n) F.DRV_CH_STAT_LOW + 1)
    let u := t.setSf (.DRV_CH_STAT n) F.DRV_CH_STAT_LOW low
    if low = 3 ∧ (u.drvChan n).isOpen = false then
      (((u.modDrvChan n (fun x => { x with isOpen := true })).setSf (.DRV_CH_EVT n) F.DRV_CH_EVT_OPEN 1).event 15 n
        0x0901 2 [n, v, b2n probe]).drvRefresh n
    else u
/-- What a channel's pad does from now on (R296). -/
def State.drivePad (s : State) (n : Nat) (form : Option PwmForm) : State :=
  (s.modDrvChan n (fun x => { x with pad := form })).emit (.pwm n form)
/-- One period of a channel with an on-time (R298, R299). While the claim gate is closed the pad stays at high impedance. -/
def State.period (s : State) (n on per : Nat) : State :=
  let r := Reg.DRV_CH_CFG n
  let form : PwmForm := { on := on, per := per, start := s.cf r F.DRV_CH_CFG_PHASE * 2 ^ (s.chRes n - 4)
                          high := s.cf r F.DRV_CH_CFG_POL == 0 }
  if s.gateClosed then s else s.drivePad n (some form)
/-- The output is forced low at once, within its period: no on-time is left (R309). (DEDUCED, log 70) -/
def State.forceLow (s : State) (n : Nat) : State := s.period n 0 (2 ^ s.chRes n)
/-- A MEASURED sample against OVER_THR (R309). -/
def State.overCheck (s : State) (n v : Nat) : State :=
  let thr := s.cf (.DRV_CH_DIAG n) F.DRV_CH_DIAG_OVER_THR
  let high := decide (thr ≠ 0 ∧ thr < v)
  if high = true ∧ (s.drvChan n).high = true ∧ (s.drvChan n).overLatch = false then
    ((((s.modDrvChan n (fun x => { x with high := true, overLatch := true })).forceLow n).setSf (.DRV_CH_EVT n) F.DRV_CH_EVT_OVER
      1).event 15 n 0x0903 3 [n, v]).drvRefresh n
  else s.modDrvChan n (fun x => { x with high := high })

/-! ## Changes (R302, R310 to R313) -/

/-- A channel's change has been taken: its command or its scene goes on (R20, R54, R187, R310, R311). (DEDUCED, log 73) -/
def State.changeTaken (s : State) (c : DrvChange) (late : Bool) : State :=
  let s : State := match c.scene with
    | some id => (s.modScene id (fun x => { x with latching := x.latching - 1, latched := x.latched + 1, late := x.late || late })).checkScene id
    | none => s
  match c.did with
  | none => s
  | some d =>
    let t := (s.beginDesc d).updDesc d (fun x => { x with late := x.late || late })
    if t.drv.changes.any (fun k => k.did == some d) then t
    else
      match t.desc? d with
      | some e => t.ok e e.work
      | none => t
/-- One change takes effect at a boundary; its fade starts from the level before any change made there (R302, R309, R313). -/
def State.takeChange (s : State) (n : Nat) (c : DrvChange) : State :=
  let present := s.sf (.DRV_CH_LEVEL n) F.DRV_CH_LEVEL_PRESENT
  let t := (s.setSf (.DRV_CH_LEVEL n) F.DRV_CH_LEVEL_TARGET c.level).modDrvChan n (fun x => { x with
    from_ := present, fadeAt := s.tsu.raw, fade := c.fade, overLatch := if c.clr then false else x.overLatch
    high := if c.clr then false else x.high })
  let per := 2 ^ s.chRes n * 5 / 2
  let late := match c.due with
    | some due => decide ((due : Int) + per ≤ s.outputTime)
    | none => false
  ({ t with drv := { t.drv with changes := t.drv.changes.erase c } }).changeTaken c late
/-- The changes of a channel that are due now, in the order of R313. -/
def State.dueChanges (s : State) (n : Nat) : List DrvChange :=
  let l := s.drv.changes.filter (fun c => c.ch == n)
  isort (fun c => c.due.getD 0) (l.filter (fun c => c.due.isSome)) ++ l.filter (fun c => c.due.isNone)

/-- A channel's next period boundary: changes take effect, the fade goes on, and the on-time is computed (R300, R302, R313).
A period of class OFF resets the low count, unless OPEN_OFF forces it low (R307). (DEDUCED, log 70) -/
def State.boundary (s : State) (ch : Nat) : State :=
  let per := 2 ^ s.chRes ch
  let now := (s.tsu.raw - s.drv.setupAt) * 2 / 5
  let b := max (s.drvChan ch).next (ceilDiv now per * per)
  let t := (s.elapseTo (s.drv.setupAt + ceilDiv (b * 5) 2)).modDrvChan ch (fun x => { x with next := b + per })
  let x := t.drvChan ch
  let target := t.sf (.DRV_CH_LEVEL ch) F.DRV_CH_LEVEL_TARGET
  let t := t.setSf (.DRV_CH_LEVEL ch) F.DRV_CH_LEVEL_PRESENT (fadeLevel x.from_ target (t.tsu.raw - x.fadeAt) x.fade)
  let t := (t.dueChanges ch).foldl (fun u c => u.takeChange ch c) t
  let x := t.drvChan ch
  let t := t.setSf (.DRV_CH_LEVEL ch) F.DRV_CH_LEVEL_PRESENT
    (fadeLevel x.from_ (t.sf (.DRV_CH_LEVEL ch) F.DRV_CH_LEVEL_TARGET) (t.tsu.raw - x.fadeAt) x.fade)
  if t.chEnabled ch = false then t
  else
    let on := if t.forcedLow ch then 0 else t.onTime ch (t.sf (.DRV_CH_LEVEL ch) F.DRV_CH_LEVEL_PRESENT)
    let t := (t.setSf (.DRV_CH_ON ch) F.DRV_CH_ON_ON on).modDrvChan ch (fun x => { x with on := on })
    let off := t.gateClosed || on == 0
    let openOff := (t.drvChan ch).isOpen && t.cf (.DRV_CH_CFG ch) F.DRV_CH_CFG_OPEN_OFF == 1 && !(t.drvChan ch).overLatch
    let t : State := if off = true ∧ openOff = false then t.setSf (.DRV_CH_STAT ch) F.DRV_CH_STAT_LOW 0 else t
    t.drvRefresh ch
/-- An ordinary period with its ISNS sample, in 0.5 mV (R305). -/
def State.plainPeriod (s : State) (ch sample : Nat) : State :=
  if s.chEnabled ch = false then s
  else
    let on := (s.drvChan ch).on
    let t := s.period ch on (2 ^ s.chRes ch)
    if s.gateClosed = false ∧ 800 ≤ on then
      (t.modDrvChan ch (fun x => { x with count := x.count + 1, sum := x.sum + isnsCode sample })).overCheck ch (isnsCode sample)
    else t
/-- PWM_PERIOD_BOUNDARY: the channel's next boundary. `sample` is the ISNS sample of the period that begins, in 0.5 mV. (DEDUCED, log 70) -/
def execPwmPeriodBoundary (ch : Nat) (sample : Nat) (s : State) : Host.Outcome State Fault Refusal :=
  quiet (fun s => if 47 < ch ∨ s.done = false then s else (s.boundary ch).plainPeriod ch sample) s

/-- ISNS_WINDOW (R305): a 100 ms window ends; the normal measurement is the mean of its MEASURED samples, rounded by log 75. (DESIGN CHOICE, log 75) -/
def execIsnsWindow (ch : Nat) (s : State) : Host.Outcome State Fault Refusal :=
  quiet (fun s =>
    if 47 < ch ∨ s.chEnabled ch = false then s
    else
      let w := max (s.drvChan ch).window ((s.tsu.raw - s.drv.setupAt) / (100 * msT)) + 1
      let t := s.elapseTo (s.drv.setupAt + w * 100 * msT)
      let x := t.drvChan ch
      let t := t.modDrvChan ch (fun x => { x with window := w, count := 0, sum := 0 })
      if x.count ≠ 0 ∧ t.gateClosed = false then (t.round x.sum x.count).2.measureCh ch (t.round x.sum x.count).1 false else t) s

/-- A channel is to be probed (R306, R308). (DEDUCED, log 70) -/
def State.probes (s : State) (n : Nat) : Bool :=
  let x := s.drvChan n
  s.chEnabled n && !s.gateClosed && !x.overLatch
    && ((x.isOpen && s.cf (.DRV_CH_CFG n) F.DRV_CH_CFG_OPEN_OFF == 1)
      || (s.cf (.DRV_CH_CFG n) F.DRV_CH_CFG_PROBE_EN == 1
        && (decide (0 < x.on ∧ x.on < 800) || (x.on == 0 && s.cf (.DRV_CH_CFG n) F.DRV_CH_CFG_PROBE_OFF == 1))))
/-- The stretched period of a probe, begun at the boundary just passed: an on-time of 1,600 cycles and its normal off-time. The
next boundary is the first of the shared counter after it (R299, R306). (DEDUCED, log 70) -/
def State.probe (s : State) (ch mv : Nat) : State :=
  let per := 2 ^ s.chRes ch
  let stretched := 1600 + (per - (s.drvChan ch).on)
  let stop := (s.drvChan ch).next - per + stretched
  let t := (s.modDrvChan ch (fun x => { x with probeAt := s.tsu.raw, next := ceilDiv stop per * per })).period ch 1600 stretched
  let t := (t.setSf (.DRV_CH_ON ch) F.DRV_CH_ON_ON 1600).bumpSat (.DRV_CH_STAT ch) F.DRV_CH_STAT_PROBES
  t.measureCh ch (isnsCode mv) true
/-- DRV_PROBE (R306): a probe falls due; its stretched period begins at the next boundary, and the probe sample, in 0.5 mV, is
taken in it. A probe whose boundary has a launch-timed change moves to the next period, and one that the channel no longer
needs after the boundary is dropped: the period is an ordinary one with that sample. -/
def execDrvProbe (ch : Nat) (mv : Nat) (s : State) : Host.Outcome State Fault Refusal :=
  quiet (fun s =>
    if 47 < ch ∨ s.probes ch = false then s
    else
      let t := s.elapseTo ((s.drvChan ch).probeAt + s.cf .DRV_CFG F.DRV_CFG_PROBE_PERIOD * secT)
      let launch := t.drv.changes.any (fun c => c.ch == ch && c.due.isSome)
      let t := t.boundary ch
      if launch = false ∧ t.probes ch = true then t.probe ch mv else t.plainPeriod ch mv) s

/-! ## Thermal derating (R303, R304) -/

/-- The target of a group's factor (R303, R304): temperature in 0.1 °C, or none in a fault. (DEDUCED, log 71) -/
def State.ntcTarget (s : State) (g : Nat) (temp : Option Int) : Nat :=
  let r := Reg.DRV_NTC_CFG g
  let least := 256 * s.cf r F.DRV_NTC_CFG_FLOOR / 100
  let knee : Int := 10 * signed 8 (s.cf r F.DRV_NTC_CFG_KNEE)
  if s.cf r F.DRV_NTC_CFG_ENABLE = 0 then 256
  else
    match temp with
    | none => least
    | some t => if t ≤ knee then 256
      else (max (least : Int) (256 - 256 * (s.cf r F.DRV_NTC_CFG_SLOPE : Int) * (t - knee) / 10000)).toNat
/-- NTC_READ: the resistance read, in Ω. (DEDUCED, log 71) -/
def execNtcRead (g ohms : Nat) (s : State) : Host.Outcome State Fault Refusal :=
  quiet (fun s =>
    if 7 < g ∨ s.done = false then s
    else
      let w := max (Tbl.get 0 s.drv.ntcReads g) ((s.tsu.raw - s.drv.setupAt) / (100 * msT)) + 1
      let t := s.elapseTo (s.drv.setupAt + w * 100 * msT)
      let t : State := { t with drv := { t.drv with ntcReads := Tbl.put 0 t.drv.ntcReads g w } }
      let r := Reg.DRV_NTC_STAT g
      let bad := decide (ohms < 100 ∨ 1000000 < ohms)
      let temp := Config.ntcTemp (t.cf (.DRV_NTC_CFG g) F.DRV_NTC_CFG_BETA) ohms
      let was := t.sf r F.DRV_NTC_STAT_FAULT
      let t := t.setSf r F.DRV_NTC_STAT_FAULT (b2n bad)
      let t : State := if bad then (if was = 0 then t.event 15 (64 + g) 0x0904 2 [g, min ohms 0xFFFFFFFF] else t)
        else t.setSf r F.DRV_NTC_STAT_TEMP (twos 16 temp)
      let target := t.ntcTarget g (if bad then none else some temp)
      let f := t.sf r F.DRV_NTC_STAT_FACTOR
      let f' := if f < target then f + 1 else if target < f then f - 1 else f
      let t := t.setSf r F.DRV_NTC_STAT_FACTOR f'
      if (f = 256) = (f' = 256) then t
      else t.event 15 (64 + g) 0x0905 1 [g, f', twos 32 (signed 16 (t.sf r F.DRV_NTC_STAT_TEMP) / 10)]) s

/-! ## Commands (R310 to R313, R323) -/

/-- The channels that a SEL names; none: not valid (R310, R323). -/
def State.selChans (s : State) (sel : Nat) : Option (List Nat) :=
  if sel < 48 then some [sel]
  else if 0x40 ≤ sel ∧ sel < 0x48 then some ((List.range 48).filter (s.inGroup .drive (sel - 0x40)))
  else if sel = 0x7F then some (List.range 48)
  else none
/-- The records of a DRIVE_SET: SEL, CLR, LEVEL, FADE, and whether their reserved bits are 0. -/
def driveRecords (b : List Byte) : List (Nat × Bool × Nat × Nat × Bool) :=
  (List.range (b.length / 8)).map (fun k =>
    (leAt b (8 * k) 1, bit (leAt b (8 * k + 1) 1) 0, leAt b (8 * k + 2) 2, leAt b (8 * k + 4) 2,
      leAt b (8 * k + 1) 1 < 2 && leAt b (8 * k + 6) 2 == 0))
/-- Changes are put before the channels; the command completes when they have been taken (R20). -/
def State.putChanges (s : State) (d : Desc) (l : List DrvChange) : State :=
  let n := ((l.map (fun c => c.ch)).eraseDups).length
  let t := s.updDesc d.did (fun x => { x with work := n, stage := if l = [] then x.stage else .queued })
  if l = [] then t.ok { d with actTime := some s.outputTime } 0
  else { t with drv := { t.drv with changes := t.drv.changes ++ l } }
/-- A DRIVE_SET's buffer with the channels of each record named one by one: the groups are those of the moment it is checked
(R323). -/
def State.expandSets (s : State) (b : List Byte) : List Byte :=
  ((List.range (b.length / 8)).map (fun k =>
    (((s.selChans (leAt b (8 * k) 1)).getD []).map (fun n => le 1 n ++ (b.drop (8 * k + 1)).take 7)).flatten)).flatten
/-- A DRIVE_SET acts: without LAUNCH at the channels' next boundaries, with it at the first from LAUNCH_TIME on. (DEDUCED, log 73) -/
def State.driveSetNow (s : State) (d : Desc) : State :=
  let due := if d.launch then some d.launchTime else none
  s.putChanges d ((driveRecords d.buf).flatMap (fun r =>
    ((s.selChans r.1).getD []).map (fun n =>
      { ch := n, did := some d.did, scene := none, level := r.2.2.1, fade := r.2.2.2.1, clr := r.2.1, due := due })))
/-- The drive PWM block is gated: no channel is enabled, and its gate has closed (R485). -/
def State.pwmGated (s : State) : Bool := s.sf .CLK_GATE_STAT ⟨16, 16⟩ == 1 && (List.range 48).all (fun n => !s.chEnabled n)
/-- DRIVE_SET (R310); one that reaches the gated block completes with ERR_GATED (R22). (DEDUCED, log 178) -/
def execDriveSet (did : Nat) (read : HostRead) (s : State) : Host.Outcome State Fault Refusal :=
  quiet (fun s => s.operationIn did 0x50 read (fun _ => true) (fun s d =>
    if d.target ≠ 0 ∨ d.pZero 0 32 = false ∨ d.len % 8 ≠ 0 ∨ d.len < 8 ∨ 384 < d.len then s.fail d stERR_ARG
    else
      match (driveRecords d.buf).findIdx? (fun r => (s.selChans r.1).isNone || !r.2.2.2.2) with
      | some k => s.fail d stERR_ARG k
      | none =>
        if s.pwmGated then s.fail d stERR_GATED
        else
          let e := { d with buf := s.expandSets d.buf }
          let t := s.updDesc d.did (fun _ => e)
          if d.launch then t.acceptLaunch e State.driveSetNow else t.driveSetNow e)) s
/-- A DRIVE_LATCH acts (R311). -/
def State.driveLatchNow (s : State) (d : Desc) : State :=
  let due := if d.launch then some d.launchTime else none
  s.putChanges d ((List.zip (maskChans (driveMask d.buf)) (driveLevels d.buf)).map (fun p =>
    { ch := p.1, did := some d.did, scene := none, level := p.2, fade := d.pNum 0 2, clr := false, due := due }))
/-- DRIVE_LATCH (R311); one that reaches the gated block completes with ERR_GATED (R22). (DEDUCED, log 178) -/
def execDriveLatch (did : Nat) (read : HostRead) (s : State) : Host.Outcome State Fault Refusal :=
  quiet (fun s => s.operationIn did 0x51 read (fun _ => true) (fun s d =>
    if d.target ≠ 0 ∨ d.pZero 2 32 = false then s.fail d stERR_ARG
    else if driveSectionOk d.buf = false then s.fail d stERR_ARG 1
    else if s.pwmGated then s.fail d stERR_GATED
    else if d.launch then s.acceptLaunch d State.driveLatchNow else s.driveLatchNow d)) s
/-- A scene's drive section goes before its channels (R187). (DEDUCED, log 54) -/
def State.sceneDrive (s : State) (c : Scene) : State :=
  let l := (List.zip (maskChans c.dmask) c.levels).map (fun p =>
    ({ ch := p.1, did := none, scene := some c.id, level := p.2, fade := 0, clr := false, due := some c.t } : DrvChange))
  ({ s with drv := { s.drv with changes := s.drv.changes ++ l } }).modScene c.id (fun x => { x with
    left := x.left - 1, latching := x.latching + l.length })

/-! ## The claim gate and the start (R296, R303, R314) -/

/-- DSTATE of every channel follows the gate. -/
def State.drvRefreshAll (s : State) : State := (List.range 48).foldl State.drvRefresh s
/-- The gate closes: every pad that drives goes to high impedance, mid-period if need be. -/
def State.closeGate (s : State) : State :=
  if s.gateClosed then s
  else
    let t := (s.setSf .DRV_GATE F.DRV_GATE_CLOSED 1).bumpSat .DRV_GATE F.DRV_GATE_CLOSURES
    (((List.range 48).filter (fun n => (t.drvChan n).pad.isSome)).foldl (fun u n => u.drivePad n none) t).drvRefreshAll
/-- The gate opens: each channel drives again from its next period boundary. -/
def State.openGate (s : State) : State := (s.setSf .DRV_GATE F.DRV_GATE_CLOSED 0).drvRefreshAll
/-- HIF_SETUP_DONE starts the drive: every enabled channel takes its start-up level at its first boundary (R296). -/
def State.setupDrive (s : State) : State :=
  let on := (List.range 48).filter s.chEnabled
  let l := on.map (fun n => ({ ch := n, did := none, scene := none, level := s.cf (.DRV_CH_INIT n) F.DRV_CH_INIT_LEVEL, fade := 0
                               clr := false, due := none } : DrvChange))
  let c : DrvChan := { DrvChan.reset with probeAt := s.tsu.raw }
  let t : State := { s with drv := { chans := on.map (fun n => (n, c)), changes := l, setupAt := s.tsu.raw, ntcReads := [] } }
  ((List.range 8).foldl (fun u g => u.setSf (.DRV_NTC_STAT g) F.DRV_NTC_STAT_FACTOR 256) t).drvRefreshAll

end Sys2Proof.Machine
end

