-- ==== Sys2Proof/Machine/TimeUnit.lean ====
section
/-! DEFINITION. Sys2Proof/Machine/TimeUnit.lean: the two time domains, output time, the switch, PPS, and reading and
controlling time (R261 to R295). -/
namespace Sys2Proof.Machine

/-! ## Domain states (R269, R274) -/

/-- State codes of R269. -/
def dDISABLED : Nat := 0
def dLISTENING : Nat := 1
def dLOCKING : Nat := 2
def dSYNCED : Nat := 3
def dHOLDOVER : Nat := 4

/-- The state of a domain. -/
def State.domState (s : State) (d : Nat) : Nat := s.sf (.TSU_DOM_STAT d) F.TSU_DOM_STAT_STATE
/-- SOURCE = PPS_IN (R290). -/
def State.domPps (s : State) (d : Nat) : Bool := s.cf (.TSU_DOM_CFG d) F.TSU_DOM_CFG_SOURCE == 1
/-- The domain number in force: 0 for gPTP (R261, R290). -/
def State.domNum (s : State) (d : Nat) : Nat :=
  if s.cf (.TSU_DOM_CFG d) F.TSU_DOM_CFG_PROFILE = 2 then 0 else s.cf (.TSU_DOM_CFG d) F.TSU_DOM_CFG_DOMNUM

/-- TSU_STAT follows the domain states, the active domain and the residue (R274, R289). -/
def State.tsuRefresh (s : State) : State :=
  let a := s.domState s.act
  ((((s.setSf .TSU_STAT F.TSU_STAT_STATE_A (s.domState 0)).setSf .TSU_STAT F.TSU_STAT_STATE_B (s.domState 1)).setSf
    .TSU_STAT F.TSU_STAT_SYNCED (b2n (a == dSYNCED))).setSf .TSU_STAT F.TSU_STAT_HOLDOVER (b2n (a == dHOLDOVER))).setSf
    .TSU_STAT F.TSU_STAT_SLEWING (b2n (decide (s.tsu.res ≠ 0)))

/-- A domain takes a state; in DISABLED and LISTENING its slave port reads 3 (R284), and it has no master. -/
def State.setDomState (s : State) (d st : Nat) : State :=
  let t := s.setSf (.TSU_DOM_STAT d) F.TSU_DOM_STAT_STATE st
  (if st ≤ 1 then (t.setSf (.TSU_DOM_STAT d) F.TSU_DOM_STAT_PORT 3).setDom d { s.dom d with master := false, sync := 0 } else t).tsuRefresh

/-- The TSU tick after its switch at which step `k` of a slew is made (R271): no step comes early, so the rate keeps within
SLEW. -/
def State.slewAt (s : State) (k : Nat) : Nat := s.tsu.slewFrom + ceilDiv (k * 1000000) (s.cf .TSU_CFG F.TSU_CFG_SLEW)

/-- A step is counted and recorded (R272): its value is what the domain's time has moved by. -/
def State.noteStep (s : State) (d : Nat) (v : Int) (cause : Nat) : State :=
  ((s.bumpSat (.TSU_DOM_STAT d) F.TSU_DOM_STAT_STEPS).setSf .TSU_EVT F.TSU_EVT_STEP 1).event 3 d 0x0804 2 [d, twos 64 v, cause]
/-- A forward step of the output time from `old` passes launch instants: their slots fire at once, late (R283). -/
def State.stepPasses (s : State) (old : Int) : State :=
  { s with tsu := { s.tsu with slots := s.tsu.slots.map (fun x =>
      if old ≤ x.time ∧ (x.time : Int) < s.outputTime then { x with late := true } else x) } }

/-- The output time switches to a domain at one TSU tick (R271, R272): a residue to slew, or a step. -/
def State.switchTo (s : State) (new : Nat) : State :=
  let old := s.act
  let res := s.outputTime - s.domNow new
  let slews := (s.domState old = dSYNCED ∨ s.domState old = dHOLDOVER) ∧ res.natAbs ≤ 100 * msT
  let s1 := s.setSf .TSU_STAT F.TSU_STAT_ACTIVE new
  let s2 := { s1 with tsu := { s1.tsu with res := if slews then res else 0, slewFrom := s1.tsu.raw, slewN := 0 } }
  let s3 := ((s2.setSf .TSU_EVT F.TSU_EVT_SWITCH 1).event 3 new 0x0802 1 [old, new, twos 64 res]).tsuRefresh
  if slews then s3 else (s3.noteStep new (-res) 2).stepPasses s.outputTime

/-- The counter of compatibility mode takes a value (R275). -/
def State.setCompat (s : State) (v : Int) : State := { s with tsu := { s.tsu with compat := twos 80 v } }
/-- A step adds a value in TSU ticks to OFFSET_d at one TSU tick (R272); in compatibility mode to the counter (R275). -/
def State.stepDom (s : State) (d : Nat) (v : Int) (cause : Nat) : State :=
  let s1 :=
    if s.compatOn then s.setCompat (s.tsu.compat + v * 2 ^ 17)
    else s.setDom d { s.dom d with offset := wrap64 ((s.dom d).offset + v) }
  (s1.noteStep d v cause).stepPasses s.outputTime
/-- TIME_CTL gives the nanosecond counter of compatibility mode a value (R285); the step is what the output time moves by. -/
def State.stepNs (s : State) (d : Nat) (compat : Int) : State :=
  let s1 := s.setCompat compat
  (s1.noteStep d (s1.outputTime - s.outputTime) 1).stepPasses s.outputTime

/-- A domain changes state, with what follows for the output time (R269, R270, R274). -/
def State.changeDom (s : State) (d st : Nat) : State :=
  let was := s.domState s.act
  let s1 := s.setDomState d st
  let s2 :=
    if st = dHOLDOVER then (s1.setSf .TSU_EVT F.TSU_EVT_HOLDOVER 1).event 3 d 0x0803 2 [d]
    else if st = dSYNCED then
      (s1.setSf .TSU_EVT F.TSU_EVT_LOCKED 1).event 3 d 0x0801 1 [d, s1.sf (.TSU_DOM_STAT d) F.TSU_DOM_STAT_PORT]
    else s1
  let other := 1 - s2.act
  if s2.domState s2.act ≠ dSYNCED ∧ s2.domState other = dSYNCED then s2.switchTo other
  else if was = dSYNCED ∧ s2.domState s2.act ≠ dSYNCED then
    s2.event 3 s2.act 0x0807 3 [s2.domState 0, s2.domState 1]
  else s2

/-! ## The servo (R267 to R269) -/

/-- 500 ppm as a RATE, rounded toward 0 so that M3 never goes beyond it (R267). (DEDUCED, log 29) -/
def rateMax : Int := 549755813

/-- A fold: OFFSET takes what the old rate has gained, ANCHOR moves, RATE takes its new value (R268). -/
def Dom.fold (d : Dom) (raw : Nat) (rate : Int) : Dom :=
  { d with
    offset := wrap64 (d.offset + d.gain raw)
    anchor := raw
    rate := if rate < -rateMax then -rateMax else if rateMax < rate then rateMax else rate }

/-- M3 applies a rate: a fold, or in compatibility mode the increment within its bounds (R275). -/
def State.steer (s : State) (d : Nat) (rate : Int) : State :=
  if s.compatOn then
    s.setSf .TSU_COMPAT_INCR F.TSU_COMPAT_INCR_INCR (max 0x18000 (min 0x28000 rate.toNat))
  else s.setDom d ((s.dom d).fold s.tsu.raw rate)

/-- A saturating two's complement number of 32 bits. -/
def sat32 (i : Int) : Nat := twos 32 (max (-(2 ^ 31)) (min (2 ^ 31 - 1) i))

/-- One measurement of the servo: the offset in TSU ticks, and the rate it calls for (R268, R269). -/
def State.measure (s : State) (d : Nat) (offset rate : Int) : State :=
  let st := s.domState d
  if st ≠ dLOCKING ∧ st ≠ dSYNCED then s
  else
    let ns := 2 * offset
    let s1 := (s.setSw (.TSU_DOM_OFFS d) (sat32 ns)).steer d rate
    let dm := s1.dom d
    if st = dLOCKING then
      if 1000000 < ns.natAbs then (s1.setDom d { dm with good := 0 }).stepDom d (-offset) 0
      else if ns.natAbs < s.cf (.TSU_DOM_THR d) F.TSU_DOM_THR_SYNC_THR then
        if 16 ≤ dm.good + 1 then (s1.setDom d { dm with good := 0 }).changeDom d dSYNCED
        else s1.setDom d { dm with good := dm.good + 1 }
      else s1.setDom d { dm with good := 0 }
    else if s.cf (.TSU_DOM_THR d) F.TSU_DOM_THR_LOCK_THR * 1000 < ns.natAbs then
      (s1.setDom d { dm with good := 0 }).changeDom d dLOCKING
    else s1

/-- PTP_SYNC_INTERVAL: a Sync interval of a domain that follows PTP brings one fold (R268): the servo measures where the
interval's Sync has come, with its Follow_Up where it is two-step (R261). (DESIGN CHOICE, log 165) -/
def execPtpSyncInterval (d : Nat) (offset rate : Int) (s : State) : Host.Outcome State Fault Refusal :=
  quiet (fun s =>
    if d < 2 ∧ s.domPps d = false ∧ (s.dom d).sync = 2 then
      (s.setDom d { s.dom d with sync := 0 }).measure d offset rate
    else s) s

/-- A domain finds a master or an edge: LISTENING and HOLDOVER lead to LOCKING (R269). -/
def State.startServo (s : State) (d : Nat) : State :=
  let st := s.domState d
  if s.clk.timeRco = false ∧ (st = dLISTENING ∨ st = dHOLDOVER) then
    (s.setDom d { s.dom d with good := 0 }).changeDom d dLOCKING
  else s

/-! ## PTP messages (R261, R262) -/

/-- PROFILE and the transport in force: gPTP uses Ethernet only. -/
def State.domProfile (s : State) (d : Nat) : Nat := s.cf (.TSU_DOM_CFG d) F.TSU_DOM_CFG_PROFILE
def State.domUdp (s : State) (d : Nat) : Bool := s.cf (.TSU_DOM_CFG d) F.TSU_DOM_CFG_TRANSPORT == 1 && s.domProfile d != 2
/-- The domain runs on a port. -/
def State.domOn (s : State) (d p : Nat) : Bool := decide (p < 3) && bit (s.cf (.TSU_DOM_CFG d) F.TSU_DOM_CFG_PORTS) p
/-- The domain is master on a port (R262): with SOURCE = PTP on those beside its slave port, while it hears a master; with
SOURCE = PPS_IN on all of them, while SYNCED or in HOLDOVER. (DESIGN CHOICE, log 165) -/
def State.masterOn (s : State) (d p : Nat) : Bool :=
  let st := s.domState d
  s.domOn d p && s.cf (.TSU_DOM_CFG d) F.TSU_DOM_CFG_ROLE == 1
    && (if s.domPps d then st == dSYNCED || st == dHOLDOVER
        else (s.dom d).master && decide (1 < st) && s.sf (.TSU_DOM_STAT d) F.TSU_DOM_STAT_PORT != p)
/-- M3 sends a PTP message on a port: over UDP to the port that event and general messages have, else as a frame of EtherType
0x88F7. (PRESUMED, log 168) -/
def State.ptpSend (s : State) (d : Nat) (fields : List Nat) (kind p : Nat) : State :=
  let t := s.emit (.ptp d p kind fields)
  let g := if s.domUdp d then t.mgmtOctets 0x01005E000181 none 0x0800 else t.mgmtOctets 0x011B19000000 none 0x88F7
  g.2.mgmtPort p g.1
/-- The messages of some kinds on some ports. -/
def State.ptpSends (s : State) (d : Nat) (fields : List Nat) (kinds ports : List Nat) : State :=
  ports.foldl (fun t p => kinds.foldl (fun u k => u.ptpSend d fields k p) t) s
/-- What an Announce says of the grandmaster: clockClass, priority1, priority2, clockIdentity (R262). A PPS_IN domain is the
grandmaster itself. -/
def State.announceFields (s : State) (d : Nat) : List Nat :=
  let x := s.dom d
  if s.domPps d then
    [if s.domState d = dSYNCED then 6 else 7, s.cf (.TSU_DOM_PRIO d) F.TSU_DOM_PRIO_PRIORITY1
     , s.cf (.TSU_DOM_PRIO d) F.TSU_DOM_PRIO_PRIORITY2, Config.clockId.toNat]
  else [x.gmClass, x.gmPrio1, x.gmPrio2, x.gm]
/-- TSU ticks of a message interval (R261, R290): two to the power that a field gives, in seconds. -/
def State.intervalT (s : State) (d : Nat) (f : Fld) : Nat :=
  let v := s.cf (.TSU_DOM_INT d) f
  if v < 128 then secT * 2 ^ v else secT / 2 ^ (256 - v)
/-- The ports on which a domain asks for the delay, and the message that asks: a Delay_Req on the slave port, or with the
peer-to-peer profiles a Pdelay_Req on each port. (DESIGN CHOICE, log 165) -/
def State.delayPorts (s : State) (d : Nat) : List Nat :=
  let on := [0, 1, 2].filter (s.domOn d)
  if s.domProfile d ≠ 0 then on
  else if (s.dom d).master then on.filter (fun p => s.sf (.TSU_DOM_STAT d) F.TSU_DOM_STAT_PORT == p) else []
/-- A domain sends the messages that are due: a two-step Sync is a Sync and its Follow_Up (R261). (DESIGN CHOICE, log 165) -/
def State.ptpDue (s : State) (d : Nat) : State :=
  if s.domState d = dDISABLED then s
  else
    let now := s.tsu.raw
    let masters := [0, 1, 2].filter (s.masterOn d)
    let s1 := if masters ≠ [] ∧ (s.dom d).annNext ≤ now then
        (s.ptpSends d (s.announceFields d) [11] masters).setDom d { s.dom d with annNext := now + s.intervalT d F.TSU_DOM_INT_LOG_ANN }
      else s
    let s2 := if masters ≠ [] ∧ (s1.dom d).syncNext ≤ now then
        (s1.ptpSends d [] [0, 8] masters).setDom d { s1.dom d with syncNext := now + s.intervalT d F.TSU_DOM_INT_LOG_SYNC }
      else s1
    let asks := s2.delayPorts d
    if asks ≠ [] ∧ (s2.dom d).reqNext ≤ now then
      (s2.ptpSends d [] [if s.domProfile d = 0 then 1 else 2] asks).setDom d
        { s2.dom d with reqNext := now + s.intervalT d F.TSU_DOM_INT_LOG_DREQ }
    else s2
/-- Both domains' messages. -/
def State.ptpTick (s : State) : State := (s.ptpDue 0).ptpDue 1

/-- A domain chooses a master, or hears the chosen one again (R262, R269). -/
def State.hearMaster (s : State) (d p : Nat) (msg : PtpMsg) : State :=
  let t := (s.setDom d { s.dom d with
    gm := msg.gm, gmClass := msg.clockClass, gmPrio1 := msg.prio1, gmPrio2 := msg.prio2, annAt := s.tsu.raw }).startServo d
  if t.domState d ≤ 1 ∨ t.domState d = dHOLDOVER then t
  else (t.setDom d { t.dom d with master := true }).setSf (.TSU_DOM_STAT d) F.TSU_DOM_STAT_PORT p
/-- A domain acts on a message of its domain number and transport (R261, R262, R269). (DESIGN CHOICE, log 165) -/
def State.domMessage (s : State) (p : Nat) (msg : PtpMsg) (d : Nat) : State :=
  if s.domState d = dDISABLED ∨ s.domNum d ≠ msg.domNum ∨ s.domOn d p = false ∨ s.domUdp d ≠ msg.udp then s
  else
    let slave := (s.dom d).master && s.sf (.TSU_DOM_STAT d) F.TSU_DOM_STAT_PORT == p
    match msg.kind with
    | .announce => if s.domPps d = false ∧ msg.best = true then s.hearMaster d p msg else s
    | .sync twoStep => if slave then s.setDom d { s.dom d with sync := if twoStep then 1 else 2 } else s
    | .followUp => if slave = true ∧ (s.dom d).sync = 1 then s.setDom d { s.dom d with sync := 2 } else s
    | .delayReq => if s.domProfile d = 0 ∧ s.masterOn d p = true then s.ptpSend d [] 9 p else s
    | .pdelayReq => if s.domProfile d = 0 then s else s.ptpSends d [] [3, 10] [p]
    | .delayResp => s
    | .pdelayResp _ => s
    | .pdelayRespFollowUp => s
    | .other => s

/-- PTP_MESSAGE_RX; a blocked ring port drops it (R238). -/
def execPtpMessageRx (p : Nat) (msg : PtpMsg) (s : State) : Host.Outcome State Fault Refusal :=
  quiet (fun s => if s.linkUp p = false ∨ s.portBlocked p = true then s else (s.domMessage p msg 0).domMessage p msg 1) s

/-- ANNOUNCE_RECEIPT_TIMEOUT: announceReceiptTimeout intervals have passed since the chosen master's last Announce, and the
domain enters HOLDOVER (R269). -/
def execAnnounceReceiptTimeout (d : Nat) (s : State) : Host.Outcome State Fault Refusal :=
  quiet (fun s =>
    if d < 2 ∧ s.domPps d = false ∧ (s.domState d = dLOCKING ∨ s.domState d = dSYNCED) then
      let t := s.elapseTo ((s.dom d).annAt + s.cf (.TSU_DOM_INT d) F.TSU_DOM_INT_ART * s.intervalT d F.TSU_DOM_INT_LOG_ANN)
      (t.setDom d { t.dom d with master := false, sync := 0 }).changeDom d dHOLDOVER
    else s) s

/-- SLEW_STEP: the residue moves one TSU tick toward 0 (R271). -/
def execSlewStep (s : State) : Host.Outcome State Fault Refusal :=
  quiet (fun s =>
    if s.tsu.res = 0 then s
    else
      let t := s.elapseTo (s.slewAt (s.tsu.slewN + 1))
      { t with tsu := { t.tsu with
        res := if 0 < t.tsu.res then t.tsu.res - 1 else t.tsu.res + 1, slewN := t.tsu.slewN + 1 } }.tsuRefresh) s

/-! ## PPS (R286, R287) -/

/-- The distance of an instant from the nearest whole second, in TSU ticks. -/
def fromSecond (t : Int) : Int := (t + 250000000) % 500000000 - 250000000

/-- The domains that follow PPS_IN. -/
def State.ppsDoms (s : State) : List Nat := [0, 1].filter (fun d => s.domPps d && s.domState d != dDISABLED)
/-- An edge now falls within ±100 µs of a whole second of a domain's time. -/
def State.ppsFits (s : State) (d : Nat) : Bool := decide ((fromSecond (s.domNow d)).natAbs ≤ 50000)
/-- A PPS_IN edge at a domain that follows PPS_IN (R269, R286): the first edge starts the servo, later ones feed it. -/
def State.ppsDom (s : State) (rate : Int) (d : Nat) : State :=
  if s.domPps d = false ∨ s.domState d = dDISABLED ∨ s.ppsFits d = false then s
  else
    let t := s.setDom d { s.dom d with edgeAt := s.tsu.raw }
    if s.domState d = dLISTENING ∨ s.domState d = dHOLDOVER then t.startServo d
    else t.measure d (fromSecond (s.domNow d)) rate

/-- PPS_IN_EDGE: the edge is stamped with raw count and output time (R265); IN_OK is set by an edge that some PPS domain uses, or
where none follows PPS_IN by any. (DEDUCED, log 169) -/
def execPpsInEdge (rising : Bool) (rate : Int) (s : State) : Host.Outcome State Fault Refusal :=
  quiet (fun s =>
    if s.replaying = false ∧ s.cf .TSU_PPS F.TSU_PPS_IN_EN = 1 ∧ (s.cf .TSU_PPS F.TSU_PPS_IN_EDGE = 0) = (rising = true) then
      let s1 := (s.bump .TSU_PPS_STAT F.TSU_PPS_STAT_IN_EDGES)
      let s2 := { s1 with tsu := { s1.tsu with ppsIn := twos 64 s1.outputTime, ppsRaw := s1.tsu.raw } }
      let s3 := if s.ppsDoms = [] ∨ s.ppsDoms.any s.ppsFits = true then
          ({ s2 with tsu := { s2.tsu with ppsAt := s2.tsu.raw } }).setSf .TSU_PPS_STAT F.TSU_PPS_STAT_IN_OK 1
        else s2
      (s3.ppsDom rate 0).ppsDom rate 1
    else s) s

/-- The raw count at which three expected edges after one at `r` are missing. (DEDUCED, log 169) -/
def edgesLost (r : Nat) : Nat := r + 3 * secT + 50000
/-- The PPS domains whose edges are missing enter HOLDOVER (R269). -/
def State.ppsHoldover (s : State) (d : Nat) : State :=
  if s.domPps d = true ∧ (s.domState d = dLOCKING ∨ s.domState d = dSYNCED) ∧ edgesLost (s.dom d).edgeAt ≤ s.tsu.raw then
    s.changeDom d dHOLDOVER
  else s
/-- What waits for edges: PPS_IN itself while IN_OK is 1, and each PPS domain that is LOCKING or SYNCED. -/
def State.edgesAwaited (s : State) : List Nat :=
  (if s.sf .TSU_PPS_STAT F.TSU_PPS_STAT_IN_OK = 1 then [s.tsu.ppsAt] else [])
    ++ (s.ppsDoms.filter (fun d => s.domState d == dLOCKING || s.domState d == dSYNCED)).map (fun d => (s.dom d).edgeAt)
/-- PPS_LOSS: three expected edges are missing. (DEDUCED, log 169) -/
def execPpsLoss (s : State) : Host.Outcome State Fault Refusal :=
  quiet (fun s =>
    match isort (fun r => r) s.edgesAwaited with
    | [] => s
    | r :: _ =>
      let t := s.elapseTo (edgesLost r)
      let t := if t.sf .TSU_PPS_STAT F.TSU_PPS_STAT_IN_OK = 1 ∧ edgesLost t.tsu.ppsAt ≤ t.tsu.raw then
          ((t.setSf .TSU_PPS_STAT F.TSU_PPS_STAT_IN_OK 0).setSf .TSU_EVT F.TSU_EVT_PPS_LOSS 1).event 3 8 0x0805 2
            [t.sf .TSU_PPS_STAT F.TSU_PPS_STAT_IN_EDGES]
        else t
      (t.ppsHoldover 0).ppsHoldover 1) s

/-- PPS_OUT_PULSE: PPS_OUT rises at the next whole second of output time, if it may (R287). -/
def execPpsOutPulse (s : State) : Host.Outcome State Fault Refusal :=
  quiet (fun s =>
    if s.replaying = false ∧ s.cf .TSU_PPS F.TSU_PPS_OUT_EN = 1
        ∧ (s.cf .TSU_PPS F.TSU_PPS_OUT_ALWAYS = 1 ∨ s.sf .TSU_STAT F.TSU_STAT_SYNCED = 1) then
      let k := (s.outputTime + 499999999) / 500000000
      let k := if k = s.tsu.ppsSec then k + 1 else k
      let t := s.elapseOut (k * 500000000)
      ({ t with tsu := { t.tsu with ppsSec := k } }).emit (.ppsOut k (s.cf .TSU_PPS F.TSU_PPS_OUT_WIDTH))
    else s) s

/-! ## Latching reads (R283, R286) -/

/-- TIME_HI, RAW and RES are latched at the read's TSU tick, for the side that reads. -/
def State.latchTime (s : State) (side : Side) : State :=
  let l : TimeLatch := { timeHi := twos 64 s.outputTime / 2 ^ 32, rawLo := s.tsu.raw % 2 ^ 32, rawHi := s.tsu.raw / 2 ^ 32 % 2 ^ 32
                         res := twos 32 s.tsu.res }
  if side = .host then { s with tsu := { s.tsu with latHost := l } } else { s with tsu := { s.tsu with latFw := l } }
/-- TSU_TIME_LO_READ. -/
def execTsuTimeLoRead (side : Side) (s : State) : Host.Outcome State Fault Refusal :=
  quiet (fun s => (s.latchTime side).emit (.readData side (twos 64 s.outputTime % 2 ^ 32))) s

/-- TSU_PPSIN_HI is latched, for the side that reads. -/
def State.latchPps (s : State) (side : Side) : State :=
  let hi := s.tsu.ppsIn / 2 ^ 32
  if side = .host then { s with tsu := { s.tsu with ppsHiHost := hi } } else { s with tsu := { s.tsu with ppsHiFw := hi } }
/-- TSU_PPSIN_LO_READ. -/
def execTsuPpsinLoRead (side : Side) (s : State) : Host.Outcome State Fault Refusal :=
  quiet (fun s => (s.latchPps side).emit (.readData side (s.tsu.ppsIn % 2 ^ 32))) s

/-! ## TIME_READ, TIME_CTL, TS_READ -/

/-- A domain record (R284). -/
def State.domRecord (s : State) (d : Nat) : List Byte :=
  let idle := decide (s.domState d ≤ 1) || s.domPps d
  le 1 (s.domState d) ++ le 1 (if idle then 3 else s.sf (.TSU_DOM_STAT d) F.TSU_DOM_STAT_PORT)
    ++ le 2 (s.sf (.TSU_DOM_STAT d) F.TSU_DOM_STAT_STEPS) ++ (le 8 (if idle then 0 else (s.dom d).gm)).reverse
    ++ le 4 (s.sf (.TSU_DOM_OFFS d) F.word) ++ le 4 (twos 32 (s.dom d).rate)

/-- The time record (R284). (DEDUCED, log 148) -/
def State.timeRecord (s : State) : List Byte :=
  let flags := s.sf .TSU_STAT F.TSU_STAT_SYNCED + 2 * s.sf .TSU_STAT F.TSU_STAT_HOLDOVER
    + 4 * s.sf .TSU_STAT F.TSU_STAT_SLEWING + 8 * b2n s.compatOn
  le 8 s.tsu.raw ++ le 8 (twos 64 s.outputTime) ++ le 1 s.act ++ le 1 flags ++ zeros 2 ++ le 4 (twos 32 s.tsu.res)
    ++ s.domRecord 0 ++ (if s.compatOn then le 10 s.tsu.compat ++ zeros 10 else s.domRecord 1)

/-- TIME_READ. -/
def execTimeRead (did : Nat) (s : State) : Host.Outcome State Fault Refusal :=
  quiet (fun s => s.operation did 0x42 (fun _ => true) (fun s d =>
    if d.len < 64 then s.fail d stERR_ARG
    else s.okData { d with actTime := some s.outputTime } s.timeRecord 0)) s

/-- The TIME_CTL record is well formed: 32 octets, a listed domain, zeros in its reserved octets (R44, R285). -/
def timeCtlOk (d : Desc) : Bool :=
  d.len == 32 && decide (leAt d.buf 1 1 < 2) && leAt d.buf 2 6 == 0 && leAt d.buf 24 8 == 0 && decide (leAt d.buf 0 1 ≤ 4)
/-- The action of a TIME_CTL record. -/
def timeAction (d : Desc) : Nat := leAt d.buf 0 1
def timeDomain (d : Desc) : Nat := leAt d.buf 1 1
def timeValue (d : Desc) : Int := signed 64 (leAt d.buf 8 8)
def timeRaw (d : Desc) : Nat := leAt d.buf 16 8
/-- STEP and SET are refused while the servo would undo them (R285). -/
def State.servoHolds (s : State) (d : Nat) : Bool := s.domState d == dSYNCED && !s.domPps d

/-- TIME_CTL SELECT; a record that R285 does not allow completes here with ERR_ARG. -/
def execTimeCtlSelect (did : Nat) (read : HostRead) (s : State) : Host.Outcome State Fault Refusal :=
  quiet (fun s => s.operationIn did 0x43 read (fun d => timeAction d == 0 || decide (4 < timeAction d)) (fun s d =>
    let k := timeDomain d
    if timeCtlOk d = false ∨ s.compatOn = true then s.fail d stERR_ARG
    else if k = s.act then s.ok d
    else if s.domState k ≠ dSYNCED then s.fail d stBUSY
    else (s.switchTo k).ok d)) s

/-- TIME_CTL STEP; in compatibility mode VALUE is in nanoseconds. (DEDUCED, log 166) -/
def execTimeCtlStep (did : Nat) (read : HostRead) (s : State) : Host.Outcome State Fault Refusal :=
  quiet (fun s => s.operationIn did 0x43 read (fun d => timeAction d == 1) (fun s d =>
    if timeCtlOk d = false then s.fail d stERR_ARG
    else if s.servoHolds (timeDomain d) then s.fail d stBUSY
    else if s.compatOn then (s.stepNs (timeDomain d) (s.tsu.compat + timeValue d * 2 ^ 16)).ok d
    else (s.stepDom (timeDomain d) (timeValue d) 1).ok d)) s

/-- TIME_CTL SET. (DEDUCED, log 166) -/
def execTimeCtlSet (did : Nat) (read : HostRead) (s : State) : Host.Outcome State Fault Refusal :=
  quiet (fun s => s.operationIn did 0x43 read (fun d => timeAction d == 2) (fun s d =>
    let k := timeDomain d
    if timeCtlOk d = false then s.fail d stERR_ARG
    else if s.servoHolds k then s.fail d stBUSY
    else if s.compatOn then
      if 1000000000 < (wrap64 ((timeRaw d : Int) - d.atNs)).natAbs then s.fail d stERR_ARG
      else (s.stepNs k (timeValue d * 2 ^ 16)).ok d
    else if secT < (wrap64 ((timeRaw d : Int) - d.at_)).natAbs then s.fail d stERR_ARG
    else (s.stepDom k (timeValue d - domTime (s.dom k) (timeRaw d)) 1).ok d)) s

/-- TIME_CTL DISABLE. -/
def execTimeCtlDisable (did : Nat) (read : HostRead) (s : State) : Host.Outcome State Fault Refusal :=
  quiet (fun s => s.operationIn did 0x43 read (fun d => timeAction d == 3) (fun s d =>
    let k := timeDomain d
    if timeCtlOk d = false then s.fail d stERR_ARG
    else if s.domState k = dDISABLED then s.ok d
    else if k = s.act then s.fail d stERR_ARG
    else (s.changeDom k dDISABLED).ok d)) s

/-- TIME_CTL ENABLE. -/
def execTimeCtlEnable (did : Nat) (read : HostRead) (s : State) : Host.Outcome State Fault Refusal :=
  quiet (fun s => s.operationIn did 0x43 read (fun d => timeAction d == 4) (fun s d =>
    let k := timeDomain d
    if timeCtlOk d = false ∨ (s.compatOn = true ∧ k = 1) then s.fail d stERR_ARG
    else if s.domState k = dDISABLED then (s.changeDom k dLISTENING).ok d
    else s.ok d)) s

/-- An entry of a transmit timestamp queue (R278). -/
def TsEnt.bytes (e : TsEnt) : List Byte :=
  le 2 e.tag ++ le 1 e.port ++ le 1 (b2n e.late + 2 * b2n e.poison) ++ le 4 e.seq ++ le 8 e.raw ++ le 8 (twos 64 e.time)

/-- TSU ticks of an external path in steps of 0.25 ns (R263): the rounding of a part of a tick is left open. (DESIGN CHOICE, log 170) -/
def State.latT (s : State) (v : Nat) : Nat × State :=
  if v % 8 = 0 then (v / 8, s)
  else
    let g := s.fresh
    (v / 8 + g.1 % 2, g.2)
/-- The transmit timestamp of a frame that passes a port's PCS now: raw count and output time, with TXLAT added (R263, R265). -/
def State.txStamp (s : State) (p : Nat) : (Nat × Int) × State :=
  let l := s.latT (s.cf (.TSU_PORT_LAT p) F.TSU_PORT_LAT_TXLAT)
  (((s.tsu.raw + l.1) % 2 ^ 64, s.outputTime + l.1), l.2)
/-- The receive timestamp of a frame that a port detects now, with RXLAT subtracted (R263, R265). -/
def State.rxStamp (s : State) (p : Nat) : (Nat × Int) × State :=
  let l := s.latT (s.cf (.TSU_PORT_LAT p) F.TSU_PORT_LAT_RXLAT)
  ((twos 64 ((s.tsu.raw : Int) - l.1), s.outputTime - l.1), l.2)

/-- A transmit timestamp is queued, or with a full queue lost and counted (R278, R279). -/
def State.tsqAdd (s : State) (p tag : Nat) (poison late : Bool) (stamp : Nat × Int) : State :=
  let q := Tbl.get [] s.tsu.tsq p
  let n := Tbl.get 0 s.tsu.tsqSeq p
  let s1 := { s with tsu := { s.tsu with tsqSeq := Tbl.put 0 s.tsu.tsqSeq p ((n + 1) % 2 ^ 32) } }
  if q.length < 64 then
    let e : TsEnt := { tag := tag, port := p, poison := poison, late := late, seq := n, raw := stamp.1, time := stamp.2 }
    ({ s1 with tsu := { s1.tsu with tsq := Tbl.put [] s1.tsu.tsq p (q ++ [e]) } }).setSf (.TSU_PORT_TSQ p)
      F.TSU_PORT_TSQ_LEVEL (q.length + 1)
  else
    let s2 := ((s1.bumpSat (.TSU_PORT_TSQ p) F.TSU_PORT_TSQ_LOST).setSf (.TSU_PORT_TSQ p) F.TSU_PORT_TSQ_OVF 1).setSf
      .TSU_EVT F.TSU_EVT_TSQ_OVF 1
    if Tbl.get 0 s2.tsu.tsqRec p ≤ s2.tsu.raw then
      ({ s2 with tsu := { s2.tsu with tsqRec := Tbl.put 0 s2.tsu.tsqRec p (s2.tsu.raw + secT) } }).event 3 (16 + p) 0x0806 2
        [p, s2.sf (.TSU_PORT_TSQ p) F.TSU_PORT_TSQ_LOST]
    else s2

/-- Remove the oldest entries of a port's queue, and clear LOST and OVF (R280). -/
def State.tsqTake (s : State) (p n : Nat) : State :=
  let q := (Tbl.get [] s.tsu.tsq p).drop n
  ((({ s with tsu := { s.tsu with tsq := Tbl.put [] s.tsu.tsq p q } }).setSf (.TSU_PORT_TSQ p) F.TSU_PORT_TSQ_LEVEL
    q.length).setSf (.TSU_PORT_TSQ p) F.TSU_PORT_TSQ_LOST 0).setSf (.TSU_PORT_TSQ p) F.TSU_PORT_TSQ_OVF 0

/-- TS_READ (R280): the oldest entries first, of one port or of P0, P1 and P2 in turn, at most the count in all. -/
def execTsRead (did : Nat) (s : State) : Host.Outcome State Fault Refusal :=
  quiet (fun s => s.operation did 0x41 (fun _ => true) (fun s d =>
    let sel := bits d.target 1 0
    let most := if d.pByte 0 = 0 then 64 else d.pByte 0
    if d.len = 0 ∨ d.target / 4 ≠ 0 ∨ 64 < most then s.fail d stERR_ARG
    else
      let ports := if sel = 3 then [0, 1, 2] else [sel]
      let all := ports.flatMap (fun p => Tbl.get [] s.tsu.tsq p)
      let avail := min most all.length
      let n := min avail (d.len / 24)
      let lost := min 0xFFFF ((ports.map (fun p => s.sf (.TSU_PORT_TSQ p) F.TSU_PORT_TSQ_LOST)).foldl (· + ·) 0)
      let ovf := ports.any (fun p => s.sf (.TSU_PORT_TSQ p) F.TSU_PORT_TSQ_OVF == 1)
      let s1 := (ports.foldl (fun (a : State × Nat) p =>
        let k := min a.2 (Tbl.get [] a.1.tsu.tsq p).length
        (a.1.tsqTake p k, a.2 - k)) (s, n)).1
      s1.finish d { status := stOK, result := n + 65536 * lost + 2 ^ 32 * b2n ovf
                    data := ((all.take n).map TsEnt.bytes).flatten, trunc := decide (n < avail) })) s

/-! ## At HIF_SETUP_DONE (R262, R269, R270, R275, R291) -/

/-- SYNC_THR above LOCK_THR × 1,000 takes that bound (R554). -/
def State.setupThr (s : State) (d : Nat) : State :=
  let bound := min 50000 (s.cf (.TSU_DOM_THR d) F.TSU_DOM_THR_LOCK_THR * 1000)
  if bound < s.cf (.TSU_DOM_THR d) F.TSU_DOM_THR_SYNC_THR then
    s.setCf (.TSU_DOM_THR d) F.TSU_DOM_THR_SYNC_THR bound
  else s

/-- The time unit at HIF_SETUP_DONE. A domain that stays DISABLED does not become the active one. (DEDUCED, log 164) -/
def State.setupTime (s1 : State) : State :=
  let en (d : Nat) : Bool := s1.cf (.TSU_DOM_CFG d) F.TSU_DOM_CFG_ENABLE == 1
  let clash := en 0 && en 1 && s1.domNum 0 == s1.domNum 1
  let runsB := en 1 && !clash && !s1.compatOn
  let s2 := s1.setSf .TSU_STAT F.TSU_STAT_ACTIVE (if runsB then s1.cf .TSU_CFG F.TSU_CFG_PREF else 0)
  let s3 := if en 0 then s2.setDomState 0 dLISTENING else s2
  let s4 := if clash then
      s3.setupIgnored (.TSU_DOM_CFG 1) F.TSU_DOM_CFG_DOMNUM (s1.cf (.TSU_DOM_CFG 1) F.TSU_DOM_CFG_DOMNUM) 2
    else s3
  if runsB then s4.setDomState 1 dLISTENING else s4.tsuRefresh

end Sys2Proof.Machine
end

