-- ==== Sys2Proof/Machine/Ports.lean ====
section
/-! DEFINITION. Sys2Proof/Machine/Ports.lean: the Ethernet ports, the fabric, the host receive ring, the ring protection, the
packet buffer and the flush of queues (R232 to R260, R276, R277). -/
namespace Sys2Proof.Machine

/-! ## Poisoned words and flushes (R248 to R251) -/

/-- A flush takes place: its flag, its count, its record (R250, R260). -/
def State.noteFlush (s : State) (q cause words : Nat) : State :=
  let t := s.setSf .QUE_EVT F.QUE_EVT_FLUSH 1
  ({ t with swx := { t.swx with flushes := t.swx.flushes + 1 } }).event 5 q 0x0705 0 [q, cause, words]
/-- A flush of an egress queue: its frames are discarded, and the sends among them end (R235, R249, R277). (DEDUCED, log 64) -/
def State.flushEgress (s : State) (q cause : Nat) : State :=
  let l := s.queue q
  let t := s.setQueue q []
  let t : State := if q < 24 then t.bump (.SWX_PORT_TXDROP (q / 8)) F.word l.length else t
  let t := l.foldl (fun u f => u.endDid f.did stABORTED 1 0) t
  t.noteFlush q cause (cellsOf l)
/-- The items of a yard queue that are stored whole when the producer sends words as long as it has credits, and whether a
further one has been sent in part (R246, R247). -/
def storedItems : Nat → List Nat → Nat × Bool
  | _, [] => (0, false)
  | room, w :: t =>
    if room = 0 then (0, false)
    else if w ≤ room then ((storedItems (room - w) t).1 + 1, (storedItems (room - w) t).2)
    else (0, true)
/-- A flush of a yard queue (R249, R251): an item that has been sent in part is discarded with the words still to come, and
DISCARD stands until the next one begins. A flush under DISCARD changes nothing. -/
def State.flushYard (s : State) (q cause : Nat) (lose : State → Nat → State) : State :=
  if s.sf (.QUE_STAT q) F.QUE_STAT_DISCARD = 1 then s.noteFlush q cause 0
  else
    let k := storedItems (queueDepth q) (s.queWords q)
    (((lose s (k.1 + b2n k.2)).setSf (.QUE_STAT q) F.QUE_STAT_DISCARD (b2n k.2))).noteFlush q cause (s.queLevel q)
/-- The oldest items of a yard uplink queue are lost and counted (R251). -/
def State.loseUplink (s : State) (y n : Nat) : State :=
  let gone := (s.air.accepted.filter (fun r => r.yard == y)).take n
  let t : State := { s with air := { s.air with accepted := s.air.accepted.filter (fun r => !gone.contains r) } }
  t.bump (.QUE_UPLOST y) F.word n
/-- The oldest items of a yard downlink queue leave it; M1 keeps them, and offers them again (R251). -/
def State.takeBack (s : State) (y n : Nat) : State :=
  let gone := ((s.air.reqs.filter (fun r => r.yard == y && r.queued)).take n).map (fun r => r.id)
  { s with air := { s.air with reqs := s.air.reqs.map (fun r => if gone.contains r.id then { r with queued := false } else r) } }
/-- A flush of a numbered queue (R250, R251): a yard uplink queue loses its items; a yard downlink queue loses none. Nothing
stands in a ring's queue between two commands. (DESIGN CHOICE, log 65) -/
def State.flushQueue (s : State) (q cause : Nat) : State :=
  if q < 40 then s.flushEgress q cause
  else if q < 56 then s.flushYard q cause (fun t n => t.loseUplink (q - 40) n)
  else if q < 72 then s.flushYard q cause (fun t n => t.takeBack (q - 56) n)
  else s.noteFlush q cause 0

/-! ## The host receive ring (R239, R255) -/

/-- The host writes SWX_HRX_HEAD (R239, R255). -/
def State.hrxHeadWrite (s : State) (val : Nat) : State :=
  let v := val % 65536
  let size := s.hrxSize
  if s.clk.phase = .lizard then s
  else if s.clk.phase = .starting then s.hold (fun s => s.accErr (Reg.SWX_HRX_HEAD).offset stERR_ABSENT)
  else if v < size ∧ (v + size - s.hif.hrxHead) % size ≤ (s.hrxTail + size - s.hif.hrxHead) % size then
    { s.setCf .SWX_HRX_HEAD F.SWX_HRX_HEAD_HEAD v with hif := { s.hif with hrxHead := v } }
  else s.event 0 0 0x0201 2 [3, 0, v, s.hrxTail]
/-- HOST_RX_HEAD_WRITE. -/
def execHostRxHeadWrite (val : Nat) (s : State) : Host.Outcome State Fault Refusal := loud (fun s => s.hrxHeadWrite val) s
/-- HOST_RX_MESSAGE_INTERVAL (R239). -/
def execHostRxMessageInterval (s : State) : Host.Outcome State Fault Refusal :=
  quiet (fun s =>
    if s.hif.hrxIvl = 0 then s
    else
      let t := s.elapseTo s.hif.hrxIvl
      let t : State := { t with hif := { t.hif with hrxIvl := 0 } }
      let v := t.cf .SWX_HRX_CFG F.SWX_HRX_CFG_VECTOR
      if v = 0 then t else t.msix v) s

/-! ## Reception and ageing (R234, R236) -/

/-- PORT_FRAME_RX (R234, R236, R239, R241, R244, R263). -/
def execPortFrameRx (p : Nat) (frame : EthRx) (s : State) : Host.Outcome State Fault Refusal :=
  quiet (fun s =>
    let n := wireLen frame.data
    let vid := vidOf (s.cf (.SWX_PORT_CFG p) F.SWX_PORT_CFG_PVID) frame.data
    if 2 < p ∨ s.done = false ∨ s.linkUp p = false then s
    else if frame.intact = false then s.bump (.SWX_PORT_RXFCS p) F.word
    else if n < 64 ∨ 2000 < n ∨ beAt frame.data 12 2 = 0x8808
        ∨ (s.vlan vid).all (fun v => !bit v.1 p) = true then s.bump (.SWX_PORT_RXDISC p) F.word
    else if s.portBlocked p ∨ s.cf .SWX_CFG F.SWX_CFG_ENABLE = 0 then s
    else
      let tc := if tagged frame.data then s.pcpClass (beAt frame.data 14 2 / 8192) else s.cf (.SWX_PORT_CFG p) F.SWX_PORT_CFG_DEFTC
      let m := s.rxStamp p
      let r := (m.2.learn (leAt frame.data 6 6) vid p).forward p vid tc
        { data := frame.data, port := some p, raw := m.1.1, out := m.1.2, bad := frame.hostBad }
      if r.2.1 = 0 then r.1
      else if r.2.2 = 0 then r.1.bump (.SWX_PORT_RXDROP p) F.word
      else r.1.bump (.SWX_PORT_RXOK p) F.word) s
/-- ADDRESS_AGEING (R236): the entry that has had no traffic longest ages out; not while W is reloaded (R436). -/
def execAddressAgeing (s : State) : Host.Outcome State Fault Refusal :=
  quiet (fun s =>
    match isort (fun a => a.at_) s.swx.addrs with
    | [] => s
    | a :: _ =>
      if s.portsReload then s else
      let age := s.cf .SWX_CFG F.SWX_CFG_AGE * secT
      let t := s.elapseTo (a.at_ + age)
      { t with swx := { t.swx with addrs := t.swx.addrs.filter (fun x => decide (t.tsu.raw < x.at_ + age)) } }) s

/-! ## FRAME_SEND (R276, R277) -/

/-- The octets of PARAM: class and TSREQ. -/
def sendTc (d : Desc) : Nat := d.pByte 0 % 8
def sendTs (d : Desc) : Bool := bit (d.pByte 0) 4
/-- The frame enters the egress queue of its port. -/
def State.sendToPort (s : State) (d : Desc) (p : Nat) : State :=
  let q := qOf p (sendTc d)
  match s.admitCells q (cellsFor d.buf) with
  | none => s.fail d stBUSY 1
  | some sh =>
    let f : EgFrame := { fid := s.swx.nextFid, cells := cellsFor d.buf, shared := sh, data := d.buf, vid := 0, did := some d.did
                         tsreq := sendTs d, inPort := none, stampRaw := 0, stampOut := 0, bad := none }
    ({ s with swx := { s.swx with nextFid := s.swx.nextFid + 1 } }).setQueue q (s.queue q ++ [f])
/-- FRAME_SEND. With LAUNCH the frame waits for a port slot, outside the egress queues (R281). (DEDUCED, log 62, 66) -/
def execFrameSend (did : Nat) (read : HostRead) (s : State) : Host.Outcome State Fault Refusal :=
  quiet (fun s => s.operationIn did 0x40 read (fun _ => true) (fun s d =>
    let dest := d.target % 8
    if 8 ≤ d.target ∨ d.pByte 0 / 32 ≠ 0 ∨ bit (d.pByte 0) 3 = true ∨ d.pZero 1 32 = false then s.fail d stERR_ARG
    else if (2 < dest ∧ dest ≠ 7) ∨ (dest = 7 ∧ sendTs d = true) then s.fail d stERR_ARG 1
    else if d.len < 60 ∨ 1996 < d.len then s.fail d stERR_ARG 2
    else if dest = 7 ∧ d.launch = true then s.fail d stERR_ARG 3
    else if d.launch then s.acceptLaunch d (fun t _ => t)
    else if dest < 3 then s.sendToPort d dest
    else
      let t := s.beginDesc d.did
      let vid := vidOf Config.hostVid.toNat d.buf
      let t := t.learn (leAt d.buf 6 6) vid dstH
      let r := if t.cf .SWX_CFG F.SWX_CFG_ENABLE = 0 then (t, 0, 0) else t.forward dstH vid (sendTc d) (InFrame.own d.buf)
      let e := { d with actTime := some s.outputTime }
      if r.2.1 ≠ 0 ∧ r.2.2 = 0 then r.1.fail e stBUSY 1 else r.1.ok e)) s

/-! ## Egress (R242, R248, R277, R278, R282) -/

/-- Weight of a class below SP_FLOOR (R242). (PRESUMED, log 63) -/
def State.weight (s : State) (p c : Nat) : Nat :=
  max 1 ((if c < 4 then s.cfg.get (.SWX_PORT_WT_LO p) else s.cfg.get (.SWX_PORT_WT_HI p)).toNat / 256 ^ (c % 4) % 256)
/-- Deficit round robin among the classes below a floor: the class whose head goes, and the state of the scheduler. (PRESUMED, log 63) -/
def State.drr (s : State) (p floor : Nat) : Nat → Nat → Bool → Tbl Nat → Option (Nat × Bool × Tbl Nat)
  | 0, _, _, _ => none
  | n + 1, c, given, def_ =>
    match s.queue (qOf p c) with
    | [] => State.drr s p floor n ((c + 1) % floor) false (Tbl.put 0 def_ (qOf p c) 0)
    | f :: _ =>
      let d := Tbl.get 0 def_ (qOf p c) + (if given then 0 else 512 * s.weight p c)
      if wireLen f.data ≤ d then some (c, true, Tbl.put 0 def_ (qOf p c) (d - wireLen f.data))
      else State.drr s p floor n ((c + 1) % floor) false (Tbl.put 0 def_ (qOf p c) d)
/-- The queue whose head leaves a port next, and the scheduler after it (R242). (PRESUMED, log 63) -/
def State.nextEgress (s : State) (p : Nat) : Option (Nat × State) :=
  let floor := s.cf (.SWX_PORT_SCHED p) F.SWX_PORT_SCHED_SP_FLOOR
  match ((List.range 8).reverse.filter (fun c => decide (floor ≤ c))).find? (fun c => s.queue (qOf p c) != []) with
  | some c => some (qOf p c, s)
  | none =>
    if (List.range floor).all (fun c => s.queue (qOf p c) == []) then none
    else
      let t := Tbl.get (0, false) s.swx.turn p
      match s.drr p floor 128 (t.1 % max floor 1) t.2 s.swx.deficit with
      | none => none
      | some (c, g, d) => some (qOf p c, { s with swx := { s.swx with
          deficit := d, turn := Tbl.put (0, false) s.swx.turn p (c, g) } })
/-- TSU ticks of some octets at a port's rate. -/
def State.octetT (s : State) (p n : Nat) : Nat :=
  if s.sf (.SWX_PORT_STAT p) F.SWX_PORT_STAT_RATE = 1 then ceilDiv (2 * n) 5 else 4 * n
/-- TSU ticks for which a launched frame occupies its port. -/
def State.frameT (s : State) (p : Nat) (data : List Byte) : Nat := s.octetT p (8 + wireLen data)
/-- Of two port slots of one port whose frames overlap, the earlier-armed one fires first (R283). -/
def State.portHeld (s : State) (x : Slot) : Bool :=
  match x.cls with
  | .port p =>
    let dur (k : Slot) : Nat := ((s.desc? k.did).map (fun d => s.frameT p d.buf)).getD 0
    (s.tsu.slots.takeWhile (fun k => k != x)).any (fun k => k.cls == x.cls
      && decide (k.time < x.time + dur x) && decide (x.time < k.time + dur k))
  | _ => false
/-- A frame would not end before the launch instant of an armed slot of the port, and the guard has begun (R282). -/
def State.guarded (s : State) (p : Nat) (data : List Byte) : Bool :=
  s.tsu.slots.any (fun k => k.cls == .port p
    && decide ((k.time : Int) - s.octetT p 2020 ≤ s.outputTime)
    && decide ((k.time : Int) ≤ s.outputTime + s.octetT p (8 + wireLen data)))
/-- A frame leaves a port (R248, R257, R277, R278). (DEDUCED, log 64) -/
def State.portSend (s : State) (p : Nat) (data : List Byte) (did : Option Nat) (tsreq poison : Bool) : State :=
  let t := (s.emit (.portFrame p data poison)).bump (.SWX_PORT_TXOK p) F.word
  let t : State := if poison then (t.bump (.SWX_PORT_TXPOISON p) F.word).setSf (.SWX_PORT_EVT p) F.SWX_PORT_EVT_POISON 1 else t
  match did with
  | none => t
  | some d =>
    match t.desc? d with
    | none => t
    | some e =>
      let m := t.txStamp p
      let u : State := if tsreq then m.2.tsqAdd p e.tag poison e.late m.1 else m.2
      u.ok { e with actTime := some m.1.2 }
/-- PORT_FRAME_TX: the head that the scheduler chooses passes the PCS. A blocked ring port drops it unless it is R-APS (R238);
the FRAME_SEND of a frame dropped so ends as for a link that is down. (DESIGN CHOICE, log 171) -/
def execPortFrameTx (p : Nat) (bad : Option Nat) (s : State) : Host.Outcome State Fault Refusal :=
  quiet (fun s =>
    if 2 < p ∨ s.linkUp p = false then s
    else
      match s.nextEgress p with
      | none => s
      | some (q, t) =>
        match t.queue q with
        | [] => s
        | f :: rest =>
          if t.portBlocked p = true ∧ etherType f.data ≠ etherRaps then (t.setQueue q rest).endDid f.did stABORTED 1 0
          else if t.guarded p f.data then s
          else
            let t := t.setQueue q rest
            let t := match bad with
              | some w => t.poisonQueue q w
              | none => t
            t.portSend p f.data f.did f.tsreq bad.isSome) s

/-! ## The management stack at M (R237, R241, R248) -/

/-- The header of a reply: addresses turned, no tag, EtherType. -/
def State.replyHead (s : State) (b : List Byte) (ty : Nat) : List Byte :=
  (b.drop 6).take 6 ++ le 6 s.macM ++ [BitVec.ofNat 8 (ty / 256), BitVec.ofNat 8 ty]
/-- The octets behind the EtherType. -/
def payloadOf (b : List Byte) : List Byte := b.drop (if tagged b then 18 else 14)
/-- Frames that other commands take: PTP, R-APS and the envelopes of UDP port 5694. A datagram for another address is none:
PTP's go to M's own or to one of its groups 224.0.1.129 and 224.0.0.107. (PRESUMED, log 168) -/
def State.otherRow (s : State) (b : List Byte) : Bool :=
  let ip := payloadOf b
  let dst := beAt ip 16 4
  let port := beAt ip (4 * (beAt ip 0 1 % 16) + 2) 2
  let mine := dst == (s.cfg.get .SWX_MGMT_IP4).toNat
  etherType b == 0x88F7 || etherType b == etherRaps
    || (etherType b == 0x0800 && beAt ip 9 1 == 17
        && ((mine && port == 5694) || ((mine || dst == 0xE0000181 || dst == 0xE000006B) && (port == 319 || port == 320))))
/-- MGMT_FRAME_RX: M takes the first frame of its highest class: it answers ARP and ICMP echo for its address, and discards
the rest. -/
def execMgmtFrameRx (bad : Option Nat) (s : State) : Host.Outcome State Fault Refusal :=
  quiet (fun s =>
    match ((List.range 8).reverse.map (qOf dstM)).find? (fun q => s.queue q != []) with
    | none => s
    | some q =>
      match s.queue q with
      | [] => s
      | f :: rest =>
        let t := s.setQueue q rest
        match bad with
        | some w => (t.poisonQueue q w).bump .SWX_MSTAT F.word
        | none =>
          let ip := payloadOf f.data
          let mine := (t.cfg.get .SWX_MGMT_IP4).toNat
          if etherType f.data = 0x0806 ∧ beAt ip 6 2 = 1 ∧ beAt ip 24 4 = mine then
            let arp := ip.take 6 ++ [0x00#8, 0x02#8] ++ le 6 t.macM ++ (ip.drop 24).take 4 ++ (ip.drop 8).take 10
            t.mgmtSend f.vid 5 (fitBytes 60 (t.replyHead f.data 0x0806 ++ arp))
          else if etherType f.data = 0x0800 ∧ beAt ip 9 1 = 1 ∧ beAt ip 16 4 = mine
              ∧ beAt ip (4 * (beAt ip 0 1 % 16)) 1 = 8 then
            t.mgmtSend f.vid 5 (t.replyHead f.data 0x0800 ++ Config.layout 1 (ip.map (fun x => x.toNat)))
          else if t.otherRow f.data then t
          else t.bump .SWX_MSTAT F.word) s

/-! ## Ring protection (R238, ITU-T G.8032) -/

/-- Set the block of a ring port. -/
def State.setBlk (s : State) (p : Nat) (b : Bool) : State :=
  (s.setSf .SWX_ERPS_STAT (if p = 0 then F.SWX_ERPS_STAT_BLK0 else F.SWX_ERPS_STAT_BLK1) (b2n b)).setSf (.SWX_PORT_STAT p)
    F.SWX_PORT_STAT_BLOCK (b2n b)
def State.modErps (s : State) (f : Erps → Erps) : State := { s with swx := { s.swx with erps := f s.swx.erps } }
/-- The ring ports whose signal is good become unblocked. -/
def State.unblockGood (s : State) : State :=
  ([0, 1].filter (fun p => !s.swx.erps.failed.contains p)).foldl (fun t p => t.setBlk p false) s
/-- A message enters a ring port's queue, tagged with the VID of R-APS (R238, R241). (PRESUMED, log 168) -/
def State.rapsTo (s : State) (kind p : Nat) : State :=
  let g := (s.emit (.raps p kind)).mgmtOctets 0x0119A7000001 (some (s.cf .SWX_ERPS F.SWX_ERPS_VID)) etherRaps
  g.2.mgmtPort p g.1
/-- A message is sent on both ring ports from now on: 0 NR, 1 NR with RB, 2 SF, and 4 more with DNF: at once, twice more
3.33 ms apart, and then every 5 s. (PRESUMED, log 60) -/
def State.sendRaps (s : State) (kind : Nat) : State :=
  ((s.modErps (fun e => { e with tx := some kind, txLeft := 2, txNext := s.tsu.raw + 10 * msT / 3 })).rapsTo kind 0).rapsTo kind 1
/-- The message being sent is due again. (PRESUMED, log 61) -/
def State.rapsTick (s : State) : State :=
  match s.swx.erps.tx with
  | none => s
  | some k =>
    if s.tsu.raw < s.swx.erps.txNext then s
    else
      let gap := if 1 < s.swx.erps.txLeft then 10 * msT / 3 else 5 * secT
      ((s.modErps (fun e => { e with txLeft := e.txLeft - 1, txNext := s.tsu.raw + gap })).rapsTo k 0).rapsTo k 1
def State.stopRaps (s : State) : State := s.modErps (fun e => { e with tx := none })
/-- The address table is flushed for P0 and P1. -/
def State.flushRing (s : State) : State :=
  { s with swx := { s.swx with addrs := s.swx.addrs.filter (fun a => decide (2 ≤ a.dest)) } }
/-- Roles (R254). -/
def State.ringRole (s : State) : Nat := s.cf .SWX_ERPS F.SWX_ERPS_ROLE
def State.rplPort (s : State) : Nat := s.cf .SWX_ERPS F.SWX_ERPS_RPLPORT
def State.ringState (s : State) : Nat := s.sf .SWX_ERPS_STAT F.SWX_ERPS_STAT_STATE
/-- The RPL owner starts the wait-to-restore timer. -/
def State.startWtr (s : State) : State :=
  if s.ringRole = 1 then
    s.modErps (fun e => { e with wtrEnd := some (s.tsu.raw + s.cf .SWX_ERPS F.SWX_ERPS_WTR * 60 * secT) })
  else s
def State.stopWtr (s : State) : State := s.modErps (fun e => { e with wtrEnd := none })
/-- The ring enters a state (R254, R260). (PRESUMED, log 60) -/
def State.ringTo (s : State) (st : Nat) : State :=
  let old := s.ringState
  let t := s.setSf .SWX_ERPS_STAT F.SWX_ERPS_STAT_STATE st
  if old = st then t
  else t.event 13 0 0x0703 1 [old, st, t.sf .SWX_ERPS_STAT F.SWX_ERPS_STAT_BLK0, t.sf .SWX_ERPS_STAT F.SWX_ERPS_STAT_BLK1]
/-- A ring port's signal fails, its hold-off over. (PRESUMED, log 60) -/
def State.ringSf (s : State) (p : Nat) : State :=
  if s.swx.erps.on = false ∨ s.swx.erps.failed.contains p = true then s
  else
    let t := (s.modErps (fun e => { e with failed := e.failed ++ [p] })).stopWtr
    let t : State := if t.portBlocked p then t.unblockGood.sendRaps 6
      else (((t.setBlk p true).unblockGood).sendRaps 2).flushRing
    t.ringTo 2
/-- A ring port's signal is good again. (PRESUMED, log 60) -/
def State.ringClear (s : State) (p : Nat) : State :=
  let e := s.swx.erps
  let t := s.modErps (fun e => { e with hold := Tbl.put 0 e.hold p 0, failed := e.failed.filter (fun q => q != p) })
  if e.on = false ∨ e.failed.contains p = false ∨ t.swx.erps.failed ≠ [] ∨ t.ringState ≠ 2 then t
  else
    (((t.modErps (fun e => { e with guardEnd := some (t.tsu.raw + 500 * msT) })).sendRaps 0).startWtr).ringTo 3
/-- The ring starts at HIF_SETUP_DONE; with a VID of 0 or 4,095 it stays disabled (R66, R238). -/
def State.setupRing (s : State) : State :=
  if s.cf .SWX_ERPS F.SWX_ERPS_ENABLE = 0 then s
  else
    let vid := s.cf .SWX_ERPS F.SWX_ERPS_VID
    if vid = 0 ∨ vid = 4095 then s.setupIgnored .SWX_ERPS F.SWX_ERPS_VID vid 1
    else
      let f := s.fresh
      let b := if s.ringRole = 0 then f.1 % 2 else s.rplPort
      let t := f.2.modErps (fun e => { e with on := true })
      ((((t.setBlk b true).setBlk (1 - b) false).sendRaps 0).startWtr).ringTo 3
/-- R_APS_RX (R238): M3 acts on an R-APS message of a ring port, of the ring's VID and MEL 7. (PRESUMED, log 60) -/
def execRApsRx (p : Nat) (msg : Raps) (s : State) : Host.Outcome State Fault Refusal :=
  quiet (fun s =>
    let e := s.swx.erps
    let own := beAt (le 6 s.macM) 0 6
    if e.on = false ∨ 1 < p ∨ s.linkUp p = false ∨ e.guardEnd.isSome = true ∨ msg.node = own
        ∨ msg.vid ≠ s.cf .SWX_ERPS F.SWX_ERPS_VID ∨ msg.mel ≠ 7 then s
    else
      let pair := 2 * msg.node + b2n msg.bpr + 1
      let isNr := msg.req == .nr
      let new := Tbl.get 0 e.pairs p != pair
      let flush := !isNr && new && !msg.dnf && Tbl.get 0 e.pairs (1 - p) != pair
      let t := s.modErps (fun e => { e with pairs := Tbl.put 0 e.pairs p (if isNr then 0 else pair) })
      let t := if flush then t.flushRing else t
      let st := t.ringState
      if e.failed ≠ [] then t
      else
        match msg.req with
        | .sf => if st = 1 ∨ st = 3 then (((t.unblockGood).stopRaps).stopWtr).ringTo 2 else t
        | .nrRb =>
          if st = 1 then t
          else if t.ringRole = 1 then t.stopWtr.ringTo 1
          else if t.ringRole = 2 then (((t.setBlk t.rplPort true).setBlk (1 - t.rplPort) false).stopRaps).ringTo 1
          else ((t.unblockGood).stopRaps).ringTo 1
        | .nr =>
          if st = 2 then t.startWtr.ringTo 3
          else if own < msg.node ∧ (st = 3 ∨ t.ringRole = 0) then t.unblockGood.stopRaps
          else t) s
/-- ERPS_TIMER (R238). (PRESUMED, log 60) -/
def execErpsTimer (t : ErpsTimerKind) (s : State) : Host.Outcome State Fault Refusal :=
  quiet (fun s =>
    let e := s.swx.erps
    match t with
    | .guard => (match e.guardEnd with
      | some r => (s.elapseTo r).modErps (fun e => { e with guardEnd := none })
      | none => s)
    | .holdOff p =>
      let r := Tbl.get 0 e.hold p
      if r = 0 then s
      else
        let u := (s.elapseTo (r - 1)).modErps (fun e => { e with hold := Tbl.put 0 e.hold p 0 })
        if u.linkUp p then u else u.ringSf p
    | .waitToRestore => (match e.wtrEnd with
      | none => s
      | some r =>
        let u := (s.elapseTo r).stopWtr
        let rpl := u.rplPort
        if u.ringState ≠ 3 ∨ u.ringRole ≠ 1 then u
        else if u.portBlocked rpl then ((u.setBlk (1 - rpl) false).sendRaps 5).ringTo 1
        else ((((u.setBlk rpl true).setBlk (1 - rpl) false).sendRaps 1).flushRing).ringTo 1)) s

/-! ## Links (R233, R235) -/

/-- A port loses link. -/
def State.portDown (s : State) (p : Nat) : State :=
  if 2 < p ∨ s.linkUp p = false then s
  else
    let n := ((List.range 8).map (fun c => (s.queue (qOf p c)).length)).foldl (· + ·) 0
    let t := ((s.setSf (.SWX_PORT_STAT p) F.SWX_PORT_STAT_LINK 0).setSf (.SWX_PORT_STAT p) F.SWX_PORT_STAT_RATE 0).bumpSat
      (.SWX_PORT_STAT p) F.SWX_PORT_STAT_FLAPS
    let t := (List.range 8).foldl (fun t c => t.flushEgress (qOf p c) 0) t
    let t : State := { t with swx := { t.swx with
      addrs := t.swx.addrs.filter (fun a => a.dest != p)
      search := Tbl.put 0 t.swx.search p 0, searchAt := Tbl.put 0 t.swx.searchAt p t.tsu.raw } }
    let t := (t.setSf (.SWX_PORT_EVT p) F.SWX_PORT_EVT_DOWN 1).event 4 p 0x0702 2 [p, n]
    if 1 < p ∨ t.swx.erps.on = false then t
    else
      let h := t.cf .SWX_ERPS F.SWX_ERPS_HOLDOFF
      if h = 0 then t.ringSf p
      else t.modErps (fun e => { e with hold := Tbl.put 0 e.hold p (t.tsu.raw + h * 100 * msT + 1) })
/-- PORT_LINK_DOWN (R235). -/
def execPortLinkDown (p : Nat) (s : State) : Host.Outcome State Fault Refusal :=
  quiet (fun s => s.portDown p) s
/-- The SerDes PLL clocks the fabric: domain 5 is not on its fallback (R472, R480, R483). In a replay the lanes stay as in reset (R467). -/
def State.serdesOk (s : State) : Bool := s.sf .CLK_DOM_STAT ⟨5, 5⟩ == 0 && !s.replaying
/-- The search that a port runs lets it link at a rate (R233): an automatic port links at 1000BASE-X while it seeks that, and at
10GBASE-R whenever block lock holds; at 1000BASE-X with AN = 1 the auto-negotiation must have completed. (DEDUCED, log 172) -/
def State.mayLink (s : State) (p : Nat) (tenG anDone : Bool) : Bool :=
  let speed := s.cf (.SWX_PORT_CFG p) F.SWX_PORT_CFG_SPEED
  if tenG then speed != 2
  else speed != 1 && (speed != 0 || Tbl.get 0 s.swx.search p == 1)
    && (s.cf (.SWX_PORT_CFG p) F.SWX_PORT_CFG_AN == 0 || anDone)
/-- The automatic search starts with 10GBASE-R at HIF_SETUP_DONE (R233). -/
def State.setupPorts (s : State) : State :=
  { s with swx := { s.swx with search := [], searchAt := [0, 1, 2].foldl (fun t p => Tbl.put 0 t p s.tsu.raw) s.swx.searchAt } }
/-- PORT_LINK_UP (R233, R235). -/
def execPortLinkUp (p : Nat) (tenG anDone : Bool) (s : State) : Host.Outcome State Fault Refusal :=
  quiet (fun s =>
    if 2 < p ∨ s.done = false ∨ s.serdesOk = false ∨ s.linkUp p = true ∨ s.cf (.SWX_PORT_CFG p) F.SWX_PORT_CFG_ENABLE = 0
        ∨ s.mayLink p tenG anDone = false then s
    else
      let rate := if tenG then 1 else 2
      let t := ((s.setSf (.SWX_PORT_STAT p) F.SWX_PORT_STAT_LINK 1).setSf (.SWX_PORT_STAT p) F.SWX_PORT_STAT_RATE rate).setSf
        (.SWX_PORT_EVT p) F.SWX_PORT_EVT_UP 1
      let t := t.event 4 p 0x0701 1 [p, rate]
      if p < 2 then t.ringClear p else t) s
/-- SPEED_SEARCH_TIMEOUT (R233): an automatic port without link turns from one rate to the other. -/
def execSpeedSearchTimeout (p : Nat) (s : State) : Host.Outcome State Fault Refusal :=
  quiet (fun s =>
    if 2 < p ∨ s.done = false ∨ s.replaying = true ∨ s.linkUp p = true ∨ s.cf (.SWX_PORT_CFG p) F.SWX_PORT_CFG_ENABLE = 0
        ∨ s.cf (.SWX_PORT_CFG p) F.SWX_PORT_CFG_SPEED ≠ 0 then s
    else
      let t := s.elapseTo (Tbl.get 0 s.swx.searchAt p + 500 * msT)
      { t with swx := { t.swx with
        search := Tbl.put 0 t.swx.search p (1 - Tbl.get 0 t.swx.search p)
        searchAt := Tbl.put 0 t.swx.searchAt p t.tsu.raw } }) s

/-! ## QUE_FLUSH and the parameters (R56, R165, R194, R207, R250, R567) -/

/-- The operands of PARAM_READ and PARAM_WRITE. -/
def paramValue (d : Desc) : Nat := d.pNum 0 4
/-- PARAM_READ: the value in effect. -/
def State.paramInEffect (s : State) (id : Nat) : Nat :=
  if 0x0502 ≤ id ∧ id ≤ 0x0506 ∨ 0x0510 ≤ id ∧ id ≤ 0x0515 then
    match s.seg.reconPar.find? (fun p => p.1 == id) with
    | some p => p.2
    | none => s.paramDefault id
  else if id = 0x0507 ∨ id = 0x0520 ∨ id = 0x0521 ∨ id = 0x0522 then s.inForce id
  else s.param id
/-- PARAM_READ (R165, R207, R250, R567). -/
def execParamRead (did : Nat) (s : State) : Host.Outcome State Fault Refusal :=
  quiet (fun s => s.operation did 0x03 (fun _ => true) (fun s d =>
    if d.pZero 0 32 = false then s.fail d stERR_ARG
    else if d.target = 0x0701 then s.ok d s.swx.flushes
    else if paramRange d.target = none then s.fail d stERR_ARG
    else s.ok d (s.paramInEffect d.target))) s
/-- PARAM_WRITE takes effect. -/
def State.paramNow (s : State) (d : Desc) : State := (s.setParam d.target (paramValue d)).ok d
/-- PARAM_WRITE (R165, R207, R567); an ID that no table defines completes here with ERR_ARG. -/
def execParamWrite (did : Nat) (s : State) : Host.Outcome State Fault Refusal :=
  quiet (fun s => s.operation did 0x04 (fun d => d.target != 0x0701) (fun s d =>
    if d.pZero 4 32 = false ∨ paramOk d.target (paramValue d) = false then s.fail d stERR_ARG
    else s.acceptLaunch d State.paramNow)) s
/-- QUE_FLUSH takes effect (R249, R250). -/
def State.flushNow (s : State) (d : Desc) : State := (s.flushQueue (paramValue d) 2).ok d
/-- QUE_FLUSH: a PARAM_WRITE of 0x0701 (R250). (DEDUCED, log 64) -/
def execQueFlush (did : Nat) (s : State) : Host.Outcome State Fault Refusal :=
  quiet (fun s => s.operation did 0x04 (fun d => d.target == 0x0701) (fun s d =>
    if d.pZero 4 32 = false ∨ 71 < paramValue d then s.fail d stERR_ARG
    else s.acceptLaunch d State.flushNow)) s

end Sys2Proof.Machine
end

