-- ==== Sys2Proof/Machine/Rings.lean ====
section
/-! DEFINITION. Sys2Proof/Machine/Rings.lean: doorbells, descriptor fetch, coalescing and message intervals, Bus Master
Enable, NOP (R36 to R56, R61, R62). -/
namespace Sys2Proof.Machine

/-! ## Submission rings -/

/-- Entries of a submission ring. -/
def State.sqSize (s : State) (n : Nat) : Nat := 2 ^ s.cf (.HIF_SQ_CFG n) F.HIF_SQ_CFG_SIZE
/-- STATE of a submission ring (R34). -/
def State.sqState (s : State) (n : Nat) : Nat := s.sf (.HIF_SQ_STAT n) F.HIF_SQ_STAT_STATE
/-- HEAD of a submission ring (R34). -/
def State.sqHead (s : State) (n : Nat) : Nat := s.sf (.HIF_SQ_STAT n) F.HIF_SQ_STAT_HEAD
/-- The tail that the module has acted on. -/
def State.sqTail (s : State) (n : Nat) : Nat := Tbl.get 0 s.hif.sqTail n
/-- Entries that the module owns (R38). -/
def State.sqAvail (s : State) (n : Nat) : Nat := (s.sqTail n + s.sqSize n - s.sqHead n) % s.sqSize n
/-- A submission ring stops with a cause, and RING_FAULT is raised (R33, R34). -/
def State.sqFault (s : State) (n code : Nat) : State :=
  ((s.setSf (.HIF_SQ_STAT n) F.HIF_SQ_STAT_STATE 3).setSf (.HIF_SQ_STAT n) F.HIF_SQ_STAT_FAULT code).raiseCause 1

/-- The BAR2 offsets of doorbells (R41). -/
def dbSq (n : Nat) : Nat := 64 * n
def dbCq (n : Nat) : Nat := 0x1000 + 64 * n
def dbEq (n : Nat) : Nat := 0x2000 + 64 * n

/-- The module acts on a submission tail (R42). A FAULTED or DISABLED ring keeps the value unchecked. -/
def State.actTail (s : State) (n : Nat) : State :=
  let v := Tbl.get 0 s.hif.db (dbSq n) % 65536
  if s.sqState n = 1 ∨ s.sqState n = 2 then
    let size := s.sqSize n
    let used := s.sqAvail n
    let step := (v + size - s.sqTail n) % size
    if v < size ∧ used + step ≤ size - 1 then { s with hif := { s.hif with sqTail := Tbl.put 0 s.hif.sqTail n v } }
    else s.sqFault n 0x02
  else s

/-- The module acts on a completion head: entries free, held completions are posted (R42, R49). The head of a ring that is
not in service is judged as any other, against 2^SIZE. (DESIGN CHOICE, log 159) -/
def State.actCqHead (s : State) (n : Nat) : State :=
  let v := Tbl.get 0 s.hif.db (dbCq n) % 65536
  let size := s.cqSize n
  let tail := s.sf (.HIF_CQ_STAT n) F.HIF_CQ_STAT_TAIL
  let head := Tbl.get 0 s.hif.cqHead n
  if v < size ∧ (v + size - head) % size ≤ (tail + size - head) % size then
    (({ s with hif := { s.hif with cqHead := Tbl.put 0 s.hif.cqHead n v } }).cqRefresh n).cqDrain
  else s.event 0 n 0x0201 2 [1, n, v, tail]

/-- The module acts on an event head (R42). The head of a ring that is not in service is judged as any other, against 2^SIZE. (DESIGN CHOICE, log 159) -/
def State.actEqHead (s : State) (n : Nat) : State :=
  let v := Tbl.get 0 s.hif.db (dbEq n) % 65536
  let size := s.eqSize n
  let tail := s.sf (.HIF_EQ_STAT n) F.HIF_EQ_STAT_TAIL
  let head := Tbl.get 0 s.hif.eqHead n
  if v < size ∧ (v + size - head) % size ≤ (tail + size - head) % size then
    { s with hif := { s.hif with eqHead := Tbl.put 0 s.hif.eqHead n v } }
  else s.event 0 n 0x0201 2 [2, n, v, tail]

/-- Act on the doorbell of a BAR2 offset. -/
def State.actDb (s : State) (off : Nat) : State :=
  if off < 0x1000 then s.actTail (off / 64)
  else if off < 0x2000 then s.actCqHead ((off - 0x1000) / 64)
  else s.actEqHead ((off - 0x2000) / 64)

/-- A doorbell write: the value stands in BAR2; before HIF_SETUP_DONE and in an activation pause it is latched, the latest
value acting later; otherwise the module acts on it (R36, R42, R65). -/
def State.ringDb (s : State) (off val : Nat) : State :=
  let t := { s with hif := { s.hif with db := Tbl.put 0 s.hif.db off (val % 2 ^ 32) } }
  if s.done = false ∨ s.paused = true then
    { t with hif := { t.hif with latched := if off ∈ t.hif.latched then t.hif.latched else t.hif.latched ++ [off] } }
  else t.actDb off

/-- Act on the latched doorbells: at HIF_SETUP_DONE, and when a pause ends. -/
def State.actLatched (s : State) : State :=
  s.hif.latched.foldl State.actDb { s with hif := { s.hif with latched := [] } }

/-- SQ_TAIL_DOORBELL; a write of another width than 32 bits is ignored (R29). -/
def execSqTailDoorbell (width n val : Nat) (s : State) : Host.Outcome State Fault Refusal :=
  quiet (fun s => if width = 32 ∧ n < 64 then s.ringDb (dbSq n) val else s) s
/-- CQ_HEAD_DOORBELL; a write of another width than 32 bits is ignored (R29). -/
def execCqHeadDoorbell (width n val : Nat) (s : State) : Host.Outcome State Fault Refusal :=
  quiet (fun s => if width = 32 ∧ n < 64 then s.ringDb (dbCq n) val else s) s
/-- EQ_HEAD_DOORBELL; a write of another width than 32 bits is ignored (R29). -/
def execEqHeadDoorbell (width n val : Nat) (s : State) : Host.Outcome State Fault Refusal :=
  quiet (fun s => if width = 32 ∧ n < 8 then s.ringDb (dbEq n) val else s) s

/-! ## Fetch (R53) -/

/-- The fetch priority of a ring. -/
def State.sqPrio (s : State) (n : Nat) : Nat := s.cf (.HIF_SQ_CFG n) F.HIF_SQ_CFG_PRIO

/-- A ring has entries that the module may fetch now (R42, R49, R62, R65). -/
def State.sqWaiting (s : State) (n : Nat) : Bool :=
  s.sqState n == 1 && s.sqAvail n != 0 && s.hostUp && !s.paused
    && s.sf (.HIF_CQ_STAT (s.cqOf n)) F.HIF_CQ_STAT_FULL == 0
    && s.hif.cqHeld.all (fun e => s.cqOf e.sq != s.cqOf n)

/-- The rings that wait, ascending. -/
def State.waiting (s : State) : List Nat := (List.range 64).filter s.sqWaiting

/-- The next ring of a priority in round robin after the one last served. -/
def State.robin (s : State) (p : Nat) (l : List Nat) : Option Nat :=
  let q := l.filter (fun n => s.sqPrio n == p)
  let last := Tbl.get 64 s.hif.rr p
  match q.find? (fun n => decide (last < n) && decide (last ≠ 64)) with
  | some n => some n
  | none => q.head?

/-- The ring that the module reads next, the most descriptors that the read may take, and whether the read counts toward
the limit of 16 (R53). -/
def State.nextRead (s : State) : Option (Nat × Nat × Bool) :=
  let w := s.waiting
  let top := w.foldl (fun a n => max a (s.sqPrio n)) 0
  let low := w.filter (fun n => decide (s.sqPrio n < top))
  if low ≠ [] ∧ 16 ≤ s.hif.consec then
    (s.robin (low.foldl (fun a n => max a (s.sqPrio n)) 0) low).map (fun n => (n, 1, false))
  else
    (s.robin top w).map (fun n => (n, if low = [] then 8 else min 8 (16 - s.hif.consec), decide (low ≠ [])))

/-- The module takes one descriptor of a ring: a phase mismatch faults the ring and stops the read; otherwise HEAD
advances, and the descriptor is checked (R38, R40, R44, R248). The flag tells whether the read goes on. -/
def State.takeDesc (n : Nat) (acc : State × Bool) (p : FetchDesc) : State × Bool :=
  let (s, go) := acc
  if go = false then acc
  else
    let b := fitBytes 64 p.octets
    let flags := leAt b 1 1
    let phase := Tbl.get true s.hif.sqPhase n
    if bit flags 0 ≠ phase then (s.sqFault n 0x01, false)
    else
      let next := (s.sqHead n + 1) % s.sqSize n
      let s1 := s.setSf (.HIF_SQ_STAT n) F.HIF_SQ_STAT_HEAD next
      let d := parseDesc s.hif.nextDid (.ring n) s.tsu.raw s.outputTime s.nsNow p.postBad b
      let s2 := { s1 with hif := { s1.hif with
        sqPhase := if next = 0 then Tbl.put true s1.hif.sqPhase n (!phase) else s1.hif.sqPhase
        nextDid := s1.hif.nextDid + 1
        inflight := s1.hif.inflight ++ [d] } }
      if p.bad.isSome then ((s2.poisonQueue (72 + n) (p.bad.getD 0)).fail d stPOISON, true)
      else if descInvalid flags s.outputTime d then (s2.fail d stERR_ARG, true)
      else (s2, true)

/-- One read of a ring's descriptors (R53, R62). (DEDUCED, log 17) -/
def State.fetch (s : State) (read : FetchRead) : State :=
  match s.nextRead with
  | none => s
  | some (n, most, counts) =>
    match read with
    | .failed => (s.sqFault n 0x04).hostMemFail
    | .ok descs =>
      let k := min (min most (s.sqAvail n)) descs.length
      let s1 := { s with hif := { s.hif with
        rr := Tbl.put 64 s.hif.rr (s.sqPrio n) n
        consec := if counts then s.hif.consec + k else 0 } }
      ((descs.take k).foldl (State.takeDesc n) (s1, true)).1

/-- DESCRIPTOR_FETCH. (DEDUCED, log 17) -/
def execDescriptorFetch (read : FetchRead) (s : State) : Host.Outcome State Fault Refusal :=
  quiet (fun s => s.fetch read) s

/-- NOP (R56). -/
def execNop (did : Nat) (s : State) : Host.Outcome State Fault Refusal :=
  quiet (fun s => s.operation did 0x00 (fun _ => true) (fun s d => s.ok d)) s

/-! ## Interrupt timers and Bus Master Enable -/

/-- CQ_COALESCE_TIMER: TIME has passed since the first unsignalled entry (R61). -/
def execCqCoalesceTimer (n : Nat) (s : State) : Host.Outcome State Fault Refusal :=
  quiet (fun s =>
    let time := s.cf (.HIF_CQ_COAL n) F.HIF_CQ_COAL_TIME
    if n < 64 ∧ Tbl.get 0 s.hif.cqUnsig n ≠ 0 ∧ time ≠ 0 then
      (s.elapseTo (Tbl.get 0 s.hif.cqFirst n + time * usT)).cqSignal n
    else s) s

/-- EQ_MESSAGE_INTERVAL: the 50 µs interval of an event ring ends and one message covers its entries (R51). -/
def execEqMessageInterval (n : Nat) (s : State) : Host.Outcome State Fault Refusal :=
  quiet (fun s =>
    let due := Tbl.get 0 s.hif.eqIvl n
    if n < 8 ∧ due ≠ 0 then
      let t := s.elapseTo due
      let t := { t with hif := { t.hif with eqIvl := Tbl.put 0 t.hif.eqIvl n 0 } }
      let v := t.cf (.HIF_EQ_CFG n) F.HIF_EQ_CFG_VECTOR
      if v = 0 then t else t.msix v
    else s) s

/-- Messages pending while Bus Master Enable was clear, sent for the vectors that are not masked. (DEDUCED, log 15) -/
def State.msixFlush (s : State) : State :=
  (List.range 128).foldl (fun t v =>
    if t.sf (.MSIX_PBA (v / 32)) ⟨v % 32, v % 32⟩ = 1 ∧ t.cf (.MSIX_CTL v) F.MSIX_CTL_MASK = 0 then
      (t.setSf (.MSIX_PBA (v / 32)) ⟨v % 32, v % 32⟩ 0).msix v
    else t) s

/-- BUS_MASTER_ENABLE_CHANGE: clearing the bit stops all ring traffic; setting it resumes the traffic where it stopped
(R62). (PRESUMED, log 14) -/
def execBusMasterEnableChange (on : Bool) (s : State) : Host.Outcome State Fault Refusal :=
  quiet (fun s =>
    let t := { s with hif := { s.hif with bme := on } }
    if on then ((t.cqDrain).eqDrain).msixFlush else t) s

/-- PERST_N_RELEASE: link training may start (R67, R551). (DEDUCED, log 149) -/
def execPerstNRelease (s : State) : Host.Outcome State Fault Refusal :=
  quiet (fun s => { s with hif := { s.hif with perst := true } }) s

/-- The link as it has trained, and what the host sets of configuration space; a value that R27 does not list leaves the
one that stands. (DESIGN CHOICE, log 158) -/
def Pcie.setUp (p : Pcie) (c : PcieSetup) : Pcie :=
  { p with
    gen := if c.gen = 1 ∨ c.gen = 2 then c.gen else 3
    width := if c.width = 1 ∨ c.width = 2 then c.width else 4
    maxPayload := if c.maxPayload = 128 ∨ c.maxPayload = 256 then c.maxPayload else p.maxPayload
    maxRead := if c.maxRead = 128 ∨ c.maxRead = 256 ∨ c.maxRead = 512 then c.maxRead else p.maxRead
    aspmL1 := c.aspmL1
    bar0 := c.bar0 / 16777216 * 16777216, bar2 := c.bar2 / 65536 * 65536, bar4 := c.bar4 / 65536 * 65536 }
/-- PCIE_LINK_UP: training completes, configuration requests complete without CRS, and the host enumerates the function
(R27, R28, R67). There is no link with PERST_N low, without supply, or without REFCLK (R483, R551). (DESIGN CHOICE, log 158) -/
def execPcieLinkUp (setup : PcieSetup) (s : State) : Host.Outcome State Fault Refusal :=
  quiet (fun s =>
    if s.hif.perst = true ∧ s.clk.phase ≠ Phase.off ∧ s.sf .CLK_SRC_STAT ⟨9, 8⟩ < 2 then { s with hif := { s.hif with linkUp := true, pcie := s.hif.pcie.setUp setup } } else s) s

end Sys2Proof.Machine
end

