-- ==== Sys2Proof/Machine/Control.lean ====
section
/-! DEFINITION. Sys2Proof/Machine/Control.lean: what ends a descriptor from outside (ABORT, RING_CTL, deadlines), and
STATUS_READ (R55, R58 to R60, R193). -/
namespace Sys2Proof.Machine

/-! ## Withdrawing a descriptor whose action has not begun -/

/-- A scene's launch is withdrawn: its slots and frames are disarmed, and the scene stays loaded (R58, R187). -/
def State.unlaunch (s : State) (did : Nat) : State :=
  let g (c : Scene) : Scene :=
    if c.launchDid = some did then { c with launchDid := none, armed := false, left := 0, latching := 0 } else c
  let ids := (s.seg.scenes.filter (fun c => c.launchDid == some did)).map (fun c => c.id)
  let keepReq (r : TxReq) : Bool := match r.kind with
    | .sceneNow i => !ids.contains i
    | _ => true
  let keepChg (c : DrvChange) : Bool := match c.scene with
    | some i => !ids.contains i
    | none => true
  { s with
    seg := { s.seg with scenes := s.seg.scenes.map g }
    air := { s.air with reqs := s.air.reqs.filter keepReq }
    drv := { s.drv with changes := s.drv.changes.filter keepChg } }
/-- A scene whose load is withdrawn is discarded, and its launch, if one is accepted and not itself withdrawn, has nothing to
carry out. (DEDUCED, log 23) -/
def State.unload (s : State) (did : Nat) : State :=
  match s.seg.scenes.find? (fun c => c.loadDid == some did) with
  | none => s
  | some c =>
    let t := match s.sceneJob c.id with
      | some j => s.dropJob j.id
      | none => s
    (t.endDid c.launchDid stEXPIRED 0 0).dropScene c.id
/-- What the module still holds for a descriptor is taken back: queued items and jobs, armed slots, frames in egress queues,
drive changes, an envelope on its way to the shed, an armed activation. (DEDUCED, log 152, 157) -/
def State.withdraw (s : State) (did : Nat) : State :=
  let mine (o : Option Nat) : Bool := o == some did
  let t := (s.freeSlots did).unlaunch did |>.unload did
  let its := (t.seg.items.filter (fun i => mine i.did)).map (fun i => i.id)
  let runs := (t.seg.runs.filter (fun r => mine r.did)).map (fun r => r.id)
  let its := its ++ (t.seg.items.filter (fun i => match i.run with
    | some r => runs.contains r
    | none => false)).map (fun i => i.id)
  let jobs := (t.seg.jobs.filter (fun j => mine j.did || (match j.kind with
    | .schedule r => runs.contains r
    | _ => false))).map (fun j => j.id)
  let keepReq (r : TxReq) : Bool := match r.kind with
    | .item i => !its.contains i
    | .job j => !jobs.contains j
    | _ => true
  let t : State := { t with
    seg := { t.seg with
      items := t.seg.items.filter (fun i => !its.contains i.id), jobs := t.seg.jobs.filter (fun j => !jobs.contains j.id)
      runs := t.seg.runs.filter (fun r => !runs.contains r.id) }
    air := { t.air with reqs := t.air.reqs.filter keepReq }
    drv := { t.drv with changes := t.drv.changes.filter (fun c => !mine c.did) }
    shed := { t.shed with
      pend := match t.shed.pend with
        | some p => if p.1 = did then none else some p
        | none => none
      queue := t.shed.queue.filter (fun e => e.src != .sealedRing did) }
    upd := { t.upd with armed := if mine t.upd.armed then none else t.upd.armed } }
  let t := if s.shed.pend.any (fun p => p.1 == did) then t.presenceDone 2 else t
  (List.range 40).foldl (fun u q =>
    if (u.queue q).any (fun f => mine f.did) then u.setQueue q ((u.queue q).filter (fun f => !mine f.did)) else u) t
/-- The operation inside a SEALED descriptor. -/
def State.inner (s : State) (did : Nat) : Option Desc := s.hif.inflight.find? (fun e => e.src == .sealedRing did)
/-- A descriptor's action, or that of the operation it encloses, has begun (R57, R58). -/
def State.hasBegun (s : State) (d : Desc) : Bool :=
  d.stage == .begun || ((s.inner d.did).map (fun e => e.stage == .begun)).getD false
/-- A descriptor whose action has not begun completes with a failure status, and everything held for it is taken back. (DEDUCED, log 23) -/
def State.cancel (s : State) (d : Desc) (status detail : Nat) : State :=
  match s.inner d.did with
  | some e => ((s.withdraw e.did).dropDesc e.did |>.withdraw d.did).fail d status detail
  | none => (s.withdraw d.did).fail d status detail
/-- A descriptor launches a scene, itself or inside an envelope. -/
def State.launches (s : State) (d : Desc) : Bool := d.op == 0x18 || ((s.inner d.did).map (fun e => e.op == 0x18)).getD false
/-- The descriptors to be cancelled, a scene's launch ahead of its load: cancelling the load ends a launch that is not itself
cancelled (R58, R59). -/
def State.launchesFirst (s : State) (l : List Desc) : List Desc := l.filter s.launches ++ l.filter (fun d => !s.launches d)
/-- Cancel every descriptor of a list that is still there and has not begun. -/
def State.cancelAll (s : State) (status : Nat) (detail : Desc → Nat) (l : List Desc) : State :=
  (s.launchesFirst l).foldl (fun t d =>
    match t.desc? d.did with
    | some e => if t.hasBegun e then t else t.cancel e status (detail e)
    | none => t) s
/-- DETAIL of ABORTED where an opcode's table names the abort (R163, R277). (DEDUCED, log 22) -/
def abortDetail (d : Desc) : Nat := if d.op = 0x20 then 1 else if d.op = 0x40 then 2 else 0
/-- DETAIL of EXPIRED where an opcode's table names the deadline (R163). (DEDUCED, log 22) -/
def expiryDetail (d : Desc) : Nat := if d.op = 0x20 then 4 else 0

/-- A descriptor's launch slot fires on this TSU tick, ahead of a disarm (R58, R283): its instant has come, and no overlapping
frame on its port holds it back. -/
def State.firesNow (s : State) (did : Nat) : Bool :=
  s.armedSlots.any (fun x => x.did == did && decide ((x.time : Int) ≤ s.outputTime) && !s.portHeld x)
/-- ABORT reaches a descriptor (R58): it matches, is not the ABORT nor the SEALED descriptor that encloses it, and neither it
nor the operation it encloses has begun or launches on this tick. -/
def State.abortHits (s : State) (d e : Desc) : Bool :=
  e.did != d.did && d.src != .sealedRing e.did && e.src == .ring (bits d.target 21 16) && e.tag == bits d.target 15 0
    && !s.hasBegun e && !s.firesNow e.did && !((s.inner e.did).map (fun i => s.firesNow i.did)).getD false
/-- ABORT (R58): RESULT counts the descriptors cancelled. TARGET bits 31:22, to which R58 gives no meaning, set complete it with
ERR_ARG. (DESIGN CHOICE, log 160) -/
def execAbort (did : Nat) (s : State) : Host.Outcome State Fault Refusal :=
  quiet (fun s => s.operation did 0x01 (fun _ => true) (fun s d =>
    if d.target / 2 ^ 22 ≠ 0 then s.fail d stERR_ARG
    else
      let hit := s.hif.inflight.filter (s.abortHits d)
      (s.cancelAll stABORTED abortDetail hit).ok d hit.length)) s

/-- The deadline of a descriptor, as output time or raw count (R55). -/
def State.untilDeadline (s : State) (d : Desc) : State :=
  if d.launch then s.elapseOut ((d.launchTime : Int) + d.deadline * msT) else s.elapseTo (d.at_ + d.deadline * msT)
/-- DEADLINE_EXPIRY (R55). -/
def execDeadlineExpiry (did : Nat) (s : State) : Host.Outcome State Fault Refusal :=
  quiet (fun s =>
    match s.desc? did with
    | none => s
    | some d =>
      if d.deadline = 0 ∨ s.hasBegun d = true then s
      else (s.untilDeadline d).cancel d stEXPIRED (expiryDetail d)) s

/-! ## RING_CTL (R59) -/

/-- The ring kind, number and action that RING_CTL names. -/
def ringKind (d : Desc) : Nat := bits d.target 9 8
def ringNo (d : Desc) : Nat := bits d.target 7 0
/-- The submission ring that carries a descriptor, itself or inside an envelope (R57). -/
def State.carrier (s : State) (d : Desc) : Option Nat :=
  match d.src with
  | .ring n => some n
  | .sealedRing outer => (s.desc? outer).bind (fun o => match o.src with
    | .ring n => some n
    | _ => none)
  | .sealedUdp _ _ => none
/-- The ring named exists, is enabled, and does not carry the RING_CTL itself (R59). -/
def State.ringNamed (s : State) (d : Desc) : Bool :=
  let n := ringNo d
  d.target / 1024 == 0 && d.pZero 1 32 &&
  (match ringKind d with
   | 0 => decide (n < 64) && s.cf (.HIF_SQ_CFG n) F.HIF_SQ_CFG_ENABLE == 1 && s.carrier d != some n
   | 1 => decide (n < 64) && s.cf (.HIF_CQ_CFG n) F.HIF_CQ_CFG_ENABLE == 1
   | 2 => decide (n < 8) && s.cf (.HIF_EQ_CFG n) F.HIF_EQ_CFG_ENABLE == 1
   | _ => false)
def State.setSqState (s : State) (n v : Nat) : State := s.setSf (.HIF_SQ_STAT n) F.HIF_SQ_STAT_STATE v
/-- RING_CTL PAUSE; an action that R59 does not list completes here with ERR_ARG. -/
def execRingCtlPause (did : Nat) (s : State) : Host.Outcome State Fault Refusal :=
  quiet (fun s => s.operation did 0x02 (fun d => d.pByte 0 == 1 || d.pByte 0 == 0 || decide (3 < d.pByte 0)) (fun s d =>
    if d.pByte 0 ≠ 1 ∨ s.ringNamed d = false ∨ ringKind d ≠ 0 ∨ s.sqState (ringNo d) = 3 then s.fail d stERR_ARG
    else (s.setSqState (ringNo d) 2).ok d)) s
/-- RING_CTL RESUME. -/
def execRingCtlResume (did : Nat) (s : State) : Host.Outcome State Fault Refusal :=
  quiet (fun s => s.operation did 0x02 (fun d => d.pByte 0 == 2) (fun s d =>
    if s.ringNamed d = false ∨ ringKind d ≠ 0 ∨ s.sqState (ringNo d) = 3 then s.fail d stERR_ARG
    else (s.setSqState (ringNo d) 1).ok d)) s
/-- A submission ring's indices and phase return to their reset values (R40, R59). (DEDUCED, log 18) -/
def State.sqClear (s : State) (n : Nat) : State :=
  let t := s.setSf (.HIF_SQ_STAT n) F.HIF_SQ_STAT_HEAD 0
  { t with hif := { t.hif with sqTail := Tbl.put 0 t.hif.sqTail n 0, sqPhase := Tbl.put true t.hif.sqPhase n true } }
/-- A completion ring's. -/
def State.cqClear (s : State) (n : Nat) : State :=
  let t := s.setSf (.HIF_CQ_STAT n) F.HIF_CQ_STAT_TAIL 0
  let t : State := { t with hif := { t.hif with
    cqHead := Tbl.put 0 t.hif.cqHead n 0, cqPhase := Tbl.put true t.hif.cqPhase n true, cqUnsig := Tbl.put 0 t.hif.cqUnsig n 0 } }
  t.setSf (.HIF_CQ_STAT n) F.HIF_CQ_STAT_FULL 0
/-- An event ring's, and its LOST. -/
def State.eqClear (s : State) (n : Nat) : State :=
  let t := (s.setSf (.HIF_EQ_STAT n) F.HIF_EQ_STAT_TAIL 0).setSf (.HIF_EQ_STAT n) F.HIF_EQ_STAT_LOST 0
  { t with hif := { t.hif with eqHead := Tbl.put 0 t.hif.eqHead n 0, eqPhase := Tbl.put true t.hif.eqPhase n true } }
/-- A submission ring is reset: its descriptors that have not begun complete with ABORTED, and its fetch queue is flushed (R59, R250). (DEDUCED, log 18) -/
def State.sqReset (s : State) (n : Nat) : State :=
  let l := s.hif.inflight.filter (fun e => e.src == .ring n)
  (((s.cancelAll stABORTED abortDetail l).sqClear n).setSqState n 1).flushQueue (72 + n) 1
/-- RING_CTL RESET. -/
def execRingCtlReset (did : Nat) (s : State) : Host.Outcome State Fault Refusal :=
  quiet (fun s => s.operation did 0x02 (fun d => d.pByte 0 == 3) (fun s d =>
    let n := ringNo d
    if s.ringNamed d = false then s.fail d stERR_ARG
    else if ringKind d = 0 then
      (if s.sqState n = 3 ∧ s.sf (.HIF_SQ_STAT n) F.HIF_SQ_STAT_FAULT = 3 then s.fail d stERR_ARG
       else (s.sqReset n).ok d)
    else if ringKind d = 1 then
      (if s.cqUp n = false then s.fail d stERR_ARG
       else if (List.range 64).any (fun k => s.cqOf k == n && s.sqState k == 1) then s.fail d stBUSY
       else (((s.cqClear n).flushQueue (136 + n) 1).cqDrain).ok d)
    else if s.eqUp n = false then s.fail d stERR_ARG
    else ((s.eqClear n).flushQueue (200 + n) 1).ok d)) s

/-! ## STATUS_READ (R60, R193) -/

/-- Stalls of a yard that satisfy a test. (DEDUCED, log 83) -/
def State.countStalls (s : State) (y : Nat) (p : Stall → Bool) : Nat :=
  (s.seg.stalls.filter (fun q => yardOf q.1 == y && p q.2)).length
/-- Entries that no writer has set, in state UNBOUND, are counted with the rest of the yard's 16,384. (DEDUCED, log 83) -/
def State.countState (s : State) (y st : Nat) : Nat :=
  if st = 0 then 16384 - s.countStalls y (fun x => x.state != 0) else s.countStalls y (fun x => x.state == st)
/-- The summary of one yard (R193). -/
def State.yardSummary (s : State) (y : Nat) : List Byte :=
  ((List.range 7).map (fun k => le 4 (s.countState y k))).flatten ++ le 4 (s.countStalls y (fun x => x.stale))
    ++ ((List.range 6).map (fun k => le 4 (s.countStalls y (fun x => bit x.faults k)))).flatten
    ++ le 4 (s.countStalls y (fun x => bit x.faults 15)) ++ zeros 4
/-- The snapshot of a selector. -/
def State.statusData (s : State) (target : Nat) : Option (List Byte) :=
  if bits target 31 24 = 5 then
    (if bits target 23 8 ≠ 0 then none
     else if bits target 7 0 < 16 then some (s.yardSummary (bits target 7 0))
     else if bits target 7 0 = 255 then some ((List.range 16).map s.yardSummary).flatten
     else none)
  else s.statusSnapshot target
/-- STATUS_READ. -/
def execStatusRead (did : Nat) (s : State) : Host.Outcome State Fault Refusal :=
  quiet (fun s => s.operation did 0x07 (fun _ => true) (fun s d =>
    if d.len = 0 then s.fail d stERR_ARG
    else
      match s.statusData d.target with
      | none => s.fail d stERR_ARG
      | some b => s.okData d b (min b.length d.len))) s

end Sys2Proof.Machine
end

