-- ==== Sys2Proof/Machine/Shed.lean ====
section
/-! DEFINITION. Sys2Proof/Machine/Shed.lean: the shed: what SEC shows, the tamper log, zeroise, the sealed-command counter,
envelopes and their checks (R57, R376 to R396, R490). -/
namespace Sys2Proof.Machine

/-! ## What the SEC window shows (R401) -/

/-- The owner, HIGH and the join roots as the SEC window shows them. (DEDUCED, log 103) -/
def State.secRefresh (s : State) : State :=
  let id := (s.tack.owner.map (fun o => o.id)).getD 0
  let gen := (s.tack.owner.map (fun o => o.gen)).getD 0
  let roots := (s.tack.roots.map (fun r => 2 ^ r.1)).foldl (· + ·) 0
  ((((((s.setSf .SEC_STAT F.SEC_STAT_OWNED (b2n s.tack.owner.isSome)).setSw .SEC_OWNER_LO (id % 2 ^ 32)).setSw .SEC_OWNER_HI
    (id / 2 ^ 32)).setSw .SEC_OWNER_GEN gen).setSw .SEC_CTR_LO (s.tack.high % 2 ^ 32)).setSw .SEC_CTR_HI
    (s.tack.high / 2 ^ 32)).setSw .SEC_JROOTS roots
/-- A flag of SEC_STAT. -/
def State.sec (s : State) (f : Fld) : Bool := s.sf .SEC_STAT f == 1
def State.setSec (s : State) (f : Fld) (v : Bool) : State := s.setSf .SEC_STAT f (b2n v)
/-- The shed's core runs: M0's firmware has loaded it, or it runs from its ROM (R23, R443). -/
def State.shedRuns (s : State) : Bool := (s.clk.phase == .run || s.clk.phase == .lizard) && !s.shed.down

/-! ## Tamper (R394 to R396) -/

/-- An entry of the monitor's log. (DESIGN CHOICE, log 102) -/
def State.tamperEntry (s : State) (cause arg : Nat) : List Byte := le 6 s.newt.tick ++ le 1 cause ++ le 1 arg
/-- The shed copies an entry into the tamper history; causes 1 to 4 raise TAMPER. -/
def State.copyEntry (s : State) (e : List Byte) : State :=
  let t : State := { s with tack := { s.tack with history := (e :: s.tack.history).take 64 } }
  if leAt e 6 1 ≤ 4 then
    ((t.setSec F.SEC_STAT_TAMPER true).setSf .SEC_EVT F.SEC_EVT_TAMPER 1).event 14 0 0x0C05 3 [leAt e 6 1, leAt e 7 1]
  else t
/-- The monitor's count of a cause. -/
def State.countCause (s : State) (cause : Nat) : State :=
  if cause = 1 then s.bumpSat .SEC_TAMPER_CNT F.SEC_TAMPER_CNT_DOOR_OPEN
  else if cause = 2 then s.bumpSat .SEC_TAMPER_CNT F.SEC_TAMPER_CNT_SEAL_OPEN
  else if cause = 3 then s.bumpSat .SEC_TAMPER_CNT F.SEC_TAMPER_CNT_MESH
  else if cause = 4 then s.bumpSat .SEC_TAMPER_CNT F.SEC_TAMPER_CNT_NEWT_RESET
  else
    { s with shed := { s.shed with
      counts := s.shed.counts.zipIdx.map (fun p => if p.2 + 5 = cause then min (p.1 + 1) 255 else p.1) } }
/-- The monitor logs a cause with its argument. -/
def State.logCause (s : State) (cause arg : Nat) : State :=
  let e := s.tamperEntry cause arg
  let t := s.countCause cause
  let t : State := { t with shed := { t.shed with log := (e :: t.shed.log).take 16 } }
  if t.shedRuns then t.copyEntry e
  else { t with shed := { t.shed with uncopied := min (t.shed.uncopied + 1) 16 } }
/-- The monitor logs a cause whose argument octet the manual leaves open. -/
def State.logTamper (s : State) (cause : Nat) : State :=
  let u := s.fresh
  u.2.logCause cause (u.1 % 256)
/-- The entries logged while the shed did not run are copied, oldest first. -/
def State.copyLog (s : State) : State :=
  let l := (s.shed.log.take s.shed.uncopied).reverse
  l.foldl State.copyEntry { s with shed := { s.shed with uncopied := 0 } }

/-! ## The presence-unlocked window (R392) -/

def State.closeWindow (s : State) : State :=
  if s.sec F.SEC_STAT_WINDOW then (s.setSec F.SEC_STAT_WINDOW false).setSf .SEC_EVT F.SEC_EVT_WINDOW 1 else s
def State.openPresence (s : State) (secs : Nat) : State :=
  let t : State := { s with shed := { s.shed with windowEnd := s.tsu.raw + secs * secT } }
  (t.setSec F.SEC_STAT_WINDOW true).setSf .SEC_EVT F.SEC_EVT_WINDOW 1

/-- What a MESH tamper makes the shed do (R395). (DEDUCED, log 101) -/
def State.zeroise (s : State) : State :=
  let t : State := { s with
    tack := { s.tack with wk := none, roots := [], epoch := 0, epochNext := none }
    shed := { s.shed with meshPending := false } }
  ((((t.setSec F.SEC_STAT_ZEROISED true).setSec F.SEC_STAT_PAIRED false).closeWindow).event 14 0 0x0C06 4 []).secRefresh

/-! ## Envelopes (R383 to R387) -/

/-- Codes of the trust operations (R388, R442). -/
def isTrustOp (op : Nat) : Bool := decide (0xC0 ≤ op ∧ op ≤ 0xCB)
/-- An owner-key operation (R389). -/
def isOwnerOp (op : Nat) : Bool := decide (0xC0 ≤ op ∧ op ≤ 0xC2)
/-- PARAM byte 0 of an envelope. -/
def envAction (e : Envelope) : Nat := e.param.toNat % 256
/-- Physical presence is needed (R388, R442). -/
def envPresence (e : Envelope) : Bool :=
  isOwnerOp e.op || e.op == 0xC3 || e.op == 0xC5 || (e.op == 0x60 && envAction e == 1) || (e.op == 0xCB && e.target % 2 == 1)
/-- A privileged operation (R383). -/
def envPrivileged (e : Envelope) : Bool := envPresence e || e.op == 0xCB
/-- The operation may be enclosed (R383). -/
def envMayEnclose (e : Envelope) : Bool :=
  isTrustOp e.op ||
    (match opInfo e.op with
     | none => false
     | some o => e.op != 0x05 && e.op != 0x06
         && (o.buf != .output || (e.op == 0x60 && (envAction e == 1 || envAction e == 2))))
/-- DEST names this module (R383). -/
def State.destOk (s : State) (e : Envelope) : Bool :=
  match e.dest with
  | .device id => id == Config.devId.toNat
  | .segment id => id == s.cf .YRD_MAC_SEG F.YRD_MAC_SEG_SEGID && !envPrivileged e
/-- CTR is fresh (R385). (DEDUCED, log 97, 98) -/
def State.ctrFresh (s : State) (ctr : Nat) : Bool :=
  decide (s.tack.high < ctr)
    || (decide (ctr < s.tack.high ∧ s.tack.high ≤ ctr + 63) && !bit s.tack.window (s.tack.high - 1 - ctr))
/-- CTR is consumed: the new HIGH and window. (DEDUCED, log 97) -/
def State.takeCtr (s : State) (ctr : Nat) : State :=
  let k := s.tack
  if k.high < ctr then
    let d := ctr - k.high
    let w := if 63 < d then 0 else (k.window * 2 ^ d + 2 ^ (d - 1)) % 2 ^ 63
    { s with tack := { k with high := ctr, window := w } }
  else if ctr < k.high then { s with tack := { k with window := k.window + 2 ^ (k.high - 1 - ctr) } }
  else s
/-- The checks of R384, in order: the DETAIL of the first that fails. (DEDUCED, log 96) -/
def State.envCheck (s : State) (e : Envelope) (sigOk : Bool) : Option Nat :=
  if e.wellFormed = false ∨ 2 ^ 64 ≤ e.ctr ∨ 2 ^ 32 ≤ e.target then some 0x01
  else if e.algOk = false then some 0x02
  else if (match s.tack.owner with
      | some o => e.kid != o.id
      | none => e.op != 0xC0) then some 0x03
  else if sigOk = false ∨ (isOwnerOp e.op = true ∧ e.proofOk = false) then some 0x04
  else if s.destOk e = false then some 0x05
  else if s.ctrFresh e.ctr = false then some 0x06
  else if (match e.notAfter with
      | some t => s.sf .TSU_STAT F.TSU_STAT_SYNCED == 1 && decide ((t : Int) * secT < s.outputTime)
      | none => false) then some 0x07
  else if envMayEnclose e = false then some 0x08
  else if s.sec F.SEC_STAT_DEBUG then some 0x09
  else none

/-- The descriptor that an envelope stands for (R383): TAG and the work value hold CTR. -/
def State.envDesc (s : State) (w : EnvWait) : Desc :=
  { did := s.hif.nextDid, src := w.src, op := w.env.op, noComp := false, fence := false, launch := w.env.launchTime.isSome
    tag := w.env.ctr, target := w.env.target, launchTime := w.env.launchTime.getD 0, addr := 0, len := w.env.data.length
    deadline := 0, param := w.env.param, buf := w.env.data, stage := .queued, at_ := s.tsu.raw, atOut := s.outputTime, atNs := s.nsNow, interim := false
    late := false, actTime := none, discard := false, postBad := none, work := w.env.ctr }
/-- The operation of a descriptor inside an envelope may start. -/
def State.envReady (s : State) (did : Nat) : State := s.updDesc did (fun d => { d with stage := .waiting })
/-- An envelope that fails a check (R384, R386, R387). -/
def State.deny (s : State) (w : EnvWait) (detail : Nat) : State :=
  let path := match w.src with
    | .sealedUdp _ _ => 1
    | _ => 0
  let t := (s.setSf .SEC_EVT F.SEC_EVT_DENIED 1).event 14 0 0x0C01 1 [detail, path, w.env.ctr % 2 ^ 32]
  match w.src with
  | .sealedRing outer =>
    match t.desc? outer with
    | some o => t.fail o stDENIED detail
    | none => t
  | .sealedUdp ip port =>
    let t := t.bumpSat .SEC_UDP F.SEC_UDP_DENIED
    if detail = 1 then t else (t.emit (.udpAnswer ip port w.env.ctr stDENIED detail 0)).sealedReply ip
  | .ring _ => t
/-- A credit is consumed (R391). -/
def State.dropCredit (s : State) : State := s.setSec F.SEC_STAT_CREDIT false
/-- An envelope that passes: its counter is consumed, and its operation may start, waits for presence, or is refused a
second wait (R385, R391). (DEDUCED, log 97, 157) -/
def State.acceptEnv (s : State) (w : EnvWait) : State :=
  let t := (s.takeCtr w.env.ctr).secRefresh
  let d := t.envDesc w
  let t : State := { t with hif := { t.hif with nextDid := d.did + 1, inflight := t.hif.inflight ++ [d] } }
  if isTrustOp d.op = false ∧ descInvalid 0 t.outputTime d = true then t.fail d stERR_ARG
  else if envPresence w.env = false then t.envReady d.did
  else if t.creditOpen then t.dropCredit.envReady d.did
  else if t.shed.pend.isSome then t.fail d stBUSY
  else
    let u := t.presenceWait d.op
    { u with shed := { t.shed with pend := some (d.did, t.tsu.raw + 60 * secT) } }

/-- SEALED (R57, R386): one envelope is being verified, and at most 8 wait. -/
def execSealed (did : Nat) (read : HostRead) (env : Envelope) (s : State) : Host.Outcome State Fault Refusal :=
  quiet (fun s => s.operationIn did 0x06 read (fun _ => true) (fun s d =>
    if d.target ≠ 0 ∨ d.param ≠ 0#256 ∨ d.len = 0 then s.fail d stERR_ARG
    else if s.shed.down then s.fail d stERR_ABSENT
    else if 9 ≤ s.shed.queue.length then s.fail d stBUSY
    else { s with shed := { s.shed with queue := s.shed.queue ++ [{ src := .sealedRing d.did, env := env }] } })) s
/-- UDP_ENVELOPE_RX (R386, R387): `len` is the datagram's length. M serves the port once set-up is done. (DEDUCED, log 100) -/
def execUdpEnvelopeRx (ip port len : Nat) (fragment : Bool) (env : Envelope) (s : State) :
    Host.Outcome State Fault Refusal :=
  quiet (fun s =>
    if s.done = false ∨ s.ready = false ∨ s.replaying = true ∨ fragment = true ∨ 1400 < len then s
    else if s.shed.down = true ∨ 9 ≤ s.shed.queue.length then s.bumpSat .SEC_UDP F.SEC_UDP_DROPPED
    else { s with shed := { s.shed with queue := s.shed.queue ++ [{ src := .sealedUdp ip port, env := env }] } }) s
/-- ENVELOPE_VERIFIED (R384): the shed finishes with the envelope at the head; `sigOk` is its signature's verdict. A shed whose
identity failed verifies none (R377). (DEDUCED, log 100) -/
def execEnvelopeVerified (sigOk : Bool) (s : State) : Host.Outcome State Fault Refusal :=
  quiet (fun s =>
    match s.shed.queue with
    | [] => s
    | w :: rest =>
      if s.ready = false ∨ s.shedRuns = false ∨ s.shed.identity = false ∨ s.radioPaused = true then s
      else
        let t : State := { s with shed := { s.shed with queue := rest } }
        match t.envCheck w.env sigOk with
        | some detail => t.deny w detail
        | none => t.acceptEnv w) s

/-! ## The shed's own reset (R490, R491) -/

/-- The crossings of the shed island (R244): control, key cache fills, sealed commands. -/
def shedCrossings : List Nat := [7, 14, 19]
/-- The crossings of the PCIe island (R244): control, core, fabric. -/
def pcieCrossings : List Nat := [6, 10, 11]
/-- A crossing enters ISOLATED (R490). (DEDUCED, log 68) -/
def State.isolate (s : State) (n : Nat) : State :=
  if s.sf (.QUE_X_STAT n) F.QUE_X_STAT_STATE = 1 then s
  else (s.setSf (.QUE_X_STAT n) F.QUE_X_STAT_STATE 1).bumpSat (.QUE_X_STAT n) F.QUE_X_STAT_ISOLATIONS
/-- What the shed holds of commands completes with ERR_ABSENT on a ring, and is dropped on UDP. (DEDUCED, log 100) -/
def State.shedDrop (s : State) : State :=
  let t := s.shed.queue.foldl (fun (u : State) (w : EnvWait) =>
    match w.src with
    | .sealedRing outer =>
      match u.desc? outer with
      | some o => u.fail o stERR_ABSENT
      | none => u
    | _ => u) s
  let t := match s.shed.pend.bind (fun p => t.desc? p.1) with
    | some d => t.fail d stERR_ABSENT
    | none => t
  { t with shed := { t.shed with queue := [], pend := none, sealAt := none } }
/-- SHED_RESET. (DEDUCED, log 100) -/
def execShedReset (s : State) : Host.Outcome State Fault Refusal :=
  quiet (fun s =>
    if s.ready = false then s
    else
      let t := ((s.shedDrop).closeWindow).dropCredit
      let t : State := { t with air := { t.air with cache := [] }, shed := { t.shed with down := true } }
      shedCrossings.foldl State.isolate t.mbxShedReset) s
/-- The numbered queues of a crossing (R244, R245). -/
def crossingQueues (n : Nat) : List Nat :=
  if n = 10 then (List.range 136).map (fun k => 72 + k) else if n = 13 then (List.range 32).map (fun k => 40 + k)
  else if n = 11 then (List.range 8).map (fun k => 24 + k) else []
/-- M0 hands the shed its image (R24): one that fails its signature leaves the shed in its ROM, and M0 records a CRITICAL event
whose code the manual leaves open. (DESIGN CHOICE, log 122) -/
def State.shedBoot (s : State) (sig : Bool) : State :=
  if sig then { s with shed := { s.shed with down := false }, mbx := { s.mbx with shedRan := true } }
  else
    let u := s.fresh
    ({ u.2 with shed := { u.2.shed with down := true } }).event 10 0 (u.1 % 65536) 4 []
/-- The exchange begins (R491, steps 1 and 2): STATE reads INIT, the producers have their credits, DISCARD clears. -/
def State.creditBegin (s : State) (n : Nat) : State :=
  let t := s.setSf (.QUE_X_STAT n) F.QUE_X_STAT_STATE 2
  (crossingQueues n).foldl (fun (u : State) q =>
    (u.setSf (.QUE_STAT q) F.QUE_STAT_DISCARD 0).setSf (.QUE_STAT q) F.QUE_STAT_CREDIT (queueDepth q)) t
/-- The exchange ends (R491, step 3): the crossing is ACTIVE; when the shed's are, the shed is started from its image. -/
def State.creditEnd (s : State) (n : Nat) (shedSig : Bool) : State :=
  let t := s.setSf (.QUE_X_STAT n) F.QUE_X_STAT_STATE 0
  if n ∈ shedCrossings ∧ shedCrossings.all (fun k => t.sf (.QUE_X_STAT k) F.QUE_X_STAT_STATE == 0) = true then t.shedBoot shedSig
  else if n = 10 then ((t.cqDrain).eqDrain).msixFlush
  else t
/-- CREDIT_INIT (R491): the exchange of an ISOLATED crossing begins, and at the next command of its crossing ends. (DEDUCED, log 108) -/
def execCreditInit (n : Nat) (shedSig : Bool) (s : State) : Host.Outcome State Fault Refusal :=
  quiet (fun s =>
    if 20 ≤ n ∨ (n ∈ pcieCrossings ∧ s.hif.perst = false) then s
    else if s.sf (.QUE_X_STAT n) F.QUE_X_STAT_STATE = 1 then s.creditBegin n
    else if s.sf (.QUE_X_STAT n) F.QUE_X_STAT_STATE = 2 then s.creditEnd n shedSig
    else s) s

end Sys2Proof.Machine
end

