-- ==== Sys2Proof/Machine/Resume.lean ====
section
/-! DEFINITION. Sys2Proof/Machine/Resume.lean: how the segment goes on from kept records, after a module start and after a
takeover (R135, R204, R205, R224, R360). -/
namespace Sys2Proof.Machine

/-- A stall's downlink counter resumes at its kept value plus 65,536 (R135). -/
def State.resumeStall (s : State) (i : Nat) : State :=
  let v := (s.stall i).fcDown + 65536
  if v < fcLimit then s.modStall i (fun x => { x with fcDown := v })
  else if v ≤ 0xFFFFFF00 then (s.modStall i (fun x => { x with fcDown := v })).limitStall i
  else (s.event 6 (yardOf i) 0x0406 2 [i]).unbind i
/-- A paddock's counter resumes (R134, R135): the Bool tells that it has reached the point where M1 opens a rollover. -/
def State.resumePad (s : State) (p : Nat) : State × Bool :=
  let fc := (s.pad p).fc
  let v := min (fc + 65536) 0xFFFF0000
  let t := s.modPad p (fun x => { x with fc := v })
  if 0xF0000000 ≤ v ∧ fc < 0xF0000000 then (t.event 11 0 0x0406 2 [p], true) else (t, false)
/-- Every module-kept counter resumes: the Bool tells that a rollover is to be opened. -/
def State.resumeCounters (s : State) : State × Bool :=
  let t := ((s.seg.stalls.filter (fun q => q.2.live && q.2.key != 0)).map (fun q => q.1)).foldl State.resumeStall s
  ((t.seg.pads.filter (fun q => q.2.key != 0)).map (fun q => q.1)).foldl (fun (a : State × Bool) p =>
    let r := a.1.resumePad p
    (r.1, a.2 || r.2)) (t, false)
/-- The rollover journal is read (R205): a close is repeated; else each yard goes on, and a stall whose KEY_NEXT is kept holds it,
so that it goes on at step 3 of R201. -/
def State.resumeRoll (s : State) : State :=
  if s.roll.phase = 2 then s.rollFinish
  else if s.roll.phase = 1 then
    let t := s.event 11 0 0x0506 1 [s.roll.epoch, s.roll.pass, s.roll.done.length]
    let t : State := { t with seg := { t.seg with
      inflight := [], tried := []
      stalls := t.seg.stalls.map (fun q => (q.1, { q.2 with rolled := t.roll.done.contains q.1, nextHeld := q.2.live && q.2.keyNext != 0 })) } }
    t.rollFill.rollPass
  else s
/-- The counters and the rollover resume, and a paddock counter at its limit opens a rollover where none is open. -/
def State.resumeSegment (s : State) : State :=
  let r := s.resumeCounters
  let t := r.1.resumeRoll
  if r.2 = true ∧ t.roll.phase = 0 ∧ t.keyed = true then t.rollOpen else t
/-- Campaigns resume from the records kept (R224). (DEDUCED, log 58) -/
def State.resumeCamps (s : State) : State :=
  let go (c : Campaign) : Campaign :=
    { c with
      resumed := c.state == cSENDING || c.resumed || (c.state == cARMED && c.winClose.isNone)
      state := if c.state = cSENDING then cARMED else c.state, blocks := [] }
  State.fltRefresh { s with flt := { s.flt with
    camps := s.flt.saved.map go, latest := (s.flt.saved.map (fun c => c.chg)).foldl max s.flt.latest } }
/-- A mirrored scene whose launch was armed is armed again where T lies at least 2 ms ahead (R360). -/
def State.resumeScene (s : State) (id : Nat) : State :=
  match s.scene? id with
  | none => s
  | some c =>
    if c.armed = true ∧ s.outputTime + 2 * (msT : Int) ≤ c.t then
      let k := s.hif.nextDid
      let want := s.sceneSlots c k
      (want.foldl State.takeSlot { s with hif := { s.hif with nextDid := k + 1 } }).modScene id (fun c => { c with
        loadDid := none, launchDid := none, left := want.length, latching := 0, late := false, yardsOut := 0, latched := 0 })
    else s.modScene id (fun c => { c with loadDid := none, launchDid := none, armed := false, left := 0, latching := 0 })

end Sys2Proof.Machine
end

