-- ==== Sys2Proof/Machine/Twin.lean ====
section
/-! DEFINITION. Sys2Proof/Machine/Twin.lean: the twin pair: claims, the claim gate, the lease, roles, the mirror, health,
reversion (R314, R346 to R375, R569). -/
namespace Sys2Proof.Machine

/-! ## Fields -/

/-- The unit is one of a twin pair, and set up. -/
def State.twinOn (s : State) : Bool := s.done && s.cf .TWN_CFG F.TWN_CFG_ENABLE == 1 && !s.replaying
def State.ownPref (s : State) : Nat := s.cf .TWN_CFG F.TWN_CFG_PREF
def State.unit (s : State) : Nat := s.cf .TWN_CFG F.TWN_CFG_UNIT
/-- The claim this module sends. (DEDUCED, log 89) -/
def State.ownClaim (s : State) : Nat := s.sf .TWN_CLAIM F.word
def State.peerClaim (s : State) : Nat := s.sf .TWN_PEER_CLAIM F.word
/-- A flag of TWN_STAT. -/
def State.tw (s : State) (f : Fld) : Bool := s.sf .TWN_STAT f == 1
def State.setTw (s : State) (f : Fld) (v : Bool) : State := s.setSf .TWN_STAT f (b2n v)
/-- A bit of TWN_EVT is set. -/
def State.twinEvt (s : State) (f : Fld) : State := s.setSf .TWN_EVT f 1
def State.modTwn (s : State) (f : Twn → Twn) : State := { s with twn := f s.twn }
/-- PREF and EPOCH of a claim (R346). (DEDUCED, log 92) -/
def claimOf (pref epoch : Nat) : Nat := pref * 2 ^ 28 + epoch
def claimPref (c : Nat) : Nat := c / 2 ^ 28
def claimEpoch (c : Nat) : Nat := c % 2 ^ 28
/-- TWN_LEASE.LOSS_AFTER in ticks (R353). -/
def State.lossT (s : State) : Nat := s.cf .TWN_LEASE F.TWN_LEASE_LOSS_AFTER * msT
/-- Pair level of the running bundle (R361, R373). -/
def State.level (s : State) : Nat := s.sf .TWN_STAT F.TWN_STAT_LEVEL
/-- The claim that a unit in LISTEN or STANDBY publishes (R346). -/
def State.showClaim (s : State) : State :=
  if s.twinRole = 1 ∨ s.twinRole = 2 then s.setSw .TWN_CLAIM (claimOf 0 s.twn.epoch) else s
/-- A frame goes out on the twin lane (R349, R352). -/
def State.laneSend (s : State) (body : TwinBody) : State :=
  if s.tw F.TWN_STAT_LANE_OK ∧ s.twn.lapsed = false ∧ s.twinOn = true then
    (s.emit (.twinLane s.ownClaim s.twinRole body)).modTwn (fun w => { w with laneAt := s.tsu.raw + 100 * usT })
  else s
/-- Frames on the lane come at most 100 µs apart: one goes out where nothing else has been sent (R349). -/
def State.laneBeat (s : State) : State := if s.tsu.raw < s.twn.laneAt then s else s.laneSend .none
/-- TWIN_FAULT (R375). -/
def State.twinFault (s : State) (cause : Nat) : State := (s.event 17 0 0x0B08 3 [cause]).twinEvt F.TWN_EVT_FAULT

/-! ## Health (R362, R363) -/

/-- Some clock source is in failure (R482). -/
def State.clockBad (s : State) : Bool :=
  (List.range 11).any (fun k => decide (2 ≤ s.sf .CLK_SRC_STAT ⟨2 * k + 1, 2 * k⟩))
/-- The unit is HEALTHY now (R363). (DESIGN CHOICE, log 87) -/
def State.healthyNow (s : State) : Bool :=
  !s.clockBad
    && (List.range 16).all (fun y => !(s.yardEnabled y && s.yardState y == yFAULTED))
    && (match s.twn.testFail with
        | some t => decide (t + 60 * secT ≤ s.tsu.raw)
        | none => true)
    && s.domState s.act == dSYNCED
    && s.tw F.TWN_STAT_BUS_OK && s.tw F.TWN_STAT_LANE_OK
/-- FLAGS of the health report (R362). -/
def State.flags (s : State) : Nat :=
  let b (f : Fld) (k : Nat) : Nat := s.sf .TWN_STAT f * 2 ^ k
  b F.TWN_STAT_HEALTHY 0 + b F.TWN_STAT_IN_SYNC 1 + b F.TWN_STAT_VERSION_OK 2 + b F.TWN_STAT_CONFIG_OK 3
    + b F.TWN_STAT_BUS_OK 4 + b F.TWN_STAT_LANE_OK 5 + b2n (s.domState s.act == dSYNCED) * 64
    + s.sf .HIF_STATUS F.HIF_STATUS_TRIAL * 128 + b F.TWN_STAT_INHIBIT 8
/-- HEALTHY follows, and each change is recorded (R363). (DESIGN CHOICE, log 87) -/
def State.refreshHealth (s : State) : State :=
  let h := s.healthyNow
  if h = s.tw F.TWN_STAT_HEALTHY then s
  else
    let t := (s.setTw F.TWN_STAT_HEALTHY h).twinEvt F.TWN_EVT_HEALTH
    t.event 17 0 0x0B0A 1 [t.flags]
/-- The peer's report is current and shows it HEALTHY (R362). -/
def State.reportFresh (s : State) : Bool :=
  match s.twn.reportAt with
  | some t => decide (s.tsu.raw ≤ t + 3 * secT)
  | none => false
/-- The conditions of reversion (R365). -/
def State.revCond (s : State) : Bool :=
  s.twinRole == 2 && decide (s.twn.peerPref < s.ownPref) && s.cf .TWN_CFG F.TWN_CFG_REVERT == 1
    && !s.tw F.TWN_STAT_INHIBIT && s.tw F.TWN_STAT_HEALTHY && s.tw F.TWN_STAT_IN_SYNC
/-- IN_SYNC follows (R359): records are applied as they arrive, so the last one applied was sent no more than 100 ms ago where
the lane has been heard in that time. (DEDUCED, log 90) -/
def State.refreshSync (s : State) : State :=
  let v := s.twinRole == 2 && s.twn.swept && s.tw F.TWN_STAT_VERSION_OK && s.tw F.TWN_STAT_CONFIG_OK && s.tw F.TWN_STAT_LANE_OK
    && decide (s.tsu.raw ≤ s.twn.laneHeard + 100 * msT)
  if v = s.tw F.TWN_STAT_IN_SYNC then s
  else
    let t := (s.setTw F.TWN_STAT_IN_SYNC v).twinEvt F.TWN_EVT_SYNC
    if v then t.event 17 0 0x0B05 1 [t.twn.seq] else t
/-- The twin flags and the times since which a condition has held follow the state. -/
def State.refreshTwin (s : State) : State :=
  if s.twinOn = false then s
  else
    let t := s.refreshSync.refreshHealth
    let rev := t.revCond
    let sick := t.twinRole == 3 && !t.tw F.TWN_STAT_HEALTHY
    t.modTwn (fun w => { w with
      revSince := if rev then some (w.revSince.getD t.tsu.raw) else none
      sickSince := if sick then some (w.sickSince.getD t.tsu.raw) else none })

/-! ## The mirror (R358 to R361) -/

/-- What is mirrored of the state now (R358). -/
def State.mirrored (s : State) : Shadow :=
  { stalls := s.seg.stalls, pads := s.seg.pads, admits := s.seg.admits, scheds := s.seg.scheds, scenes := s.loadedScenes
    params := s.seg.params.filter (fun p => p.1 / 256 == 4 || p.1 / 256 == 5), roll := s.roll, camps := s.flt.saved
    slots := s.flt.slots
    drive := (List.range 48).map (fun n => (n, s.sf (.DRV_CH_LEVEL n) F.DRV_CH_LEVEL_TARGET, (s.drvChan n).fade)) }
/-- Keys of two tables whose entries differ. -/
def changedKeys {α : Type} [DecidableEq α] (d : α) (old new : Tbl α) : List Nat :=
  (((new.map (fun q => q.1)) ++ (old.map (fun q => q.1))).eraseDups).filter (fun k => decide (Tbl.get d old k ≠ Tbl.get d new k))
/-- The records that take a mirror from one state to another. -/
def mirrorDiff (old new : Shadow) : List MirrorRec :=
  (changedKeys Stall.none old.stalls new.stalls).map (fun k => .stall k (Tbl.get Stall.none new.stalls k))
    ++ (changedKeys Paddock.none old.pads new.pads).map (fun k => .paddock k (Tbl.get Paddock.none new.pads k))
    ++ (if old.admits = new.admits then [] else [.admits new.admits])
    ++ (if old.scheds = new.scheds then [] else [.schedules new.scheds])
    ++ (if old.scenes = new.scenes then [] else [.scenes new.scenes])
    ++ (if old.params = new.params then [] else [.params new.params])
    ++ (if old.roll = new.roll then [] else [.rollover new.roll])
    ++ (if old.camps = new.camps then [] else [.campaigns new.camps])
    ++ (changedKeys ImgSlot.empty old.slots new.slots).map (fun k => .image k (Tbl.get ImgSlot.empty new.slots k))
    ++ (new.drive.filter (fun d => !old.drive.contains d)).map (fun d => .drive d.1 d.2.1 d.2.2)
/-- A full sweep (R359): every entry that is set, and every other mirrored table whole. -/
def mirrorSweep (wk : Option Nat) (new : Shadow) : List MirrorRec :=
  (new.stalls.map (fun q => MirrorRec.stall q.1 q.2)) ++ (new.pads.map (fun q => MirrorRec.paddock q.1 q.2))
    ++ [.admits new.admits, .schedules new.scheds, .scenes new.scenes, .params new.params, .rollover new.roll
      , .campaigns new.camps]
    ++ ((List.range 8).map (fun k => MirrorRec.image k (Tbl.get ImgSlot.empty new.slots k)))
    ++ (new.drive.map (fun d => MirrorRec.drive d.1 d.2.1 d.2.2)) ++ [.wkCheck wk]
/-- TWN_MIRROR.LAG on an active unit. -/
def State.showLag (s : State) : State := s.setSf .TWN_MIRROR F.TWN_MIRROR_LAG (min (s.twn.seq - s.twn.acked) (2 ^ 20 - 1))
/-- Records go out in sequence. -/
def State.sendRecords (s : State) (l : List MirrorRec) : State :=
  if l = [] then s
  else
    ((s.laneSend (.records (s.twn.seq + 1) l)).modTwn (fun w => { w with seq := w.seq + l.length })).showLag
/-- The active unit's mirror sends what has changed, or begins with a full sweep (R358, R359). (DESIGN CHOICE, log 3) -/
def State.mirrorFlush (s : State) : State :=
  if s.twinOn = true ∧ s.twinRole = 3 ∧ s.tw F.TWN_STAT_LANE_OK = true ∧ s.tw F.TWN_STAT_VERSION_OK = true then
    let now := s.mirrored
    match s.twn.shadow with
    | some old => (s.sendRecords (mirrorDiff old now)).modTwn (fun w => { w with shadow := some now })
    | none =>
      let t := (s.sendRecords (mirrorSweep s.tack.wk now)).modTwn (fun w => { w with shadow := some now })
      t.laneSend (.sweepEnd t.twn.seq)
  else s
/-- The standby discards its tables and asks for a full sweep (R359). While the levels differ no mirror runs (R361). (DEDUCED, log 95) -/
def State.mirrorStart (s : State) : State :=
  let t := s.modTwn (fun w => { w with swept := false, fresh := false, roll := none, shadow := none })
  let t : State := if t.tw F.TWN_STAT_VERSION_OK then
      { t with
        seg := { t.seg with stalls := [], pads := [], admits := [], scheds := [], scenes := []
                            params := t.seg.params.filter (fun p => !(p.1 / 256 == 4 || p.1 / 256 == 5)) }
        flt := { t.flt with camps := [], saved := [] } }.fltRefresh
    else t
  (t.laneSend .request).refreshTwin
/-- The mirror restarts (R359): on a standby unit with TWIN_DESYNC. (DEDUCED, log 90) -/
def State.mirrorRestart (s : State) (cause : Nat) : State :=
  if s.twinRole = 2 then (s.event 17 0 0x0B06 2 [cause]).mirrorStart
  else s.modTwn (fun w => { w with shadow := none })
/-- The peer's role as heard; each change of it restarts the mirror (R359). (DEDUCED, log 90) -/
def State.peerRole (s : State) (role : Nat) : State :=
  let t := s.setSf .TWN_STAT F.TWN_STAT_PEER_ROLE role
  if s.tw F.TWN_STAT_PEER_PRESENT = true ∧ s.sf .TWN_STAT F.TWN_STAT_PEER_ROLE ≠ role then t.mirrorRestart 0 else t
/-- The TWIN_CTL RESYNCs that wait complete: the sweep has begun (R371). (DEDUCED, log 94) -/
def State.endResync (s : State) : State :=
  s.twn.resync.foldl (fun u i =>
    match u.desc? i with
    | some d => u.ok d
    | none => u) (s.modTwn (fun w => { w with resync := [] }))
/-- The standby applies a record (R358). -/
def State.applyRec (s : State) : MirrorRec → State
  | .stall i x => s.setStall i x
  | .paddock p x => s.setPad p x
  | .admits l => { s with seg := { s.seg with admits := l } }
  | .schedules l => { s with seg := { s.seg with scheds := l } }
  | .scenes l => { s with seg := { s.seg with scenes := l } }
  | .params l => { s with seg := { s.seg with
      params := s.seg.params.filter (fun p => !(p.1 / 256 == 4 || p.1 / 256 == 5)) ++ l } }
  | .rollover r => s.modTwn (fun w => { w with roll := some r })
  | .campaigns l => State.fltRefresh { s with flt := { s.flt with saved := l, camps := l } }
  | .image k x => s.setImg k x
  | .drive ch level fade => { s with drv := { s.drv with changes := s.drv.changes ++
      [{ ch := ch, did := none, scene := none, level := level, fade := fade, clr := false, due := none }] } }
  | .wkCheck w => s.setSf .SEC_STAT F.SEC_STAT_PAIRED (b2n (w.isSome && w == s.tack.wk))
/-- Records arrive (R358, R359): in sequence, or the mirror restarts. -/
def State.takeRecords (s : State) (first : Nat) (l : List MirrorRec) : State :=
  if s.twinRole ≠ 2 ∨ s.tw F.TWN_STAT_VERSION_OK = false then s
  else if s.twn.fresh = true ∧ first ≠ s.twn.seq + 1 then s.mirrorRestart 2
  else
    let t := (l.foldl State.applyRec s).modTwn (fun w => { w with seq := first + l.length - 1, fresh := true })
    (if s.twn.fresh then t else t.endResync).laneSend (.applied t.twn.seq)
/-- A register of the YRD, DRV or FLT window. -/
def Reg.mirrorConfig (r : Reg) : Bool :=
  decide (0x80000 ≤ r.offset ∧ r.offset < 0x100000) || decide (0x300000 ≤ r.offset ∧ r.offset < 0x310000)
    || decide (0x370000 ≤ r.offset ∧ r.offset < 0x380000)
/-- The digest of every RWL field of the YRD, DRV and FLT windows (R359); the manual names no function. -/
def State.configDigest (s : State) : List Byte :=
  Config.layout 16 ((s.cfg.filter (fun q => q.1.mirrorConfig)).flatMap (fun q =>
    q.1.offset :: (q.1.fields.filter (fun f => f.acc == .RWL)).map (fun f => f.span.get q.2)))

/-! ## Roles (R347, R350, R351, R355) -/

/-- Every carrier stops at once; what waits for a chain, and every armed slot, is dropped (R351). -/
def State.silence (s : State) : State :=
  let t := (s.onAir.map (fun c => c.id)).foldl State.stopCarrier s
  { t with air := { t.air with reqs := [], answers := [] }, tsu := { t.tsu with slots := [] } }
/-- Descriptors under way whose frames a standby unit cannot send complete with ABORTED and 0xFE (R351). -/
def State.endRadio (s : State) : State :=
  (s.hif.inflight.filter (fun d => [0x16, 0x17, 0x18, 0x20, 0x21].contains d.op)).foldl (fun t d =>
    match t.desc? d.did with
    | some e => t.fail e stABORTED 0xFE
    | none => t) s
/-- The unit leaves ACTIVE for STANDBY (R351 steps 2 to 5). (DEDUCED, log 94) -/
def State.leaveActive (s : State) (path heard : Nat) : State :=
  let own := s.ownClaim
  let t := s.silence
  let t := (t.cancelAll stABORTED (fun _ => 0xFE) t.hif.inflight).endRadio
  let t := ((t.setSf .TWN_STAT F.TWN_STAT_ROLE 2).setSf .HIF_STATUS F.HIF_STATUS_STANDBY 1).showClaim
  let t := (t.event 17 0 0x0B02 2 [own, heard, path]).twinEvt F.TWN_EVT_DEMOTE
  let t : State := { t with seg := { t.seg with items := [], jobs := [], runs := [] } }
  (t.modTwn (fun w => { w with bistAt := t.tsu.raw, gateUntil := none })).mirrorRestart 0
/-- The unit yields: its PREF 0 claim goes out, and its gate closes (R350, R355). (DESIGN CHOICE, log 88) -/
def State.yields (s : State) : State :=
  let u := s.fresh
  (u.2.leaveActive (u.1 % 3) s.peerClaim).closeGate
/-- A unit becomes active from its mirror (R360); a standby whose peer's level bars a mirror, from its own state, as after a
power cut (R361). (DEDUCED, log 90) -/
def State.adoptMirror (s : State) (standby : Bool) : State :=
  if s.twn.fresh = false then
    (if standby = true ∧ s.tw F.TWN_STAT_VERSION_OK = false then s.resumeSegment.resumeCamps else s)
  else
    let t := s.journal (fun r => s.twn.roll.getD r)
    let t := t.resumeSegment.resumeCamps
    (t.seg.scenes.map (fun c => c.id)).foldl State.resumeScene t
/-- A unit with a peer of its own PREF and UNIT = 1 never becomes active while that peer is heard (R348). -/
def State.held (s : State) : Bool := s.twn.samePref && s.unit == 1 && s.tw F.TWN_STAT_PEER_PRESENT
/-- The highest epoch (R347). -/
def State.topEpoch (s : State) : Nat := max s.twn.epoch s.nvseg.claimEpoch
/-- The unit becomes active (R347, R350, R355). (DEDUCED, log 94) -/
def State.becomeActive (s : State) (cause : Nat) : State :=
  let e := s.topEpoch
  if s.held then s
  else if 0x0FFFFFFF ≤ e then s.twinFault 1
  else
    let claim := claimOf s.ownPref (e + 1)
    let t := (s.event 17 0 0x0B01 2 [s.peerClaim, claim, cause, s.flags]).twinEvt F.TWN_EVT_TAKEOVER
    let t := ((((t.setSf .TWN_STAT F.TWN_STAT_ROLE 3).setSf .HIF_STATUS F.HIF_STATUS_STANDBY 0).setSw .TWN_CLAIM claim).bump
      .TWN_HANDOVERS F.word).closeGate
    let t := t.modTwn (fun w => { w with epoch := e + 1, gateUntil := some (t.tsu.raw + 20 * msT), shadow := none })
    let t := t.adoptMirror (s.twinRole == 2)
    let t : State := { t with air := { t.air with seqs := t.air.seqs.map (fun q => (q.1, { q.2 with takeover := true })) } }
    t.endResync.refreshTwin
/-- The unit becomes standby from LISTEN (R355). (DESIGN CHOICE, log 88) -/
def State.becomeStandby (s : State) : State :=
  let t := ((s.setSf .TWN_STAT F.TWN_STAT_ROLE 2).setSf .HIF_STATUS F.HIF_STATUS_STANDBY 1).showClaim
  (t.modTwn (fun w => { w with bistAt := t.tsu.raw })).mirrorStart
/-- HIF_SETUP_DONE starts the twin unit: SOLO claims as active, a twin unit listens (R347, R354, R355). -/
def State.setupTwin (s : State) : State :=
  let s := s.modTwn (fun w => { w with epoch := s.topEpoch })
  if s.cf .TWN_CFG F.TWN_CFG_ENABLE = 0 then
    (if 0x0FFFFFFF ≤ s.topEpoch then s.twinFault 1
     else (s.setSw .TWN_CLAIM (claimOf s.ownPref (s.topEpoch + 1))).modTwn (fun w => { w with epoch := s.topEpoch + 1 }))
  else
    let t := ((s.setSf .TWN_STAT F.TWN_STAT_ROLE 1).setSf .HIF_STATUS F.HIF_STATUS_STANDBY 1).showClaim.closeGate
    t.modTwn (fun w => { w with
      listenEnd := t.tsu.raw + t.cf .TWN_CFG F.TWN_CFG_LISTEN * secT, busAt := t.tsu.raw, busRx := t.tsu.raw
      reportNext := t.tsu.raw + secT })

/-! ## Hearing (R348, R349, R351) -/

/-- A peer's configured PREF is known (R348). (DEDUCED, log 92) -/
def State.notePref (s : State) (pref : Nat) : State :=
  let same := decide (pref = s.ownPref)
  let t := s.modTwn (fun w => { w with peerPref := pref, samePref := same })
  if same = true ∧ s.twn.samePref = false then t.twinFault 0 else t
/-- The peer is heard on the bus or the lane (R353). -/
def State.present (s : State) (claim : Nat) : State :=
  if s.tw F.TWN_STAT_PEER_PRESENT then s
  else ((s.setTw F.TWN_STAT_PEER_PRESENT true).twinEvt F.TWN_EVT_PEER).event 17 0 0x0B04 1 [claim, s.twn.peerLevel]
/-- A claim is heard by a path: 0 bus, 1 lane, 2 air (R347, R349 to R351, R355). -/
def State.hear (s : State) (path claim : Nat) : State :=
  let old := s.peerClaim
  let t := (s.setSw .TWN_PEER_CLAIM claim).modTwn (fun w => { w with epoch := max w.epoch (claimEpoch claim) })
  let t := t.showClaim
  let t := if path < 2 then t.present claim else t
  if s.ownClaim < claim ∧ s.twinRole ≠ 1 ∧ s.twinRole ≠ 2 then
    let t := t.modTwn (fun w => { w with gateHeard := some t.tsu.raw })
    if s.twinRole = 3 then (t.leaveActive path claim).closeGate else t
  else if s.twinRole = 2 ∧ path < 2 ∧ 1 ≤ claimPref old ∧ claimPref claim = 0 then t.becomeActive 1
  else t.modTwn (fun w => { w with gateHeard := if s.ownClaim < claim then some t.tsu.raw else w.gateHeard })

/-! ## The commands: the claim gate and the claim bus -/

/-- The gate is to be closed (R314, R350, R352). -/
def State.gateShut (s : State) : Bool :=
  s.twinRole == 1 || s.twinRole == 2 || s.twn.lapsed || s.twn.gateUntil.isSome
    || (match s.twn.gateHeard with
        | some t => decide (s.tsu.raw < t + 20 * msT)
        | none => false)
/-- CLAIM_GATE_CLOSE (R314). -/
def execClaimGateClose (s : State) : Host.Outcome State Fault Refusal :=
  quiet (fun s => if s.done = true ∧ s.gateShut = true then s.closeGate else s) s
/-- CLAIM_GATE_OPEN (R314, R350): the 20 ms without a higher claim, and those after entering ACTIVE, have passed. -/
def execClaimGateOpen (s : State) : Host.Outcome State Fault Refusal :=
  quiet (fun s =>
    if s.serving = false ∨ s.twn.lapsed = true ∨ (s.gateClosed = false ∧ s.twn.gateUntil = none) then s
    else
      let heard := (s.twn.gateHeard.map (fun t => t + 20 * msT)).getD 0
      let t := s.elapseTo (max (s.twn.gateUntil.getD 0) heard)
      (t.modTwn (fun w => { w with gateUntil := none, gateHeard := none })).openGate) s
/-- CLAIM_BUS_FRAME_TX (R348, R349, R352). (DEDUCED, log 91) -/
def execClaimBusFrameTx (readBackOk : Bool) (s : State) : Host.Outcome State Fault Refusal :=
  quiet (fun s =>
    if s.twinOn = false ∨ s.twn.lapsed = true then s
    else
      let t := s.elapseTo s.twn.busAt
      let t := t.emit (.claimBus t.ownClaim t.ownPref t.twinRole (t.tw F.TWN_STAT_HEALTHY))
      let r := t.tsu.raw
      if readBackOk then
        t.modTwn (fun w => { w with
          busBad := false
          busAt := if s.unit = 0 then r + msT else if r < w.busRx + 2 * msT then w.busRx + 2 * msT else r + msT })
      else
        let t := t.bumpSat .TWN_STAT F.TWN_STAT_BUSERR
        let t := t.modTwn (fun w => { w with busBad := true, busAt := r + 250 * usT })
        if s.twn.busBad then
          (t.event 17 0 0x0B09 3 [t.sf .TWN_STAT F.TWN_STAT_BUSERR]).twinEvt F.TWN_EVT_FAULT
        else t) s
/-- CLAIM_BUS_FRAME_RX (R348, R349). UNIT 1 answers 500 µs after the start of a UNIT 0 frame, which lasts 48 µs. -/
def execClaimBusFrameRx (frame : ClaimFrame) (s : State) : Host.Outcome State Fault Refusal :=
  quiet (fun s =>
    if s.twinOn = false then s
    else
      let t := (s.setTw F.TWN_STAT_BUS_OK true).peerRole frame.role
      let t := t.modTwn (fun w => { w with
        busQuiet := false, busHeard := t.tsu.raw, peerHealthy := frame.healthy, busRx := t.tsu.raw - 48 * usT
        busAt := if s.unit = 1 then t.tsu.raw + 452 * usT else w.busAt })
      ((t.notePref frame.pref).hear 0 frame.claim).refreshTwin) s
/-- CLAIM_BUS_SILENCE (R353): the lane still carries the peer. -/
def execClaimBusSilence (s : State) : Host.Outcome State Fault Refusal :=
  quiet (fun s =>
    if s.twinOn = false ∨ s.twn.busQuiet = true ∨ s.tw F.TWN_STAT_LANE_OK = false then s
    else
      let t := (s.elapseTo (s.twn.busHeard + s.lossT)).setTw F.TWN_STAT_BUS_OK false
      let t := t.modTwn (fun w => { w with busQuiet := true, laneHeard := t.tsu.raw })
      ((t.event 17 0 0x0B09 3 [t.sf .TWN_STAT F.TWN_STAT_BUSERR]).twinEvt F.TWN_EVT_FAULT).refreshTwin) s

/-! ## The commands: the twin lane and beacons -/

/-- A health report of the peer's (R359, R361, R362, R367). (DEDUCED, log 89) -/
def State.takeReport (s : State) (data digest : List Byte) : State :=
  let before := s.sf (.TWN_HPEER 0) F.word
  let t := (List.range 16).foldl (fun (u : State) k => u.setSw (.TWN_HPEER k) (leAt data (4 * k) 4)) s
  let lvl := leAt data 20 2
  let ok := decide (lvl ≤ s.level + 1 ∧ s.level ≤ lvl + 1)
  let same := decide (digest = s.configDigest)
  let known := s.twn.levelKnown
  let t := t.modTwn (fun w => { w with
    reportAt := some t.tsu.raw, peerLevel := lvl, levelKnown := true, peerFlags := leAt data 22 2, peerSync := bit (leAt data 22 2) 1 })
  let t := (t.setTw F.TWN_STAT_VERSION_OK ok).setTw F.TWN_STAT_CONFIG_OK same
  let t := if ok = false ∧ (known = false ∨ s.tw F.TWN_STAT_VERSION_OK = true) then
      (t.event 17 0 0x0B07 3 [s.level, lvl]).twinEvt F.TWN_EVT_FAULT
    else t
  let t := if same = false ∧ (known = false ∨ s.tw F.TWN_STAT_CONFIG_OK = true) then t.twinFault 2 else t
  let t := if leAt data 0 4 < before ∧ s.ownPref < s.twn.peerPref then t.setTw F.TWN_STAT_INHIBIT false else t
  if ok = true ∧ s.tw F.TWN_STAT_VERSION_OK = false ∧ s.twinRole = 2 then t.mirrorStart else t
/-- WK from the active unit (R399). (DEDUCED, log 95) -/
def State.takeWk (s : State) (key devid : Nat) : State :=
  if s.twinRole = 2 then
    (({ s with tack := { s.tack with wk := some key } }).setSf .SEC_STAT F.SEC_STAT_PAIRED 1).event 14 0 0x0C09 1 [devid]
  else s
/-- The body of a lane frame. -/
def State.takeBody (s : State) : TwinBody → State
  | .none => s
  | .report data digest => s.takeReport data digest
  | .records first l => s.takeRecords first l
  | .sweepEnd q => if s.twinRole = 2 ∧ s.twn.fresh = true ∧ s.twn.seq = q then s.modTwn (fun w => { w with swept := true }) else s
  | .applied q => if s.twinRole = 3 then (s.modTwn (fun w => { w with acked := max w.acked (min q w.seq) })).showLag else s
  | .request => if s.twinRole = 3 then s.modTwn (fun w => { w with shadow := none }) else s
  | .inhibit v => s.setTw F.TWN_STAT_INHIBIT v
  | .wk key devid => s.takeWk key devid
/-- TWIN_LANE_FRAME_RX (R349, R358). -/
def execTwinLaneFrameRx (frame : TwinFrame) (s : State) : Host.Outcome State Fault Refusal :=
  quiet (fun s =>
    if s.twinOn = false ∨ s.tw F.TWN_STAT_LANE_OK = false then s
    else
      let t := (s.modTwn (fun w => { w with laneHeard := s.tsu.raw })).peerRole frame.role
      let t := if 1 ≤ claimPref frame.claim then t.notePref (claimPref frame.claim) else t
      ((t.hear 1 frame.claim).takeBody frame.body).refreshTwin) s
/-- BEACON_RX_TWIN (R130, R349, R350): a beacon's claim counts when its FC exceeds the yard's record. -/
def execBeaconRxTwin (s : State) : Host.Outcome State Fault Refusal :=
  quiet (fun s =>
    match s.air.beacons with
    | [] => s
    | r :: rest =>
      let t : State := { s with air := { s.air with beacons := rest } }
      let y := r.stall / 16384
      let q := t.seq y
      if r.frame.fc + 1 ≤ q.fcSeen then t
      else ((t.setSeq y { q with fcSeen := r.frame.fc + 1, fcRx := r.frame.fc + 1 }).hear 2 (leAt r.frame.body 2 4)).refreshTwin) s
/-- The twin lane loses link. -/
def State.twinLaneLost (s : State) : State :=
  if s.tw F.TWN_STAT_LANE_OK = false then s
  else
    let t := (s.setTw F.TWN_STAT_LANE_OK false).mbxLaneLost
    if t.twinOn = false then t
    else if t.twinRole = 2 then (t.mirrorRestart 1).refreshTwin
    else ((t.event 17 0 0x0B06 2 [1]).mirrorRestart 1).refreshTwin
/-- TWIN_LANE_DOWN (R353, R359, R421). -/
def execTwinLaneDown (s : State) : Host.Outcome State Fault Refusal :=
  quiet (fun s => s.twinLaneLost) s
/-- TWIN_LANE_UP (R373, R424). -/
def execTwinLaneUp (s : State) : Host.Outcome State Fault Refusal :=
  quiet (fun s =>
    if s.tw F.TWN_STAT_LANE_OK ∨ s.ready = false ∨ s.serdesOk = false then s
    else
      let t := (s.setTw F.TWN_STAT_LANE_OK true).mbxLaneUp
      if t.twinRole = 2 then t.mirrorStart else t.refreshTwin) s

/-! ## The commands: timers -/

/-- An activation pause holds the lease: 1,000 ms from its start have not passed (R352). -/
def State.leaseHeld (s : State) : Bool :=
  match s.upd.pause with
  | some p => decide (s.tsu.raw < p.start + 1000 * msT)
  | none => false
/-- LEASE_LAPSE (R352): M3 has not renewed the lease; an activation pause extends it. -/
def execLeaseLapse (s : State) : Host.Outcome State Fault Refusal :=
  quiet (fun s =>
    if s.twinOn = false ∨ s.twn.lapsed = true ∨ s.leaseHeld = true then s
    else
      let t := (s.modTwn (fun w => { w with lapsed := true })).bumpSat .TWN_STAT F.TWN_STAT_LAPSES
      ((t.onAir.map (fun c => c.id)).foldl State.stopCarrier t).closeGate) s
/-- PEER_ABSENT (R353, R355). (DEDUCED, log 91) -/
def execPeerAbsent (s : State) : Host.Outcome State Fault Refusal :=
  quiet (fun s =>
    if s.twinOn = false ∨ (s.twinRole ≠ 2 ∧ s.tw F.TWN_STAT_PEER_PRESENT = false) then s
    else
      let lane := if s.tw F.TWN_STAT_LANE_OK then s.twn.laneHeard else 0
      let t := s.elapseTo (max s.twn.busHeard lane + s.lossT)
      let t := ((t.setTw F.TWN_STAT_PEER_PRESENT false).setTw F.TWN_STAT_BUS_OK false).modTwn (fun w => { w with samePref := false })
      let t := (t.event 17 0 0x0B03 2 [t.peerClaim]).twinEvt F.TWN_EVT_PEER
      if t.twinRole = 2 then t.becomeActive 0 else t.refreshTwin) s
/-- LISTEN_TIMER_END (R347, R348, R355). -/
def execListenTimerEnd (s : State) : Host.Outcome State Fault Refusal :=
  quiet (fun s =>
    if s.twinOn = false ∨ s.twinRole ≠ 1 then s
    else
      let t := s.elapseTo s.twn.listenEnd
      let here := t.tw F.TWN_STAT_PEER_PRESENT
      if here = true ∧ t.sf .TWN_STAT F.TWN_STAT_PEER_ROLE = 3 then t.becomeStandby
      else if (here = true ∧ t.ownPref < t.twn.peerPref) ∨ t.held = true then t.becomeStandby
      else if 0x0FFFFFFF ≤ t.topEpoch then (t.twinFault 1).becomeStandby
      else t.becomeActive 4) s
/-- REVERSION_HOLDOFF (R365). -/
def execReversionHoldoff (s : State) : Host.Outcome State Fault Refusal :=
  quiet (fun s =>
    let t := s.refreshTwin
    match t.twn.revSince with
    | none => t
    | some r => (t.elapseTo (r + t.cf .TWN_TIMERS F.TWN_TIMERS_HOLDOFF * secT)).becomeActive 2) s
/-- YIELD_AFTER (R366). -/
def execYieldAfter (s : State) : Host.Outcome State Fault Refusal :=
  quiet (fun s =>
    let t := s.refreshTwin
    match t.twn.sickSince with
    | none => t
    | some r =>
      let t := t.elapseTo (r + t.cf .TWN_TIMERS F.TWN_TIMERS_YIELD_AFTER * secT)
      if t.reportFresh = true ∧ bit t.twn.peerFlags 0 = true ∧ bit t.twn.peerFlags 1 = true then t.yields else t) s

/-! ## The commands: health and self-test -/

/-- CRC-32 of IEEE 802.3, a bit at a time. (PRESUMED, log 93) -/
def crcBit : Nat → Nat → Nat
  | 0, c => c
  | n + 1, c => crcBit n (if c % 2 = 1 then (c / 2) ^^^ 0xEDB88320 else c / 2)
/-- The CRC-32 of the lane's frames. (PRESUMED, log 93) -/
def crc32 (l : List Byte) : Nat := (l.foldl (fun c b => crcBit 8 (c ^^^ b.toNat)) 0xFFFFFFFF) ^^^ 0xFFFFFFFF
/-- Lanes of a role. -/
def State.lanesOf (s : State) (p : Nat → Bool) : Nat := ((List.range 544).filter (fun n => p (s.role n))).length
/-- Yards of a state, a bit each. -/
def State.yardsOf (s : State) (p : Nat → Bool) : Nat :=
  (((List.range 16).filter (fun y => p (s.yardState y))).map (fun y => 2 ^ y)).foldl (· + ·) 0
/-- The health report of this instant (R362). -/
def State.healthBytes (s : State) (supply : Nat) (temp : Int) : List Byte :=
  let b := le 4 s.twn.reports ++ le 6 s.newt.tick ++ le 1 s.twinRole ++ zeros 1 ++ le 4 s.ownClaim
    ++ le 4 (s.regValue .host .HIF_BUNDLE).toNat ++ le 2 s.level ++ le 2 s.flags
    ++ le 2 (s.lanesOf (fun r => r == rSPARE)) ++ le 2 (s.lanesOf (fun r => r == rRETIRED || r == rEXCLUDED))
    ++ le 2 (s.yardsOf (fun st => decide (1 ≤ st ∧ st ≤ 3))) ++ le 2 (s.yardsOf (fun st => st == yFAULTED))
    ++ le 4 s.twn.bistLast ++ le 4 s.twn.rotations ++ le 4 s.twn.seq ++ le 4 (s.sf .TWN_MIRROR F.TWN_MIRROR_LAG)
    ++ le 4 s.air.rxCount ++ le 2 supply ++ le 2 (twos 16 temp) ++ le 4 (s.tsu.raw / secT)
  b ++ le 4 (crc32 b)
/-- HEALTH_REPORT: the supply in 10 mV and the case temperature in 0.1 °C, as measured. (DESIGN CHOICE, log 87) -/
def execHealthReport (supply : Nat) (temp : Int) (s : State) : Host.Outcome State Fault Refusal :=
  quiet (fun s =>
    if s.twinOn = false then s
    else
      let t := (s.elapseTo s.twn.reportNext).refreshTwin
      let t := t.modTwn (fun w => { w with reports := w.reports + 1, reportNext := t.tsu.raw + secT })
      let b := t.healthBytes supply temp
      let t := (List.range 16).foldl (fun (u : State) k => u.setSw (.TWN_HLOCAL k) (leAt b (4 * k) 4)) t
      let t := t.laneSend (.report b t.configDigest)
      { t with air := { t.air with rxCount := 0 } }) s
/-- The family, instance and length in ms of a step of the rotation (R364). -/
def bistStep (k : Nat) : Nat × Nat × Nat :=
  if k < 4 then (0, k, 2000) else if k < 12 then (1, k - 4, 1000) else if k = 12 then (2, 0, 1000)
  else if k = 13 then (3, 0, 1000) else if k < 22 then (4, k - 14, 2000) else (5, k - 22, 250)
/-- TWIN_BIST_STEP. -/
def execTwinBistStep (pass : Bool) (s : State) : Host.Outcome State Fault Refusal :=
  quiet (fun s =>
    if s.twinOn = false ∨ s.twinRole ≠ 2 then s
    else
      let k := bistStep s.twn.bist
      let t := s.elapseTo (s.twn.bistAt + k.2.2 * msT)
      let fails := if pass ∨ bit t.twn.bistFail k.1 then t.twn.bistFail else t.twn.bistFail + 2 ^ k.1
      let last := decide (69 ≤ t.twn.bist)
      let t := t.modTwn (fun w => { w with
        bist := if last then 0 else w.bist + 1, bistFail := if last then 0 else fails
        bistLast := if last then fails else w.bistLast, rotations := if last then w.rotations + 1 else w.rotations
        bistAt := t.tsu.raw, testFail := if pass then w.testFail else some t.tsu.raw })
      (if pass then t else t.event 17 0 0x0B0B 2 [k.1, k.2.1]).refreshTwin) s

/-! ## TWIN_CTL (R367, R371) -/

/-- PARAM and TARGET of a TWIN_CTL. -/
def twinArgsOk (d : Desc) : Bool := d.target == 0 && d.pZero 1 32
/-- TWIN_CTL with READ; an action that R371 does not list completes here with ERR_ARG. (DESIGN CHOICE, log 11) -/
def execTwinCtlRead (did : Nat) (s : State) : Host.Outcome State Fault Refusal :=
  quiet (fun s => s.operation did 0x60 (fun d => d.pByte 0 == 0 || decide (2 < d.pByte 0)) (fun s d =>
    if twinArgsOk d = false ∨ d.pByte 0 ≠ 0 ∨ d.len < 128 then s.fail d stERR_ARG
    else
      let words := (List.range 16).map (fun k => le 4 (s.sf (.TWN_HLOCAL k) F.word))
        ++ (List.range 16).map (fun k => le 4 (s.sf (.TWN_HPEER k) F.word))
      s.okData d words.flatten (s.ownClaim + 2 ^ 32 * s.peerClaim))) s
/-- TWIN_CTL with HANDOVER (R367): INHIBIT, where it stands, clears; otherwise both units set it. (DEDUCED, log 26, 89) -/
def execTwinCtlHandover (did : Nat) (s : State) : Host.Outcome State Fault Refusal :=
  quiet (fun s => s.operation did 0x60 (fun d => d.pByte 0 == 1) (fun s d =>
    match d.src with
    | .ring _ => s.fail d stDENIED
    | _ =>
      if twinArgsOk d = false ∨ d.len ≠ 0 then s.fail d stERR_ARG
      else if s.twinRole < 2 ∨ s.tw F.TWN_STAT_PEER_PRESENT = false then s.fail d stBUSY
      else
        let v := !s.tw F.TWN_STAT_INHIBIT
        let t := ((s.setTw F.TWN_STAT_INHIBIT v).laneSend (.inhibit v)).ok d
        if s.twinRole = 3 then t.yields else t.becomeActive 3)) s
/-- TWIN_CTL with RESYNC (R359, R371): an active unit's sweep begins at once; a standby's with the first record of it. Where no
mirror runs, it completes at once. (DEDUCED, log 94) -/
def execTwinCtlResync (did : Nat) (s : State) : Host.Outcome State Fault Refusal :=
  quiet (fun s => s.operation did 0x60 (fun d => d.pByte 0 == 2) (fun s d =>
    if twinArgsOk d = false ∨ d.len ≠ 0 then s.fail d stERR_ARG
    else
      let t := s.mirrorRestart 3
      if t.twinRole = 2 ∧ t.tw F.TWN_STAT_LANE_OK = true ∧ t.tw F.TWN_STAT_VERSION_OK = true then
        t.modTwn (fun w => { w with resync := w.resync ++ [did] })
      else t.mirrorFlush.ok d)) s

/-! ## No command waits -/

/-- One TSU tick passes; messages that are due leave, instants that no command gives are judged, the twin flags follow, and the
mirror sends what has changed. (DESIGN CHOICE, log 3) -/
def State.idle (s : State) : State := { (s.elapse 1).ptpTick.rapsTick.judge.rollIdle.refreshTwin.mirrorFlush.laneBeat with pending := s.pending, cfg := s.cfg }

end Sys2Proof.Machine
end

