-- ==== Sys2Proof/Machine/Reset.lean ====
section
/-! DEFINITION. Sys2Proof/Machine/Reset.lean: resets of the module: their sources, what each leaves (R25, R64, R368, R460,
R494 to R499), the main supply, RESET_MODULE. -/
namespace Sys2Proof.Machine

/-! ## What a reset leaves -/

/-- The registers that the newt domain holds (R401, R402, R507). -/
def Reg.inNewt (r : Reg) : Bool :=
  decide (0x20000 ≤ r.offset ∧ r.offset < 0x30000) || r == .SEC_TAMPER_CFG || r == .SEC_TAMPER_IN || r == .SEC_TAMPER_CNT
/-- The MSI-X table and PBA, which the PCIe engine keeps (R64). -/
def Reg.isMsix : Reg → Bool
  | .MSIX_ADDR_LO _ => true
  | .MSIX_ADDR_HI _ => true
  | .MSIX_DATA _ => true
  | .MSIX_CTL _ => true
  | .MSIX_PBA _ => true
  | _ => false
/-- A register keeps its value across a reset. -/
def Reg.keeps (pcie : Bool) (r : Reg) : Bool := r.inNewt || (pcie && r.isMsix)
/-- Of the states of the clock sources (R501), those that stand after a reset: a source that is OK stays so, FAILED and JUDGING
ones are judged again, PLLs relock (R497). -/
def srcAfterReset (v k : Nat) : Nat :=
  let st := bits v (2 * k + 1) (2 * k)
  if st = 0 then 0 else if 5 ≤ k then 3 else if st = 1 then 1 else 3
def srcWordAfterReset (v : Nat) : Nat :=
  ((List.range 11).map (fun k => srcAfterReset v k * 4 ^ k)).foldl (· + ·) 0

/-- Every event on its way reaches the recorder, and the partly filled page is written (R460). -/
def State.flushLog (s : State) : State :=
  let t := s.evq.foldl (fun (u : State) _ => u.arriveNext none) s
  if t.sf .EVR_STAT F.EVR_STAT_RAM_ONLY = 1 then t
  else (List.range (t.evr.page.length / 128 + 1)).foldl (fun (u : State) _ => u.writePage) t
/-- The events that the start after the reset records: the end of a staging session (R432), and what the lizard loader has
recorded. (DEDUCED, log 114) -/
def State.carriedEvents (s : State) : List Ev :=
  (if s.clk.phase = Phase.lizard then s.evq else [])
    ++ (match s.upd.session with
        | some x => [{ src := srcOf 20 0, code := 0x0E01, sev := 1, args := [4, x.source.kind, x.next], at_ := 0 }]
        | none => [])
/-- The mailboxes after a reset of every module end (R419 to R421); the host end is reset too where the link is lost. (DEDUCED, log 84) -/
def State.mbxModuleReset (s : State) (pcie : Bool) : State :=
  if pcie then
    let t : State := { s with mbx := { s.mbx with mdb := 0, replies := [], stopping := false, twin := false, shedRan := false } }
    let t := ([0, 1, 2, 3, 4, 5] ++ [12, 13, 14, 15]).foldl (fun (u : State) k => u.mbxAbort k 0) t
    (List.range 6).foldl (fun (u : State) k => u.mbxOrphan (6 + k)) t
  else { s with mbx := Mbx.reset }

/-- Every island but the newt domain, and but the PCIe engine where `pcie` holds, is reset; what NOR, FeRAM, NAND, the tack
store and the newt domain hold stays (R25, R497). (DEDUCED, log 103, 115, 116) -/
def State.clear (s : State) (phase : Phase) (pcie : Bool) : State :=
  let keep (l : RegFile) : RegFile := l.filter (fun q => q.1.keeps pcie)
  let sec := (s.sts.get .SEC_STAT).toNat
  let lapses := s.sf .TWN_STAT F.TWN_STAT_LAPSES
  let t : State := (s.onAir).foldl (fun (u : State) c => u.emit (.carrierEnd c.chain c.yard)) s
  let t := ((List.range 48).filter (fun n => (s.drvChan n).pad.isSome)).foldl (fun (u : State) n => u.emit (.pwm n none)) t
  let t := if pcie = false ∧ s.hif.linkUp = true then t.emit .linkLost else t
  let t : State := { t with
    cfg := keep s.cfg, sts := keep s.sts, bcFw := [], evq := s.carriedEvents
    hif := if pcie then { Hif.reset with bme := s.hif.bme, linkUp := s.hif.linkUp, perst := s.hif.perst, pcie := s.hif.pcie, nextDid := s.hif.nextDid }
      else { Hif.reset with perst := s.hif.perst, nextDid := s.hif.nextDid }
    evr := if s.evr.capStopped = true ∧ phase ≠ Phase.off then { Evr.reset with cap := s.evr.cap, capStopped := true } else Evr.reset
    tsu := Tsu.reset
    newt := { s.newt with calLo := 0, almLo0 := 0, almLo1 := 0, latHost := RtcLatch.reset, latFw := RtcLatch.reset }
    clk := { Clk.reset with phase := phase, vin := s.clk.vin, vbus := s.clk.vbus }
    lanes := Lanes.reset, seg := Seg.reset, air := Air.reset, flt := { Flt.reset with saved := s.flt.saved, slots := if phase = Phase.off then s.flt.slots.filter (fun q => q.2.state != 1) else s.flt.slots }
    swx := Swx.reset, drv := Drv.reset, mtr := Mtr.reset, twn := Twn.reset
    shed := { Shed.reset with counts := s.shed.counts, log := s.shed.log, uncopied := s.shed.uncopied
                              meshPending := s.shed.meshPending }
    upd := { Upd.reset with slotA := s.upd.slotA, slotB := s.upd.slotB, boot := s.upd.boot, journal := s.upd.journal
                            staged := s.upd.staged, lizard := s.upd.lizard } }
  let t := (t.setSf .NEWT_STAT F.NEWT_STAT_NPOR 0).setSf .NEWT_STAT F.NEWT_STAT_SRC 0
  let t := [F.SEC_STAT_OWNED, F.SEC_STAT_PAIRED, F.SEC_STAT_TAMPER, F.SEC_STAT_ZEROISED, F.SEC_STAT_TAMPER_LOST].foldl
    (fun (u : State) (f : Fld) => u.setSf .SEC_STAT f (bits sec f.hi f.lo)) t
  let t := if s.upd.session.isSome ∧ phase = Phase.starting then t.setSf .UPD_EVT F.UPD_EVT_SESSION 1 else t
  let t := if phase = Phase.off then t else t.setSf .TWN_STAT F.TWN_STAT_LAPSES lapses
  { t.mbxModuleReset pcie with cfg := keep s.cfg }
/-- A reset of the module of a source and DETAIL (R497). Before one of source REQUESTED or LIZARD the log is written. A seal
sequence under way gives no presence any more (R390, R394). (DEDUCED, log 116) -/
def State.moduleReset (s : State) (src detail : Nat) (pcie : Bool) : State :=
  let t := s.hold (fun s =>
    let t := if 3 ≤ src ∧ s.clk.phase = Phase.run then s.flushLog else s
    if t.shed.sealAt.isSome = true ∧ t.cf .SEC_TAMPER_CFG F.SEC_TAMPER_CFG_SEAL_EN = 1 then t.logTamper 2 else t)
  let count := satAdd 16 (s.sf .CLK_RESET_CAUSE F.CLK_RESET_CAUSE_COUNT) 1
  let srcs := srcWordAfterReset (s.sts.get .CLK_SRC_STAT).toNat
  let t := t.clear .starting pcie
  (((t.setSf .CLK_RESET_CAUSE F.CLK_RESET_CAUSE_SOURCE src).setSf .CLK_RESET_CAUSE F.CLK_RESET_CAUSE_DETAIL detail).setSf
    .CLK_RESET_CAUSE F.CLK_RESET_CAUSE_COUNT count).setSf .CLK_SRC_STAT F.CLK_SRC_STAT_STATE srcs

/-! ## The commands -/

/-- An active unit whose peer is IN_SYNC yields before the reset that the module makes itself (R368, R439, R442). -/
def State.yieldFirst (s : State) : State :=
  if s.twinOn = true ∧ s.twinRole = 3 ∧ bit s.twn.peerFlags 1 = true then s.yields else s
/-- The final completion of a descriptor can be written at once, or the descriptor has none (R47, R49, R63). -/
def State.postsNow (s : State) (d : Desc) : Bool :=
  d.noComp || d.discard || (match d.src with
    | .ring n => s.cqWritable (s.cqOf n) && s.cqClearOf (s.cqOf n)
    | _ => true)
/-- E's final save before RESET_MODULE resets it (R337). Whether it reads back is left open. (DESIGN CHOICE, log 112) -/
def State.finalSave (s : State) : State := s.fresh.2.save (s.fresh.1 % 2 = 0)
/-- RESET_MODULE (R64): its OK is posted first, so it waits while its completion ring takes no entry; the reset comes no sooner
than 1 ms later. A nonzero TARGET or PARAM, to which R64 gives no layout, completes with ERR_ARG. (DESIGN CHOICE, log 160; DEDUCED, log 161) -/
def execResetModule (did : Nat) (s : State) : Host.Outcome State Fault Refusal :=
  loud (fun s => s.operation did 0x05 (fun d => s.postsNow d) (fun s d =>
    if d.target ≠ 0 ∨ d.param ≠ 0#256 then s.fail d stERR_ARG
    else ((s.hold (fun s => ((s.ok d).yieldFirst).finalSave)).elapse msT).moduleReset 3 0 true)) s
/-- RESET_N is low for `ns` nanoseconds (R498): from 1 µs to 10 µs it may or may not reset the module. (DEDUCED, log 116, 118) -/
def execResetN (ns : Nat) (s : State) : Host.Outcome State Fault Refusal :=
  loud (fun s =>
    if s.clk.phase = Phase.off ∨ ns < 1000 then s
    else
      let u := s.fresh
      if 10000 ≤ ns then (s.elapse (ns / 2)).moduleReset 1 0 false
      else if u.1 % 2 = 1 then (u.2.elapse (ns / 2)).moduleReset 1 0 false else u.2) s
/-- PROC_SILENT reaches the recorder (R499); M2, where it is not the silent one, writes the page whose PERSIST ends before the
watchdog's reset (R459, R460). -/
def State.procSilent (s : State) (p : Nat) : State :=
  let t := s.event 1 0 0x1007 3 [p]
  let t := t.evq.foldl (fun (u : State) _ => u.arriveNext none) t
  if p = 2 ∨ t.evr.page = [] ∨ t.tsu.raw + 2000 * msT < t.evr.pageAt + t.cf .EVR_CFG F.EVR_CFG_PERSIST * msT then t else t.flushLog
/-- WATCHDOG_TIMEOUT (R499): 2,000 ms have passed since M0 last serviced it, or 8,000 ms of a start. `silent` names a processor
other than M0 that has not reported alive, which M0 has recorded. -/
def execWatchdogTimeout (silent : Option Nat) (s : State) : Host.Outcome State Fault Refusal :=
  loud (fun s =>
    if s.clk.phase = Phase.off then s
    else
      let t := match silent with
        | some p => if s.clk.phase = Phase.run ∧ p ≠ 0 then s.hold (fun s => s.procSilent p) else s
        | none => s
      (t.elapse ((if s.ready then 2000 else 8000) * msT)).moduleReset 2 0 true) s
/-- PLL_RELOCK_TIMEOUT (R484). -/
def execPllRelockTimeout (s : State) : Host.Outcome State Fault Refusal :=
  loud (fun s => if s.clk.relock then (s.elapse msT).moduleReset 2 1 true else s) s
/-- POWER_LOSS (R494 to R496): the supply falls below the rearm levels and nothing volatile stays; a sag is ridden through; a
sag that disturbs the logic without rearming the power-on reset leaves the module undefined (R495). (DESIGN CHOICE, log 117; DEDUCED, log 119) -/
def execPowerLoss (form : PowerForm) (s : State) : Host.Outcome State Fault Refusal :=
  match form with
  | .loss tear => loud (fun s =>
      if s.clk.phase = Phase.off then s
      else
        let t := (s.clear .off false).tearJournal tear
        { t with evq := [], clk := { t.clk with vin := false }, hif := { t.hif with perst := false } }) s
  | .sagRidden => quiet (fun s => s) s
  | .sagDisturbs => if s.clk.phase = Phase.off then quiet (fun s => s) s else .fault .undefinedAfterSag
/-- POWER_ON (R495, R514): the power-on reset releases 10 ms after the rails are in regulation. -/
def execPowerOn (s : State) : Host.Outcome State Fault Refusal :=
  loud (fun s =>
    if s.clk.phase ≠ Phase.off then s
    else
      let t : State := { s with newt := { s.newt with halted := false } }
      let t := (t.elapse (10 * msT)).clear .starting false
      { t with clk := { t.clk with vin := true } }) s

end Sys2Proof.Machine
end

