-- ==== Sys2Proof/Machine/Setup.lean ====
section
/-! DEFINITION. Sys2Proof/Machine/Setup.lean: HIF_SETUP_DONE, and the resets of the PCIe function (R31, R32, R36, R63,
R74, R269, R296, R343, R355, R421, R490). -/
namespace Sys2Proof.Machine

/-! ## HIF_SETUP_DONE -/

/-- A submission ring's configuration is valid (R34, R36). -/
def State.sqValid (s : State) (n : Nat) : Bool :=
  decide (4 ≤ s.cf (.HIF_SQ_CFG n) F.HIF_SQ_CFG_SIZE) && decide (s.cf (.HIF_SQ_CFG n) F.HIF_SQ_CFG_SIZE ≤ 12)
    && s.cqUp (s.cqOf n)
/-- A submission ring takes its state: RUNNING, FAULTED for CFG, or DISABLED (R34, R36). -/
def State.sqJudge (s : State) (n : Nat) : State :=
  if s.cf (.HIF_SQ_CFG n) F.HIF_SQ_CFG_ENABLE = 0 then s
  else if s.sqValid n then s.setSf (.HIF_SQ_STAT n) F.HIF_SQ_STAT_STATE 1
  else s.sqFault n 0x03
/-- A completion or event ring enabled with a SIZE outside 4 to 14 stays out of service (R36, R66). -/
def State.sizeJudge (s : State) (r : Reg) (enable size : Fld) : State :=
  let k := s.cf r size
  if s.cf r enable = 1 ∧ (k < 4 ∨ 14 < k) then s.setupIgnored r size k 4 else s
/-- The rings at HIF_SETUP_DONE (R36). -/
def State.setupRings (s : State) : State :=
  let t := (List.range 64).foldl (fun (u : State) n =>
    u.sizeJudge (.HIF_CQ_CFG n) F.HIF_CQ_CFG_ENABLE F.HIF_CQ_CFG_SIZE) s
  let t := (List.range 8).foldl (fun (u : State) n =>
    u.sizeJudge (.HIF_EQ_CFG n) F.HIF_EQ_CFG_ENABLE F.HIF_EQ_CFG_SIZE) t
  (List.range 64).foldl State.sqJudge t
/-- REFIN as the time unit's reference (R292, R483): without it the time unit runs on XO_MAIN, its fallback. (DEDUCED, log 21) -/
def State.setupRefin (s : State) : State :=
  if s.cf .TSU_REF F.TSU_REF_REFIN_EN = 0 then s
  else if s.sf .CLK_SRC_STAT ⟨7, 6⟩ = 1 then s.setSf .TSU_REF F.TSU_REF_REFIN_OK 1
  else s.setSf .CLK_DOM_STAT ⟨9, 9⟩ 1
/-- The blocks other than the host interface (R467 keeps them idle in a replay). -/
def State.setupBlocks (s : State) : State :=
  ((s.setupThr 0).setupThr 1).hold (fun s =>
    (((((((s.setupYards.setupMac).setupTime).setupRefin).setupPorts).setupRing).setupDrive).setupMeter).setupTwin)
/-- The host writes the register (R32, R36). -/
def State.setupDone (s : State) (val : Nat) : State :=
  if bit val 0 = false ∨ s.ready = false ∨ s.done = true then s
  else
    let t := s.hold (fun s =>
      ((s.setSf .HIF_SETUP_DONE F.HIF_SETUP_DONE_DONE 1).setSf .HIF_STATUS F.HIF_STATUS_LOCKED 1).setupRings)
    let t := if t.replaying then t else t.setupBlocks
    t.hold State.actLatched
/-- HIF_SETUP_DONE. -/
def execHifSetupDone (val : Nat) (s : State) : Host.Outcome State Fault Refusal := loud (fun s => s.setupDone val) s

/-! ## The PCIe function (R63, R64, R421, R490) -/

/-- The state that a submission ring takes afresh: one FAULTED for CFG stays so. -/
def State.sqAgain (s : State) (n : Nat) : State :=
  let t := s.setSf (.HIF_SQ_STAT n) F.HIF_SQ_STAT_HEAD 0
  if t.sqState n = 0 ∨ (t.sqState n = 3 ∧ t.sf (.HIF_SQ_STAT n) F.HIF_SQ_STAT_FAULT = 3) then t
  else t.setSf (.HIF_SQ_STAT n) F.HIF_SQ_STAT_STATE 1
/-- A completion that is held is discarded, and the discard recorded; data that no completion describes goes without. (DEDUCED, log 19) -/
def State.discardHeld (s : State) (e : CEnt) : State := if e.silent then s else s.noteDiscard e
/-- A descriptor came from a ring. -/
def Desc.ofRing (d : Desc) : Bool :=
  match d.src with
  | .ring _ => true
  | _ => false
/-- The PCIe engine and the ring state are reset, and nothing else. `down`: the link goes down. (DEDUCED, log 19) -/
def State.pcieReset (s : State) (down : Bool) : State :=
  let t := s.hold (fun s =>
    let t := s.hif.cqHeld.foldl State.discardHeld s
    let t := (List.range 64).foldl State.sqAgain t
    let t := (List.range 64).foldl (fun (u : State) n =>
      (u.setSf (.HIF_CQ_STAT n) F.HIF_CQ_STAT_TAIL 0).setSf (.HIF_CQ_STAT n) F.HIF_CQ_STAT_FULL 0) t
    (List.range 8).foldl (fun (u : State) n => u.setSf (.HIF_EQ_STAT n) F.HIF_EQ_STAT_TAIL 0) t)
  let t := (t.setCf .SWX_HRX_HEAD F.SWX_HRX_HEAD_HEAD 0).setSf .SWX_HRX_STAT F.SWX_HRX_STAT_TAIL 0
  let t : State := { t with
    cfg := t.cfg.filter (fun q => !q.1.isMsix), sts := t.sts.filter (fun q => !q.1.isMsix)
    hif := { Hif.reset with
      inflight := t.hif.inflight.map (fun d => if d.ofRing then { d with discard := true } else d)
      nextDid := t.hif.nextDid, linkUp := t.hif.linkUp && !down, perst := t.hif.perst
      pcie := { Pcie.reset with gen := if down then 0 else t.hif.pcie.gen, width := if down then 0 else t.hif.pcie.width } } }
  t.hold (fun t => pcieCrossings.foldl State.isolate t.mbxHostReset)
/-- PCIE_FUNCTION_RESET: Function Level Reset, hot reset, link down, or PERST_N. (DEDUCED, log 20) -/
def execPcieFunctionReset (kind : PcieReset) (s : State) : Host.Outcome State Fault Refusal :=
  loud (fun s =>
    if s.clk.phase = Phase.off then s
    else
      let t := s.pcieReset (kind != .flr)
      if kind = .perstN then { t with hif := { t.hif with perst := false } } else t) s

end Sys2Proof.Machine
end

