-- ==== Sys2Proof/Machine/Clocks.lean ====
section
/-! DEFINITION. Sys2Proof/Machine/Clocks.lean: clock sources and domains, gating, and the region temperatures (R472 to
R493). -/
namespace Sys2Proof.Machine

/-! ## Sources and domains (R472, R480) -/

/-- STATE of a source (R501): 0 OFF, 1 OK, 2 FAILED, 3 JUDGING. -/
def State.srcState (s : State) (k : Nat) : Nat := s.sf .CLK_SRC_STAT ⟨2 * k + 1, 2 * k⟩
def State.setSrc (s : State) (k v : Nat) : State := s.setSf .CLK_SRC_STAT ⟨2 * k + 1, 2 * k⟩ v
/-- A domain runs on its fallback. -/
def State.onFallback (s : State) (d : Nat) : Bool := s.sf .CLK_DOM_STAT ⟨d, d⟩ == 1
def State.setFallback (s : State) (d : Nat) (v : Bool) : State := s.setSf .CLK_DOM_STAT ⟨d, d⟩ (b2n v)
/-- The FALLBACK mask. -/
def State.fallbackMask (s : State) : Nat := s.sf .CLK_DOM_STAT F.CLK_DOM_STAT_FALLBACK
/-- The time unit's PLL is meant to lock to REFIN. -/
def State.refinOn (s : State) : Bool := s.cf .TSU_REF F.TSU_REF_REFIN_EN == 1
/-- The time unit runs on REFIN now. -/
def State.onRefin (s : State) : Bool := s.refinOn && s.srcState 3 == 1
/-- The sources that a domain needs to leave its fallback. -/
def State.domSources (s : State) (d : Nat) : List Nat :=
  match d with
  | 5 => [0, 7]
  | 6 => [0, 6]
  | 7 => [4, 10]
  | 8 => [0, 9]
  | 9 => if s.refinOn then [3, 8] else [0, 8]
  | 10 => [1]
  | _ => [0]
/-- The domains that change their source when a source fails or returns (R472, R473, R480). A PCIe domain on root /5 stops
with the root PLL. (DEDUCED, log 133) -/
def State.srcDomains (s : State) (k : Nat) : List Nat :=
  match k with
  | 0 => [0, 1, 2, 3, 4, 5, 6] ++ (if s.onFallback 7 then [7] else []) ++ [8] ++ (if s.onRefin then [] else [9])
  | 1 => [10]
  | 3 => if s.refinOn then [9] else []
  | 4 => [7]
  | 6 => [6]
  | 7 => [5]
  | 8 => [9]
  | 9 => [8]
  | 10 => [7]
  | _ => []
/-- The gap of a domain's change, in TSU ticks (R480): `root` where the root PLL relocks with it, `back` on a return. A gap
of one RTC tick is rounded up. (DEDUCED, log 133) -/
def gapT (d : Nat) (root back : Bool) : Nat :=
  if d ≤ 4 then 32 * usT
  else if d = 5 then (if back then 50 * usT else 32 * usT)
  else if d = 6 then (if back then 100 * usT else 32 * usT)
  else if d = 7 then (if back then 50 * usT else if root then 32 * usT else usT)
  else if d = 8 then 40 * usT
  else if d = 9 then 20 * usT
  else 15259
/-- Domains stop for a change of source; each restarts at the end of its gap (R479). -/
def State.stopDomains (s : State) (l : List Nat) (root back : Bool) : State :=
  { s with clk := { s.clk with
    stopped := l.foldl (fun (t : Tbl Nat) d => Tbl.put 0 t d (s.tsu.raw + gapT d root back)) s.clk.stopped
    relock := s.clk.relock || root } }

/-! ## Failure (R482 to R484, R527) -/

/-- M3 holds both time domains in HOLDOVER while the time unit runs on RCO (R483). -/
def State.holdTime (s : State) : State :=
  let go (t : State) (d : Nat) : State := if t.domState d = dDISABLED ∨ t.domState d = dHOLDOVER then t else t.changeDom d dHOLDOVER
  let t := go (go s 0) 1
  { t with clk := { t.clk with timeRco := true } }
/-- The oscillator-stopped flag is set (R527): recorded at once where the recorder runs. (DEDUCED, log 141) -/
def State.oscStops (s : State) (cause : Nat) : State :=
  if s.sf .NEWT_STAT F.NEWT_STAT_OSC_STOP = 1 then s
  else
    let t := (s.setSf .NEWT_STAT F.NEWT_STAT_OSC_STOP 1).setSf .NEWT_EVT F.NEWT_EVT_OSC_STOP 1
    if t.clk.phase = Phase.run then t.event 2 0 0x1102 2 [cause]
    else { t with newt := { t.newt with oscUnrec := some cause } }
/-- Compensation is suspended: adjustments not yet made go back to the residue (R514). (DEDUCED, log 139) -/
def Newt.suspend (n : Newt) : Newt := { n with residue := n.residue + n.adjust * 10 ^ 14, adjust := 0 }
/-- Every enabled yard enters FAULTED with cause CLOCK (R75, R483). -/
def State.faultAll (s : State) : State :=
  ((List.range 16).filter s.yardLive).foldl (fun (t : State) y => t.faultYard y 6) s
/-- P0 to P2 and the twin lane lose link (R235, R483). (DEDUCED, log 134) -/
def State.dropLinks (s : State) : State := ([0, 1, 2].foldl State.portDown s).twinLaneLost
/-- What a source's failure brings beyond its domains' switch (R483). (DEDUCED, log 134) -/
def State.srcConsequence (s : State) (k : Nat) (refin : Bool) : State :=
  match k with
  | 0 => s.hold (fun s =>
         let t := (s.faultAll).dropLinks
         if refin then t else t.holdTime)
  | 1 => s.hold (fun s =>
         let t := (s.setSf .NEWT_STAT F.NEWT_STAT_SRC 1).oscStops 1
         { t with newt := t.newt.suspend })
  | 3 => s.hold (fun s =>
         let t := s.setSf .TSU_REF F.TSU_REF_REFIN_OK 0
         if s.refinOn = true ∧ s.srcState 0 ≠ 1 then t.holdTime else t)
  | 4 => s.pcieReset true
  | 6 => s.hold State.faultAll
  | 7 => s.hold State.dropLinks
  | _ => s
/-- A source fails (R482): its domains switch, its state is FAILED, CLK_FAIL is raised and recorded. -/
def State.srcSwitch (s : State) (k cause : Nat) : State :=
  let l := s.srcDomains k
  let s1 := ((s.setSrc k 2).setSf .CLK_EVT F.CLK_EVT_FAIL 1).raiseCause 0
  let s1 : State := { s1 with clk := { s1.clk with
    counted := s1.clk.counted.filter (fun j => j != k), outWin := Tbl.put 0 s1.clk.outWin k 0, inWin := Tbl.put 0 s1.clk.inWin k 0
    judgeAt := Tbl.put 0 s1.clk.judgeAt k s1.tsu.raw } }
  let s2 := (l.foldl (fun (t : State) d => t.setFallback d true) s1).stopDomains l (k == 0) false
  s2.event 1 k 0x1001 3 [k, s2.fallbackMask, cause]
/-- A source fails (R482), with what follows. Where no clock can be trusted the module resets itself instead (R484). (DEDUCED, log 132) -/
def State.srcFail (s : State) (k cause : Nat) : State :=
  let t := s.hold (fun s => s.srcSwitch k cause)
  if k = 5 ∨ (k = 0 ∧ s.srcState 2 ≠ 1) then t.moduleReset 2 1 true
  else t.srcConsequence k s.onRefin
/-- The least time in which a source is judged, in TSU ticks: its count at its nominal rate, a PLL's on its reference (R474). -/
def State.judgeT (s : State) (k : Nat) : Nat :=
  match k with
  | 0 => ceilDiv (65536 * 5000) 384
  | 1 => secT
  | 2 => 32000
  | 3 => msT
  | 4 => 20480
  | 10 => 20480
  | 8 => if s.refinOn then 204800 else ceilDiv (4096 * 5000) 384
  | _ => ceilDiv (4096 * 5000) 384
/-- The timeout of a judgement, in TSU ticks (R474). -/
def judgeOut (k : Nat) : Nat := if k = 1 then 3 * secT else if k ≤ 4 then 20 * msT else msT
/-- The raw count at which a source's judging began. -/
def State.judgeFrom (s : State) (k : Nat) : Nat := Tbl.get 0 s.clk.judgeAt k
/-- CLK_SOURCE_FAIL: the edge detector of XO_MAIN, XO_LF, REFIN or PCIe REFCLK (cause 0) or a PLL's lock detector (cause 2)
fires, or the start judgement of any of these but XO_MAIN ends without success (cause 3; R474, R475). A dropout before a failed source's return sends it
back to FAILED, with no signal. -/
def execClkSourceFail (src cause : Nat) (s : State) : Host.Outcome State Fault Refusal :=
  loud (fun s =>
    let edge := decide (src = 0 ∨ src = 1 ∨ src = 3 ∨ src = 4)
    let pll := decide (5 ≤ src ∧ src ≤ 10)
    let again := s.srcState src == 3 && s.clk.counted.contains src
    if s.clk.phase = Phase.off then s
    else if (cause = 0 ∧ edge = true) ∨ (cause = 2 ∧ pll = true) then
      (if s.srcState src = 1 then s.srcFail src cause
       else if again then
        { s.setSrc src 2 with clk := { s.clk with counted := s.clk.counted.filter (fun j => j != src) } }
       else s)
    else if cause = 3 ∧ (edge = true ∨ pll = true) ∧ src ≠ 0 ∧ (s.srcState src = 0 ∨ (s.srcState src = 3 ∧ again = false)) then
      (s.hold (fun s => s.elapseTo (s.judgeFrom src + judgeOut src))).srcFail src cause
    else s) s

/-! ## Return (R474, R478) -/

/-- A domain may return: every source that it needs is OK. -/
def State.mayReturn (s : State) (d : Nat) : Bool := (s.domSources d).all (fun k => s.srcState k == 1)
/-- A failed source is back in service (R478, R482): its domains return where CLK_CFG.AUTO_RETURN lets them. The time unit
goes from RCO to XO_MAIN even where REFIN is still missing. (DEDUCED, log 131) -/
def State.srcReturn (s : State) (k : Nat) : State :=
  let s1 := (s.setSrc k 1).setSf .CLK_EVT F.CLK_EVT_RESTORED 1
  let s1 : State := { s1 with clk := { s1.clk with
    counted := s1.clk.counted.filter (fun j => j != k), outWin := Tbl.put 0 s1.clk.outWin k 0, inWin := Tbl.put 0 s1.clk.inWin k 0 } }
  let s1 := if k = 3 ∧ s1.refinOn = true then s1.setSf .TSU_REF F.TSU_REF_REFIN_OK 1 else s1
  let auto := s1.cf .CLK_CFG F.CLK_CFG_AUTO_RETURN == 1
  let l := if auto then (s1.srcDomains k).filter (fun d => s1.onFallback d && s1.mayReturn d) else []
  let t := (l.foldl (fun (u : State) d => u.setFallback d false) s1).stopDomains l (k == 0 && auto) true
  let free := auto && ((k == 0) || l.contains 9)
  let t : State := if free then { t with clk := { t.clk with timeRco := false } } else t
  let t := if l.contains 10 then t.setSf .NEWT_STAT F.NEWT_STAT_SRC 0 else t
  t.event 1 k 0x1002 1 [k, t.fallbackMask]
/-- SOURCE_JUDGED (R474, R478): at a start the source is OK; a failed source has passed its count and is JUDGING. A PLL has no
windows to pass. The time of the count has passed since the start or the failure. (DEDUCED, log 131) -/
def execSourceJudged (src : Nat) (s : State) : Host.Outcome State Fault Refusal :=
  quiet (fun s =>
    let now := s
    let s := s.elapseTo (s.judgeFrom src + s.judgeT src)
    if s.clk.phase = Phase.off ∨ 10 < src then now
    else if s.srcState src = 0 ∨ (s.srcState src = 3 ∧ s.clk.counted.contains src = false) then s.setSrc src 1
    else if s.srcState src = 2 then
      if 5 ≤ src then s.srcReturn src
      else { s.setSrc src 3 with clk := { s.clk with counted := s.clk.counted ++ [src] } }
    else now) s

/-! ## Monitoring windows (R476, R477) -/

/-- TSU ticks of a source's window; 0 for a PLL, which has none. (DESIGN CHOICE, log 136) -/
def windowT (k : Nat) : Nat :=
  if k = 0 ∨ k = 2 ∨ k = 4 then msT else if k = 3 then 10 * msT else if k = 1 then 15625000 else 0
/-- The source that a disagreement of XO_MAIN and RCO is charged to (R477): one window of XO_LF decides, or with XO_LF failed
it is RCO. `lf`: the source of the window is the one outside ±2 % of XO_LF. (DESIGN CHOICE, log 136) -/
def State.charged (s : State) (k : Nat) (lf : Bool) : State × Nat :=
  if k = 0 ∨ k = 2 then
    if s.srcState 1 ≠ 1 then (s, 2)
    else (s.elapse (windowT 1), if lf then k else 2 - k)
  else (s, k)
/-- The source that a source is counted against (R476). -/
def windowRef (k : Nat) : Nat := if k = 2 ∨ k = 3 then 0 else 2
/-- CLK_MONITOR_WINDOW: the next window of a source ends; there is none while the source that it is counted against is not OK. (DESIGN CHOICE, log 136) -/
def execClkMonitorWindow (src : Nat) (inTol lfCharges : Bool) (s : State) : Host.Outcome State Fault Refusal :=
  loud (fun s =>
    let w := windowT src
    if s.clk.phase = Phase.off ∨ w = 0 ∨ s.srcState (windowRef src) ≠ 1 ∨ (s.srcState src ≠ 1 ∧ s.clk.counted.contains src = false) then s
    else
      let n := max (Tbl.get 0 s.clk.winAt src) (s.tsu.raw / w) + 1
      let t := s.elapseTo (n * w)
      let t : State := { t with clk := { t.clk with winAt := Tbl.put 0 t.clk.winAt src n } }
      if t.srcState src = 1 then
        let out := if inTol then 0 else Tbl.get 0 t.clk.outWin src + 1
        let t : State := { t with clk := { t.clk with outWin := Tbl.put 0 t.clk.outWin src out } }
        if out < 2 then t
        else
          let c := t.charged src lfCharges
          let u : State := { c.1 with clk := { c.1.clk with outWin := Tbl.put 0 c.1.clk.outWin src 0 } }
          if u.srcState c.2 = 1 then u.srcFail c.2 1 else u
      else
        let good := if inTol then Tbl.get 0 t.clk.inWin src + 1 else 0
        let t : State := { t with clk := { t.clk with inWin := Tbl.put 0 t.clk.inWin src good } }
        if t.cf .CLK_CFG F.CLK_CFG_RETURN_WIN ≤ good then t.hold (fun t => t.srcReturn src) else t) s

/-! ## Restart of a domain (R479, R480, R288) -/

/-- CLOCK_RESTART: a domain's gap ends. The field island's counters have stood still; the raw counter has its lost ticks added
back; with the root PLL's domains its relock is over. (DEDUCED, log 135) -/
def execClockRestart (dom : Nat) (s : State) : Host.Outcome State Fault Refusal :=
  quiet (fun s =>
    let due := Tbl.get 0 s.clk.stopped dom
    if due = 0 then s
    else
      let t := s.elapseTo due
      let t : State := { t with clk := { t.clk with
        stopped := Tbl.put 0 t.clk.stopped dom 0, relock := t.clk.relock && decide (4 < dom) } }
      if dom = 2 then
        { t with drv := { t.drv with setupAt := t.drv.setupAt + gapT 2 true false }
                 mtr := { t.mtr with sampleAt := t.mtr.sampleAt + gapT 2 true false } }
      else t) s
/-- XO_MAIN_START_RETRY (R475). -/
def execXoMainStartRetry (s : State) : Host.Outcome State Fault Refusal :=
  quiet (fun s =>
    if s.clk.phase = Phase.starting ∧ s.srcState 0 ≠ 1 then
      let t := (s.elapse (100 * msT)).bumpSat .CLK_RESET_CAUSE F.CLK_RESET_CAUSE_XO_RETRIES
      { t with clk := { t.clk with judgeAt := Tbl.put 0 t.clk.judgeAt 0 t.tsu.raw } }
    else s) s

/-! ## Gating (R485, R486) -/

/-- The condition under which a unit is gated; 64 + n stands for lane Ln. -/
def State.gateWanted (s : State) (k : Nat) : Bool :=
  if k < 4 then s.cf (.YRD_FE_CFG k) F.YRD_FE_CFG_ENABLE == 0
  else if k < 12 then s.cf (.YRD_TX_CFG (k - 4)) F.YRD_TX_CFG_ENABLE == 0
  else if k = 12 then s.flt.camps.all (fun c => c.state != cSENDING)
  else if k < 16 then s.cf (.SWX_PORT_CFG (k - 13)) F.SWX_PORT_CFG_ENABLE == 0
  else if k = 16 then (List.range 48).all (fun n => s.cf (.DRV_CH_CFG n) F.DRV_CH_CFG_ENABLE == 0)
  else if k < 23 then s.cf (.MTR_I_CFG (k - 17)) F.MTR_I_CFG_ENABLE == 0
  else if k < 26 then s.cf (.MTR_V_CFG (k - 23)) F.MTR_V_CFG_ENABLE == 0
  else if k = 26 then s.clk.phase != .lizard
  else if 64 ≤ k ∧ k < 608 then s.role (k - 64) == rRETIRED || s.role (k - 64) == rEXCLUDED
  else false
/-- A unit is gated now. -/
def State.isGated (s : State) (k : Nat) : Bool :=
  if k < 27 then s.sf .CLK_GATE_STAT ⟨k, k⟩ == 1 else s.clk.laneGated.contains (k - 64)
def State.setGated (s : State) (k : Nat) (v : Bool) : State :=
  if k < 27 then s.setSf .CLK_GATE_STAT ⟨k, k⟩ (b2n v)
  else
    let l := s.clk.laneGated.filter (fun n => n != k - 64)
    { s with clk := { s.clk with laneGated := if v then l ++ [k - 64] else l } }
/-- A unit of R485. -/
def gateUnit (k : Nat) : Bool := decide (k < 27) || (decide (64 ≤ k) && decide (k < 608))
/-- UNIT_GATED: the unit is gated, its agent idle, or ungated where the condition has ended. -/
def execUnitGated (k : Nat) (s : State) : Host.Outcome State Fault Refusal :=
  quiet (fun s =>
    if s.clk.phase = Phase.off ∨ s.clk.phase = Phase.starting ∨ gateUnit k = false then s
    else s.setGated k (s.gateWanted k)) s
/-- 1,024 cycles of the unit's own clock, in CTL cycles and thousandths (R480, R486). (DESIGN CHOICE, log 137) -/
def State.forceWait (s : State) (k : Nat) : Nat :=
  let khz := if k < 13 ∨ 64 ≤ k then (if s.onFallback 6 then 240000 else 245760)
    else if k < 16 then (if s.onFallback 5 then 300000 else 312500)
    else if k = 26 then 50000 else 200000
  1024 * 100000000 / khz
/-- The access in progress at a forced gate completes with ERR_GATED (R486, R487), and the item in progress is lost: a block of
intermediate symbols that the encoder is computing; a lane that is no yard's delivers no frame. -/
def State.gateEnds (s : State) (k : Nat) (access : GateAccess) : State :=
  let t := match access with
    | .none => s
    | .hostWrite off => s.accErr off stERR_GATED
    | .command did => (match s.desc? did with
      | some d => s.fail d stERR_GATED
      | none => s)
  if k = 12 then t.setSf .FLT_ENC_STAT F.FLT_ENC_STAT_BUSY 0 else t
/-- GATE_FORCED: the unit has not been idle for 1,024 of its cycles. A count of CTL cycles that is no whole number is taken as
one of its neighbours. (DESIGN CHOICE, log 137; DEDUCED, log 178) -/
def execGateForced (k : Nat) (access : GateAccess) (s : State) : Host.Outcome State Fault Refusal :=
  quiet (fun s =>
    if s.clk.phase = Phase.off ∨ s.clk.phase = Phase.starting ∨ gateUnit k = false ∨ s.gateWanted k = false ∨ s.isGated k = true
    then s
    else
      let w := s.forceWait k
      let u := s.fresh
      let n := if w % 1000 = 0 then w / 1000 else w / 1000 + u.1 % 2
      let t := (u.2.elapse (5 * n)).setGated k true
      ((t.setSf .CLK_EVT F.CLK_EVT_GATE_FORCED 1).event 1 0 0x1003 2 [k, n]).gateEnds k access) s

/-! ## Region temperatures (R493) -/

/-- REGION_TEMP_READ, every 100 ms on a grid from the start: the readings are in 0.25 °C. (DESIGN CHOICE, log 136; DEDUCED, log 138) -/
def execRegionTempRead (radio digital memory : Int) (s : State) : Host.Outcome State Fault Refusal :=
  quiet (fun s =>
    if s.clk.phase ≠ Phase.run then s
    else
      let s := s.elapseTo ((s.tsu.raw / (100 * msT) + 1) * (100 * msT))
      let t := ((s.setSf .CLK_TEMP F.CLK_TEMP_RADIO (twos 10 radio)).setSf .CLK_TEMP F.CLK_TEMP_DIGITAL (twos 10 digital)).setSf
        .CLK_TEMP F.CLK_TEMP_MEMORY (twos 10 memory)
      if 100 < radio - digital then
        if t.clk.regionHot then t
        else
          let u : State := { t with clk := { t.clk with regionHot := true } }
          (u.setSf .CLK_EVT F.CLK_EVT_REGION 1).event 1 0 0x1005 3 [twos 64 radio, twos 64 digital]
      else if radio - digital < 80 then { t with clk := { t.clk with regionHot := false } }
      else t) s

end Sys2Proof.Machine
end

