-- ==== Sys2Proof/Machine/NewtRtc.lean ====
section
/-! DEFINITION. Sys2Proof/Machine/NewtRtc.lean: the newt domain: its power-on reset, compensation, the second carry with the
calendar and the alarms, the register bridge (R506 to R533). -/
namespace Sys2Proof.Machine

/-! ## The power-on reset (R510) -/

/-- NEWT_POR: nothing of the newt domain survives; NPOR and SRC lie on the control side (R528). (DESIGN CHOICE, log 117; DEDUCED, log 141) -/
def execNewtPor (s : State) : Host.Outcome State Fault Refusal :=
  loud (fun s =>
    let npor := s.sf .NEWT_STAT F.NEWT_STAT_NPOR
    let src := s.sf .NEWT_STAT F.NEWT_STAT_SRC
    let n : Newt := { Newt.reset with
      calLo := s.newt.calLo, almLo0 := s.newt.almLo0, almLo1 := s.newt.almLo1, latHost := s.newt.latHost, latFw := s.newt.latFw }
    let t : State := { s with
      cfg := s.cfg.filter (fun q => !q.1.inNewt), sts := s.sts.filter (fun q => !q.1.inNewt), newt := n
      shed := { s.shed with counts := Shed.reset.counts, log := [], uncopied := 0, meshPending := false, sealAt := none } }
    let t := (t.setSf .NEWT_STAT F.NEWT_STAT_NPOR npor).setSf .NEWT_STAT F.NEWT_STAT_SRC src
    if s.clk.phase = Phase.run then
      { t.event 2 0 0x1102 2 [0] with newt := { n with oscUnrec := none } }
    else t) s

/-! ## Compensation and VBAT (R509, R515) -/

/-- The window's correction in 10^-14 tick, for a reading in 0.25 °C. -/
def State.correction (s : State) (temp : Int) : Int :=
  let k : Int := s.sf .NEWT_TC_CURVE F.NEWT_TC_CURVE_K
  let t0 := signed 16 (s.sf .NEWT_TC_CURVE F.NEWT_TC_CURVE_T0)
  let off := signed 16 (s.sf .NEWT_TC_OFF F.NEWT_TC_OFF_OFF)
  let dt := 25 * temp - t0
  (k * dt * dt - off * 1000000) * 524288
/-- The whole ticks that a residue gives to the next window: at most 127 either way. (DEDUCED, log 139) -/
def wholeTicks (residue : Int) : Int := max (-127) (min 127 (Int.tdiv residue (10 ^ 14)))
/-- The reading and the correction of a window. (DEDUCED, log 139) -/
def State.compensate (s : State) (temp : Int) : State :=
  let t := (s.setSf .NEWT_COMP F.NEWT_COMP_TEMP (twos 10 temp)).setSf .NEWT_COMP F.NEWT_COMP_ADJ (twos 8 s.newt.applied)
  let n := s.newt.suspend
  let run := s.sf .NEWT_TC_OFF F.NEWT_TC_OFF_VALID = 1 ∧ s.sf .NEWT_STAT F.NEWT_STAT_SRC = 0
  let residue := if run then n.residue + s.correction temp else n.residue
  let a := if run then wholeTicks residue else 0
  { t with newt := { n with residue := residue - a * 10 ^ 14, adjust := a, applied := 0 } }
/-- VBAT is measured while main power holds. -/
def State.measureVbat (s : State) (mv : Nat) : State :=
  let t := s.setSf .NEWT_STAT F.NEWT_STAT_VBAT mv
  if s.sf .NEWT_STAT F.NEWT_STAT_VBAT_LOW = 1 then
    (if 2350 < mv then t.setSf .NEWT_STAT F.NEWT_STAT_VBAT_LOW 0 else t)
  else if mv < 2200 then
    let t := (t.setSf .NEWT_STAT F.NEWT_STAT_VBAT_LOW 1).setSf .NEWT_EVT F.NEWT_EVT_VBAT_LOW 1
    if s.clk.phase = Phase.run then t.event 2 0 0x1105 2 [mv]
    else { t with newt := { t.newt with vbatUnrec := true } }
  else t
/-- TC_WINDOW: a window ends where the count has crossed a multiple of 524,288 since the last (R515). (DEDUCED, log 140) -/
def execTcWindow (temp : Int) (vbat : Nat) (s : State) : Host.Outcome State Fault Refusal :=
  quiet (fun s =>
    let n := s.newt.tick / 524288
    if s.newt.halted = true ∨ n = s.newt.win then s
    else
      let t := s.compensate temp
      let t : State := { t with newt := { t.newt with win := n } }
      if s.clk.phase = Phase.off then t else t.measureVbat vbat) s

/-! ## The calendar (R517 to R520) -/

/-- One field receives an increment (R518): its new value, and whether it carries. -/
def calStep (v low high : Nat) : Nat × Bool :=
  if high ≤ v then (low, true)
  else if v % 16 = 9 then ((v / 16 + 1) * 16, false)
  else (v + 1, false)
/-- The days of a month, as BCD (R519). -/
def monthDays (year month : Nat) : Nat :=
  if month = 0x04 ∨ month = 0x06 ∨ month = 0x09 ∨ month = 0x11 then 0x30
  else if month = 0x02 then
    (if year / 16 ≤ 9 ∧ year % 16 ≤ 9 ∧ (year / 16 * 10 + year % 16) % 4 = 0 then 0x29 else 0x28)
  else 0x31
/-- The calendar after a second carry. -/
def Cal.advance (c : Cal) : Cal :=
  let s := calStep c.sec 0x00 0x59
  let m := if s.2 then calStep c.min 0x00 0x59 else (c.min, false)
  let h := if m.2 then calStep c.hour 0x00 0x23 else (c.hour, false)
  let d := if h.2 then calStep c.day 0x01 (monthDays c.year c.month) else (c.day, false)
  let o := if d.2 then calStep c.month 0x01 0x12 else (c.month, false)
  let y := if o.2 then calStep c.year 0x00 0x99 else (c.year, false)
  { year := y.1, month := o.1, day := d.1, hour := h.1, min := m.1, sec := s.1 }
/-- The calendar that six octets give, year first (R454). -/
def Cal.ofBytes (b : List Byte) : Cal :=
  { year := leAt b 0 1, month := leAt b 1 1, day := leAt b 2 1, hour := leAt b 3 1, min := leAt b 4 1, sec := leAt b 5 1 }
/-- The calendar stamp of a record (R455): its anchor's calendar advanced by the seconds between their RTC ticks; none where the
entry serves a newer anchor. -/
def State.calStamp (s : State) (r : Rec) : Option Cal :=
  match s.nvlog.anchors.find? (fun p => p.1 == r.gen) with
  | some (_, a) =>
    if a.firstSeq = r.seq ∨ seqLater r.seq a.firstSeq = true then
      some (Nat.repeat Cal.advance ((r.rtc / 32768 + 2 ^ 33 - a.rtc / 32768) % 2 ^ 33) (Cal.ofBytes a.cal))
    else none
  | none => none
/-- The calendar that a pair of words gives (R530). -/
def Cal.ofWords (lo hi : Nat) : Cal :=
  { year := hi / 65536 % 256, month := hi / 256 % 256, day := hi % 256
    hour := lo / 65536 % 256, min := lo / 256 % 256, sec := lo % 256 }

/-! ## Alarms (R521, R532) -/

/-- The unmasked fields of a word equal three calendar fields, highest first. -/
def almFits (w f2 f1 f0 : Nat) : Bool :=
  (bit w 26 || w / 65536 % 256 == f2) && (bit w 25 || w / 256 % 256 == f1) && (bit w 24 || w % 256 == f0)
/-- An enabled alarm matches the calendar. -/
def Alarm.fits (a : Alarm) (c : Cal) : Bool := bit a.lo 31 && almFits a.lo c.hour c.min c.sec && almFits a.hi c.year c.month c.day
def State.alarm (s : State) (n : Nat) : Alarm := if n = 0 then s.newt.alm0 else s.newt.alm1
def State.setAlarm (s : State) (n : Nat) (a : Alarm) : State :=
  if n = 0 then { s with newt := { s.newt with alm0 := a } } else { s with newt := { s.newt with alm1 := a } }
/-- An alarm is evaluated at a carry: a match is recorded, or with the main supply absent counted for the next start. -/
def State.checkAlarm (s : State) (n : Nat) : State :=
  if (s.alarm n).fits s.newt.cal = false then s
  else
    let t := s.setSf .NEWT_EVT ⟨n, n⟩ 1
    if t.clk.phase ≠ Phase.off then t.event 2 1 0x1104 1 [n, 0, 1]
    else if n = 0 then { t with newt := { t.newt with unpow0 := min 255 (t.newt.unpow0 + 1) } }
    else { t with newt := { t.newt with unpow1 := min 255 (t.newt.unpow1 + 1) } }

/-! ## Staged pairs (R524 to R526) -/

/-- The events on their way when a calendar write takes effect, of which one arose in the same CTL cycle: they reach the recorder
under the old generation, and the anchor follows (R468). (DEDUCED, log 143) -/
def State.beforeAnchor (s : State) : State :=
  if s.evq.any (fun e => e.at_ / 5 == s.tsu.raw / 5) then s.evq.foldl (fun (u : State) _ => u.arriveNext none) s else s
/-- The staged calendar takes effect: a new anchor and CAL_WRITE, where the recorder runs (R454, R525). (DEDUCED, log 143) -/
def State.applyCal (s : State) : State :=
  match s.newt.stCal with
  | none => s
  | some (lo, hi) =>
    let old := s.newt.cal
    let new := Cal.ofWords lo hi
    let t : State := { s with newt := { s.newt with cal := new, stCal := none } }
    if t.clk.phase = Phase.run then (t.beforeAnchor.newAnchor).event 2 1 0x1106 1 [leAt old.bytes 0 6, leAt new.bytes 0 6] else t
/-- The staged alarm pairs take effect. -/
def State.applyAlarms (s : State) : State :=
  let t := match s.newt.stAlm0 with
    | some (lo, hi) => s.setAlarm 0 { lo := lo, hi := hi }
    | none => s
  let t := match s.newt.stAlm1 with
    | some (lo, hi) => t.setAlarm 1 { lo := lo, hi := hi }
    | none => t
  { t with newt := { t.newt with stAlm0 := none, stAlm1 := none } }
/-- RTC_STAGED_APPLY: the staged pairs take effect at the next RTC tick boundary. (DEDUCED, log 145) -/
def execRtcStagedApply (s : State) : Host.Outcome State Fault Refusal :=
  quiet (fun s =>
    if s.newt.halted then s
    else if s.newt.stCal = none ∧ s.newt.stAlm0 = none ∧ s.newt.stAlm1 = none then s
    else ((s.elapse (ceilDiv (1953125 - min 1953125 s.newt.phase) 128)).applyAlarms).applyCal) s
/-- The host stages the calendar pair; it replaces one that has not taken effect. -/
def State.stageCal (s : State) (val : Nat) : State :=
  if s.clk.phase = Phase.off ∨ s.lizardHides .host (Reg.RTC_CAL_HI).offset = true then s
  else { s with newt := { s.newt with stCal := some (s.newt.calLo, (BitVec.ofNat 32 val &&& (Reg.RTC_CAL_HI).hostMask).toNat) } }
/-- RTC_CAL_HI_WRITE. -/
def execRtcCalHiWrite (val : Nat) (s : State) : Host.Outcome State Fault Refusal := quiet (fun s => s.stageCal val) s
/-- The host stages the pair of an alarm. -/
def State.stageAlarm (s : State) (n val : Nat) : State :=
  if s.clk.phase = Phase.off ∨ 1 < n ∨ s.lizardHides .host (Reg.RTC_ALM_HI n).offset = true then s
  else
    let hi := (BitVec.ofNat 32 val &&& (Reg.RTC_ALM_HI n).hostMask).toNat
    if n = 0 then { s with newt := { s.newt with stAlm0 := some (s.newt.almLo0, hi) } }
    else { s with newt := { s.newt with stAlm1 := some (s.newt.almLo1, hi) } }
/-- RTC_ALM_HI_WRITE. -/
def execRtcAlmHiWrite (n val : Nat) (s : State) : Host.Outcome State Fault Refusal := quiet (fun s => s.stageAlarm n val) s

/-! ## The second carry (R517, R521, R526) -/

/-- The count crosses the next multiple of 32,768: the cycles that this takes, with the time that is still missing. (DESIGN CHOICE, log 144) -/
def State.toCarry (s : State) : State :=
  let k := cyclesTo s.newt.adjust (32768 - s.newt.tick % 32768)
  let need := k * 1953125
  let dt := ceilDiv (need - s.newt.phase) 128
  { s.ticks dt with newt := s.newt.cycles k (s.newt.phase + 128 * dt - need) }
/-- The calendar advances and the alarms are evaluated; the minute carry goes to the metering (R330). -/
def State.carry (s : State) : State :=
  let minute := (calStep s.newt.cal.sec 0x00 0x59).2
  let t : State := { s with newt := { s.newt with cal := s.newt.cal.advance } }
  let t := (t.checkAlarm 0).checkAlarm 1
  if minute then t.minuteCarry else t
/-- SECOND_CARRY. Whether a staged pair takes effect at this very tick boundary is left open. (DESIGN CHOICE, log 142) -/
def execSecondCarry (s : State) : Host.Outcome State Fault Refusal :=
  quiet (fun s =>
    if s.newt.halted then s
    else
      let t := s.toCarry
      if t.newt.stCal = none ∧ t.newt.stAlm0 = none ∧ t.newt.stAlm1 = none then (t.carry).elapse 0
      else
        let u := t.fresh
        let t := if u.1 / 2 % 2 = 1 then u.2.applyAlarms else u.2
        let t := if u.1 % 2 = 1 ∧ t.newt.stCal.isSome = true then t.applyCal else t.carry
        t.elapse 0) s

/-! ## Reading, and XO_LF unpowered (R523, R527) -/

/-- The upper bits of the tick count and the calendar are latched for the side that reads. -/
def State.latchRtc (s : State) (side : Side) : State :=
  let l : RtcLatch := { tickHi := s.newt.tick / 2 ^ 32, cal := s.newt.cal }
  if side = .host then { s with newt := { s.newt with latHost := l } } else { s with newt := { s.newt with latFw := l } }
/-- RTC_TICK_LO_READ. -/
def execRtcTickLoRead (side : Side) (s : State) : Host.Outcome State Fault Refusal :=
  quiet (fun s =>
    if s.clk.phase = Phase.off then s
    else if s.lizardHides side (Reg.RTC_TICK_LO).offset then s.emit (.readData side 0)
    else (s.latchRtc side).emit (.readData side (s.newt.tick % 2 ^ 32))) s
/-- XO_LF_STOP_UNPOWERED (R514, R527). -/
def execXoLfStopUnpowered (s : State) : Host.Outcome State Fault Refusal :=
  quiet (fun s =>
    if s.clk.phase ≠ Phase.off then s
    else
      let t := (s.elapse (4 * msT)).oscStops 2
      { t with newt := { t.newt.suspend with halted := true } }) s

end Sys2Proof.Machine
end

