-- ==== Sys2Proof/Machine/Access.lean ====
section
/-! DEFINITION. Sys2Proof/Machine/Access.lean: accesses to BAR0 and BAR4 of every width (R28, R29, R408, R487, R561): register writes, broadcast
writes, and the reads of broadcast windows and of plain registers. -/
namespace Sys2Proof.Machine

/-- The 32-bit accesses that an access of a width splits into: 8-bit and 16-bit writes are ignored, a 64-bit access is two
32-bit accesses, lower address first; an access that is not naturally aligned is not accepted (R29). -/
def splitWrite (width off val : Nat) : List (Nat × BitVec 32) :=
  if width = 32 ∧ off % 4 = 0 then [(off, BitVec.ofNat 32 val)]
  else if width = 64 ∧ off % 8 = 0 then [(off, BitVec.ofNat 32 val), (off + 4, BitVec.ofNat 32 (val / 2 ^ 32))]
  else []

/-- A 32-bit BAR0 write (R7, R29): the registers whose writes have commands of their own act as those do. (DEDUCED, log 12) -/
def State.busWrite (s : State) (side : Side) (off : Nat) (word : BitVec 32) : State :=
  match side, Reg.ofOffset off with
  | .host, some .HIF_SETUP_DONE => s.setupDone word.toNat
  | .host, some .SWX_HRX_HEAD => s.hrxHeadWrite word.toNat
  | .host, some .RTC_CAL_HI => s.stageCal word.toNat
  | .host, some (.RTC_ALM_HI n) => s.stageAlarm n word.toNat
  | .host, some .YRD_REGION =>
    if s.lizardHides .host off then s else (s.poke .host off word).customWrite word.toNat
  | _, _ => s.poke side off word
/-- REGISTER_WRITE, to BAR0, or by the host to BAR4 (R28). (DEDUCED, log 12, 13) -/
def execRegisterWrite (side : Side) (width off val : Nat) (s : State) : Host.Outcome State Fault Refusal :=
  loud (fun s =>
    if bar4 ≤ off then (if side = .host then s.hold (fun s => s.bar4Write width (off - bar4) val) else s)
    else (splitWrite width off val).foldl (fun t p => t.busWrite side p.1 p.2) s) s

/-- BROADCAST_WRITE. -/
def execBroadcastWrite (side : Side) (width off val : Nat) (s : State) : Host.Outcome State Fault Refusal :=
  loud (fun s => (splitWrite width off val).foldl (fun t p => t.bcWrite side p.1 p.2) s) s

/-- One 32-bit BAR0 read: a gather in a broadcast window (R560), the latches of the registers that have them, and elsewhere the
register's value alone (R29, R283, R523). (DESIGN CHOICE, log 162) -/
def State.busRead (s : State) (side : Side) (off : Nat) : BitVec 32 × State :=
  if s.lizardHides side off then (0#32, s)
  else if (bcWindow off).isSome then s.bcRead side off
  else
    (s.peek side off,
      match Reg.ofOffset off with
      | some .TSU_TIME_LO => s.latchTime side
      | some .TSU_PPSIN_LO => s.latchPps side
      | some .RTC_TICK_LO => s.latchRtc side
      | _ => s)
/-- A BAR0 read of a width: 8-bit and 16-bit reads give the addressed bytes of the containing register, a 64-bit read is two
32-bit reads, lower address first (R29, R561). -/
def State.wideRead (s : State) (side : Side) (width off : Nat) : State :=
  if bar4 ≤ off then
    (if side = .host ∧ (width = 8 ∨ width = 16 ∨ width = 32 ∨ width = 64) then
      s.emit (.readData side (s.bar4Read width (off - bar4))) else s)
  else if width = 64 ∧ off % 8 = 0 then
    let a := s.busRead side off
    let b := a.2.busRead side (off + 4)
    b.2.emit (.readData side (a.1.toNat + 2 ^ 32 * b.1.toNat))
  else if (width = 8 ∨ width = 16 ∨ width = 32) ∧ off % (width / 8) = 0 then
    let a := s.busRead side (off - off % 4)
    a.2.emit (.readData side (a.1.toNat / 2 ^ (8 * (off % 4)) % 2 ^ width))
  else s
/-- BROADCAST_READ, and the read of a register outside the broadcast windows, which has no row of its own. (DESIGN CHOICE, log 162) -/
def execBroadcastRead (side : Side) (width off : Nat) (s : State) : Host.Outcome State Fault Refusal :=
  quiet (fun s => s.wideRead side width off) s

end Sys2Proof.Machine
end

