-- ==== Sys2Proof/Machine/Update.lean ====
section
/-! DEFINITION. Sys2Proof/Machine/Update.lean: staging sessions, verification, activation and its pause, confirmation, and the
lizard loader (R426 to R449). -/
namespace Sys2Proof.Machine

/-! ## Slots and what UPD shows -/

/-- The slot that runs, and the staging slot. -/
def State.slotNow (s : State) : Nat := s.sf .HIF_STATUS F.HIF_STATUS_SLOT
def State.stagingSlot (s : State) : Nat := 1 - s.slotNow
def State.bundle (s : State) (k : Nat) : Option Bundle := if k = 0 then s.upd.slotA else s.upd.slotB
def State.setBundle (s : State) (k : Nat) (b : Option Bundle) : State :=
  if k = 0 then { s with upd := { s.upd with slotA := b } } else { s with upd := { s.upd with slotB := b } }
def State.onTrial (s : State) : Bool := s.sf .HIF_STATUS F.HIF_STATUS_TRIAL == 1
/-- VERSION of a slot; 0 when the slot is invalid (R428). -/
def State.slotVersion (s : State) (k : Nat) : Nat := ((s.bundle k).map (fun b => b.version)).getD 0
/-- SLOT_A or SLOT_B of UPD_STAT (R447). -/
def State.slotState (s : State) (k : Nat) : Nat :=
  if s.clk.phase = Phase.lizard then
    (if k = 0 ∧ s.upd.lizOpen = true then 1 else if (s.bundle k).isSome then 6 else 0)
  else if k = s.slotNow then 4
  else if s.onTrial then (if (s.bundle k).isSome then 5 else 0)
  else if s.upd.verified then 3
  else
    match s.upd.session, s.upd.journal, s.bundle k with
    | some x, _, _ => if x.last then 2 else 1
    | none, some j, some b => if j.whole ∧ j.ident = b.ident then 2 else 6
    | none, _, some _ => 6
    | none, _, none => 0
/-- SESSION of UPD_STAT. UPD_VERIFY is one step, so 3 VERIFYING is not seen. -/
def State.sessionState (s : State) : Nat :=
  if s.upd.armed.isSome then 4
  else
    match s.upd.session with
    | some x => if x.last then 2 else 1
    | none => 0
/-- The UPD window follows the update engine (R447, R448). -/
def State.updRefresh (s : State) : State :=
  let u := s.upd
  let h : Holder := (u.session.map (fun x => x.source)).getD { kind := 0, ring := 0xFF, ip := 0 }
  let t := s.setSw .UPD_STAT
    (b2n (s.clk.phase == .lizard) * 2 ^ 31 + b2n s.onTrial * 2 ^ 30 + s.slotNow * 2 ^ 29 + u.boot.tries * 2 ^ 27
      + s.sessionState * 2 ^ 24 + s.slotState 0 * 16 + s.slotState 1)
  let t := ((t.setSf .UPD_SESSION F.UPD_SESSION_SOURCE h.kind).setSf .UPD_SESSION F.UPD_SESSION_RING h.ring).setSw .UPD_HOLDER_IP4 h.ip
  let t := (t.setSw .UPD_OFFSET ((u.journal.map (fun j => j.durable)).getD 0)).setSw .UPD_TOTAL
    ((u.session.map (fun x => x.total)).getD 0)
  (t.setSw .UPD_VER_A u.boot.verA).setSw .UPD_VER_B u.boot.verB
/-- UPD_ID of the anchor registers follows the journal (R511). (DEDUCED, log 110) -/
def State.setJournal (s : State) (j : Option Journal) : State :=
  let id := ((j.map (fun x => x.ident)).getD 0) % 2 ^ 64
  (({ s with upd := { s.upd with journal := j } }).setSw (.NEWT_ANCHOR 3) (id % 2 ^ 32)).setSw (.NEWT_ANCHOR 4) (id / 2 ^ 32)
/-- Write the boot record: the copy with the lower SEQ, with SEQ one higher (R428). -/
def State.writeBoot (s : State) (b : Boot) : State :=
  { s with upd := { s.upd with boot := { b with
      valid := true, seq := (s.upd.boot.seq + 1) % 2 ^ 32, verA := s.slotVersion 0, verB := s.slotVersion 1 } } }

/-! ## Headers (R427) -/

/-- A list of octets is all zero. -/
def allZero (l : List Byte) : Bool := l.all (fun b => b == 0#8)
/-- Largest bundle (R426). -/
def bundleMax : Nat := 29360128
/-- IMAGES holds each type once. -/
def imagesOk (h : List Byte) : Bool :=
  isort (fun t => t) ((List.range 5).map (fun k => leAt h (64 + 16 * k) 1)) == [1, 2, 3, 4, 5]
/-- No header field is malformed. -/
def headerFormed (h : List Byte) : Bool :=
  leAt h 0 4 == 0x42444C31 && leAt h 8 2 / 256 == 0 && leAt h 11 1 == 0 && allZero ((h.drop 16).take 16)
    && allZero ((h.drop 144).take 240) && imagesOk h && decide (4096 ≤ leAt h 12 4 ∧ leAt h 12 4 ≤ bundleMax)
    && (List.range 5).all (fun k => leAt h (65 + 16 * k) 3 == 0 && leAt h (76 + 16 * k) 4 == 0)
/-- STEP_MIN is at most HIF_ID.STEP (R30, R429). -/
def stepOk (h : List Byte) : Bool := decide (leAt h 10 1 ≤ 0x01)
/-- DIGEST is the SHA-256 of what follows the header (R427). -/
def digestOk (all : List Byte) : Bool := beAt all 32 32 == (Config.sha256 (all.drop 512)).toNat
/-- The bundle that a slot holds once it is whole. -/
def bundleOf (all : List Byte) : Bundle :=
  let h := all.take 512
  { version := leAt h 4 4, level := leAt h 8 2, headerOk := headerFormed h && stepOk h && digestOk all, meas := (Config.sha256 all).toNat
    ident := (Config.sha256 h).toNat }

/-! ## Staging sessions (R430 to R433) -/

/-- The holder that a descriptor's source stands for. -/
def State.updHolder (s : State) (d : Desc) : Holder :=
  match d.src with
  | .ring n => { kind := 1, ring := n, ip := 0 }
  | .sealedRing outer =>
    { kind := 2, ip := 0
      ring := match s.desc? outer with
        | some o => (match o.src with
          | .ring n => n
          | _ => 0xFF)
        | none => 0xFF }
  | .sealedUdp ip _ => { kind := 3, ring := 0xFF, ip := ip }
/-- RESULT of BUSY with DETAIL 0x01. -/
def Holder.result (h : Holder) : Nat := h.kind + h.ring * 256 + h.ip * 2 ^ 32
/-- An operation for the session starts its 300 s again (R432). -/
def State.touchSession (s : State) : State :=
  { s with upd := { s.upd with session := s.upd.session.map (fun x => { x with idleEnd := s.tsu.raw + 300 * secT }) } }
/-- The session ends for a cause. -/
def State.endSession (s : State) (cause : Nat) : State :=
  match s.upd.session with
  | none => s
  | some x =>
    let t : State := { s with upd := { s.upd with session := none } }
    ((t.setSf .UPD_EVT F.UPD_EVT_SESSION 1).event 20 0 0x0E01 1 [cause, x.source.kind, x.next]).updRefresh
/-- A session that nothing has touched for 300 s, and that no armed activation holds, has ended (R432). -/
def State.sessionDue (s : State) : State :=
  match s.upd.session with
  | some x => if x.idleEnd ≤ s.tsu.raw ∧ s.upd.armed = none then s.endSession 3 else s
  | none => s
/-- The operands of a UPD_STAGE. (DEDUCED, log 109) -/
def updFirst (d : Desc) : Bool := bit (d.pByte 8) 0
/-- The last stage of a bundle. (DEDUCED, log 109) -/
def updLast (d : Desc) : Bool := bit (d.pByte 8) 1
/-- A stage that cancels. (DEDUCED, log 111) -/
def updCancel (d : Desc) : Bool := bit (d.pByte 8) 2
/-- The refusals that a session's owner and the module's state give (R433). (DEDUCED, log 109) -/
def State.stageBusy (s : State) (h : Holder) (ident : Option Nat) : Option (Nat × Nat × Nat) :=
  if s.onTrial then some (stBUSY, 3, 0)
  else if s.upd.verified = true ∧ s.upd.armed.isSome = true then some (stBUSY, 4, 0)
  else
    match s.upd.session with
    | none => none
    | some x => if x.source ≠ h ∧ ident ≠ some x.ident then some (stBUSY, 1, x.source.result) else none
/-- The octets so far, the session and the journal after a part is programmed (R431). -/
def State.program (s : State) (x : Session) (data : List Byte) (last : Bool) : State :=
  let all := s.upd.staged.take x.next ++ data
  let next := x.next + data.length
  let durable := if last then x.total else next / 65536 * 65536
  let y : Session := { x with next := next, last := last, idleEnd := s.tsu.raw + 300 * secT }
  let t := ({ s with upd := { s.upd with staged := all, session := some y } }).setJournal
    (some { header := x.header, ident := x.ident, source := x.source, durable := durable, whole := last })
  if last then t.setBundle t.stagingSlot (some (bundleOf all)) else t
/-- A FIRST part: it opens a session, resumes the journal's, or joins the one held (R431). (DEDUCED, log 109, 110) -/
def State.stageFirst (s : State) (d : Desc) (h : Holder) : State :=
  let header := d.buf.take 512
  let ident := (Config.sha256 header).toNat
  let total := d.pNum 4 4
  let done (t : State) (n : Nat) : State := t.updRefresh.finish d { status := stOK, result := n }
  match s.upd.session with
  | some x =>
    if x.ident = ident then
      done ({ s with upd := { s.upd with session := some { x with source := h, idleEnd := s.tsu.raw + 300 * secT } } }) x.next
    else s.finish d { status := stERR_ARG, detail := 2, result := x.next }
  | none =>
    match s.upd.journal.bind (fun j => if j.ident = ident then some j else none) with
    | some j =>
      let x : Session := { source := h, ident := ident, total := total, next := j.durable, header := header, last := j.whole
                           idleEnd := s.tsu.raw + 300 * secT }
      done (({ s with upd := { s.upd with session := some x, staged := s.upd.staged.take j.durable } }).setJournal
        (some { j with source := h })) j.durable
    | none =>
      if total < d.len ∨ (updLast d = true ∧ d.len ≠ total) then s.fail d stERR_ARG 6
      else
        let x : Session := { source := h, ident := ident, total := total, next := 0, header := header, last := false, idleEnd := 0 }
        let t : State := { s with upd := { s.upd with staged := [], verified := false } }
        done ((t.setBundle t.stagingSlot none).program x d.buf (updLast d)) d.len
/-- A later part. -/
def State.stageNext (s : State) (d : Desc) (h : Holder) : State :=
  let off := d.pNum 0 4
  match s.upd.session with
  | none => s.finish d { status := stERR_ARG, detail := 2, result := 0 }
  | some x =>
    if d.pNum 4 4 ≠ x.total then s.fail d stERR_ARG 5
    else if off ≠ x.next ∨ x.last = true then s.finish d { status := stERR_ARG, detail := 2, result := x.next }
    else if x.total < off + d.len ∨ (updLast d = true ∧ off + d.len ≠ x.total) then s.fail d stERR_ARG 6
    else (s.program { x with source := h } d.buf (updLast d)).updRefresh.finish d { status := stOK, result := off + d.len }
/-- UPD_STAGE (R430 to R433); a part without a buffer completes here with ERR_ARG. -/
def execUpdStage (did : Nat) (read : HostRead) (s : State) : Host.Outcome State Fault Refusal :=
  quiet (fun s => s.operationIn did 0x70 read (fun d => !updCancel d) (fun s d =>
    let s := s.sessionDue
    let h := s.updHolder d
    let first := updFirst d
    let ident := if first = true ∧ 512 ≤ d.len then some (Config.sha256 (d.buf.take 512)).toNat else none
    if d.target ≠ 0 ∨ d.pByte 8 / 8 ≠ 0 ∨ d.pZero 9 32 = false ∨ d.len = 0 ∨ 65536 < d.len then s.fail d stERR_ARG
    else
      match s.stageBusy h ident with
      | some (st, detail, result) => s.finish d { status := st, detail := detail, result := result }
      | none =>
        if first then
          (if d.len < 512 ∨ headerFormed d.buf = false ∨ d.pNum 4 4 ≠ leAt d.buf 12 4 ∨ bundleMax < d.pNum 4 4 then s.fail d stERR_ARG 5
           else if d.pNum 0 4 ≠ 0 then
             s.finish d { status := stERR_ARG, detail := 2, result := (s.upd.session.map (fun x => x.next)).getD 0 }
           else s.stageFirst d h)
        else s.stageNext d h)) s
/-- UPD_STAGE with CANCEL (R432). (DEDUCED, log 111) -/
def execUpdStageCancel (did : Nat) (s : State) : Host.Outcome State Fault Refusal :=
  quiet (fun s => s.operation did 0x70 updCancel (fun s d =>
    let s := s.sessionDue
    if d.target ≠ 0 ∨ d.pByte 8 / 8 ≠ 0 ∨ d.pZero 9 32 = false ∨ d.len ≠ 0 then s.fail d stERR_ARG
    else
      match s.stageBusy (s.updHolder d) none, s.upd.session with
      | some (st, detail, result), _ => s.finish d { status := st, detail := detail, result := result }
      | none, none => s.finish d { status := stERR_ARG, detail := 2, result := 0 }
      | none, some _ =>
        let t : State := { s with upd := { s.upd with verified := false } }
        ((t.setJournal none).endSession 0).ok d)) s
/-- UPD_SESSION_IDLE (R432): an armed UPD_ACTIVATE holds the session. -/
def execUpdSessionIdle (s : State) : Host.Outcome State Fault Refusal :=
  quiet (fun s =>
    match s.upd.session with
    | none => s
    | some x => if s.upd.armed.isSome then s else (s.elapseTo x.idleEnd).endSession 3) s

/-! ## Verification (R434) -/

/-- The first check that fails: status and DETAIL. The header's own are the first; an unowned module ignores OSIG. -/
def State.bundleFails (s : State) (h : List Byte) (digest : Bool) (check : BundleCheck) : Option (Nat × Nat) :=
  if headerFormed h = false ∨ stepOk h = false then some (stERR_ARG, 2)
  else if digest = false then some (stDENIED, 3)
  else if check.vsigOk = false then some (stDENIED, 4)
  else if s.tack.owner.isSome = true ∧ check.osigOk = false then some (stDENIED, 5)
  else none
/-- UPD_VERIFY. (DEDUCED, log 111) -/
def execUpdVerify (did : Nat) (check : BundleCheck) (s : State) : Host.Outcome State Fault Refusal :=
  quiet (fun s => s.operation did 0x71 (fun _ => true) (fun s d =>
    let s := s.sessionDue
    let k := s.stagingSlot
    if d.target ≠ 0 ∨ d.param ≠ 0#256 then s.fail d stERR_ARG
    else if s.shed.down then s.fail d stERR_ABSENT
    else
      match s.upd.session with
      | none => (s.event 20 0 0x0E03 2 [1, k]).fail d stERR_ARG 1
      | some x =>
        if x.last = false then (s.event 20 0 0x0E03 2 [1, k]).fail d stERR_ARG 1
        else
          match s.bundleFails x.header (digestOk s.upd.staged) check with
          | some (st, detail) =>
            let t : State := { s with upd := { s.upd with verified := false, staged := [] } }
            ((((t.setBundle k none).setJournal none).event 20 0 0x0E03 2 [detail, k]).endSession 1).fail d st detail
          | none =>
            let v := leAt x.header 4 4
            let t := ({ s with upd := { s.upd with verified := true } }).touchSession
            ((t.event 20 0 0x0E02 1 [v, leAt x.header 8 2, k]).updRefresh).ok d v)) s

/-! ## Activation (R435, R436) -/

/-- Two levels differ by more than 1. -/
def levelsApart (a b : Nat) : Bool := decide (a + 1 < b ∨ b + 1 < a)
/-- CONFIRM of an activation. -/
def State.confirmOf (s : State) (d : Desc) : Nat := if d.pNum 0 2 = 0 then s.cf .UPD_CFG F.UPD_CFG_CONFIRM else d.pNum 0 2
/-- The checks that run at fetch and again when the action begins. -/
def State.activateFails (s : State) (d : Desc) : Option (Nat × Nat) :=
  let level := ((s.bundle s.stagingSlot).map (fun b => b.level)).getD 0
  if s.upd.verified = false then some (stERR_ARG, 1)
  else if levelsApart level s.level then some (stERR_ARG, 2)
  else if s.twinOn = true ∧ s.tw F.TWN_STAT_PEER_PRESENT = true ∧ levelsApart level s.twn.peerLevel = true then some (stERR_ARG, 3)
  else if s.confirmOf d < 60 ∨ 3600 < s.confirmOf d then some (stERR_ARG, 4)
  else if s.onTrial = true ∨ (s.upd.armed.isSome = true ∧ s.upd.armed ≠ some d.did) then some (stBUSY, 5)
  else none
/-- An activation begins: steps 1 to 3 of R436. Whether E's save reads back is left open. (DESIGN CHOICE, log 112; DEDUCED, log 182) -/
def State.activate (s : State) (d : Desc) : State :=
  let s : State := { s with upd := { s.upd with armed := if s.upd.armed = some d.did then none else s.upd.armed } }
  match s.activateFails d with
  | some (st, detail) => (s.fail d st detail).updRefresh
  | none =>
    let k := s.stagingSlot
    let t := s.writeBoot { s.upd.boot with active := k, trial := true, tries := 0, confirm := s.confirmOf d }
    let p : Pause := { did := d.did, start := t.tsu.raw, radioAt := if t.onAir = [] then some t.tsu.raw else none
                       radioMs := none, oldVersion := s.slotVersion s.slotNow }
    let t := t.stopCapture 4
    let t := t.endSession 2
    let u := t.fresh
    let t := u.2.save (u.1 % 2 = 0)
    let t : State := { t with upd := { t.upd with pause := some p }, air := { t.air with cache := [] } }
    ((t.setSf .HIF_STATUS F.HIF_STATUS_PAUSE 1).raiseCause 4).updRefresh
/-- UPD_ACTIVATE (R435). -/
def execUpdActivate (did : Nat) (s : State) : Host.Outcome State Fault Refusal :=
  quiet (fun s => s.operation did 0x72 (fun _ => true) (fun s d =>
    let s := s.sessionDue
    if d.target ≠ 0 ∨ d.pZero 2 32 = false then s.fail d stERR_ARG
    else
      match s.activateFails d with
      | some (st, detail) => s.fail d st detail
      | none =>
        if d.launch = true ∧ 4096 ≤ s.pend then s.fail d stBUSY
        else
          let t := s.touchSession
          let t : State := if d.launch then { t with upd := { t.upd with armed := some d.did } } else t
          (t.acceptLaunch d State.activate).updRefresh)) s
/-- RADIO_PAUSE_END (R436 step 3): the shed's ROM has judged its new image (R24); a processor that does not start resets the
module. -/
def execRadioPauseEnd (ok shedSig : Bool) (s : State) : Host.Outcome State Fault Refusal :=
  loud (fun s =>
    match s.upd.pause with
    | none => s
    | some p =>
      match p.radioAt, p.radioMs with
      | some r, none =>
        if ok then
          (s.hold (fun s => { s with upd := { s.upd with pause := some { p with radioMs := some ((s.tsu.raw - r) / msT) } } })).hold
            (fun s => s.shedBoot shedSig)
        else s.moduleReset 2 2 true
      | _, _ => s) s
/-- The bundle that runs shows in HIF_BUNDLE, HIF_STATUS and TWN_STAT (R30, R31, R373). -/
def State.showBundle (s : State) (k : Nat) (trial : Bool) : State :=
  let b := s.bundle k
  let t := (s.setSf .HIF_STATUS F.HIF_STATUS_SLOT k).setSf .HIF_STATUS F.HIF_STATUS_TRIAL (b2n trial)
  let t := (t.setSw .HIF_BUNDLE ((b.map (fun x => x.version)).getD 0)).setSf .TWN_STAT F.TWN_STAT_LEVEL
    ((b.map (fun x => x.level)).getD 0)
  { t with upd := { t.upd with meas := (b.map (fun x => x.meas)).getD 0 } }
/-- ACTIVATION_PAUSE_END (R436 step 6). (DEDUCED, log 182) -/
def execActivationPauseEnd (ok : Bool) (s : State) : Host.Outcome State Fault Refusal :=
  loud (fun s =>
    match s.upd.pause.bind (fun p => p.radioMs.map (fun r => (p, r))) with
    | none => s
    | some (p, r) =>
      if ok = false then s.moduleReset 2 2 true
      else s.hold (fun s =>
        let k := s.upd.boot.active
        let ms := (s.tsu.raw - p.start) / msT
        let t := s.showBundle k true
        let t : State := { t with upd := { t.upd with
          pause := none, verified := false, windowEnd := some (t.tsu.raw + t.upd.boot.confirm * secT) } }
        let t := (t.setSf .HIF_STATUS F.HIF_STATUS_PAUSE 0).setSf .UPD_EVT F.UPD_EVT_ACTIVATED 1
        let t := t.event 20 0 0x0E04 1 [p.oldVersion, t.slotVersion k, r, ms]
        let t := ((t.raiseCause 5).cqDrain.eqDrain).updRefresh
        let t := match t.desc? p.did with
          | some d => t.ok d (ms % 65536 + r % 65536 * 65536)
          | none => t
        t.actLatched)) s

/-! ## Confirmation (R438, R439) -/

/-- UPD_CONFIRM. -/
def execUpdConfirm (did : Nat) (s : State) : Host.Outcome State Fault Refusal :=
  quiet (fun s => s.operation did 0x73 (fun _ => true) (fun s d =>
    if d.target ≠ 0 ∨ d.param ≠ 0#256 then s.fail d stERR_ARG
    else if s.onTrial = false then s.fail d stERR_ARG 1
    else
      let t := s.writeBoot { s.upd.boot with trial := false, tries := 0 }
      let t : State := { t with upd := { t.upd with windowEnd := none } }
      let t := (t.setSf .HIF_STATUS F.HIF_STATUS_TRIAL 0).setSf .UPD_EVT F.UPD_EVT_CONFIRMED 1
      ((t.event 20 0 0x0E05 1 [t.slotVersion t.slotNow]).updRefresh).ok d)) s
/-- CONFIRM_WINDOW_EXPIRY (R439). -/
def execConfirmWindowExpiry (s : State) : Host.Outcome State Fault Refusal :=
  loud (fun s =>
    match s.upd.windowEnd with
    | none => s
    | some e => (s.hold (fun s => ((s.elapseTo e).setAnchorFlag 0 true).yieldFirst)).moduleReset 3 1 true) s

/-! ## The lizard loader (R442 to R446) -/

/-- What an entry with ERASE erases (R444). -/
def State.eraseAll (s : State) : State :=
  let t : State := { s with
    tack := { s.tack with owner := none, high := 0, window := 0, wk := none, roots := [], epoch := 0, epochNext := none }
    upd := { s.upd with slotA := none, slotB := none, boot := Boot.reset, staged := [], verified := false, erased := true }
    roll := Roll.reset, rollOld := Roll.reset, flt := { s.flt with slots := [] }, nvseg := NvSeg.reset }
  (((t.setJournal none).logCause 8 3).setSec F.SEC_STAT_PAIRED false).secRefresh.updRefresh
/-- A response of the maintenance port (R445). -/
def State.usbAnswer (s : State) (status detail : Nat) (data : List Byte) : State :=
  s.emit (.usb (le 1 status ++ le 1 detail ++ zeros 2 ++ le 4 data.length ++ data))
/-- The maintenance port serves a request now (R445, R546): the loader runs, the host's 5 V is there, and no request waits. (DEDUCED, log 113) -/
def State.usbServes (s : State) : Bool := s.clk.phase == .lizard && s.clk.vbus && s.upd.lizWait == 0
/-- BEGIN takes effect (R446). -/
def State.lizBeginNow (s : State) : State :=
  s.hold (fun s =>
  let t : State := { s with upd := { s.upd with
    slotA := none, slotB := none, boot := Boot.reset, staged := [], lizOpen := true, lizWait := 0 } }
  (t.usbAnswer stOK 0 []).updRefresh)
/-- ERASE takes effect: the answer, then a reset into the loader (R442, R444). (DEDUCED, log 113) -/
def State.lizEraseNow (s : State) : State :=
  let t := s.hold State.eraseAll
  let t : State := { t with upd := { t.upd with lizWait := 0, lizard := 3 } }
  (t.usbAnswer stOK 0 []).moduleReset 4 1 true
/-- Presence serves the loader's waiting request. (DEDUCED, log 107) -/
def State.lizPresence (s : State) : State :=
  if s.upd.lizWait = 1 then s.lizBeginNow else if s.upd.lizWait = 2 then s.lizEraseNow else s
/-- A request of the loader that needs presence: an open credit serves it, or it waits 60 s (R391, R445). -/
def State.lizAsk (s : State) (k : Nat) : State :=
  let t : State := { s with upd := { s.upd with lizWait := k, lizUntil := s.tsu.raw + 60 * secT } }
  if s.creditOpen then (t.hold State.dropCredit).lizPresence else t
/-- INFO. -/
def execLizInfo (s : State) : Host.Outcome State Fault Refusal :=
  quiet (fun s =>
    if s.usbServes = false then s
    else
      let id := (s.tack.owner.map (fun o => o.id)).getD 0
      s.usbAnswer stOK 0 (le 16 Config.devId.toNat ++ le 8 id ++ le 4 s.upd.boot.verA ++ le 4 s.upd.boot.verB
        ++ le 4 (s.regValue .host .HIF_ID).toNat ++ le 1 (b2n s.tack.owner.isSome + 2 * b2n s.upd.erased) ++ zeros 27)) s
/-- BEGIN: the octets of the request, and the shed's verdicts on the header. (DEDUCED, log 113) -/
def execLizBegin (read : List Byte) (check : BundleCheck) (s : State) : Host.Outcome State Fault Refusal :=
  loud (fun s =>
    if s.usbServes = false then s
    else if read.length ≠ 512 then s.usbAnswer stERR_ARG 2 []
    else
      match s.bundleFails read true check with
      | some (st, detail) => s.usbAnswer st detail []
      | none => ({ s with upd := { s.upd with lizHeader := some read, lizOpen := false } }).lizAsk 1) s
/-- DATA. (DEDUCED, log 113) -/
def execLizData (off : Nat) (data : List Byte) (s : State) : Host.Outcome State Fault Refusal :=
  quiet (fun s =>
    let next := s.upd.staged.length
    let total := (s.upd.lizHeader.map (fun h => leAt h 12 4)).getD 0
    if s.usbServes = false then s
    else if s.upd.lizOpen = false ∨ off ≠ next ∨ data = [] ∨ 65536 < data.length ∨ total < next + data.length then
      s.usbAnswer stERR_ARG 2 (le 4 next)
    else ({ s with upd := { s.upd with staged := s.upd.staged ++ data } }).usbAnswer stOK 0 []) s
/-- END: the checks of R434 on the whole bundle; OK commits slot A (R446). -/
def execLizEnd (check : BundleCheck) (s : State) : Host.Outcome State Fault Refusal :=
  quiet (fun s =>
    let all := s.upd.staged
    if s.usbServes = false then s
    else if s.upd.lizOpen = false ∨ all.length ≠ leAt all 12 4 then s.usbAnswer stERR_ARG 1 []
    else
      match s.bundleFails (all.take 512) (digestOk all) check with
      | some (st, detail) => s.usbAnswer st detail []
      | none =>
        let t : State := { s with upd := { s.upd with slotA := some (bundleOf all), lizHeader := none, lizOpen := false } }
        let t := t.writeBoot { t.upd.boot with active := 0, trial := false, tries := 0 }
        (t.usbAnswer stOK 0 []).updRefresh) s
/-- RESET. -/
def execLizReset (s : State) : Host.Outcome State Fault Refusal :=
  loud (fun s => if s.usbServes then (s.usbAnswer stOK 0 []).moduleReset 3 2 true else s) s
/-- ERASE: a sealed LIZARD_ENTER with ERASE, checked as R384 gives. -/
def execLizErase (env : Envelope) (sigOk : Bool) (s : State) : Host.Outcome State Fault Refusal :=
  loud (fun s =>
    if s.usbServes = false then s
    else
      match s.envCheck env sigOk with
      | some detail => s.usbAnswer stDENIED detail []
      | none =>
        if env.op ≠ 0xCB ∨ env.target ≠ 1 then s.usbAnswer stDENIED 8 []
        else (s.hold (fun s => (s.takeCtr env.ctr).secRefresh)).lizAsk 2) s
/-- MAINTENANCE_PORT_ATTACH (R485, R546). (DEDUCED, log 149) -/
def execMaintenancePortAttach (attached : Bool) (s : State) : Host.Outcome State Fault Refusal :=
  quiet (fun s => { s with clk := { s.clk with vbus := attached } }) s

end Sys2Proof.Machine
end

