-- ==== Sys2Proof/Machine/Launch.lean ====
section
/-! DEFINITION. Sys2Proof/Machine/Launch.lean: launch slots: arming a launch-timed action, and its firing (R54, R187, R281 to
R283). -/
namespace Sys2Proof.Machine

/-- The class of slot that an action takes (R281). -/
def Desc.slotClass (d : Desc) : SlotClass :=
  match d.op with
  | 0x40 => .port (d.target % 8)
  | 0x50 => .drive
  | 0x51 => .drive
  | _ => .general
/-- TSU ticks after its instant from which a slot's action counts as late (R282). (DEDUCED, log 24) -/
def State.slack (s : State) : SlotClass → Nat
  | .radio _ => 250
  | .port p => if s.sf (.SWX_PORT_STAT p) F.SWX_PORT_STAT_RATE = 1 then 4 else 8
  | _ => msT
/-- A port's launched frame starts, or is discarded where the link is down (R282, R283): an earlier one still on the wire
delays it, and it is late. (DEDUCED, log 25) -/
def State.firePort (s : State) (d : Desc) (p : Nat) : State :=
  if s.linkUp p = false then s.fail d stABORTED 1
  else if s.portBlocked p then s.fail d stABORTED 1
  else
    let busy := Tbl.get 0 s.swx.launchEnd p
    let late := d.late || decide (s.tsu.raw < busy)
    let t := (s.elapseTo busy).updDesc d.did (fun x => { x with late := late })
    let t : State := { t with swx := { t.swx with launchEnd := Tbl.put 0 t.swx.launchEnd p (t.tsu.raw + t.frameT p d.buf) } }
    t.portSend p d.buf (some d.did) (sendTs d) false
/-- A launch-timed action begins: its slot has fired, or could not be armed in time (R54, R281). A unicast or group message
becomes eligible (R145). -/
def State.fireDesc (s : State) (d0 : Desc) (late : Bool) : State :=
  let d := { d0 with late := late, stage := .fired }
  let t := s.updDesc d.did (fun _ => d)
  let now := { d with stage := .begun, actTime := some t.outputTime }
  let b := t.updDesc d.did (fun _ => now)
  match d.op with
  | 0x04 => if d.target = 0x0701 then b.flushNow now else b.paramNow now
  | 0x20 => t.updDesc d.did (fun x => { x with stage := .queued })
  | 0x21 => t.updDesc d.did (fun x => { x with stage := .queued })
  | 0x22 => b.yardCtlRun now
  | 0x40 => t.firePort d (d.target % 8)
  | 0x50 => t.driveSetNow d
  | 0x51 => t.driveLatchNow d
  | _ => b.activate now
/-- LAUNCH_SLOT_ARM: from 60 s before LAUNCH_TIME an accepted action takes a slot of its class; one with no free slot by the
latest arming instant waits for the first that frees, and then begins at once, late (R54, R281). -/
def execLaunchSlotArm (did : Nat) (s : State) : Host.Outcome State Fault Refusal :=
  quiet (fun s =>
    match s.desc? did with
    | none => s
    | some d =>
      if d.stage ≠ .launchWait ∨ d.op = 0x18 ∨ s.paused = true then s
      else
        let t := s.elapseOut ((d.launchTime : Int) - 60 * secT)
        if t.slotFree d.slotClass = false then t
        else if t.outputTime ≤ (d.launchTime : Int) - d.slotClass.limit then
          (t.takeSlot { cls := d.slotClass, did := did, time := d.launchTime, scene := none, yards := 0, late := false }).updDesc did
            (fun x => { x with stage := .armed })
        else t.fireDesc d true) s

/-! ## A scene's slots (R187) -/

/-- A scene-now frame asks for its chain. -/
def State.fireSceneFrame (s : State) (c : Scene) (id yards : Nat) : State :=
  let mask (f : Nat × Nat × List Nat) : Nat := (f.2.2.map (fun y => 2 ^ y)).foldl (· + ·) 0
  match (s.sceneFrames c).find? (fun f => mask f == yards) with
  | some f =>
    let y := f.2.2.headD 0
    s.ask { id := 0, kind := .sceneNow id, yard := y, yards := yards, chain := s.yardChain y, chan := f.1, mode := f.2.1
            len := s.psduLen y 11, latest := none, endBy := none, waited := false, heldBy := none, words := 0, queued := true }
  | none => s.modScene id (fun c => { c with left := c.left - 1 })
/-- A slot of a scene fires. -/
def State.fireSceneSlot (s : State) (x : Slot) (id : Nat) : State :=
  match s.scene? id with
  | none => s
  | some c =>
    let s := s.modScene id (fun c => { c with late := c.late || x.late })
    let t := match x.cls with
      | .radio _ => s.fireSceneFrame c id x.yards
      | _ => s.sceneDrive c
    t.checkScene id
/-- A slot of a descriptor fires, whatever kind its action is of. (DEDUCED, log 25) -/
def State.fireSlot (s : State) (x : Slot) : State :=
  match x.scene with
  | some id => s.fireSceneSlot x id
  | none =>
    match s.desc? x.did with
    | some d => s.fireDesc d (x.late || decide ((x.time : Int) + s.slack x.cls < s.outputTime))
    | none => s
/-- A slot may not fire: an activation pause holds general and radio slots, and of two port slots whose frames overlap the
earlier-armed one fires first (R65, R283, R436). -/
def State.slotHeld (s : State) (x : Slot) : Bool :=
  match x.cls with
  | .general => s.paused
  | .radio _ => s.radioPaused
  | .port _ => s.portHeld x
  | .drive => false
/-- LAUNCH_SLOT_FIRE: the armed slots of a descriptor fire when the output time reaches their instant, and free; a slot that
an action waited for fires at once (R54, R187, R281 to R283). (DEDUCED, log 25) -/
def execLaunchSlotFire (did : Nat) (s : State) : Host.Outcome State Fault Refusal :=
  quiet (fun s =>
    let mine := s.armedSlots.filter (fun x => x.did == did && !s.slotHeld x)
    let now := mine.filter (fun x => x.late)
    let fires := if now = [] then mine else now
    let t := if now = [] then fires.foldl (fun u x => u.elapseOut x.time) s else s
    if fires = [] then s
    else fires.foldl State.fireSlot (t.putSlots (t.tsu.slots.filter (fun k => !fires.contains k)))) s

end Sys2Proof.Machine
end

