-- ==== Sys2Proof/Machine/Trust.lean ====
section
/-! DEFINITION. Sys2Proof/Machine/Trust.lean: physical presence, the trust operations, the tamper monitor's samples,
attestation (R382, R388 to R400, R442, R527). -/
namespace Sys2Proof.Machine

/-! ## Physical presence (R390 to R392) -/

/-- The 60 s of the command that waits for presence have passed (R391). -/
def State.pendTimeout (s : State) : State :=
  match s.shed.pend with
  | none => s
  | some p =>
    let t : State := { s with shed := { s.shed with pend := none } }
    match t.desc? p.1 with
    | some d => ((t.presenceDone 1).event 14 0 0x0C03 2 [d.op]).fail d stNEEDS_PRESENCE
    | none => t
/-- The same, where they have passed already. -/
def State.pendDue (s : State) : State := if s.shed.pend.any (fun p => decide (p.2 < s.tsu.raw)) then s.pendTimeout else s
/-- Presence is given, by button (0) or by seal (1): it serves what waits for it, or opens a credit of 60 s. In the lizard
loader it is judged alike (R388, R445). (DEDUCED, log 157) -/
def State.presence (s : State) (procedure : Nat) : State :=
  let t := s.hold (fun s => (s.logTamper (if procedure = 0 then 6 else 5)).setSf .SEC_EVT F.SEC_EVT_PRESENCE 1)
  if t.upd.lizWait ≠ 0 ∧ t.tsu.raw ≤ t.upd.lizUntil then
    (t.event 14 0 0x0C02 1 [procedure, if t.upd.lizWait = 2 then 0xCB else 0xFF]).lizPresence
  else t.hold (fun t =>
    let t := t.pendDue
    let credit : State := ({ t with shed := { t.shed with creditEnd := t.tsu.raw + 60 * secT } }).setSec F.SEC_STAT_CREDIT true
    match t.shed.pend with
    | some p =>
      let op := ((t.desc? p.1).map (fun d => d.op)).getD 0xFF
      ((({ t with shed := { t.shed with pend := none } }).presenceDone 0).event 14 0 0x0C02 1 [procedure, op]).envReady p.1
    | none => credit.event 14 0 0x0C02 1 [procedure, 0xFF])
/-- Presence may be given: main power holds, the module is out of reset, and the procedure is allowed (R390). -/
def State.presenceAllowed (s : State) (f : Fld) : Bool := s.shedRuns && s.cf .SEC_TAMPER_CFG f == 1
/-- PRESENCE_BUTTON: PRESENCE_BTN has read 1 for `ms` milliseconds without a longer break than 20 ms. -/
def execPresenceButton (ms : Nat) (s : State) : Host.Outcome State Fault Refusal :=
  loud (fun s => if 5000 ≤ ms ∧ s.presenceAllowed F.SEC_TAMPER_CFG_BTN_PRES = true then s.presence 0 else s) s
/-- SEAL_OPEN is logged, where SEAL_EN lets it. -/
def State.sealTamper (s : State) : State :=
  if s.cf .SEC_TAMPER_CFG F.SEC_TAMPER_CFG_SEAL_EN = 1 then s.logTamper 2 else s
/-- SEAL_LOOP opens: a sequence begins, where it can give presence. -/
def State.sealOpens (s : State) : State :=
  let t := s.setSf .SEC_TAMPER_IN F.SEC_TAMPER_IN_SEAL 0
  if t.presenceAllowed F.SEC_TAMPER_CFG_SEAL_PRES = true ∧ t.sf .SEC_TAMPER_IN F.SEC_TAMPER_IN_DOOR = 1 then
    { t with shed := { t.shed with sealAt := some t.tsu.raw } }
  else t.sealTamper
/-- A sequence that cannot give presence any more. -/
def State.sealFails (s : State) : State := ({ s with shed := { s.shed with sealAt := none } }).sealTamper
/-- SEAL_LOOP closes: presence after 1 s to 30 s, tamper otherwise (R390, R395). -/
def State.sealCloses (s : State) : State :=
  let t := s.setSf .SEC_TAMPER_IN F.SEC_TAMPER_IN_SEAL 1
  match t.shed.sealAt with
  | none => t
  | some r =>
    if r + secT ≤ t.tsu.raw ∧ t.tsu.raw ≤ r + 30 * secT then ({ t with shed := { t.shed with sealAt := none } }).presence 1
    else t.hold State.sealFails
/-- PRESENCE_SEAL: SEAL_LOOP opens, if it has not, and closes `openMs` milliseconds after its opening. -/
def execPresenceSeal (openMs : Nat) (s : State) : Host.Outcome State Fault Refusal :=
  loud (fun s =>
    let t := if s.sf .SEC_TAMPER_IN F.SEC_TAMPER_IN_SEAL = 1 then s.hold State.sealOpens else s
    let since := t.shed.sealAt.getD t.tsu.raw
    (t.elapseTo (since + openMs * msT)).sealCloses) s
/-- PRESENCE_TIMEOUT (R391, R445). -/
def execPresenceTimeout (s : State) : Host.Outcome State Fault Refusal :=
  quiet (fun s =>
    if s.upd.lizWait ≠ 0 then
      let t := s.elapseTo s.upd.lizUntil
      (({ t with upd := { t.upd with lizWait := 0 } }).event 14 0 0x0C03 2 [if s.upd.lizWait = 2 then 0xCB else 0xFF]).usbAnswer
        stNEEDS_PRESENCE 0 []
    else
      match s.shed.pend with
      | none => s
      | some p => (s.elapseTo p.2).pendTimeout) s
/-- PRESENCE_CREDIT_EXPIRY (R391). -/
def execPresenceCreditExpiry (s : State) : Host.Outcome State Fault Refusal :=
  quiet (fun s => if s.sec F.SEC_STAT_CREDIT then (s.elapseTo s.shed.creditEnd).dropCredit else s) s
/-- PRESENCE_WINDOW_EXPIRY (R392). -/
def execPresenceWindowExpiry (s : State) : Host.Outcome State Fault Refusal :=
  quiet (fun s => if s.sec F.SEC_STAT_WINDOW then (s.elapseTo s.shed.windowEnd).closeWindow else s) s

/-! ## The tamper monitor (R394, R395) -/

/-- The door switch as sampled, closed or open. -/
def State.sampleDoor (s : State) (closed : Bool) : State :=
  let was := s.sf .SEC_TAMPER_IN F.SEC_TAMPER_IN_DOOR
  let t := s.setSf .SEC_TAMPER_IN F.SEC_TAMPER_IN_DOOR (b2n closed)
  let t := if closed = false ∧ t.shed.sealAt.isSome = true then t.sealFails else t
  if was = 1 ∧ closed = false ∧ t.cf .SEC_TAMPER_CFG F.SEC_TAMPER_CFG_DOOR_EN = 1 then t.logTamper 1 else t
/-- The seal loop as sampled. -/
def State.sampleSeal (s : State) (closed : Bool) : State :=
  if s.sf .SEC_TAMPER_IN F.SEC_TAMPER_IN_SEAL = 1 then (if closed then s else s.hold State.sealOpens)
  else if closed then s.sealCloses
  else
    match s.shed.sealAt with
    | some r => if r + 30 * secT < s.tsu.raw then s.hold State.sealFails else s
    | none => s
/-- The mesh as sampled. -/
def State.sampleMesh (s : State) (m : Mesh) : State :=
  let was := s.sf .SEC_TAMPER_IN F.SEC_TAMPER_IN_MESH_OK
  let t := s.setSf .SEC_TAMPER_IN F.SEC_TAMPER_IN_MESH_OK (b2n (m == .intact))
  if was = 1 ∧ m ≠ .intact then
    let t := t.logTamper 3
    if t.shedRuns then t.zeroise else { t with shed := { t.shed with meshPending := true } }
  else t
/-- TAMPER_SAMPLE, at every 8th RTC tick: the level of DOOR_SW, SEAL_LOOP closed, PRESENCE_BTN pressed, and the mesh. DOOR_POL
says which level of DOOR_SW reads closed (R401). -/
def execTamperSample (door sealLoop btn : Bool) (mesh : Mesh) (s : State) : Host.Outcome State Fault Refusal :=
  loud (fun s =>
    if s.newt.halted then s
    else
    let t := s.elapseRtc (s.newt.tick - s.newt.tick % 8 + 8)
    let t := t.setSf .SEC_TAMPER_IN F.SEC_TAMPER_IN_BTN (b2n btn)
    (t.hold (fun t => (t.sampleDoor (door == (t.cf .SEC_TAMPER_CFG F.SEC_TAMPER_CFG_DOOR_POL == 1))).sampleMesh mesh)).sampleSeal
      sealLoop) s

/-! ## Trust operations (R388, R389) -/

/-- A trust operation with no data, no PARAM and no launch time. (DEDUCED, log 99) -/
def trustBare (d : Desc) : Bool := d.len == 0 && d.param == 0#256 && !d.launch
/-- What every owner-key operation does beside its own (R389, R434). (DEDUCED, log 101) -/
def State.ownerDone (s : State) (d : Desc) (kind : Nat) : State :=
  let gen := (s.tack.owner.map (fun o => o.gen)).getD 0
  let t : State := { s with upd := { s.upd with verified := false } }
  ((((t.logCause 8 kind).event 14 0 0x0C04 2 [kind, gen]).secRefresh).updRefresh).ok d
/-- The operands of an owner-key operation: 130 octets. -/
def ownerArgsOk (d : Desc) : Bool := d.len == 130 && d.target == 0 && d.param == 0#256 && !d.launch
/-- OWNER_ID of the new key. -/
def newOwner (d : Desc) : Nat := (Config.ownerId (d.buf.take 65)).toNat
/-- The shed generates WK. (DESIGN CHOICE, log 8) -/
def State.newWk (s : State) : State :=
  let h := s.freshHandle
  ({ h.2 with tack := { h.2.tack with wk := some h.1 } }).setSec F.SEC_STAT_PAIRED false
/-- HIGH becomes an accepted counter; what the window tells of the counters below it stays (R389). -/
def State.highIs (s : State) (ctr : Nat) : State :=
  { s with tack := { s.tack with high := ctr, window := s.tack.window / 2 ^ (s.tack.high - ctr) } }
/-- OWNER_ENROL: an owned module has its owner already, and denies it. (DEDUCED, log 96, 99) -/
def execOwnerEnrol (did : Nat) (s : State) : Host.Outcome State Fault Refusal :=
  quiet (fun s => s.operation did 0xC0 (fun _ => true) (fun s d =>
    if ownerArgsOk d = false then s.fail d stERR_ARG
    else if s.tack.owner.isSome then s.fail d stDENIED
    else
      let t : State := State.highIs { s with tack := { s.tack with owner := some { id := newOwner d, gen := 1 } } } d.work
      let h := t.newWk.freshHandle
      let t := h.2.modPad 0 (fun x => { x with key := h.1, epoch := h.2.epoch8 })
      t.ownerDone d 0)) s
/-- The new key replaces the current one; OWNER_GEN counts. -/
def State.rollOwner (s : State) (d : Desc) : State :=
  let gen := (s.tack.owner.map (fun o => o.gen)).getD 0
  { s with tack := { s.tack with owner := some { id := newOwner d, gen := (gen + 1) % 2 ^ 32 } } }
/-- OWNER_ROLL. (DEDUCED, log 99) -/
def execOwnerRoll (did : Nat) (s : State) : Host.Outcome State Fault Refusal :=
  quiet (fun s => s.operation did 0xC1 (fun _ => true) (fun s d =>
    if ownerArgsOk d = false then s.fail d stERR_ARG else (s.rollOwner d).ownerDone d 1)) s
/-- OWNER_CHANGE: HIGH becomes CTR, the join roots go, and WK is generated where none is held (R389, R395). (DEDUCED, log 99) -/
def execOwnerChange (did : Nat) (s : State) : Host.Outcome State Fault Refusal :=
  quiet (fun s => s.operation did 0xC2 (fun _ => true) (fun s d =>
    if ownerArgsOk d = false then s.fail d stERR_ARG
    else
      let t := (s.rollOwner d).highIs d.work
      let t : State := { t with tack := { t.tack with roots := [] } }
      let t := if t.tack.wk.isNone then t.newWk else t
      t.ownerDone d 2)) s
/-- PRESENCE_OPEN (R388, R392). -/
def execPresenceOpen (did : Nat) (s : State) : Host.Outcome State Fault Refusal :=
  quiet (fun s => s.operation did 0xC3 (fun _ => true) (fun s d =>
    if trustBare d = false ∨ d.target < 10 ∨ 600 < d.target then s.fail d stERR_ARG else (s.openPresence d.target).ok d)) s
/-- PRESENCE_CLOSE. -/
def execPresenceClose (did : Nat) (s : State) : Host.Outcome State Fault Refusal :=
  quiet (fun s => s.operation did 0xC4 (fun _ => true) (fun s d =>
    if trustBare d = false ∨ d.target ≠ 0 then s.fail d stERR_ARG else s.closeWindow.ok d)) s
/-- DEBUG_UNLOCK (R393). -/
def execDebugUnlock (did : Nat) (s : State) : Host.Outcome State Fault Refusal :=
  quiet (fun s => s.operation did 0xC5 (fun _ => true) (fun s d =>
    if trustBare d = false ∨ d.target ≠ 0 then s.fail d stERR_ARG
    else
      let n := (s.tack.unlocks + 1) % 2 ^ 32
      let t : State := { s with air := { s.air with cache := [] }, tack := { s.tack with unlocks := n } }
      (((t.setSec F.SEC_STAT_DEBUG true).logTamper 7).event 14 0 0x0C07 4 [n]).ok d)) s
/-- JOINROOT_LOAD (R382): `unwrapOk` is the verdict of the key unwrap. (DEDUCED, log 104) -/
def execJoinrootLoad (did : Nat) (unwrapOk : Bool) (s : State) : Host.Outcome State Fault Refusal :=
  quiet (fun s => s.operation did 0xC6 (fun _ => true) (fun s d =>
    let index := leAt d.buf 0 1
    let plen := leAt d.buf 1 1
    let pref := leAt d.buf 2 8
    if d.len ≠ 99 ∨ d.target ≠ 0 ∨ d.param ≠ 0#256 ∨ d.launch = true ∨ 31 < index ∨ 64 < plen ∨ pref % 2 ^ (64 - plen) ≠ 0 then
      s.fail d stERR_ARG
    else if unwrapOk = false then s.fail d stERR_ARG 1
    else
      let h := s.freshHandle
      let t : State := { h.2 with tack := { h.2.tack with
        roots := (h.2.tack.roots.filter (fun r => r.1 != index)) ++ [(index, { plen := plen, pref := pref, key := h.1 })] } }
      ((t.event 14 0 0x0C0A 1 [index, plen, 0]).secRefresh).ok d)) s
/-- JOINROOT_DELETE. (DEDUCED, log 104) -/
def execJoinrootDelete (did : Nat) (s : State) : Host.Outcome State Fault Refusal :=
  quiet (fun s => s.operation did 0xC7 (fun _ => true) (fun s d =>
    if trustBare d = false ∨ 32 ≤ d.target then s.fail d stERR_ARG
    else
      match s.tack.roots.find? (fun r => r.1 == d.target) with
      | none => s.ok d
      | some r =>
        let t : State := { s with tack := { s.tack with roots := s.tack.roots.filter (fun q => q.1 != d.target) } }
        ((t.event 14 0 0x0C0A 1 [d.target, r.2.plen, 1]).secRefresh).ok d)) s
/-- TWIN_PAIR (R399): `peer` is what the peer shows over the lane. (DEDUCED, log 105) -/
def execTwinPair (did : Nat) (peer : PairCheck) (s : State) : Host.Outcome State Fault Refusal :=
  quiet (fun s => s.operation did 0xC8 (fun _ => true) (fun s d =>
    if trustBare d = false ∨ d.target ≠ 0 then s.fail d stERR_ARG
    else if s.twinRole ≠ 3 ∨ s.tw F.TWN_STAT_LANE_OK = false then s.fail d stERR_ARG 4
    else if peer.certOk = false then s.fail d stERR_ARG 2
    else if s.tack.owner.map (fun o => o.id) ≠ some peer.owner then s.fail d stERR_ARG 3
    else
      match s.tack.wk with
      | none => s.fail d stERR_ARG
      | some k =>
        let t := (s.laneSend (.wk k (Config.devId.toNat % 2 ^ 64))).setSec F.SEC_STAT_PAIRED true
        (t.event 14 0 0x0C09 1 [peer.devid % 2 ^ 64]).ok d)) s
/-- TAMPER_CLEAR (R388, R396). -/
def execTamperClear (did : Nat) (s : State) : Host.Outcome State Fault Refusal :=
  quiet (fun s => s.operation did 0xC9 (fun _ => true) (fun s d =>
    if trustBare d = false ∨ d.target ≠ 0 then s.fail d stERR_ARG
    else ((s.setSec F.SEC_STAT_TAMPER false).setSec F.SEC_STAT_TAMPER_LOST false).ok d)) s
/-- OSC_CLEAR (R527). -/
def execOscClear (did : Nat) (s : State) : Host.Outcome State Fault Refusal :=
  quiet (fun s => s.operation did 0xCA (fun _ => true) (fun s d =>
    if trustBare d = false ∨ d.target ≠ 0 then s.fail d stERR_ARG
    else if s.sf .CLK_SRC_STAT ⟨3, 2⟩ ≠ 1 then s.fail d stBUSY
    else if s.sf .NEWT_STAT F.NEWT_STAT_OSC_STOP = 0 then s.ok d
    else ((s.setSf .NEWT_STAT F.NEWT_STAT_OSC_STOP 0).event 2 0 0x1103 1 []).ok d)) s
/-- LIZARD_ENTER (R441, R442): no sooner than 1 ms after its completion. -/
def execLizardEnter (did : Nat) (s : State) : Host.Outcome State Fault Refusal :=
  loud (fun s => s.operation did 0xCB (fun _ => true) (fun s d =>
    if trustBare d = false ∨ 2 ≤ d.target then s.fail d stERR_ARG
    else
      let t := s.hold (fun s =>
        let t := (s.ok d).yieldFirst
        if t.upd.session.isSome then (t.setJournal none).endSession 5 else t)
      let t : State := { t with upd := { t.upd with lizard := d.target + 1 } }
      (t.elapse msT).moduleReset 4 d.target true)) s

/-! ## Attestation (R397, R398) -/

/-- The tamper history, oldest first, filled with zeros to `n` entries. (DESIGN CHOICE, log 106) -/
def State.historyBytes (s : State) (n : Nat) : List Byte := fitBytes (8 * n) ((s.tack.history.take n).reverse.flatten)
/-- The report (R398). (DESIGN CHOICE, log 106) -/
def State.report (s : State) (nonce : Nat) : List Byte :=
  let b (f : Fld) (k : Nat) : Nat := s.sf .SEC_STAT f * 2 ^ k
  let flags := b F.SEC_STAT_OWNED 0 + b F.SEC_STAT_PAIRED 1 + b F.SEC_STAT_DEBUG 2 + b2n s.onTrial * 8 + s.slotNow * 16
    + b F.SEC_STAT_TAMPER 5 + b F.SEC_STAT_TAMPER_LOST 6 + b F.SEC_STAT_ZEROISED 7 + b2n s.winOpen * 256
    + s.sf .NEWT_STAT F.NEWT_STAT_OSC_STOP * 512
  let owner := s.tack.owner.getD { id := 0, gen := 0 }
  le 4 0x41545431 ++ le 2 1 ++ le 2 flags ++ le 16 Config.devId.toNat ++ le 16 nonce
    ++ (le 32 s.upd.meas).reverse ++ le 4 (s.regValue .host .HIF_BUNDLE).toNat ++ le 8 owner.id ++ le 4 owner.gen ++ le 8 s.tack.high
    ++ le 4 s.ownClaim ++ le 2 (s.cf .YRD_MAC_SEG F.YRD_MAC_SEG_SEGID) ++ zeros 2 ++ le 8 (twos 64 s.outputTime) ++ le 6 s.newt.tick
    ++ zeros 2 ++ le 4 (s.sts.get .SEC_TAMPER_CNT).toNat ++ (s.shed.counts.map (le 1)).flatten ++ s.historyBytes 8
    ++ le 4 s.tack.unlocks ++ zeros 12
/-- A tagged COSE_Sign1 by IK with kid = DEVID in its protected header; the signature is a free value. (DESIGN CHOICE, log 106) -/
def State.coseSign (s : State) (payload : List Byte) : List Byte × State :=
  let sig := s.freshBytes 64
  ([0xD2#8, 0x84#8, 0x55#8, 0xA2#8, 0x01#8, 0x26#8, 0x04#8, 0x50#8] ++ le 16 Config.devId.toNat ++ [0xA0#8, 0x58#8]
    ++ le 1 payload.length ++ payload ++ [0x58#8, 0x40#8] ++ sig.1, sig.2)
/-- ATTEST REPORT; a selector that R397 does not list completes here with ERR_ARG. -/
def execAttestReport (did : Nat) (s : State) : Host.Outcome State Fault Refusal :=
  quiet (fun s => s.operation did 0x61 (fun d => d.pByte 0 != 1 && d.pByte 0 != 2) (fun s d =>
    if d.pByte 0 ≠ 0 ∨ d.target ≠ 0 ∨ d.pZero 1 16 = false ∨ d.len < 512 then s.fail d stERR_ARG
    else if s.shed.down then s.fail d stERR_ABSENT
    else
      let r := s.coseSign (s.report (d.pNum 16 16))
      r.2.okData d r.1 r.1.length)) s
/-- ATTEST CERT. -/
def execAttestCert (did : Nat) (s : State) : Host.Outcome State Fault Refusal :=
  quiet (fun s => s.operation did 0x61 (fun d => d.pByte 0 == 1) (fun s d =>
    if d.target ≠ 0 ∨ d.pZero 1 32 = false ∨ d.len < 2048 then s.fail d stERR_ARG
    else if s.shed.down then s.fail d stERR_ABSENT
    else s.okData d Config.certificate (min Config.certificate.length d.len))) s
/-- ATTEST HISTORY. -/
def execAttestHistory (did : Nat) (s : State) : Host.Outcome State Fault Refusal :=
  quiet (fun s => s.operation did 0x61 (fun d => d.pByte 0 == 2) (fun s d =>
    if d.target ≠ 0 ∨ d.pZero 1 32 = false ∨ d.len < 512 then s.fail d stERR_ARG
    else if s.shed.down then s.fail d stERR_ABSENT
    else s.okData d (s.historyBytes 64) 512)) s

end Sys2Proof.Machine
end

