-- ==== Sys2Proof/Machine/Start.lean ====
section
/-! DEFINITION. Sys2Proof/Machine/Start.lean: the start of the module: which slot starts, the lizard loader, and what firmware
restores before READY (R23, R24, R77, R135, R205, R224, R336, R377, R395, R396, R429, R442, R460, R465, R467, R500, R512,
R516, R527). -/
namespace Sys2Proof.Machine

/-! ## Which slot starts (R429) -/

/-- What the boot ROM chooses: the slot, whether it is on trial, the slot that was reverted with the cause, and the slot
that failed. -/
structure BootChoice where
  slot : Option Nat
  trial : Bool
  reverted : Option (Nat × Nat)
  failed : Option Nat
  deriving DecidableEq, Repr

/-- The boot record after the trial's part of R429, with the reverted slot and its cause. -/
def trialStart (b : Boot) (revert : Bool) : Boot × Option (Nat × Nat) :=
  if b.trial then
    (if revert ∨ b.tries = 2 then
      ({ b with active := 1 - b.active, trial := false, tries := 0 }, some (b.active, if revert then 0 else 1))
     else ({ b with tries := b.tries + 1 }, none))
  else (b, none)
/-- A slot is valid (R429): its header and its image's checks. -/
def State.slotValid (s : State) (inp : StartInput) (k : Nat) : Bool :=
  ((s.bundle k).map (fun b => b.headerOk)).getD false && (if k = 0 then inp.slotA else inp.slotB)
/-- The boot ROM's choice, and the boot record that it leaves. -/
def State.boot (s : State) (inp : StartInput) : BootChoice × State :=
  let b : Boot := if s.upd.boot.valid then s.upd.boot else Boot.reset
  let r := trialStart b (s.anchorFlag 0)
  let t := if b.trial then (s.setAnchorFlag 0 false).writeBoot r.1 else s
  if t.slotValid inp r.1.active then
    ({ slot := some r.1.active, trial := r.1.trial, reverted := r.2, failed := none }, t)
  else if t.slotValid inp (1 - r.1.active) then
    ({ slot := some (1 - r.1.active), trial := false, reverted := r.2, failed := some r.1.active },
      t.writeBoot { r.1 with active := 1 - r.1.active, trial := false })
  else ({ slot := none, trial := false, reverted := r.2, failed := none }, t)

/-! ## The lizard loader (R442 to R444) -/

/-- The boot ROM enters the lizard loader. -/
def State.enterLizard (s : State) (inp : StartInput) : State :=
  let why := min s.upd.lizard 2
  let t : State := { s with
    clk := { s.clk with phase := .lizard }, shed := { s.shed with identity := inp.identity }
    upd := { s.upd with lizard := 0, erased := decide (2 ≤ s.upd.lizard) } }
  let t := if s.upd.lizard = 2 then t.eraseAll else t
  (((t.event 20 0 0x0E08 4 [why]).copyLog).secRefresh).updRefresh

/-! ## What firmware restores -/

/-- The bundle that starts, and what M0 records of the choice (R429). -/
def State.startBundle (s : State) (c : BootChoice) (k : Nat) : State :=
  let t := s.showBundle k c.trial
  let t := match c.reverted with
    | some (old, cause) =>
      (t.setSf .UPD_EVT F.UPD_EVT_REVERTED 1).event 20 0 0x0E06 3 [t.slotVersion old, cause, t.slotVersion k]
    | none => t
  match c.failed with
  | some f => (t.setSf .UPD_EVT F.UPD_EVT_REVERTED 1).event 20 0 0x0E07 4 [f, k]
  | none => t
/-- MAGIC of the anchor registers (R511). (DEDUCED, log 146) -/
def newtMagic : Nat := 0x4E455754
/-- M0 finds whether the newt domain has taken a power-on reset (R512), and copies the compensation curve (R516). (DEDUCED, log 123) -/
def State.startNewt (s : State) : State :=
  let lost := decide (s.sf (.NEWT_ANCHOR 15) F.word = 0)
  let t := if lost then (s.setSf .NEWT_STAT F.NEWT_STAT_NPOR 1).event 2 0 0x1101 2 [] else s
  (((((t.setSw (.NEWT_ANCHOR 15) newtMagic).setSf .NEWT_TC_CURVE F.NEWT_TC_CURVE_K Config.tcK.toNat).setSf
    .NEWT_TC_CURVE F.NEWT_TC_CURVE_T0 Config.tcT0.toNat).setSf .NEWT_TC_OFF F.NEWT_TC_OFF_OFF Config.tcOff.toNat).setSf
    .NEWT_TC_OFF F.NEWT_TC_OFF_VALID 1)
/-- The newt domain's power-on reset was found at this start. -/
def State.npor (s : State) : Bool := s.sf .NEWT_STAT F.NEWT_STAT_NPOR == 1
/-- M2 rebuilds the store from the log, and SEQ resumes (R454, R460, R462). (DEDUCED, log 125) -/
def State.startLog (s : State) : State :=
  let recs := s.nvlog.pages.flatten
  let t := recs.foldl (fun (u : State) r => u.takeRec r) s
  let next := match recs.getLast? with
    | some r => (r.seq + 1) % 2 ^ 32
    | none => 0
  let anchor := t.sf (.NEWT_ANCHOR 0) F.word
  let seq := if t.npor then next else anchor
  let t := ((t.setSw .EVR_FENCE seq).setEvrNext seq).setSw .EVR_PSEQ ((recs.getLast?.map (fun r => r.seq)).getD 0)
  let t := (t.setSf .EVR_NAND F.EVR_NAND_SPARES t.nvlog.spares).setSf .EVR_NAND F.EVR_NAND_RETIRED t.nvlog.retired
  let t := if t.nvlog.sparesOut then t.setSf .EVR_STAT F.EVR_STAT_RAM_ONLY 1 else t
  let lost := if t.npor then (if recs = [] then 0 else 0xFFFFFFFF)
    else if seqLater anchor next then (anchor + 2 ^ 32 - next) % 2 ^ 32 else 0
  let t := if lost = 0 then t else (t.setSf .EVR_EVT F.EVR_EVT_LOSS 1).event 19 0 0x0F01 2 [next, lost]
  t.newAnchor
/-- M0 takes the flags of the anchor registers: a replay (R467), else a capture, which begins with its HEADER (R463,
R465, R468). -/
def State.startFlags (s : State) : State :=
  if s.anchorFlag 2 then
    let t := (s.setAnchorFlag 2 false).setSf .EVR_STAT F.EVR_STAT_REPLAYING 1
    { t with evr := { t.evr with replay := some t.nvlog.exportEntries } }
  else if s.anchorFlag 1 then
    let t := (s.setAnchorFlag 1 false).setSf .EVR_STAT F.EVR_STAT_CAPTURING 1
    let head := le 32 t.upd.meas ++ le 16 Config.devId.toNat ++ le 4 (t.sf .HIF_BUNDLE F.word) ++ le 6 t.newt.tick ++ zeros 6
    (t.gateWrite 0 0x00 0 head).event 19 0 0x0F04 1 [t.upd.meas % 2 ^ 64]
  else s
/-- The shed starts (R24, R377), and acts on what the tamper monitor holds (R394 to R396). (DESIGN CHOICE, log 122; DEDUCED, log 123) -/
def State.startShed (s : State) (inp : StartInput) : State :=
  if inp.shedSig = false then s.shedBoot false
  else
    let t : State := { s with shed := { s.shed with identity := inp.identity }, mbx := { s.mbx with shedRan := true } }
    let t := if inp.identity then t else t.event 14 0 0x0C08 4 []
    let t := if t.shed.meshPending then t.zeroise else t
    let t := t.copyLog
    (if t.npor then (t.logTamper 4).setSec F.SEC_STAT_TAMPER_LOST true else t).secRefresh
/-- What happened while the module did not run is recorded (R509, R521, R527). -/
def State.startUnrecorded (s : State) : State :=
  let n := s.newt
  let t := match n.oscUnrec with
    | some c => s.event 2 0 0x1102 2 [c]
    | none => s
  let t := if n.vbatUnrec then t.event 2 0 0x1105 2 [t.sf .NEWT_STAT F.NEWT_STAT_VBAT] else t
  let t := if n.unpow0 = 0 then t else t.event 2 1 0x1104 1 [0, 1, n.unpow0]
  let t := if n.unpow1 = 0 then t else t.event 2 1 0x1104 1 [1, 1, n.unpow1]
  { t with newt := { t.newt with oscUnrec := none, vbatUnrec := false, unpow0 := 0, unpow1 := 0 } }
/-- A stall as NAND holds it: instants of the raw counter, which has restarted, stand at 0. (DEDUCED, log 120) -/
def Stall.rebase (x : Stall) : Stall :=
  { x with syncRaw := 0, joinAt := 0, adriftAt := 0, ansAt := 0, ansPsdu := [] }
/-- The segment's tables come from NAND, and its counters, rollover and campaigns resume (R125, R135, R205, R224); a replay
takes them from the capture (R467). (DEDUCED, log 120, 124) -/
def State.startSegment (s : State) : State :=
  let t : State := { s with
    seg := { s.seg with stalls := s.nvseg.stalls.map (fun q => (q.1, q.2.rebase)), pads := s.nvseg.pads, savedAt := s.newt.tick }
    flt := { s.flt with savedAt := s.newt.tick }
    twn := { s.twn with epoch := s.nvseg.claimEpoch } }
  if t.replaying then t else (t.resumeSegment).resumeCamps
/-- E restores the totals (R336), and an interval of reconciliation begins that holds the gap (R197). -/
def State.startMeter (s : State) (ok : Bool) : State :=
  let t := s.meterRestore ok
  let gap := t.seg.reconGap
  let t := t.reconStart
  { t with seg := { t.seg with reconGap := gap } }
/-- READY (R31), RESET_DONE after RESET_MODULE and after the confirmation window (R33, R64, R439): a trial's confirmation window begins. (DEDUCED, log 126) -/
def State.startReady (s : State) (trial : Bool) : State :=
  let t := s.setSf .HIF_STATUS F.HIF_STATUS_READY 1
  let t := if t.sf .CLK_RESET_CAUSE F.CLK_RESET_CAUSE_SOURCE = 3 ∧ t.sf .CLK_RESET_CAUSE F.CLK_RESET_CAUSE_DETAIL ≤ 1 then
    t.raiseCause 6 else t
  let t : State := if trial then
    { t with upd := { t.upd with windowEnd := some (t.tsu.raw + t.upd.boot.confirm * secT) } } else t
  t.updRefresh
/-- The start-up test of the lanes: all are SPARE but those that fail, which are RETIRED and recorded (R77, R108, R113). -/
def State.startLanes (s : State) (inp : StartInput) : State :=
  let good := (List.range 544).filter (fun n => !inp.badLanes.any (fun p => p.1 == n))
  let t := good.foldl (fun u n => u.setSw (.LNE_BIST n) (2 ^ 30 + 1)) (s.setSw .YRD_POOL 544)
  inp.badLanes.foldl (fun (u : State) p => if p.1 < 544 then u.retire p.1 p.2 0xFF 0xFF else u) t
/-- Firmware runs from a slot. -/
def State.startFirmware (s : State) (inp : StartInput) (c : BootChoice) (k : Nat) : State :=
  let t : State := { s with clk := { s.clk with phase := .run } }
  let t := (((t.startBundle c k).startNewt).startLog).startFlags
  let t := t.setSf .EVR_STAT F.EVR_STAT_ARMED (b2n (t.anchorFlag 1))
  let t := t.event 1 0 0x1006 1 [t.sf .CLK_RESET_CAUSE F.CLK_RESET_CAUSE_SOURCE, t.sf .CLK_RESET_CAUSE F.CLK_RESET_CAUSE_DETAIL,
    t.sf .CLK_RESET_CAUSE F.CLK_RESET_CAUSE_COUNT, t.sf .CLK_RESET_CAUSE F.CLK_RESET_CAUSE_XO_RETRIES]
  let t := (t.startShed inp).startUnrecorded
  let t := t.startLanes inp
  (((t.startMeter inp.saveOk).startSegment).startReady c.trial)
/-- Sources that the start does not wait for keep their state; the others are OK, but for a PLL whose judgement has failed (R474,
R475, R500). (DEDUCED, log 121) -/
def State.startSources (s : State) : State :=
  [0, 2, 5, 6, 7, 8, 9].foldl (fun (t : State) k => if t.srcState k = 2 then t else t.setSrc k 1) s
/-- MODULE_START (R500): the islands leave reset, XO_MAIN judged. (DEDUCED, log 114, 120) -/
def execModuleStart (inp : StartInput) (s : State) : Host.Outcome State Fault Refusal :=
  quiet (fun s =>
    if s.clk.phase ≠ Phase.starting ∨ s.srcState 0 = 2 then s
    else
      let t := s.startSources
      if t.upd.lizard ≠ 0 then t.enterLizard inp
      else
        let r := t.boot inp
        match r.1.slot with
        | none => r.2.enterLizard inp
        | some k => r.2.startFirmware inp r.1 k) s

end Sys2Proof.Machine
end

