-- ==== Sys2Proof/Machine/Dispatch.lean ====
section
/-! DEFINITION. Sys2Proof/Machine/Dispatch.lean: one arm for each command. -/
namespace Sys2Proof.Machine

def exec (i : Instr) (s : State) : Host.Outcome State Fault Refusal :=
  match i with
  | .registerWrite side width off val => Sys2Proof.Machine.execRegisterWrite side width off val s
  | .broadcastWrite side width off val => Sys2Proof.Machine.execBroadcastWrite side width off val s
  | .broadcastRead side width off => Sys2Proof.Machine.execBroadcastRead side width off s
  | .hifSetupDone val => Sys2Proof.Machine.execHifSetupDone val s
  | .sqTailDoorbell width n val => Sys2Proof.Machine.execSqTailDoorbell width n val s
  | .cqHeadDoorbell width n val => Sys2Proof.Machine.execCqHeadDoorbell width n val s
  | .eqHeadDoorbell width n val => Sys2Proof.Machine.execEqHeadDoorbell width n val s
  | .hostRxHeadWrite val => Sys2Proof.Machine.execHostRxHeadWrite val s
  | .descriptorFetch read => Sys2Proof.Machine.execDescriptorFetch read s
  | .nop did => Sys2Proof.Machine.execNop did s
  | .abort did => Sys2Proof.Machine.execAbort did s
  | .ringCtlPause did => Sys2Proof.Machine.execRingCtlPause did s
  | .ringCtlResume did => Sys2Proof.Machine.execRingCtlResume did s
  | .ringCtlReset did => Sys2Proof.Machine.execRingCtlReset did s
  | .paramRead did => Sys2Proof.Machine.execParamRead did s
  | .paramWrite did => Sys2Proof.Machine.execParamWrite did s
  | .queFlush did => Sys2Proof.Machine.execQueFlush did s
  | .resetModule did => Sys2Proof.Machine.execResetModule did s
  | .sealed did read env => Sys2Proof.Machine.execSealed did read env s
  | .statusRead did => Sys2Proof.Machine.execStatusRead did s
  | .stallRead did => Sys2Proof.Machine.execStallRead did s
  | .stallWrite did read => Sys2Proof.Machine.execStallWrite did read s
  | .stallAdmit did => Sys2Proof.Machine.execStallAdmit did s
  | .stallRefuse did => Sys2Proof.Machine.execStallRefuse did s
  | .stallRevoke did => Sys2Proof.Machine.execStallRevoke did s
  | .stallRetire did => Sys2Proof.Machine.execStallRetire did s
  | .stallFree did => Sys2Proof.Machine.execStallFree did s
  | .paddockRead did => Sys2Proof.Machine.execPaddockRead did s
  | .paddockCreate did read => Sys2Proof.Machine.execPaddockCreate did read s
  | .paddockAdd did read => Sys2Proof.Machine.execPaddockAdd did read s
  | .paddockRemove did read => Sys2Proof.Machine.execPaddockRemove did read s
  | .paddockDelete did => Sys2Proof.Machine.execPaddockDelete did s
  | .scheduleLoad did read => Sys2Proof.Machine.execScheduleLoad did read s
  | .sceneLoad did read => Sys2Proof.Machine.execSceneLoad did read s
  | .sceneCancel did read => Sys2Proof.Machine.execSceneCancel did read s
  | .sceneLaunch did => Sys2Proof.Machine.execSceneLaunch did s
  | .sceneArm scene => Sys2Proof.Machine.execSceneArm scene s
  | .sceneDiscard scene => Sys2Proof.Machine.execSceneDiscard scene s
  | .epochRollQuery did => Sys2Proof.Machine.execEpochRollQuery did s
  | .epochRollStart did => Sys2Proof.Machine.execEpochRollStart did s
  | .epochRollClose did => Sys2Proof.Machine.execEpochRollClose did s
  | .rollCloseAfterExpiry => Sys2Proof.Machine.execRollCloseAfterExpiry s
  | .reconcileRead did => Sys2Proof.Machine.execReconcileRead did s
  | .downlinkSend did read => Sys2Proof.Machine.execDownlinkSend did read s
  | .groupSend did read => Sys2Proof.Machine.execGroupSend did read s
  | .yardCtlHalt did read => Sys2Proof.Machine.execYardCtlHalt did read s
  | .yardCtlResume did read => Sys2Proof.Machine.execYardCtlResume did read s
  | .yardCtlWithdraw did read => Sys2Proof.Machine.execYardCtlWithdraw did read s
  | .yardCtlRestore did read => Sys2Proof.Machine.execYardCtlRestore did read s
  | .yardCtlTxpwr did read => Sys2Proof.Machine.execYardCtlTxpwr did read s
  | .yardCtlTest did read => Sys2Proof.Machine.execYardCtlTest did read s
  | .dutyRead did => Sys2Proof.Machine.execDutyRead did s
  | .imageStore did read => Sys2Proof.Machine.execImageStore did read s
  | .campaignDefine did read => Sys2Proof.Machine.execCampaignDefine did read s
  | .campaignStart did => Sys2Proof.Machine.execCampaignStart did s
  | .campaignPause did => Sys2Proof.Machine.execCampaignPause did s
  | .campaignResume did => Sys2Proof.Machine.execCampaignResume did s
  | .campaignStop did => Sys2Proof.Machine.execCampaignStop did s
  | .campaignDelete did => Sys2Proof.Machine.execCampaignDelete did s
  | .campaignReadSummary did => Sys2Proof.Machine.execCampaignReadSummary did s
  | .campaignReadMap did => Sys2Proof.Machine.execCampaignReadMap did s
  | .frameSend did read => Sys2Proof.Machine.execFrameSend did read s
  | .tsRead did => Sys2Proof.Machine.execTsRead did s
  | .timeRead did => Sys2Proof.Machine.execTimeRead did s
  | .timeCtlSelect did read => Sys2Proof.Machine.execTimeCtlSelect did read s
  | .timeCtlStep did read => Sys2Proof.Machine.execTimeCtlStep did read s
  | .timeCtlSet did read => Sys2Proof.Machine.execTimeCtlSet did read s
  | .timeCtlDisable did read => Sys2Proof.Machine.execTimeCtlDisable did read s
  | .timeCtlEnable did read => Sys2Proof.Machine.execTimeCtlEnable did read s
  | .driveSet did read => Sys2Proof.Machine.execDriveSet did read s
  | .driveLatch did read => Sys2Proof.Machine.execDriveLatch did read s
  | .meterSnapshot did => Sys2Proof.Machine.execMeterSnapshot did s
  | .meterCtlClearEvt did read => Sys2Proof.Machine.execMeterCtlClearEvt did read s
  | .meterCtlSaveNow did read readBackOk => Sys2Proof.Machine.execMeterCtlSaveNow did read readBackOk s
  | .meterCtlSavePeriod did read => Sys2Proof.Machine.execMeterCtlSavePeriod did read s
  | .meterCtlRevHold did read => Sys2Proof.Machine.execMeterCtlRevHold did read s
  | .meterCtlZero did read readBackOk => Sys2Proof.Machine.execMeterCtlZero did read readBackOk s
  | .twinCtlRead did => Sys2Proof.Machine.execTwinCtlRead did s
  | .twinCtlHandover did => Sys2Proof.Machine.execTwinCtlHandover did s
  | .twinCtlResync did => Sys2Proof.Machine.execTwinCtlResync did s
  | .attestReport did => Sys2Proof.Machine.execAttestReport did s
  | .attestCert did => Sys2Proof.Machine.execAttestCert did s
  | .attestHistory did => Sys2Proof.Machine.execAttestHistory did s
  | .updStage did read => Sys2Proof.Machine.execUpdStage did read s
  | .updStageCancel did => Sys2Proof.Machine.execUpdStageCancel did s
  | .updVerify did check => Sys2Proof.Machine.execUpdVerify did check s
  | .updActivate did => Sys2Proof.Machine.execUpdActivate did s
  | .radioPauseEnd ok shedSig => Sys2Proof.Machine.execRadioPauseEnd ok shedSig s
  | .activationPauseEnd ok => Sys2Proof.Machine.execActivationPauseEnd ok s
  | .updConfirm did => Sys2Proof.Machine.execUpdConfirm did s
  | .updSessionIdle => Sys2Proof.Machine.execUpdSessionIdle s
  | .confirmWindowExpiry => Sys2Proof.Machine.execConfirmWindowExpiry s
  | .evrReadBySeq did during => Sys2Proof.Machine.execEvrReadBySeq did during s
  | .evrReadAll did during => Sys2Proof.Machine.execEvrReadAll did during s
  | .evrReadAnchors did => Sys2Proof.Machine.execEvrReadAnchors did s
  | .captureCtlStatus did => Sys2Proof.Machine.execCaptureCtlStatus did s
  | .captureCtlArm did => Sys2Proof.Machine.execCaptureCtlArm did s
  | .captureCtlDisarm did => Sys2Proof.Machine.execCaptureCtlDisarm did s
  | .captureCtlStop did => Sys2Proof.Machine.execCaptureCtlStop did s
  | .captureCtlExport did => Sys2Proof.Machine.execCaptureCtlExport did s
  | .captureCtlRead did => Sys2Proof.Machine.execCaptureCtlRead did s
  | .captureCtlReplayArm did read check => Sys2Proof.Machine.execCaptureCtlReplayArm did read check s
  | .ownerEnrol did => Sys2Proof.Machine.execOwnerEnrol did s
  | .ownerRoll did => Sys2Proof.Machine.execOwnerRoll did s
  | .ownerChange did => Sys2Proof.Machine.execOwnerChange did s
  | .presenceOpen did => Sys2Proof.Machine.execPresenceOpen did s
  | .presenceClose did => Sys2Proof.Machine.execPresenceClose did s
  | .debugUnlock did => Sys2Proof.Machine.execDebugUnlock did s
  | .joinrootLoad did unwrapOk => Sys2Proof.Machine.execJoinrootLoad did unwrapOk s
  | .joinrootDelete did => Sys2Proof.Machine.execJoinrootDelete did s
  | .twinPair did peer => Sys2Proof.Machine.execTwinPair did peer s
  | .tamperClear did => Sys2Proof.Machine.execTamperClear did s
  | .oscClear did => Sys2Proof.Machine.execOscClear did s
  | .lizardEnter did => Sys2Proof.Machine.execLizardEnter did s
  | .envelopeVerified sigOk => Sys2Proof.Machine.execEnvelopeVerified sigOk s
  | .udpEnvelopeRx ip port len fragment env => Sys2Proof.Machine.execUdpEnvelopeRx ip port len fragment env s
  | .presenceButton ms => Sys2Proof.Machine.execPresenceButton ms s
  | .presenceSeal openMs => Sys2Proof.Machine.execPresenceSeal openMs s
  | .presenceTimeout => Sys2Proof.Machine.execPresenceTimeout s
  | .presenceCreditExpiry => Sys2Proof.Machine.execPresenceCreditExpiry s
  | .presenceWindowExpiry => Sys2Proof.Machine.execPresenceWindowExpiry s
  | .tamperSample door sealLoop btn mesh => Sys2Proof.Machine.execTamperSample door sealLoop btn mesh s
  | .pcieFunctionReset kind => Sys2Proof.Machine.execPcieFunctionReset kind s
  | .busMasterEnableChange on => Sys2Proof.Machine.execBusMasterEnableChange on s
  | .cqCoalesceTimer n => Sys2Proof.Machine.execCqCoalesceTimer n s
  | .eqMessageInterval n => Sys2Proof.Machine.execEqMessageInterval n s
  | .deadlineExpiry did => Sys2Proof.Machine.execDeadlineExpiry did s
  | .launchSlotArm did => Sys2Proof.Machine.execLaunchSlotArm did s
  | .launchSlotFire did => Sys2Proof.Machine.execLaunchSlotFire did s
  | .frameRx lane group ovld => Sys2Proof.Machine.execFrameRx lane group ovld s
  | .keyCacheFill => Sys2Proof.Machine.execKeyCacheFill s
  | .beaconRxTwin => Sys2Proof.Machine.execBeaconRxTwin s
  | .joinReq => Sys2Proof.Machine.execJoinReq s
  | .rejoin => Sys2Proof.Machine.execRejoin s
  | .joinConfirm => Sys2Proof.Machine.execJoinConfirm s
  | .poll => Sys2Proof.Machine.execPoll s
  | .status => Sys2Proof.Machine.execStatus s
  | .fault => Sys2Proof.Machine.execFault s
  | .energy => Sys2Proof.Machine.execEnergy s
  | .imageReport => Sys2Proof.Machine.execImageReport s
  | .keyAck => Sys2Proof.Machine.execKeyAck s
  | .doze => Sys2Proof.Machine.execDoze s
  | .relay inner => Sys2Proof.Machine.execRelay inner s
  | .ack => Sys2Proof.Machine.execAck s
  | .app => Sys2Proof.Machine.execApp s
  | .ansSend => Sys2Proof.Machine.execAnsSend s
  | .superframeStart y => Sys2Proof.Machine.execSuperframeStart y s
  | .beaconSkip y => Sys2Proof.Machine.execBeaconSkip y s
  | .downlinkRun y => Sys2Proof.Machine.execDownlinkRun y s
  | .timedFrame stall => Sys2Proof.Machine.execTimedFrame stall s
  | .chainGrant bad symBad => Sys2Proof.Machine.execChainGrant bad symBad s
  | .txFrameEnd chain yard => Sys2Proof.Machine.execTxFrameEnd chain yard s
  | .dutySlotTick => Sys2Proof.Machine.execDutySlotTick s
  | .bistInterval => Sys2Proof.Machine.execBistInterval s
  | .laneTestHandover lane => Sys2Proof.Machine.execLaneTestHandover lane s
  | .bistShadowTimeout lane => Sys2Proof.Machine.execBistShadowTimeout lane s
  | .laneTestDone lane cause => Sys2Proof.Machine.execLaneTestDone lane cause s
  | .laneCheckFail lane cause busy => Sys2Proof.Machine.execLaneCheckFail lane cause busy s
  | .laneMove lane => Sys2Proof.Machine.execLaneMove lane s
  | .yrdRegionCustomWrite val => Sys2Proof.Machine.execYrdRegionCustomWrite val s
  | .joinTimeout stall => Sys2Proof.Machine.execJoinTimeout stall s
  | .holdAdrift stall => Sys2Proof.Machine.execHoldAdrift stall s
  | .lostAfter stall => Sys2Proof.Machine.execLostAfter stall s
  | .refuseLapse eui => Sys2Proof.Machine.execRefuseLapse eui s
  | .stallPersist => Sys2Proof.Machine.execStallPersist s
  | .faultStormPeriod => Sys2Proof.Machine.execFaultStormPeriod s
  | .reconIntervalEnd => Sys2Proof.Machine.execReconIntervalEnd s
  | .campaignWindowOpen id => Sys2Proof.Machine.execCampaignWindowOpen id s
  | .campaignWindowClose id => Sys2Proof.Machine.execCampaignWindowClose id s
  | .campaignPersist => Sys2Proof.Machine.execCampaignPersist s
  | .campaignImageReadFail id => Sys2Proof.Machine.execCampaignImageReadFail id s
  | .encoderBlockReady => Sys2Proof.Machine.execEncoderBlockReady s
  | .portFrameRx p frame => Sys2Proof.Machine.execPortFrameRx p frame s
  | .portFrameTx p bad => Sys2Proof.Machine.execPortFrameTx p bad s
  | .portLinkDown p => Sys2Proof.Machine.execPortLinkDown p s
  | .portLinkUp p tenG anDone => Sys2Proof.Machine.execPortLinkUp p tenG anDone s
  | .speedSearchTimeout p => Sys2Proof.Machine.execSpeedSearchTimeout p s
  | .addressAgeing => Sys2Proof.Machine.execAddressAgeing s
  | .rApsRx p msg => Sys2Proof.Machine.execRApsRx p msg s
  | .erpsTimer t => Sys2Proof.Machine.execErpsTimer t s
  | .mgmtFrameRx bad => Sys2Proof.Machine.execMgmtFrameRx bad s
  | .creditInit n shedSig => Sys2Proof.Machine.execCreditInit n shedSig s
  | .ptpMessageRx p msg => Sys2Proof.Machine.execPtpMessageRx p msg s
  | .ptpSyncInterval d offset rate => Sys2Proof.Machine.execPtpSyncInterval d offset rate s
  | .announceReceiptTimeout d => Sys2Proof.Machine.execAnnounceReceiptTimeout d s
  | .slewStep => Sys2Proof.Machine.execSlewStep s
  | .ppsInEdge rising rate => Sys2Proof.Machine.execPpsInEdge rising rate s
  | .ppsLoss => Sys2Proof.Machine.execPpsLoss s
  | .ppsOutPulse => Sys2Proof.Machine.execPpsOutPulse s
  | .tsuTimeLoRead side => Sys2Proof.Machine.execTsuTimeLoRead side s
  | .tsuPpsinLoRead side => Sys2Proof.Machine.execTsuPpsinLoRead side s
  | .pwmPeriodBoundary ch sample => Sys2Proof.Machine.execPwmPeriodBoundary ch sample s
  | .ntcRead g ohms => Sys2Proof.Machine.execNtcRead g ohms s
  | .isnsWindow ch => Sys2Proof.Machine.execIsnsWindow ch s
  | .drvProbe ch mv => Sys2Proof.Machine.execDrvProbe ch mv s
  | .claimGateClose => Sys2Proof.Machine.execClaimGateClose s
  | .claimGateOpen => Sys2Proof.Machine.execClaimGateOpen s
  | .meterSample sample => Sys2Proof.Machine.execMeterSample sample s
  | .pulseCount k => Sys2Proof.Machine.execPulseCount k s
  | .meterSave readBackOk => Sys2Proof.Machine.execMeterSave readBackOk s
  | .claimBusFrameTx readBackOk => Sys2Proof.Machine.execClaimBusFrameTx readBackOk s
  | .claimBusFrameRx frame => Sys2Proof.Machine.execClaimBusFrameRx frame s
  | .twinLaneFrameRx frame => Sys2Proof.Machine.execTwinLaneFrameRx frame s
  | .leaseLapse => Sys2Proof.Machine.execLeaseLapse s
  | .peerAbsent => Sys2Proof.Machine.execPeerAbsent s
  | .listenTimerEnd => Sys2Proof.Machine.execListenTimerEnd s
  | .reversionHoldoff => Sys2Proof.Machine.execReversionHoldoff s
  | .yieldAfter => Sys2Proof.Machine.execYieldAfter s
  | .healthReport supply temp => Sys2Proof.Machine.execHealthReport supply temp s
  | .twinBistStep pass => Sys2Proof.Machine.execTwinBistStep pass s
  | .mbxPost ch msg => Sys2Proof.Machine.execMbxPost ch msg s
  | .mbxAck ch => Sys2Proof.Machine.execMbxAck ch s
  | .mbxClear ch => Sys2Proof.Machine.execMbxClear ch s
  | .mbxSreset ch => Sys2Proof.Machine.execMbxSreset ch s
  | .mbxReopen ch => Sys2Proof.Machine.execMbxReopen ch s
  | .mbxHdbMaskWrite val => Sys2Proof.Machine.execMbxHdbMaskWrite val s
  | .ping ch => Sys2Proof.Machine.execPing ch s
  | .hostState => Sys2Proof.Machine.execHostState s
  | .lizInfo => Sys2Proof.Machine.execLizInfo s
  | .lizBegin read check => Sys2Proof.Machine.execLizBegin read check s
  | .lizData off data => Sys2Proof.Machine.execLizData off data s
  | .lizEnd check => Sys2Proof.Machine.execLizEnd check s
  | .lizReset => Sys2Proof.Machine.execLizReset s
  | .lizErase env sigOk => Sys2Proof.Machine.execLizErase env sigOk s
  | .eventArrival bad => Sys2Proof.Machine.execEventArrival bad s
  | .evrPagePersist programOk => Sys2Proof.Machine.execEvrPagePersist programOk s
  | .journalGateInput input => Sys2Proof.Machine.execJournalGateInput input s
  | .captureTriggerStop => Sys2Proof.Machine.execCaptureTriggerStop s
  | .clkSourceFail src cause => Sys2Proof.Machine.execClkSourceFail src cause s
  | .clkMonitorWindow src inTol lfCharges => Sys2Proof.Machine.execClkMonitorWindow src inTol lfCharges s
  | .clockRestart dom => Sys2Proof.Machine.execClockRestart dom s
  | .sourceJudged src => Sys2Proof.Machine.execSourceJudged src s
  | .xoMainStartRetry => Sys2Proof.Machine.execXoMainStartRetry s
  | .unitGated k => Sys2Proof.Machine.execUnitGated k s
  | .gateForced k access => Sys2Proof.Machine.execGateForced k access s
  | .regionTempRead radio digital memory => Sys2Proof.Machine.execRegionTempRead radio digital memory s
  | .powerOn => Sys2Proof.Machine.execPowerOn s
  | .powerLoss form => Sys2Proof.Machine.execPowerLoss form s
  | .resetN ns => Sys2Proof.Machine.execResetN ns s
  | .watchdogTimeout silent => Sys2Proof.Machine.execWatchdogTimeout silent s
  | .moduleStart inp => Sys2Proof.Machine.execModuleStart inp s
  | .newtPor => Sys2Proof.Machine.execNewtPor s
  | .tcWindow temp vbat => Sys2Proof.Machine.execTcWindow temp vbat s
  | .secondCarry => Sys2Proof.Machine.execSecondCarry s
  | .rtcTickLoRead side => Sys2Proof.Machine.execRtcTickLoRead side s
  | .rtcCalHiWrite val => Sys2Proof.Machine.execRtcCalHiWrite val s
  | .rtcAlmHiWrite n val => Sys2Proof.Machine.execRtcAlmHiWrite n val s
  | .rtcStagedApply => Sys2Proof.Machine.execRtcStagedApply s
  | .twinLaneDown => Sys2Proof.Machine.execTwinLaneDown s
  | .twinLaneUp => Sys2Proof.Machine.execTwinLaneUp s
  | .claimBusSilence => Sys2Proof.Machine.execClaimBusSilence s
  | .ackWindowEnd stall => Sys2Proof.Machine.execAckWindowEnd stall s
  | .stallKeyReady stall => Sys2Proof.Machine.execStallKeyReady stall s
  | .shedReset => Sys2Proof.Machine.execShedReset s
  | .pulseRejected k => Sys2Proof.Machine.execPulseRejected k s
  | .hostRxMessageInterval => Sys2Proof.Machine.execHostRxMessageInterval s
  | .xoLfStopUnpowered => Sys2Proof.Machine.execXoLfStopUnpowered s
  | .perstNRelease => Sys2Proof.Machine.execPerstNRelease s
  | .pcieLinkUp setup => Sys2Proof.Machine.execPcieLinkUp setup s
  | .maintenancePortAttach attached => Sys2Proof.Machine.execMaintenancePortAttach attached s
  | .pllRelockTimeout => Sys2Proof.Machine.execPllRelockTimeout s

end Sys2Proof.Machine
end

