-- ==== Sys2Proof/Machine/Step.lean ====
section
/-! DEFINITION. Sys2Proof/Machine/Step.lean: one step: the command at the front of the queue, or with none waiting one tick of
the time unit. -/
namespace Sys2Proof.Machine

/-- The module takes the command at the front of its queue and runs it on the rest; with none waiting the time unit counts one
TSU tick and an active twin unit's mirror sends what has changed (DESIGN CHOICE). (DESIGN CHOICE, log 1, 3) -/
def step (s : State) : Host.Outcome State Fault Refusal :=
  match s.pending with
  | [] => .next s.idle
  | c :: rest => exec c { s with pending := rest }

/-- The state with the command that a word spells put at the front of its queue. (DEDUCED, log 10) -/
def State.withFetchWord (s : State) (nbits w : Nat) : State :=
  match decodeTableWord nbits w with
  | some c => { s with pending := c :: s.pending }
  | none => s

end Sys2Proof.Machine
end

