-- ==== Sys2Proof/Machine/Pads.lean ====
section
/-! DEFINITION. Sys2Proof/Machine/Pads.lean: what each pad does, unpowered, in reset and running, as the rest of the state fixes it
(R496, R541, R542). -/
namespace Sys2Proof.Machine

/-- The pads of R542, by their groups. -/
inductive Pad where
  | ant (f : Nat)
  | pcieLane
  | perstN
  | pcieRefclk
  | clkreqN
  | portLane (p : Nat)
  | twinLane
  | sfpTxDisable (p : Nat)
  | sfpI2c (p : Nat)
  | sfpInput (p : Nat)
  | claim
  | drvPwm (n : Nat)
  | drvIsns (n : Nat)
  | ntc (g : Nat)
  | meterIn
  | pulseIn (p : Nat)
  | refin
  | ppsIn
  | ppsOut
  | presenceBtn
  | doorSeal
  | resetN
  | usbData
  | usbVbus
  | jtagIn
  | trstN
  | tdo
  deriving DecidableEq, Repr

/-- What a pad does. -/
inductive PadDrive where
  /-- high impedance within R541 -/
  | hiZ
  /-- power amplifiers off, nothing terminated -/
  | off
  /-- power amplifiers off, receive path terminated -/
  | terminated
  | receives
  | transmits
  /-- PCIe electrical idle -/
  | electricalIdle
  /-- the lanes or the output are driven -/
  | driven
  | low
  /-- an open drain that does not pull -/
  | released
  /-- an open drain in use -/
  | openDrain
  | input
  /-- an input whose level the module ignores -/
  | ignored
  | pullUp
  | pullDown
  /-- sampled by the newt domain, supply or not -/
  | monitored
  /-- a drive channel's period -/
  | pwm (form : PwmForm)
  deriving DecidableEq, Repr

/-- The wired port's lanes are driven (R258, R467). -/
def State.portDriven (s : State) (p : Nat) : Bool :=
  s.done && !s.replaying && s.cf (.SWX_PORT_CFG p) F.SWX_PORT_CFG_ENABLE == 1
/-- The unit takes part in the claim bus: after HIF_SETUP_DONE, outside SOLO, with its lease (R352, R542). -/
def State.claimUsed (s : State) : Bool := s.twinOn && s.twinRole != 0 && !s.twn.lapsed
/-- A front end has a carrier of one of its two chains on the air (R547). -/
def State.feEmits (s : State) (f : Nat) : Bool := s.onAir.any (fun c => c.chain / 2 == f)

/-- The Unpowered column of R542. -/
def Pad.unpowered : Pad → PadDrive
  | .ant _ => .off
  | .doorSeal => .monitored
  | _ => .hiZ
/-- The In reset column of R542, which the lizard loader shares but for the maintenance port. PCIe lanes stay up through a reset
that keeps the PCIe engine (R64). (DEDUCED, log 185) -/
def State.padInReset (s : State) : Pad → PadDrive
  | .ant _ => .terminated
  | .pcieLane => if s.hif.linkUp then .driven else .electricalIdle
  | .perstN | .pcieRefclk | .sfpInput _ | .usbVbus => .input
  | .clkreqN | .sfpTxDisable _ | .sfpI2c _ | .claim => .released
  | .pulseIn _ | .refin | .ppsIn => .ignored
  | .ppsOut => .low
  | .presenceBtn | .trstN => .pullDown
  | .doorSeal => .monitored
  | .resetN | .jtagIn => .pullUp
  | .usbData => if s.clk.phase = Phase.lizard ∧ s.clk.vbus = true then .driven else .hiZ
  | .portLane _ | .twinLane | .drvPwm _ | .drvIsns _ | .ntc _ | .meterIn | .tdo => .hiZ
/-- The Running column of R542; a pad whose running state awaits HIF_SETUP_DONE or an enable keeps its state of reset before
(R551). A replay leaves the drive, SerDes and claim pads as in reset (R467). (DEDUCED, log 185) -/
def State.padRunning (s : State) : Pad → PadDrive
  | .ant f => if s.feEmits f then .transmits else .receives
  | .clkreqN => if s.hif.linkUp ∧ s.hif.pcie.aspmL1 = false then .openDrain else .released
  | .portLane p => if s.portDriven p then .driven else .hiZ
  | .twinLane => if s.twinOn then .driven else .hiZ
  | .sfpTxDisable p => if s.portDriven p then .released else .openDrain
  | .sfpI2c _ => .openDrain
  | .claim => if s.claimUsed then .openDrain else .released
  | .drvPwm n => match (s.drvChan n).pad with
    | some form => .pwm form
    | none => .hiZ
  | .drvIsns _ | .ntc _ | .meterIn | .pulseIn _ | .refin | .ppsIn => .input
  | .ppsOut => .driven
  | p => s.padInReset p
/-- What a pad does now (R542). -/
def State.padNow (s : State) (p : Pad) : PadDrive :=
  match s.clk.phase with
  | .off => p.unpowered
  | .starting | .lizard => s.padInReset p
  | .run => s.padRunning p

end Sys2Proof.Machine
end

