-- ==== Sys2Proof/Safety.lean ====
section
/-! DEFINITION. Sys2Proof/Safety.lean: what the statements say of the machine: where a command completes, when an operation
is served, what a register file's canonical form and a field's range are. -/
namespace Sys2Proof.Machine

/-! ## Where a command completes -/

/-- The state `t` with the queue of commands and the host-written register fields of `s`: what a command that writes no such
field answers (R21). -/
def State.framed (s t : State) : State := { t with cfg := s.cfg, pending := s.pending }
/-- The command completes: it answers the next state `t`, with the queue of commands and the host-written fields of `s`. -/
def Does (c : Instr) (s t : State) : Prop := exec c s = .next (s.framed t)
/-- The command completes: it answers the next state `t` with the queue of commands of `s`; it may write host-written fields. -/
def Turns (c : Instr) (s t : State) : Prop := exec c s = .next { t with pending := s.pending }
/-- The command stops the module. -/
def Stops (c : Instr) (s : State) (f : Fault) : Prop := exec c s = .fault f

/-! ## Operations of descriptors (R43, R52, R57, R65, R357, R467) -/

/-- Descriptor `d` is in flight, its opcode is `op`, its ring lets it start now, and no state of the module turns it away. -/
def State.serves (s : State) (d : Desc) (op : Nat) : Prop :=
  s.desc? d.did = some d ∧ d.op = op ∧ s.starts d = true ∧ s.turnsAway d = none
/-- A descriptor that has been taken up. -/
def Desc.taken (d : Desc) : Desc := { d with stage := .queued }
/-- A descriptor of a ring that has been taken up, its buffer holding what the host read gave (R39, R62). -/
def Desc.filled (d : Desc) (b : List Byte) : Desc :=
  { d with buf := if d.len = 0 then [] else fitBytes d.len b, stage := .queued }
/-- The descriptor that an operation with an input buffer sees: of a ring, with the octets of the read; of an envelope, with
those that came in it. None where the read failed, or host memory is out of reach. -/
def Desc.seen (d : Desc) (s : State) (read : HostRead) : Option Desc :=
  match d.src, read with
  | .ring _, .failed => none
  | .ring _, .ok b => if d.len = 0 ∨ s.hostUp = true then some (d.filled b) else none
  | _, _ => some d.taken
/-- The state in which an operation acts: descriptor `d` stands in flight as it has been taken up. -/
def State.holding (s : State) (d : Desc) : State := s.updDesc d.did (fun _ => d)

/-- The maintenance engine takes the message of `r` that one of its rows handles, outside an activation pause and with no parity
failure in its queue: `u` is the state in which it does (R155, R248, R437). -/
def State.takes (s : State) (p : Rx → Bool) (r : Rx) (u : State) : Prop :=
  s.paused = false ∧ s.upNext p = some r ∧ (r.frame.upBad = none ∨ r.via.isSome = true) ∧ (s.stall r.stall).live = true
    ∧ u = ({ s with air := { s.air with accepted := s.air.accepted.erase r } } : State).uplinked r

/-! ## Registers (R7, R19, R21, R554) -/

/-- A value stands where a field's rule for values outside its range lets it stand. -/
def Clamp.holds (c : Clamp) (width v : Nat) : Bool :=
  match c with
  | .none => true
  | .range lo hi => decide (lo ≤ v ∧ v ≤ hi)
  | .srange lo hi => decide (lo ≤ signed width v ∧ signed width v ≤ hi)
  | .zeroAbove hi => decide (v ≤ hi)
  | .ignoreAbove hi => decide (v ≤ hi)
/-- A register of the map (R552, R564). -/
def Reg.mapped (r : Reg) : Prop := Reg.ofOffset r.offset = some r
/-- Every field with a range, of every register of the map, stands in its range, or at its reset value. -/
def State.inRange (s : State) : Prop :=
  ∀ r : Reg, r.mapped → ∀ f ∈ r.fields, f.acc.isHost = true →
    f.clamp.holds f.span.width (s.cf r f.span) = true ∨ s.cf r f.span = f.span.get r.reset
/-- A register file's canonical form: offsets strictly rising, no register listed at its reset value. -/
def RegFile.canon (l : RegFile) : Prop :=
  l.Pairwise (fun a b => a.1.offset < b.1.offset) ∧ ∀ p ∈ l, p.2 ≠ p.1.reset
/-- The host-written fields after a reset of the module: those of the newt domain stand, with the PCIe engine kept those of its
vector table stand too, and all others are at their reset values (R25, R64, R497). -/
def RegFile.afterReset (l : RegFile) (pcie : Bool) : RegFile := l.filter (fun q => q.1.keeps pcie)

/-- Commands whose own effect writes host-written fields, or may reset the module or a part of it. -/
def writesFields : Instr → Bool
  | .registerWrite .. => true
  | .broadcastWrite .. => true
  | .hifSetupDone _ => true
  | .hostRxHeadWrite _ => true
  | .yrdRegionCustomWrite _ => true
  | .pcieFunctionReset _ => true
  | .newtPor => true
  | .resetModule _ => true
  | .resetN _ => true
  | .watchdogTimeout _ => true
  | .pllRelockTimeout => true
  | .powerLoss _ => true
  | .powerOn => true
  | .clkSourceFail .. => true
  | .clkMonitorWindow .. => true
  | .presenceButton _ => true
  | .presenceSeal _ => true
  | .tamperSample .. => true
  | .lizardEnter _ => true
  | .radioPauseEnd .. => true
  | .activationPauseEnd _ => true
  | .confirmWindowExpiry => true
  | .lizBegin .. => true
  | .lizErase .. => true
  | .lizReset => true
  | _ => false

end Sys2Proof.Machine
end

