-- ==== Sys2Proof/Certificates/Slice0/Obligations.lean ====
section
/-! DEFINITION. Sys2Proof/Certificates/Slice0/Obligations.lean: the statements about this model. `Does c s t` says that command
`c` completes at `s` with next state `t`, keeping the queue of commands and the host-written register fields of `s`. -/
open Sys2Proof Sys2Proof.Machine

/-- For every command c and state s, the step of s with c at the front of its queue is exec of c on s with the queue's
rest. -/
def Obligations.StepRunsFrontCommand : Prop :=
  ∀ (c : Instr) (rest : List Instr) (s : State),
    step { s with pending := c :: rest } = exec c { s with pending := rest }

/-- On an empty queue the step completes (the model's choice, log 3: one TSU tick passes, and what has fallen due
meanwhile is attended to): the raw counter rises by one modulo 2^64, and the queue and the host-written fields stand. -/
def Obligations.IdleStepCountsOneTick : Prop :=
  ∀ s : State, s.pending = [] →
    step s = .next s.idle ∧ s.idle.tsu.raw = (s.tsu.raw + 1) % 2 ^ 64 ∧ s.idle.cfg = s.cfg ∧ s.idle.pending = []

/-- For every command c and states s and t, if exec c s answers next t, the queue of t is that of s. -/
def Obligations.CommandsKeepTheQueue : Prop :=
  ∀ (c : Instr) (s t : State), exec c s = .next t → t.pending = s.pending

/-- Every command that is not a host or firmware register write, HIF_SETUP_DONE, or one that may reset the module, the
PCIe function or the newt domain (the commands of writesFields) leaves every field of access type RW, RWL and RWP of
every register as it was. -/
def Obligations.OnlyNamedCommandsWriteHostFields : Prop :=
  ∀ (c : Instr) (s t : State), writesFields c = false → exec c s = .next t →
    t.cfg = s.cfg ∧ ∀ (r : Reg) (f : Fld), t.cf r f = s.cf r f

/-- For every command and every state with DONE = 1, if the command answers a next state, then either every RWL field of
every register of the map has the value it had, or the module has been reset: its host-written fields are those that a
reset leaves. With DONE = 0 the same holds of every command that is not a register write of the host's or the write of
HIF_SETUP_DONE; firmware's writes are among those commands. -/
def Obligations.LockedFieldsHoldUntilReset : Prop :=
  (∀ (c : Instr) (s t : State), s.done = true → exec c s = .next t →
    (∀ r : Reg, r.mapped → ∀ f ∈ r.fields, f.acc = .RWL → t.cf r f.span = s.cf r f.span)
      ∨ ∃ pcie : Bool, t.cfg = s.cfg.afterReset pcie)
  ∧ (∀ (c : Instr) (s t : State), s.done = false → exec c s = .next t →
    (∀ w o v : Nat, c ≠ .registerWrite .host w o v ∧ c ≠ .broadcastWrite .host w o v ∧ c ≠ .hifSetupDone v) →
    (∀ r : Reg, r.mapped → ∀ f ∈ r.fields, f.acc = .RWL → t.cf r f.span = s.cf r f.span)
      ∨ ∃ pcie : Bool, t.cfg = s.cfg.afterReset pcie)

/-- For every state in which each host-written field of the register map that has a range or a code bound stands inside it
or at its reset value, a step that answers a next state answers one in which each still does. -/
def Obligations.RangedFieldsStayInRange : Prop :=
  ∀ s t : State, s.inRange → step s = .next t → t.inRange

/-- For every state whose file of host-written registers lists offsets strictly rising and no register at its reset value,
a step that answers a next state answers one whose file has that form; so equal configurations are equal data. -/
def Obligations.ConfigurationStaysCanonical : Prop :=
  ∀ s t : State, s.cfg.canon → step s = .next t → t.cfg.canon

/-- After the power-on reset every ranged field stands in its range or at its reset value, the register files are in
canonical form, HIF_SETUP_DONE.DONE and HIF_STATUS.READY read 0, no descriptor is in flight, no event waits, and every
register reads its reset value. -/
def Obligations.ResetStateMeetsInvariants : Prop :=
  State.reset.inRange ∧ State.reset.cfg.canon ∧ State.reset.sts.canon
    ∧ State.reset.done = false ∧ State.reset.ready = false ∧ State.reset.hif.inflight = [] ∧ State.reset.evq = []
    ∧ State.reset.pending = [] ∧ ∀ r : Reg, State.reset.cfg.get r = r.reset ∧ State.reset.sts.get r = r.reset

/-- For every offset at which the map holds a register, that register's own offset is that offset; so no two registers
share an address, every address of the map lies on a 32-bit boundary, and the map's rows hold the 16,293 addresses of
BAR0 that R564 counts. -/
def Obligations.OffsetNamesItsRegister : Prop :=
  (∀ (off : Nat) (r : Reg), Reg.ofOffset off = some r → r.offset = off ∧ off % 4 = 0)
    ∧ (∀ r q : Reg, r.mapped → q.mapped → r.offset = q.offset → r = q)
    ∧ bar0Count = 16293

/-- A 32-bit write by the host or by firmware to a register of the map that has no command of its own completes. An RW
field with no range takes the written bits. An RWL field takes them from the host before HIF_SETUP_DONE and otherwise
stands. An RWP field takes them inside a presence-unlocked window and otherwise stands. An RO field stands. A W1C
field loses the bits written as 1 and a W1S field gains them. (YRD_REGION, SEC_TAMPER_CFG and the held words of the
RTC pairs have statements of their own.) -/
def Obligations.RegisterWriteFollowsAccessTypes : Prop :=
  ∀ (s : State) (side : Side) (r : Reg) (f : Field) (w : BitVec 32), r.mapped → f ∈ r.fields → r.ownRow = false →
    r ≠ .YRD_REGION → r ≠ .SEC_TAMPER_CFG → r ≠ .RTC_CAL_LO → (∀ n, r ≠ .RTC_ALM_LO n) → s.lizardHides side r.offset = false →
    ∃ t, exec (.registerWrite side 32 r.offset w.toNat) s = .next t
      ∧ (f.acc = .RW → f.clamp = .none → t.cf r f.span = f.span.get w)
      ∧ (f.acc = .RWL → f.clamp = .none → side = .host ∧ s.done = false → t.cf r f.span = f.span.get w)
      ∧ (f.acc = .RWL → side ≠ .host ∨ s.done = true → t.cf r f.span = s.cf r f.span)
      ∧ (f.acc = .RWP → f.clamp = .none → s.winOpen = true → t.cf r f.span = f.span.get w)
      ∧ (f.acc = .RWP → s.winOpen = false → t.cf r f.span = s.cf r f.span)
      ∧ (f.acc = .RO → t.sf r f.span = s.sf r f.span)
      ∧ (f.acc = .W1C → t.sf r f.span = f.span.get (s.sts.get r &&& ~~~ w))
      ∧ (f.acc = .W1S → t.sf r f.span = f.span.get (s.sts.get r ||| w))

/-- A 32-bit broadcast write completes as the writes of the same word to the same offset of every member that the window
reaches, lowest first. A 32-bit broadcast read, of an offset that is answered, completes, answers the value of the
lowest member, and sets BC_STAT of its window for its own side: MISMATCH and DIFF name the lowest member that differs
from it. A read of an empty GROUP answers 0. -/
def Obligations.BroadcastAccessesReachTheMembers : Prop :=
  (∀ (s : State) (side : Side) (off : Nat) (w : BitVec 32) (f : Fam) (win : BcWin) (o : Nat),
    off % 4 = 0 → bcWindow off = some (f, win, o) →
    Turns (.broadcastWrite side 32 off w.toNat) s
      ((s.bcMembers f win).foldl (fun t i => t.poke side (f.instBase + f.size * i + o) w) s))
  ∧ (∀ (s : State) (side : Side) (off : Nat) (f : Fam) (win : BcWin) (o : Nat) (i : Nat) (rest : List Nat),
    off % 4 = 0 → bcWindow off = some (f, win, o) → s.lizardHides side off = false → s.bcMembers f win = i :: rest →
    ∃ t, exec (.broadcastRead side 32 off) s = .next t
      ∧ t.out = .readData side (s.peek side (f.instBase + f.size * i + o)).toNat :: s.out
      ∧ (side = .host → t.sts.get (bcStat f win) = bcOutcome ((i :: rest).map (fun k => (k, s.peek side (f.instBase + f.size * k + o)))))
      ∧ (side = .firmware → t.bcFw.get (bcStat f win) = bcOutcome ((i :: rest).map (fun k => (k, s.peek side (f.instBase + f.size * k + o)))))
      ∧ t.cfg = s.cfg)
  ∧ (∀ (s : State) (side : Side) (off : Nat) (f : Fam) (win : BcWin) (o : Nat),
    off % 4 = 0 → bcWindow off = some (f, win, o) → s.bcMembers f win = [] →
    ∃ t, exec (.broadcastRead side 32 off) s = .next t ∧ t.out = .readData side 0 :: s.out)
  ∧ (∀ (i j : Nat) (v w : BitVec 32) (vals : List (Nat × BitVec 32)), i < 544 → j < 544 → w ≠ v →
    vals.find? (fun p => p.2 != v) = some (j, w) →
    bit (bcOutcome ((i, v) :: vals)).toNat 31 = true ∧ bits (bcOutcome ((i, v) :: vals)).toNat 25 16 = i
      ∧ bits (bcOutcome ((i, v) :: vals)).toNat 9 0 = j)

/-- A write of 1 to HIF_SETUP_DONE.DONE by a host, with READY set and DONE still 0, completes: DONE and LOCKED become 1,
the rings are judged, then the blocks are set up and the latched doorbells are acted on. In the judgement every
enabled submission ring with a valid configuration enters RUNNING, and every enabled one with an invalid configuration
enters FAULTED with FAULT = CFG. A doorbell that arrives before is latched, with its latest value. -/
def Obligations.SetupJudgesTheRings : Prop :=
  (∀ (s : State) (v : Nat), bit v 0 = true → s.ready = true → s.done = false →
    ∃ u, u = s.hold (fun s => ((s.setSf .HIF_SETUP_DONE F.HIF_SETUP_DONE_DONE 1).setSf .HIF_STATUS F.HIF_STATUS_LOCKED 1).setupRings)
      ∧ u.done = true ∧ u.sf .HIF_STATUS F.HIF_STATUS_LOCKED = 1
      ∧ Turns (.hifSetupDone v) s ((if u.replaying then u else u.setupBlocks).hold State.actLatched))
  ∧ (∀ (s : State) (n : Nat), n < 64 → s.cf (.HIF_SQ_CFG n) F.HIF_SQ_CFG_ENABLE = 1 →
      (s.setupRings.cqUp = s.cqUp)
      ∧ (s.sqValid n = true → s.setupRings.sqState n = 1)
      ∧ (s.sqValid n = false → s.setupRings.sqState n = 3 ∧ s.setupRings.sf (.HIF_SQ_STAT n) F.HIF_SQ_STAT_FAULT = 3))
  ∧ (∀ (s : State) (n v : Nat), n < 64 → s.done = false → v < 2 ^ 32 →
      ∃ t, exec (.sqTailDoorbell 32 n v) s = .next t ∧ Tbl.get 0 t.hif.db (dbSq n) = v ∧ dbSq n ∈ t.hif.latched
        ∧ t.hif.sqTail = s.hif.sqTail)

/-- After HIF_SETUP_DONE and outside a pause, a submission tail that leaves at most size minus 1 entries becomes the
ring's tail, and any other faults the ring with FAULT = PTR; a completion head between the old head and TAIL frees its
entries, after which held completions are posted; an event head between the old head and TAIL frees its entries; any
other head leaves the index and records HEAD_IGNORED. A doorbell write of another width than 32 bits is ignored. -/
def Obligations.DoorbellsMoveTheirRings : Prop :=
  (∀ (s : State) (n v : Nat), n < 64 → s.done = true → s.paused = false → s.sqState n = 1 → v < 65536 → v < s.sqSize n →
    s.sqAvail n + (v + s.sqSize n - s.sqTail n) % s.sqSize n ≤ s.sqSize n - 1 →
    Does (.sqTailDoorbell 32 n v) s
      { s with hif := { s.hif with db := Tbl.put 0 s.hif.db (dbSq n) v, sqTail := Tbl.put 0 s.hif.sqTail n v } })
  ∧ (∀ (s : State) (n v : Nat), n < 64 → s.done = true → s.paused = false → s.sqState n = 1 → v < 65536 →
    (s.sqSize n ≤ v ∨ s.sqSize n - 1 < s.sqAvail n + (v + s.sqSize n - s.sqTail n) % s.sqSize n) →
    Does (.sqTailDoorbell 32 n v) s ({ s with hif := { s.hif with db := Tbl.put 0 s.hif.db (dbSq n) v } }.sqFault n 2))
  ∧ (∀ (s : State) (n v : Nat), n < 64 → s.done = true → s.paused = false → v < 65536 → v < s.cqSize n →
    (v + s.cqSize n - Tbl.get 0 s.hif.cqHead n) % s.cqSize n
      ≤ (s.sf (.HIF_CQ_STAT n) F.HIF_CQ_STAT_TAIL + s.cqSize n - Tbl.get 0 s.hif.cqHead n) % s.cqSize n →
    Does (.cqHeadDoorbell 32 n v) s
      (({ s with hif := { s.hif with db := Tbl.put 0 s.hif.db (dbCq n) v, cqHead := Tbl.put 0 s.hif.cqHead n v } }.cqRefresh
        n).cqDrain))
  ∧ (∀ (s : State) (n v : Nat), n < 8 → s.done = true → s.paused = false → v < 65536 → v < s.eqSize n →
    (v + s.eqSize n - Tbl.get 0 s.hif.eqHead n) % s.eqSize n
      ≤ (s.sf (.HIF_EQ_STAT n) F.HIF_EQ_STAT_TAIL + s.eqSize n - Tbl.get 0 s.hif.eqHead n) % s.eqSize n →
    Does (.eqHeadDoorbell 32 n v) s
      { s with hif := { s.hif with db := Tbl.put 0 s.hif.db (dbEq n) v, eqHead := Tbl.put 0 s.hif.eqHead n v } })
  ∧ (∀ (s : State) (n v : Nat), n < 64 → s.done = true → s.paused = false → v < 65536 →
    (s.cqSize n ≤ v ∨ (s.sf (.HIF_CQ_STAT n) F.HIF_CQ_STAT_TAIL + s.cqSize n - Tbl.get 0 s.hif.cqHead n) % s.cqSize n
      < (v + s.cqSize n - Tbl.get 0 s.hif.cqHead n) % s.cqSize n) →
    Does (.cqHeadDoorbell 32 n v) s
      ({ s with hif := { s.hif with db := Tbl.put 0 s.hif.db (dbCq n) v } }.event 0 n 0x0201 2
        [1, n, v, s.sf (.HIF_CQ_STAT n) F.HIF_CQ_STAT_TAIL]))
  ∧ (∀ (s : State) (n v : Nat), n < 8 → s.done = true → s.paused = false → v < 65536 →
    (s.eqSize n ≤ v ∨ (s.sf (.HIF_EQ_STAT n) F.HIF_EQ_STAT_TAIL + s.eqSize n - Tbl.get 0 s.hif.eqHead n) % s.eqSize n
      < (v + s.eqSize n - Tbl.get 0 s.hif.eqHead n) % s.eqSize n) →
    Does (.eqHeadDoorbell 32 n v) s
      ({ s with hif := { s.hif with db := Tbl.put 0 s.hif.db (dbEq n) v } }.event 0 n 0x0201 2
        [2, n, v, s.sf (.HIF_EQ_STAT n) F.HIF_EQ_STAT_TAIL]))
  ∧ (∀ (s : State) (w n v : Nat), w ≠ 32 → Does (.sqTailDoorbell w n v) s s ∧ Does (.cqHeadDoorbell w n v) s s
    ∧ Does (.eqHeadDoorbell w n v) s s)

/-- When the next read falls to ring n, a descriptor of the expected phase that passes the checks of R44 comes in flight
with the next number, HEAD advances by one and its ring stays as it is; one of the other phase leaves HEAD and faults
the ring with FAULT = PHASE; a failed read faults the ring with FAULT = HOST_MEM and raises HOST_MEM_FAIL. -/
def Obligations.DescriptorFetchTakesTheEntry : Prop :=
  (∀ (s : State) (n most : Nat) (c : Bool) (b : List Byte) (k : Option Nat) (d : Desc), s.nextRead = some (n, most, c) →
    1 ≤ most → 1 ≤ s.sqAvail n → b.length = 64 → bit (leAt b 1 1) 0 = Tbl.get true s.hif.sqPhase n →
    d = parseDesc s.hif.nextDid (.ring n) s.tsu.raw s.outputTime s.nsNow k b → descInvalid (leAt b 1 1) s.outputTime d = false →
    ∃ t, exec (.descriptorFetch (.ok [⟨b, none, k⟩])) s = .next t
      ∧ t.hif.inflight = s.hif.inflight ++ [d]
      ∧ t.hif.nextDid = s.hif.nextDid + 1 ∧ t.sqHead n = (s.sqHead n + 1) % s.sqSize n ∧ t.sqState n = s.sqState n
      ∧ t.cfg = s.cfg ∧ t.seg = s.seg ∧ t.evq = s.evq)
  ∧ (∀ (s : State) (n most : Nat) (c : Bool) (b : List Byte), s.nextRead = some (n, most, c) → 1 ≤ most → 1 ≤ s.sqAvail n →
    b.length = 64 → bit (leAt b 1 1) 0 ≠ Tbl.get true s.hif.sqPhase n →
    ∃ t, exec (.descriptorFetch (.ok [⟨b, none, none⟩])) s = .next t ∧ t.hif.inflight = s.hif.inflight
      ∧ t.sqHead n = s.sqHead n ∧ t.sqState n = 3 ∧ t.sf (.HIF_SQ_STAT n) F.HIF_SQ_STAT_FAULT = 1)
  ∧ (∀ (s : State) (n most : Nat) (c : Bool), s.nextRead = some (n, most, c) →
    Does (.descriptorFetch .failed) s ((s.sqFault n 4).hostMemFail))

/-- When the operation of a ring's descriptor ends with a status, the descriptor is no longer in flight. Unless it was
discarded by a function reset, or asked for no completion of an OK, one entry is posted for it with its TAG, the
status (LATE for an OK that was late), the DETAIL of a failure and the RESULT: written to its completion ring and
counted by TAIL when the ring can take it and nothing is held for that ring before it, held otherwise. The octets of
its result, cut to its buffer, are written to its buffer ahead of the entry. -/
def Obligations.FinalCompletionIsPosted : Prop :=
  (∀ (s : State) (d : Desc) (n : Nat) (a : Answer), d.src = .ring n → (s.finish d a).desc? d.did = none
      ∧ (s.finish d a).cfg = s.cfg ∧ (s.finish d a).seg = s.seg ∧ (s.finish d a).tsu = s.tsu)
  ∧ (∀ (s : State) (d : Desc) (n st : Nat), d.src = .ring n → d.discard = false → d.noComp = false → d.late = false →
      st ≠ 0 → s.fail d st = (s.dropDesc d.did).postC
        { sq := n, tag := d.tag, status := st, detail := 0, trunc := false, data := false, interim := false, xfer := 0
          actTime := d.actTime.getD s.outputTime, result := 0, octets := [], addr := d.addr, silent := false, bad := d.postBad })
  ∧ (∀ (s : State) (d : Desc) (n r : Nat), d.src = .ring n → d.discard = false → d.noComp = false →
      s.ok d r = (s.dropDesc d.did).postC
        { sq := n, tag := d.tag, status := if d.late then 5 else 0, detail := 0, trunc := false, data := false
          interim := false, xfer := 0, actTime := d.actTime.getD s.outputTime, result := r, octets := [], addr := d.addr
          silent := false, bad := d.postBad })
  ∧ (∀ (s : State) (d : Desc) (n : Nat) (b : List Byte) (r : Nat), d.src = .ring n → d.discard = false → d.noComp = false →
      d.late = false → b ≠ [] → d.len ≠ 0 → s.okData d b r = (s.dropDesc d.did).postC
        { sq := n, tag := d.tag, status := 0, detail := 0, trunc := decide (d.len < b.length), data := true, interim := false
          xfer := min d.len b.length, actTime := d.actTime.getD s.outputTime, result := r, octets := b.take d.len, addr := d.addr
          silent := false, bad := d.postBad })
  ∧ (∀ (s : State) (d : Desc) (n r : Nat), d.src = .ring n → d.discard = false → d.noComp = true → d.late = false →
      s.ok d r = s.dropDesc d.did)
  ∧ (∀ (s : State) (e : CEnt), e.silent = false → s.cqWritable (s.cqOf e.sq) = false → (s.postC e).hif.cqHeld = s.hif.cqHeld ++ [e]
      ∧ (s.postC e).out = s.out)
  ∧ (∀ (s : State) (e : CEnt), e.silent = false → e.bad = none → s.cqWritable (s.cqOf e.sq) = true →
      s.cqClearOf (s.cqOf e.sq) = true → (s.postC e).sf (.HIF_CQ_STAT (s.cqOf e.sq)) F.HIF_CQ_STAT_TAIL
        = (s.sf (.HIF_CQ_STAT (s.cqOf e.sq)) F.HIF_CQ_STAT_TAIL + 1) % s.cqSize (s.cqOf e.sq)
      ∧ ∃ l, (s.postC e).out = l ++ (if e.octets = [] then s.out else .hostWrite e.addr e.octets :: s.out)
        ∧ Out.hostWrite (s.cqBase (s.cqOf e.sq) + 32 * s.sf (.HIF_CQ_STAT (s.cqOf e.sq)) F.HIF_CQ_STAT_TAIL)
          (e.bytes (s.sf (.HIF_SQ_STAT e.sq) F.HIF_SQ_STAT_HEAD) (Tbl.get true s.hif.cqPhase (s.cqOf e.sq))) ∈ l)

/-- NOP does nothing else. ABORT cancels every descriptor of the ring and TAG that its TARGET names whose action has not
begun and does not launch on this tick, and RESULT counts them. RING_CTL PAUSE and RESUME change the state of a
submission ring that is not FAULTED and does not carry the command; RESET ends what a ring holds and returns its
indices. STATUS_READ answers the snapshot that its selector names. RESET_MODULE, when its OK can be posted, completes
with OK, and 1 ms later the module is reset with source REQUESTED and the PCIe engine kept. -/
def Obligations.RingOperationsComplete : Prop :=
  (∀ (s : State) (d : Desc), s.serves d 0x00 → Does (.nop d.did) s ((s.holding d.taken).ok d.taken))
  ∧ (∀ (s : State) (d : Desc) (hit : List Desc), s.serves d 0x01 → d.target < 2 ^ 22 →
    hit = (s.holding d.taken).hif.inflight.filter (fun e =>
      e.did != d.did && d.src != .sealedRing e.did && e.src == .ring (bits d.target 21 16) && e.tag == bits d.target 15 0
        && !(s.holding d.taken).hasBegun e && !(s.holding d.taken).firesNow e.did
        && !(((s.holding d.taken).inner e.did).map (fun i => (s.holding d.taken).firesNow i.did)).getD false) →
    Does (.abort d.did) s (((s.holding d.taken).cancelAll stABORTED abortDetail hit).ok d.taken hit.length))
  ∧ (∀ (s : State) (d : Desc), s.serves d 0x02 → d.pByte 0 = 1 → (s.holding d.taken).ringNamed d.taken = true →
    ringKind d = 0 → s.sqState (ringNo d) ≠ 3 →
    Does (.ringCtlPause d.did) s (((s.holding d.taken).setSqState (ringNo d) 2).ok d.taken))
  ∧ (∀ (s : State) (d : Desc), s.serves d 0x02 → d.pByte 0 = 2 → (s.holding d.taken).ringNamed d.taken = true →
    ringKind d = 0 → s.sqState (ringNo d) ≠ 3 →
    Does (.ringCtlResume d.did) s (((s.holding d.taken).setSqState (ringNo d) 1).ok d.taken))
  ∧ (∀ (s : State) (d : Desc), s.serves d 0x02 → d.pByte 0 = 3 → (s.holding d.taken).ringNamed d.taken = true →
    ringKind d = 0 → s.sqState (ringNo d) ≠ 3 →
    Does (.ringCtlReset d.did) s (((s.holding d.taken).sqReset (ringNo d)).ok d.taken))
  ∧ (∀ (s : State) (d : Desc), s.serves d 0x02 → d.pByte 0 = 3 → (s.holding d.taken).ringNamed d.taken = true →
    ringKind d = 2 → s.eqUp (ringNo d) = true →
    Does (.ringCtlReset d.did) s ((((s.holding d.taken).eqClear (ringNo d)).flushQueue (200 + ringNo d) 1).ok d.taken))
  ∧ (∀ (s : State) (d : Desc), s.serves d 0x02 → d.pByte 0 = 3 → (s.holding d.taken).ringNamed d.taken = true →
    ringKind d = 1 → s.cqUp (ringNo d) = true → (∀ k, k < 64 → s.cqOf k = ringNo d → s.sqState k ≠ 1) →
    Does (.ringCtlReset d.did) s
      (((((s.holding d.taken).cqClear (ringNo d)).flushQueue (136 + ringNo d) 1).cqDrain).ok d.taken))
  ∧ (∀ (s : State) (d : Desc) (b : List Byte), s.serves d 0x07 → d.len ≠ 0 →
    (s.holding d.taken).statusData d.target = some b →
    Does (.statusRead d.did) s ((s.holding d.taken).okData d.taken b (min b.length d.len)))
  ∧ (∀ (s : State) (d : Desc), s.serves d 0x05 → d.target = 0 → d.param = 0#256 → s.postsNow d = true →
    Turns (.resetModule d.did) s
      ((((s.holding d.taken).hold (fun u => ((u.ok d.taken).yieldFirst).finalSave)).elapse msT).moduleReset 3 0 true))

/-- In replay mode an operation that the replay does not serve completes with DENIED, on a standby unit one that needs the
active unit completes with DENIED and DETAIL 0xFE, and neither does anything else (shown for NOP, ABORT, STALL_ADMIT
and STALL_RETIRE). An operation of a ring whose buffer cannot be read completes with POISON and raises HOST_MEM_FAIL
(shown for STALL_WRITE and SCENE_LOAD). A STATUS_READ with no buffer and a RING_CTL of a FAULTED ring complete with
ERR_ARG, and so does an ABORT with a bit of TARGET above 21 set, which is the model's choice (log 160). -/
def Obligations.RefusedOperationsComplete : Prop :=
  (∀ (s : State) (d : Desc), s.desc? d.did = some d → s.starts d = true → s.replaying = true →
    (d.op = 0x00 → Does (.nop d.did) s (s.fail d stDENIED))
    ∧ (d.op = 0x01 → Does (.abort d.did) s (s.fail d stDENIED)))
  ∧ (∀ (s : State) (d : Desc), s.desc? d.did = some d → s.starts d = true → s.replaying = false → s.standby = true →
    (d.op = 0x12 → d.pByte 8 = 0 → Does (.stallAdmit d.did) s (s.fail d stDENIED 0xFE))
    ∧ (d.op = 0x13 → d.pByte 0 = 0 → Does (.stallRetire d.did) s (s.fail d stDENIED 0xFE)))
  ∧ (∀ (s : State) (d : Desc) (n : Nat), d.src = .ring n → d.len ≠ 0 → s.hostUp = true →
    (s.serves d 0x11 → Does (.stallWrite d.did .failed) s (s.hostMemFail.fail d stPOISON))
    ∧ (s.serves d 0x17 → Does (.sceneLoad d.did .failed) s (s.hostMemFail.fail d stPOISON)))
  ∧ (∀ (s : State) (d : Desc), s.serves d 0x01 → 2 ^ 22 ≤ d.target →
    Does (.abort d.did) s ((s.holding d.taken).fail d.taken stERR_ARG))
  ∧ (∀ (s : State) (d : Desc), s.serves d 0x07 → d.len = 0 →
    Does (.statusRead d.did) s ((s.holding d.taken).fail d.taken stERR_ARG))
  ∧ (∀ (s : State) (d : Desc), s.serves d 0x02 → d.pByte 0 = 1 → s.sqState (ringNo d) = 3 →
    Does (.ringCtlPause d.did) s ((s.holding d.taken).fail d.taken stERR_ARG))

/-- A coalescing timer with unsignalled entries and a TIME passes to its end and signals the ring's vector. A 50
microsecond interval of an event ring or of the host receive ring passes to its end, and one message is sent where a
vector is set. A deadline whose descriptor has not begun passes to its end and the descriptor is cancelled with
EXPIRED. Clearing Bus Master Enable stops ring traffic, setting it posts what was held. PERST_N's release lets link
training start, and training, with the supply and REFCLK present, brings the link up. -/
def Obligations.RingTimersAndMessages : Prop :=
  (∀ (s : State) (n : Nat), n < 64 → Tbl.get 0 s.hif.cqUnsig n ≠ 0 → s.cf (.HIF_CQ_COAL n) F.HIF_CQ_COAL_TIME ≠ 0 →
    Does (.cqCoalesceTimer n) s
      ((s.elapseTo (Tbl.get 0 s.hif.cqFirst n + s.cf (.HIF_CQ_COAL n) F.HIF_CQ_COAL_TIME * usT)).cqSignal n))
  ∧ (∀ (s : State) (n : Nat), n < 8 → Tbl.get 0 s.hif.eqIvl n ≠ 0 →
    Tbl.get 0 s.hif.eqIvl n < 2 ^ 64 →
    ∃ t, exec (.eqMessageInterval n) s = .next t ∧ Tbl.get 0 t.hif.eqIvl n = 0
      ∧ Tbl.get 0 s.hif.eqIvl n ≤ t.tsu.raw ∧ s.tsu.raw ≤ t.tsu.raw
      ∧ (s.cf (.HIF_EQ_CFG n) F.HIF_EQ_CFG_VECTOR = 0 → t.out = s.out))
  ∧ (∀ (s : State) (d : Desc), s.desc? d.did = some d → d.deadline ≠ 0 → s.hasBegun d = false →
    Does (.deadlineExpiry d.did) s ((s.untilDeadline d).cancel d stEXPIRED (expiryDetail d)))
  ∧ (∀ s : State, Does (.busMasterEnableChange false) s { s with hif := { s.hif with bme := false } })
  ∧ (∀ s : State, Does (.busMasterEnableChange true) s
      (({ s with hif := { s.hif with bme := true } }.cqDrain).eqDrain).msixFlush)
  ∧ (∀ s : State, Does .perstNRelease s { s with hif := { s.hif with perst := true } })
  ∧ (∀ (s : State) (p : PcieSetup), s.hif.perst = true → s.clk.phase ≠ Phase.off → s.sf .CLK_SRC_STAT ⟨9, 8⟩ < 2 →
    Does (.pcieLinkUp p) s { s with hif := { s.hif with linkUp := true, pcie := s.hif.pcie.setUp p } })

/-- STALL_READ and PADDOCK_READ answer the entries that match, in index order, as many as fit. STALL_WRITE on a bound
stall takes exactly the selected fields and leaves every other stall. PADDOCK_WRITE CREATE makes the paddock valid
with its schedule and user word, with a key of its own if it had none valid, and leaves every other paddock; ADD and
REMOVE change the listed stalls, or nothing when an item fails, RESULT then naming its place; DELETE clears VALID and
takes the paddock out of every stall. -/
def Obligations.StallAndPaddockTablesFollowTheirCommands : Prop :=
  (∀ (s : State) (d : Desc) (hits : List Nat), s.serves d 0x10 → d.len ≠ 0 → d.target < nStalls → 1 ≤ d.pNum 0 4 →
    d.pNum 0 4 ≤ 131072 → d.pByte 4 < 128 → d.pZero 5 32 = true →
    hits = ((List.range (min (d.target + d.pNum 0 4) nStalls - d.target)).map (fun k => d.target + k)).filter (fun i =>
      d.pByte 4 == 0 || bit (d.pByte 4) (s.stall i).state) →
    Does (.stallRead d.did) s ((s.holding d.taken).finish d.taken
      { status := stOK
        result := min hits.length (d.len / 128) + 2 ^ 32 *
          (hits[min hits.length (d.len / 128)]?).getD (min (d.target + d.pNum 0 4) nStalls)
        data := ((hits.take (min hits.length (d.len / 128))).map s.stallBytes).flatten
        trunc := decide (min hits.length (d.len / 128) < hits.length) }))
  ∧ (∀ (s : State) (d e : Desc) (read : HostRead), s.serves d 0x11 → d.seen s read = some e → e.len = 128 → e.target < nStalls →
    e.pByte 0 < 8 → e.pZero 1 32 = true → (s.stall e.target).free = false → (s.stall e.target).state ≠ sRETIRED →
    (bit (e.pByte 0) 0 = true → s.padsOk e.buf = true) → (bit (e.pByte 0) 1 = true → s.schedOk (leAt e.buf 68 2) = true) →
    ∃ t, exec (.stallWrite d.did read) s = .next t
      ∧ t.stall e.target = { s.stall e.target with
          pads := if bit (e.pByte 0) 0 then padSlots e.buf else (s.stall e.target).pads
          sched := if bit (e.pByte 0) 1 then leAt e.buf 68 2 else (s.stall e.target).sched
          user := if bit (e.pByte 0) 2 then leAt e.buf 120 8 else (s.stall e.target).user }
      ∧ (∀ i, i ≠ e.target → t.stall i = s.stall i) ∧ t.seg.pads = s.seg.pads ∧ t.cfg = s.cfg ∧ t.desc? d.did = none)
  ∧ (∀ (s : State) (d : Desc), s.serves d 0x14 → d.len ≠ 0 → d.target < 4096 → 1 ≤ d.pNum 0 2 → d.pNum 0 2 ≤ 4096 →
    d.pZero 2 32 = true →
    Does (.paddockRead d.did) s ((s.holding d.taken).okItems d.taken 64
      (((List.range (min (d.pNum 0 2) (4096 - d.target))).map (fun k => d.target + k)).map s.padBytes) (fun n => n)))
  ∧ (∀ (s : State) (d e : Desc) (read : HostRead), s.serves d 0x15 → d.seen s read = some e → e.target < 4096 → e.pByte 0 = 0 →
    e.pZero 1 32 = true → e.len = 64 → s.schedOk (leAt e.buf 10 2) = true → 
    (s.padValid e.target = true ∨ (s.keyed = true ∧ s.shed.down = false)) →
    ∃ t, exec (.paddockCreate d.did read) s = .next t
      ∧ (t.pad e.target).valid = decide (e.target ≠ 0) ∧ (t.pad e.target).sched = leAt e.buf 10 2
      ∧ (t.pad e.target).user = leAt e.buf 48 8
      ∧ (s.padValid e.target = true → (t.pad e.target).key = (s.pad e.target).key)
      ∧ (s.padValid e.target = false → (t.pad e.target).key ≠ 0 ∧ (t.pad e.target).epoch = s.epoch8)
      ∧ (∀ p, p ≠ e.target → t.pad p = s.pad p) ∧ t.seg.stalls = s.seg.stalls ∧ t.cfg = s.cfg)
  ∧ (∀ (s : State) (d e : Desc) (read : HostRead), s.serves d 0x15 → d.seen s read = some e → e.target < 4096 → e.target ≠ 0 →
    e.pByte 0 = 1 → e.pZero 1 32 = true → listOk e = true → s.padValid e.target = true →
    (∀ t n, (s.holding e).runList (addPad e.target) 0 0 (stallList e.buf) = .ok (t, n) →
      Does (.paddockAdd d.did read) s (((stallList e.buf).foldl State.queueKeys t).ok e n))
    ∧ (∀ k, (s.holding e).runList (addPad e.target) 0 0 (stallList e.buf) = .error k →
      Does (.paddockAdd d.did read) s ((s.holding e).finish e { status := stERR_ARG, result := k })))
  ∧ (∀ (s : State) (d e : Desc) (read : HostRead), s.serves d 0x15 → d.seen s read = some e → e.target < 4096 → e.target ≠ 0 →
    e.pByte 0 = 2 → e.pZero 1 32 = true → listOk e = true →
    (∀ t n, (s.holding e).runList (removePad e.target) 0 0 (stallList e.buf) = .ok (t, n) →
      Does (.paddockRemove d.did read) s (t.ok e n))
    ∧ (∀ k, (s.holding e).runList (removePad e.target) 0 0 (stallList e.buf) = .error k →
      Does (.paddockRemove d.did read) s ((s.holding e).finish e { status := stERR_ARG, result := k })))
  ∧ (∀ (s : State) (d : Desc), s.serves d 0x15 → d.pByte 0 = 3 → d.target < 4096 → d.target ≠ 0 → d.len = 0 →
    d.pZero 1 32 = true → s.padValid d.target = true → s.padNamed d.target = false →
    ∃ t, exec (.paddockDelete d.did) s = .next t ∧ t.padValid d.target = false ∧ (∀ i, (t.stall i).lists d.target = false)
      ∧ (∀ p, p ≠ d.target → t.pad p = s.pad p) ∧ t.cfg = s.cfg)

/-- For an EUI that no stall outside UNBOUND holds, ADMIT and REFUSE complete with OK and leave exactly one entry for the
EUI, with the yard mask of TARGET bits 15:0 (0: every yard) and the action; entries of other EUIs stand. A full list
gives BUSY to a new EUI, an EUI held by a stall that is not UNBOUND gives ERR_ARG with DETAIL 0x01, and REVOKE removes
the entry or, with none, gives ERR_ARG with DETAIL 0x02. The lapse of a REFUSE entry removes it and no other; an ADMIT
entry does not lapse. -/
def Obligations.AdmissionListFollowsItsCommands : Prop :=
  (∀ (s : State) (d : Desc) (refuse : Bool), s.serves d 0x12 → d.target < 65536 → d.pByte 8 = b2n refuse → d.pZero 9 32 = true →
    (s.seg.stalls.any (fun q => q.2.eui == d.pNum 0 8 && q.2.state != sUNBOUND)) = false →
    ((s.admitOf (d.pNum 0 8)).isSome = true ∨ s.seg.admits.length < 4096) →
    ∃ t a, exec (if refuse then .stallRefuse d.did else .stallAdmit d.did) s = .next t
      ∧ t.seg.admits = s.seg.admits.filter (fun a => a.eui != d.pNum 0 8) ++ [a]
      ∧ a.eui = d.pNum 0 8 ∧ a.refuse = refuse ∧ a.mask = (if d.target = 0 then 0xFFFF else d.target) ∧ a.tick = s.newt.tick
      ∧ t.seg.stalls = s.seg.stalls ∧ t.cfg = s.cfg ∧ t.desc? d.did = none)
  ∧ (∀ (s : State) (d : Desc), s.serves d 0x12 → d.target < 65536 → d.pByte 8 ≤ 1 → d.pZero 9 32 = true →
    s.admitOf (d.pNum 0 8) = none → 4096 ≤ s.seg.admits.length →
    Does (if d.pByte 8 = 1 then .stallRefuse d.did else .stallAdmit d.did) s ((s.holding d.taken).fail d.taken stBUSY))
  ∧ (∀ (s : State) (d : Desc), s.serves d 0x12 → d.target < 65536 → d.pByte 8 = 2 → d.pZero 9 32 = true →
    (s.seg.stalls.any (fun q => q.2.eui == d.pNum 0 8 && q.2.state != sUNBOUND)) = true →
    Does (.stallRevoke d.did) s ((s.holding d.taken).fail d.taken stERR_ARG 1))
  ∧ (∀ (s : State) (d : Desc), s.serves d 0x12 → d.target < 65536 → d.pByte 8 = 2 → d.pZero 9 32 = true →
    (s.seg.stalls.any (fun q => q.2.eui == d.pNum 0 8 && q.2.state != sUNBOUND)) = false →
    (s.admitOf (d.pNum 0 8) = none → Does (.stallRevoke d.did) s ((s.holding d.taken).fail d.taken stERR_ARG 2))
    ∧ ((s.admitOf (d.pNum 0 8)).isSome = true →
      Does (.stallRevoke d.did) s (((s.holding d.taken).unadmit (d.pNum 0 8)).ok d.taken)))
  ∧ (∀ (s : State) (eui : Nat) (a : Admit), s.admitOf eui = some a →
    (a.refuse = true → ∃ t, exec (.refuseLapse eui) s = .next t ∧ t.admitOf eui = none
      ∧ t.seg.admits = s.seg.admits.filter (fun a => a.eui != eui))
    ∧ (a.refuse = false → Does (.refuseLapse eui) s s))

/-- STALL_RETIRE with FREE = 0 on a stall outside UNBOUND and RETIRED leaves it RETIRED with no key, and no key of it in
the key cache; every other field of it and every other stall stands, unless an open rollover goes on without it. With
FREE = 1 on a RETIRED stall it leaves every field clear, and every other stall stands. FREE = 1 on any other stall
completes with ERR_ARG and changes nothing else. -/
def Obligations.RetiringEndsAStall : Prop :=
  (∀ (s : State) (d : Desc), s.serves d 0x13 → d.target < nStalls → d.pByte 0 = 0 → d.pZero 1 32 = true →
    (s.stall d.target).live = true →
    ∃ t, exec (.stallRetire d.did) s = .next t
      ∧ (t.stall d.target).state = sRETIRED ∧ (t.stall d.target).key = 0 ∧ (t.stall d.target).keyNext = 0
      ∧ (∀ k ∈ t.air.cache, k.kind ≠ 2 → k.handle ≠ (s.stall d.target).key ∧ k.handle ≠ (s.stall d.target).keyNext)
      ∧ t.cfg = s.cfg
      ∧ (s.roll.phase ≠ 1 → t.stall d.target = { s.stall d.target with
            state := sRETIRED, key := 0, keyNext := 0, oldKey := 0, renew := 0, nextHeld := false }
          ∧ (∀ i, i ≠ d.target → t.stall i = s.stall i) ∧ t.seg.pads = s.seg.pads))
  ∧ (∀ (s : State) (d : Desc), s.serves d 0x13 → d.target < nStalls → d.pByte 0 = 1 → d.pZero 1 32 = true →
    (s.stall d.target).state = sRETIRED →
    ∃ t, exec (.stallFree d.did) s = .next t ∧ t.stall d.target = Stall.none ∧ (∀ i, i ≠ d.target → t.stall i = s.stall i)
      ∧ t.seg.items = s.seg.items ∧ t.cfg = s.cfg)
  ∧ (∀ (s : State) (d : Desc), s.serves d 0x13 → d.target < nStalls → d.pByte 0 = 1 → d.pZero 1 32 = true →
    (s.stall d.target).state ≠ sRETIRED →
    Does (.stallFree d.did) s ((s.holding d.taken).fail d.taken stERR_ARG))

/-- A DOWNLINK_SEND that passes the checks of R163 appends one item for its stall, its hold counted from the descriptor's
fetch, which waits for its general slot where it is launch-timed; a GROUP_SEND to a paddock with members in the yards
chosen appends one group job with a part for each of those yards, and one without completes at once; SCHEDULE_LOAD
stores the schedule in place of the one of its ID and distributes it to the paddocks and stalls that name it. -/
def Obligations.MessagesAndSchedulesAreQueued : Prop :=
  (∀ (s : State) (d e : Desc) (read : HostRead), s.serves d 0x20 → d.seen s read = some e → e.pByte 1 ≤ 2 → e.pByte 2 ≤ 1 →
    e.pZero 3 32 = true → e.target / 2 ^ 18 = s.segid →
    (s.stall (e.target % 2 ^ 18)).state ∈ [sACTIVE, sDOZING, sADRIFT] → bodyOk (e.pByte 0) e.buf = true →
    (e.pByte 1 = 2 → s.timedFits (e.target % 2 ^ 18) (1 + e.len) = true) → s.qcount (e.target % 2 ^ 18) < 8 →
    (s.seg.items.filter (fun t => t.kind == .msg)).length < 65536 → (e.launch = true → (s.holding e).pend < 4096) →
    Does (.downlinkSend d.did read) s
      ((if e.launch then (s.holding e).updDesc d.did (fun x => { x with stage := .launchWait }) else s.holding e).addItem
        { newItem (e.target % 2 ^ 18) (e.pByte 0) .msg e.buf (e.pByte 1) (bit (e.pByte 2) 0) d.at_ with
          did := some d.did, from_ := if e.launch then e.launchTime else 0
          hold := if (s.stall (e.target % 2 ^ 18)).state = sADRIFT then some (s.holdEnd (e.target % 2 ^ 18) d.at_) else none }))
  ∧ (∀ (s : State) (d e : Desc) (read : HostRead) (ys : List Nat), s.serves d 0x21 → d.seen s read = some e → e.target < 4096 →
    e.pZero 4 32 = true → 1 ≤ e.pByte 1 → e.pByte 1 ≤ 8 → bodyOk (e.pByte 0) e.buf = true → s.padValid e.target = true →
    (e.launch = true → (s.holding e).pend < 4096) →
    ys = (s.padYards e.target).filter (fun y => e.pNum 2 2 == 0 || bit (e.pNum 2 2) y) →
    (ys ≠ [] → Does (.groupSend d.did read) s
      ((if e.launch then (s.holding e).updDesc d.did (fun x => { x with stage := .launchWait }) else s.holding e).addJob
        .group (some d.did) e.target (e.pByte 0) e.buf (e.pByte 1) ys (if e.launch then e.launchTime else 0) none))
    ∧ (ys = [] → Does (.groupSend d.did read) s ((s.holding e).ok e)))
  ∧ (∀ (s s1 : State) (d e : Desc) (read : HostRead), s.serves d 0x16 → d.seen s read = some e → e.target < 65536 →
    e.pZero 0 32 = true → bodyOk 0x02 e.buf = true → leAt e.buf 0 2 = e.target →
    ((s.schedule e.target).isSome = true ∨ s.seg.scheds.length < 1024) →
    s1 = { s.holding e with seg := { s.seg with
      scheds := (e.target, e.buf) :: s.seg.scheds.filter (fun p => p.1 != e.target) } }.beginDesc d.did →
    Does (.scheduleLoad d.did read) s
      (s1.distribute (some d.did) e.buf (s1.schedPads e.target) (s1.schedStalls e.target)))

/-- A SCENE_LOAD that passes its checks leaves the scene loaded with its instant, body, carrier and drive section,
unarmed, with the carrier paddock naming it. A second load of an armed scene, or a 65th scene, gives BUSY.
SCENE_LAUNCH at the scene's own instant makes its descriptor wait for the scene. At the arming lead a scene that has a
launch takes its slots and is armed. SCENE_CANCEL removes the scene, its delivery, its slots, its scene-now frames and
its drive changes. One second after its instant a scene is removed: a launch of it that was never carried out
completes with EXPIRED, and what is left of one under way goes on without it. -/
def Obligations.ScenesFollowTheirCommands : Prop :=
  (∀ (s : State) (d e : Desc) (read : HostRead), s.serves d 0x17 → d.seen s read = some e → sceneArgsOk e = true →
    bit (e.pByte 1) 0 = false → e.len ≠ 0 → s.sceneCheck d.atOut e.target (e.pNum 2 2) e.buf = none →
    ((s.scene? e.target).map (fun c => c.armed)).getD false = false →
    (s.scene? e.target = none → s.loadedScenes.length < 64) → s.padYards (e.pNum 2 2) ≠ [] →
    ∃ t c, exec (.sceneLoad d.did read) s = .next t ∧ t.scene? e.target = some c ∧ c.t = leAt e.buf 2 8
      ∧ c.body = e.buf.take (13 + 4 * sceneN e.buf) ∧ c.carrier = e.pNum 2 2 ∧ c.loadDid = some d.did ∧ c.armed = false
      ∧ (t.pad (e.pNum 2 2)).sceneId = e.target ∧ (t.pad (e.pNum 2 2)).sceneT = leAt e.buf 2 8
      ∧ (t.sceneJob e.target).isSome = true ∧ t.cfg = s.cfg)
  ∧ (∀ (s : State) (d e : Desc) (read : HostRead), s.serves d 0x17 → d.seen s read = some e → sceneArgsOk e = true →
    bit (e.pByte 1) 0 = false → e.len ≠ 0 → s.sceneCheck d.atOut e.target (e.pNum 2 2) e.buf = none →
    ((s.scene? e.target = none ∧ 64 ≤ s.loadedScenes.length) ∨ ((s.scene? e.target).map (fun c => c.armed)).getD false = true) →
    Does (.sceneLoad d.did read) s ((s.holding e).fail e stBUSY))
  ∧ (∀ (s : State) (d e : Desc) (read : HostRead) (c : Scene), s.serves d 0x17 → d.seen s read = some e → sceneArgsOk e = true →
    bit (e.pByte 1) 0 = true → e.len = 0 → s.scene? e.target = some c →
    ∃ t, exec (.sceneCancel d.did read) s = .next t ∧ t.seg.scenes = s.seg.scenes.filter (fun c => c.id != e.target)
      ∧ (∀ x ∈ t.tsu.slots, x.scene ≠ some e.target) ∧ (∀ r ∈ t.air.reqs, r.kind ≠ .sceneNow e.target)
      ∧ (∀ k ∈ t.drv.changes, k.scene ≠ some e.target) ∧ t.cfg = s.cfg)
  ∧ (∀ (s : State) (d : Desc) (c : Scene), s.serves d 0x18 → s.scene? d.target = some c → d.launch = true → d.launchTime = c.t →
    d.pZero 0 32 = true → c.launchDid = none → (s.holding d.taken).pend < 4096 →
    Does (.sceneLaunch d.did) s
      (((s.holding d.taken).updDesc d.did (fun x => { x with stage := .launchWait })).modScene c.id (fun c =>
        { c with launchDid := some d.did })))
  ∧ (∀ (s s1 : State) (id k : Nat) (c c1 : Scene), s.scene? id = some c → s.paused = false →
    s1 = (s.elapseOut ((c.t : Int) - c.lead * secT)).endDelivery id → s1.scene? id = some c1 → c1.launchDid = some k →
    c1.armed = false → s1.serving = true →
    Does (.sceneArm id) s
      ((((s1.sceneSlots c1 k).foldl State.takeSlot s1).updDesc k (fun x => { x with stage := .armed })).modScene id (fun c =>
        { c with armed := true, left := (s1.sceneSlots c1 k).length })))
  ∧ (∀ (s s1 : State) (id : Nat) (c c1 : Scene), s.scene? id = some c →
    s1 = (s.elapseOut ((c.t : Int) + secT)).endDelivery id → s1.scene? id = some c1 →
    ((c1.armed = false ∨ (c1.left = 0 ∧ c1.latching = 0)) →
      Does (.sceneDiscard id) s ((s1.endDid c1.launchDid (if c1.armed then stOK else stEXPIRED) 0 0).dropScene id))
    ∧ (c1.armed = true → (c1.left ≠ 0 ∨ c1.latching ≠ 0) → Does (.sceneDiscard id) s (s1.orphanScene id)))

/-- Every action answers the progress record; QUERY changes nothing else. START with no rollover open, the shed up, an
owner and a wrap key opens one; while one is open it gives BUSY, with no owner or wrap key DENIED, with the shed in
reset ERR_ABSENT. CLOSE, and the expiry of ROLL_CLOSE_AFTER, begin the close of an open rollover, which is carried out
at the next superframe boundary, or at once where none is to come. Then the phase is NONE, the epoch is the one rolled
in, no paddock is rolling, a stall still pending is UNBOUND, and a stall that has a new key has it as its key, of the
new epoch. -/
def Obligations.RolloverFollowsItsCommands : Prop :=
  (∀ (s : State) (d : Desc), s.serves d 0x19 → d.target = 0 → d.param = 0#256 → d.len ≠ 0 →
    Does (.epochRollQuery d.did) s ((s.holding d.taken).rollAnswer d.taken stOK))
  ∧ (∀ (s : State) (d : Desc), s.serves d 0x19 → d.target = 0 → d.pByte 0 = 1 → d.pZero 1 32 = true → d.len ≠ 0 →
    (s.roll.phase = 0 → s.shed.down = false → s.keyed = true →
      Does (.epochRollStart d.did) s ((s.holding d.taken).rollOpen.rollAnswer d.taken stOK))
    ∧ (s.roll.phase = 0 → s.shed.down = true → Does (.epochRollStart d.did) s ((s.holding d.taken).rollAnswer d.taken stERR_ABSENT))
    ∧ (s.roll.phase = 0 → s.shed.down = false → s.keyed = false →
      Does (.epochRollStart d.did) s ((s.holding d.taken).rollAnswer d.taken stDENIED))
    ∧ (s.roll.phase ≠ 0 → Does (.epochRollStart d.did) s ((s.holding d.taken).rollAnswer d.taken stBUSY)))
  ∧ (∀ (s : State) (d : Desc), s.serves d 0x19 → d.target = 0 → d.pByte 0 = 2 → d.pZero 1 32 = true → d.len ≠ 0 →
    (s.roll.phase = 1 → Does (.epochRollClose d.did) s ((s.holding d.taken).rollClose.rollAnswer d.taken stOK))
    ∧ (s.roll.phase ≠ 1 → Does (.epochRollClose d.did) s ((s.holding d.taken).rollAnswer d.taken stOK)))
  ∧ (∀ s : State, s.roll.phase = 1 → s.serving = true →
    Does .rollCloseAfterExpiry s ((s.elapseRtc (s.roll.start + s.inForce 0x0522 * 3600 * 32768)).rollClose))
  ∧ (∀ s : State, (s.boundaryAhead = true → s.rollClose = s.journal (fun r => { r with phase := 2 }))
    ∧ (s.boundaryAhead = false → s.rollClose = (s.journal (fun r => { r with phase := 2 })).rollFinish)
    ∧ (s.roll.phase = 2 → s.rollBoundary = s.rollFinish))
  ∧ (∀ s t : State, t = s.rollFinish → t.roll.phase = 0 ∧ t.tack.epoch = s.roll.epoch ∧ t.tack.epochNext = none
      ∧ t.seg.inflight = [] ∧ t.seg.tried = [] ∧ (∀ p, (t.pad p).rolling = false)
      ∧ (∀ i, (s.stall i).live = true → (s.stall i).rolled = false → (t.stall i).state = sUNBOUND)
      ∧ (∀ i, (s.stall i).live = true → (s.stall i).rolled = true → (s.stall i).keyNext ≠ 0 →
          (t.stall i).state = (s.stall i).state ∧ (t.stall i).key = (s.stall i).keyNext
            ∧ (t.stall i).epoch = s.roll.epoch % 256)
      ∧ t.cfg = s.cfg)

/-- A PARAM_WRITE of a defined parameter with a value in its range and no launch time sets it and completes; outside the
range, or for an undefined parameter, it completes with ERR_ARG and sets nothing. PARAM_READ answers the value in
effect, and for 0x0701 the number of flushes. A PARAM_WRITE of 0x0701 naming a queue of 0 to 71 discards what the
queue holds and completes. RECONCILE_READ answers the newest records of the feeders asked for. -/
def Obligations.ParametersFollowTheirCommands : Prop :=
  (∀ (s : State) (d : Desc), s.serves d 0x03 → d.param = 0#256 → d.target ≠ 0x0701 → (paramRange d.target).isSome = true →
    Does (.paramRead d.did) s ((s.holding d.taken).ok d.taken (s.paramInEffect d.target)))
  ∧ (∀ (s : State) (d : Desc), s.serves d 0x03 → d.param = 0#256 → d.target = 0x0701 →
    Does (.paramRead d.did) s ((s.holding d.taken).ok d.taken s.swx.flushes))
  ∧ (∀ (s : State) (d e : Desc), s.serves d 0x04 → d.target ≠ 0x0701 → d.pZero 4 32 = true → d.launch = false →
    paramOk d.target (paramValue d) = true → e = { d with stage := .begun, actTime := some s.outputTime } →
    Does (.paramWrite d.did) s ((((s.holding d.taken).beginDesc d.did).setParam d.target (paramValue d)).ok e))
  ∧ (∀ (s : State) (d : Desc), s.serves d 0x04 → d.target ≠ 0x0701 → d.pZero 4 32 = true →
    paramOk d.target (paramValue d) = false →
    Does (.paramWrite d.did) s ((s.holding d.taken).fail d.taken stERR_ARG))
  ∧ (∀ (s : State) (d e : Desc), s.serves d 0x04 → d.target = 0x0701 → d.pZero 4 32 = true → d.launch = false →
    paramValue d ≤ 71 → e = { d with stage := .begun, actTime := some s.outputTime } →
    Does (.queFlush d.did) s ((((s.holding d.taken).beginDesc d.did).flushQueue (paramValue d) 2).ok e))
  ∧ (∀ (s : State) (d : Desc) (fs : List Nat), s.serves d 0x1A → d.len ≠ 0 → (d.target ≤ 5 ∨ d.target = 15) → d.pByte 0 ≤ 24 →
    d.pZero 1 32 = true → fs = (if d.target = 15 then List.range 6 else [d.target]) →
    Does (.reconcileRead d.did) s ((s.holding d.taken).okItems d.taken 48
      (fs.flatMap (fun f => ((s.seg.recon.filter (fun r => r.feeder == f)).take (if d.pByte 0 = 0 then 1 else d.pByte 0)).map
        Recon.bytes)) (fun _ => 0)))

/-- A YARD_CTL with no launch time on a yard in service runs its records in order, each judged against the state that the
earlier ones leave, and completes with OK and the yard's YRD_STATE; a list with a HALT, RESUME or TXPWR on a yard that
has a carrier on the air waits for the carrier's end instead, with nothing changed yet; a record that may not act ends
the whole list with its status and its place, and no record takes effect. HALT makes the yard HALTED, RESUME makes a
HALTED yard RUNNING, or DEGRADED while an entry is withdrawn, WITHDRAW withdraws an RX entry other than the beacon's,
RESTORE gives it a SPARE lane back, TXPWR sets the running power up to the configured one, TEST starts a test of the
entry's lane with an idle SPARE lane as its shadow. -/
def Obligations.YardControlActsOnItsYard : Prop :=
  (∀ (s t : State) (d e : Desc) (read : HostRead) (y : Nat) (held : Bool), s.serves d 0x22 → d.seen s read = some e → e.launch = false →
    e.target = y → y < 16 → e.len % 8 = 0 → 8 ≤ e.len → e.len ≤ 128 → s.yardLive y = true →
    ((s.holding e).beginDesc d.did).yardList y 0 (yardActs e.buf) = .ok t →
    held = (s.yardOnAir y && (yardActs e.buf).any (fun a => a.action == 1 || a.action == 2 || a.action == 5)) →
    ∀ c, (leAt e.buf 0 1 = 1 → c = .yardCtlHalt d.did read) → (leAt e.buf 0 1 = 2 → c = .yardCtlResume d.did read) →
      (leAt e.buf 0 1 = 3 → c = .yardCtlWithdraw d.did read) → (leAt e.buf 0 1 = 4 → c = .yardCtlRestore d.did read) →
      (leAt e.buf 0 1 = 5 → c = .yardCtlTxpwr d.did read) → (leAt e.buf 0 1 = 6 → c = .yardCtlTest d.did read) →
      1 ≤ leAt e.buf 0 1 → leAt e.buf 0 1 ≤ 6 →
      Does c s (if held then (s.holding e).beginDesc d.did
        else t.ok { e with stage := .begun, actTime := some s.outputTime } (t.regValue .host (.YRD_STATE y)).toNat))
  ∧ (∀ (s : State) (d e : Desc) (read : HostRead) (y st i : Nat), s.serves d 0x22 → d.seen s read = some e → e.launch = false →
    e.target = y → y < 16 → e.len % 8 = 0 → 8 ≤ e.len → e.len ≤ 128 → s.yardLive y = true → leAt e.buf 0 1 = 1 →
    ((s.holding e).beginDesc d.did).yardList y 0 (yardActs e.buf) = .error (st, i) →
    Does (.yardCtlHalt d.did read) s
      (((s.holding e).beginDesc d.did).fail { e with stage := .begun, actTime := some s.outputTime } st i))
  ∧ (∀ (s : State) (y k v : Nat), y < 16 →
    (∃ t, s.yardAct y ⟨1, k, v, 0⟩ = .ok t ∧ t.yardState y = yHALTED)
    ∧ (s.yardState y = yHALTED → ∃ t, s.yardAct y ⟨2, k, v, 0⟩ = .ok t
      ∧ t.yardState y = if s.anyWithdrawn y then yDEGRADED else yRUNNING)
    ∧ (∀ p, k < 128 → s.planEntry y k = some p → p.rx = true → p.beacon = false → s.withdrawn y k = false →
      ∃ t, s.yardAct y ⟨3, k, v, 0⟩ = .ok t ∧ t.withdrawn y k = true)
    ∧ (∀ p sp, k < 128 → s.planEntry y k = some p → s.withdrawn y k = true → s.lowestSpare = some sp →
      ∃ t, s.yardAct y ⟨4, k, v, 0⟩ = .ok t ∧ t.withdrawn y k = false ∧ t.role sp = rACTIVE ∧ t.laneEntry sp = k)
    ∧ (v ≤ s.cf (.YRD_CFG y) F.YRD_CFG_TXPWR → ∃ t, s.yardAct y ⟨5, k, v, 0⟩ = .ok t
      ∧ t.sf (.YRD_RUN y) F.YRD_RUN_TXPWR_RUN = v)
    ∧ (∀ p n sh, k < 128 → s.planEntry y k = some p → p.rx = true → s.withdrawn y k = false → s.laneOf y k = some n →
      s.testOf n = none → s.idleSpare = some sh →
      ∃ t, s.yardAct y ⟨6, k, v, 0⟩ = .ok t ∧ t.role sh = rSHADOW ∧ t.lanes.tests = s.lanes.tests ++ [⟨n, some sh, false, s.tsu.raw⟩]))

/-- At a test interval with self-test enabled and a lane SPARE, the next lane in rotation is tested, in place if it is
SPARE, otherwise with the lowest idle SPARE lane as its shadow. The lane under test hands its entry over and becomes
TESTING; if it was never idle within 2 s the shadow is released and BIST_SKIPPED recorded. A pass makes the lane SPARE
and its shadow ACTIVE, and counts; a failure retires the lane, and the shadow keeps the entry. -/
def Obligations.RollingTestFollowsItsSteps : Prop :=
  (∀ (s u : State) (n : Nat), s.done = true → s.cf .YRD_BIST_CFG F.YRD_BIST_CFG_ENABLE = 1 →
    u = (let t := s.elapseTo s.lanes.bistAt;
         { t with lanes := { t.lanes with bistAt := t.tsu.raw + t.cf .YRD_BIST_CFG F.YRD_BIST_CFG_INTERVAL * msT } }).checkSuspend →
    u.lanes.suspended = false → (laneRound u.lanes.next).find? u.turnCounts = some n →
    (u.role n = rSPARE → ∃ t, exec .bistInterval s = .next t ∧ t.lanes.next = (n + 1) % 544
      ∧ t.lanes.tests = u.lanes.tests ++ [⟨n, none, true, u.tsu.raw⟩] ∧ t.cfg = s.cfg)
    ∧ (∀ sh, u.role n ≠ rSPARE → u.idleSpare = some sh → ∃ t, exec .bistInterval s = .next t ∧ t.lanes.next = (n + 1) % 544
      ∧ t.lanes.tests = u.lanes.tests ++ [⟨n, some sh, false, u.tsu.raw⟩] ∧ t.cfg = s.cfg))
  ∧ (∀ (s : State) (n sh at_ : Nat), s.testOf n = some ⟨n, some sh, false, at_⟩ →
    Does (.laneTestHandover n) s { s.setRole n rTESTING with lanes := { s.lanes with
      tests := s.lanes.tests.map (fun x => if x.lane == n then { x with handed := true } else x) } }
    ∧ Does (.bistShadowTimeout n) s
      ((((s.elapseTo (at_ + 2 * secT)).endTest n).setRole sh rSPARE).event 7 n 0x0306 0 [n]).checkSuspend)
  ∧ (∀ (s p : State) (n sh at_ : Nat), s.testOf n = some ⟨n, some sh, true, at_⟩ →
    p = (((s.endTest n).setSf (.LNE_BIST n) F.LNE_BIST_RESULT 1).setSf (.LNE_BIST n) F.LNE_BIST_CAUSE 0).bumpSat (.LNE_BIST n)
      F.LNE_BIST_PASSES →
    Does (.laneTestDone n 0) s (((p.setRole n rSPARE).setRole sh rACTIVE).reMove n sh).checkSuspend
    ∧ ∀ c, c ≠ 0 → Does (.laneTestDone n c) s
      ((((((s.endTest n).retire n (c % 16) (s.laneYard n) (s.laneEntry n)).setRole sh rACTIVE).reMove n sh).replaced n sh
        (s.laneYard n) (s.laneEntry n)).checkSpares).checkSuspend)
  ∧ (∀ (s p : State) (n at_ : Nat), s.testOf n = some ⟨n, none, true, at_⟩ →
    p = (((s.endTest n).setSf (.LNE_BIST n) F.LNE_BIST_RESULT 1).setSf (.LNE_BIST n) F.LNE_BIST_CAUSE 0).bumpSat (.LNE_BIST n)
      F.LNE_BIST_PASSES →
    Does (.laneTestDone n 0) s (p.setRole n rSPARE).checkSuspend
    ∧ ∀ c, c ≠ 0 → Does (.laneTestDone n c) s (((s.endTest n).retire n (c % 16) 0xFF 0xFF).checkSpares).checkSuspend)

/-- A failed check of a lane that is neither RETIRED nor EXCLUDED retires it, with its cause, its test result FAIL and its
event bit. An ACTIVE lane's entry goes to the lowest SPARE lane, which becomes ACTIVE with that entry. A lane chosen
to take over another's entry does so once its frame ends. CUSTOM changes only inside a presence-unlocked window, and
then every yard in service whose plan the new profile forbids is FAULTED, and the duty and dwell ledgers start afresh. -/
def Obligations.FailedLanesAreReplaced : Prop :=
  (∀ (s : State) (n c : Nat) (busy : Bool), n < 544 → s.role n = rSPARE →
    Does (.laneCheckFail n c busy) s (((s.retire n (c % 16) 0xFF 0xFF).checkSpares).checkSuspend))
  ∧ (∀ (s : State) (n c : Nat) (busy : Bool), n < 544 → s.role n = rACTIVE → s.testOf n = none → s.lanes.moves = [] →
    Does (.laneCheckFail n c busy) s
      (((((s.dropFrame n busy).retire n (c % 16) (s.laneYard n) (s.laneEntry n)).entryLost n (s.laneYard n)
        (s.laneEntry n)).checkSpares).checkSuspend))
  ∧ (∀ (s : State) (n c y k : Nat), n < 544 → c < 16 → (s.retire n c y k).role n = rRETIRED
      ∧ (s.retire n c y k).sf (.LNE_BIST n) F.LNE_BIST_RESULT = 2 ∧ (s.retire n c y k).sf (.LNE_BIST n) F.LNE_BIST_CAUSE = c
      ∧ (s.retire n c y k).sf (.LNE_EVT n) F.LNE_EVT_FAIL = 1)
  ∧ (∀ (s : State) (n y k sp : Nat) (e : PlanEntry), y < 16 → s.planEntry y k = some e → k < 128 → s.lowestSpare = some sp →
    (s.entryLost n y k).role sp = rACTIVE ∧ (s.entryLost n y k).laneYard sp = y ∧ (s.entryLost n y k).laneEntry sp = k)
  ∧ (∀ (s : State) (n : Nat) (m : LaneMove) (e : PlanEntry), s.lanes.moves.find? (fun m => m.lane == n) = some m →
    s.planEntry (s.laneYard n) m.entry = some e → s.testOf n = none → s.role n ≠ rSHADOW →
    Does (.laneMove n) s
      (({ s with lanes := { s.lanes with moves := s.lanes.moves.filter (fun x => x.lane != n) } }.assignLane n (s.role n)
        (s.laneYard n) e).setSf (.LNE_EVT n) F.LNE_EVT_REPLACED 1))
  ∧ (∀ (s : State) (v : Nat), s.winOpen = true → bit v 31 ≠ s.customOn →
    (bit v 31 = true → s.customProfile ≠ []) →
    ∃ t, exec (.yrdRegionCustomWrite v) s = .next t ∧ t.customOn = bit v 31 ∧ t.air.duty = [] ∧ t.air.dwell = []
      ∧ t.cfg = s.cfg.put .YRD_REGION (F.YRD_REGION_CUSTOM.set (s.cfg.get .YRD_REGION) (b2n (bit v 31))))
  ∧ (∀ (s : State) (v : Nat), s.winOpen = false → Turns (.yrdRegionCustomWrite v) s s)

/-- At the next superframe start of a yard in service the time passes to that start, the boundary before it is judged, a
rollover's close that has begun is carried out, and the yard takes the number of R125, which is larger than the one
before while no takeover is under way, and at least the superframe's whole number; its start stands and no run of
DOWNLINK slots is under way. A beacon that has not started 1 ms after the start is skipped: YRD_BSKIP counts, the
event bit is set, and nothing is announced. A timed frame whose stall's window would exceed 64 ms makes the stall's
timing stale; one that is admitted asks for its chain at its stall's wake. -/
def Obligations.SuperframesTakeRisingNumbers : Prop :=
  (∀ (s u : State) (y : Nat) (k : Int), y < 16 → s.yardLive y = true → s.serving = true →
    k = (if s.sfStart y (s.sfAt y s.outputTime) = s.outputTime ∧ ¬((s.seq y).started = true ∧ (s.seq y).start = s.outputTime)
      then s.sfAt y s.outputTime else s.sfAt y s.outputTime + 1) →
    u = ((s.elapseOut (s.sfStart y k)).judgeYard y).rollBoundary →
    ∃ t, exec (.superframeStart y) s = .next t ∧ (t.seq y).n = u.nextN y k ∧ (t.seq y).prev = (s.seq y).n
      ∧ (t.seq y).started = true ∧ (t.seq y).start = u.sfStart y k ∧ (t.seq y).runEnd = none ∧ t.cfg = s.cfg ∧ t.tsu.raw = u.tsu.raw)
  ∧ (∀ (s : State) (y : Nat) (k : Int), (s.seq y).started = true → (s.seq y).takeover = false →
    (s.seq y).n < s.nextN y k ∧ k ≤ s.nextN y k)
  ∧ (∀ (s : State) (y : Nat) (r : TxReq), s.air.reqs.find? (fun r => r.kind == .beacon && r.yard == y) = some r →
    Does (.beaconSkip y) s (((s.elapseTo (r.latest.getD 0)).unask r.id).skipBeacon y 0xFF))
  ∧ (∀ (s : State) (y b : Nat), y < 16 → (s.skipBeacon y b).sf (.YRD_BSKIP y) F.word = (s.sf (.YRD_BSKIP y) F.word + 1) % 2 ^ 32
    ∧ (s.skipBeacon y b).sf (.YRD_EVT y) F.YRD_EVT_BSKIP = 1 ∧ ((s.skipBeacon y b).seq y).ann = [])
  ∧ (∀ (s u : State) (i from_ base w6 : Nat) (q : SeqY) (x : Stall), q = s.seq (yardOf i) → x = s.stall i → q.started = true →
    x.live = true → x.timed = true → q.n % max x.wakeEvery 1 = x.wakePhase → s.serving = true →
    (from_ : Int) = q.start + x.wakeSlot * s.slotT + 32 * msT - s.sfdT (yardOf i) q.dlMode → s.outputTime ≤ from_ →
    u = s.elapseOut from_ → base = s.cf .YRD_MAC_CFG F.YRD_MAC_CFG_BASE_WIN * msT →
    (w6 : Int) = x.drift6 ((u.tsu.raw : Int) + s.sfdT (yardOf i) q.dlMode - x.syncRaw) →
    (((64 * msT - base) * 1000000 < w6 →
      Does (.timedFrame i) s ((u.modStall i (fun x => { x with stale := true })).event 6 (yardOf i) 0x0407 0
        [i, (base * 1000000 + w6) / 500000000]))
    ∧ (∀ it len dur, w6 ≤ (64 * msT - base) * 1000000 → u.timedItem i = some it → len = u.psduLen (yardOf i) (u.hopLen it) →
      u.overtakes (u.yardChain (yardOf i)) q.dlChan q.dlMode (some it.id) = false →
      dur = u.airT (yardOf i) q.dlMode len → u.yardSends (yardOf i) = true →
      u.outputTime + dur ≤ q.start + u.wakeRunEnd i * u.slotT →
      u.admission (u.yardChain (yardOf i)) q.dlChan q.dlMode dur .ordinary 0 = .yes →
      Does (.timedFrame i) s ((u.modItem it.id (fun x => { x with busy := true })).ask
        { u.dlReq (yardOf i) (.item it.id) len (q.start + u.wakeRunEnd i * u.slotT) with latest := some u.tsu.raw }))))

/-- A grant starts the one request whose channel is free and whose chain has room for its yard; a request without a chain
is refused and counted. After a grant no more chains emit than the limit, no chain carries more than four carriers or
two of one yard, and no two carriers of one front end meet on a channel, if that held before. A run of DOWNLINK slots
begins once the beacon has ended. A carrier's end takes it off the air, does what its frame was for, and lets its yard
offer the next. An answer that is more than 20 microseconds late is not sent. An item whose ACK has not come waits for
a retry, or ends with EXPIRED and DETAIL 0x03. -/
def Obligations.FramesLeaveInTheirTurn : Prop :=
  (∀ (s : State) (bad : Option Nat) (symBad : Bool) (r : TxReq), s.air.reqs = [r] → r.queued = true → s.reqLapsed r = false →
    s.mayEmit = true → s.keyed = true → s.yardTx r.yard = true → (s.seq r.yard).wait = false → s.reqStopped r = false →
    s.sceneHeld r = false → s.chanBusy r.chain r.chan r.mode = false → s.carrierOf r.chain r.yard = false →
    (s.chainTakes r.chain = true → Does (.chainGrant bad symBad) s (s.startReq bad symBad r))
    ∧ (s.chainTakes r.chain = false → s.chainLoad r.chain = 0 → Does (.chainGrant bad symBad) s (s.refuseReq r)))
  ∧ (∀ (s t : State) (bad : Option Nat) (symBad : Bool), exec (.chainGrant bad symBad) s = .next t →
    (s.chainsOn ≤ s.chainLimit → t.chainsOn ≤ t.chainLimit)
    ∧ ((∀ c, s.chainLoad c ≤ 4) → ∀ c, t.chainLoad c ≤ 4)
    ∧ (s.onAir.Pairwise (fun a b => a.chain = b.chain → a.yard ≠ b.yard) →
      t.onAir.Pairwise (fun a b => a.chain = b.chain → a.yard ≠ b.yard))
    ∧ (s.onAir.Pairwise (fun a b => a.chain / 2 = b.chain / 2 → chansMeet a.chan a.mode b.chan b.mode = false) →
      t.onAir.Pairwise (fun a b => a.chain / 2 = b.chain / 2 → chansMeet a.chan a.mode b.chan b.mode = false)))
  ∧ (∀ (s u : State) (y a n : Nat) (stop : Int), (s.seq y).started = true → s.yardLive y = true → s.serving = true →
    s.runs y = [(a, n)] → stop = (s.seq y).start + (a + n : Nat) * s.slotT → max s.outputTime (s.seq y).beaconEnd < stop →
    (s.seq y).runEnd.getD (s.seq y).start < stop → u = (s.elapseOut (max ((s.seq y).start + a * s.slotT) (s.seq y).beaconEnd)).judge →
    Does (.downlinkRun y) s ((u.setSeq y { u.seq y with runEnd := some stop }).offer y))
  ∧ (∀ (s u : State) (chain y : Nat) (c : Carrier),
    s.onAir.find? (fun c => c.chain == chain && c.yard == y) = some c →
    u = ((s.elapseTo c.stop).stopCarrier c.id).frameEnd c → u.upd.pause = none → Does (.txFrameEnd chain y) s (u.offer y))
  ∧ (∀ (s : State) (a : Ans), s.air.answers = [a] → a.asked = false → a.due + 10000 < s.tsu.raw →
    Does .ansSend s (s.missAnswer a none))
  ∧ (∀ (s u : State) (a : Ans) (len : Nat), s.air.answers = [a] → a.asked = false → s.tsu.raw ≤ a.due →
    u = s.elapseTo a.due → u.yardSends a.yard = true → len = u.psduLen a.yard (u.ansLen a) →
    u.admission (u.yardChain a.yard) a.chan a.mode (u.airT a.yard a.mode len) .ordinary 0 = .yes →
    ∃ t, exec .ansSend s = .next t ∧ t.air.answers = [{ a with asked := true }] ∧ t.air.reqs.length = s.air.reqs.length + 1
      ∧ t.cfg = s.cfg)
  ∧ (∀ (s u : State) (i : Nat) (it : Item), s.seg.items.find? (fun t => t.stall == i && t.ackDue.isSome) = some it →
    u = s.elapseTo (it.ackDue.getD 0) → (u.stall i).live = true → (u.stall i).state ≠ sLOST →
    (it.sent ≤ u.param 0x0405 → Does (.ackWindowEnd i) s (u.modItem it.id (fun x => { x with ackDue := none })))
    ∧ (u.param 0x0405 < it.sent → it.kind = .msg → Does (.ackWindowEnd i) s (u.endItem it stEXPIRED 3)))

/-- At a slot's end the time passes to it, and no charge older than an hour of slots stays in the ledger. A reserved frame
is admitted only where the slots used and the slots it needs stay within the budget, an ordinary one only where its
own stay within the budget less the reserve as well. DUTY_READ answers 16 octets for each sub-band of the chains asked
for, with their number and total in RESULT. -/
def Obligations.DutyLedgerForgetsAfterAnHour : Prop :=
  (∀ (s u : State), u = s.elapseOut ((dutySlot s.outputTime + 1) * 500000) →
    ∃ t, exec .dutySlotTick s = .next t ∧ t.tsu.raw = u.tsu.raw ∧ t.cfg = s.cfg
      ∧ ∀ p ∈ t.air.duty, p.2 ≠ [] ∧ ∀ c ∈ p.2, dutySlot u.outputTime - 3599999 ≤ c.slot)
  ∧ (∀ (s : State) (chain chan mode dur share : Nat) (b : SubBand), s.subBandOf (chain / 2) chan mode = some b →
    b.limited = true →
    (s.admission chain chan mode dur .reserved share = .yes →
      s.usedO (s.account chain b.num) (dutySlot s.outputTime) + s.usedR (s.account chain b.num) (dutySlot s.outputTime)
        + (s.newSlots (s.account chain b.num) s.outputTime dur).length ≤ b.budget)
    ∧ (s.admission chain chan mode dur .ordinary share = .yes →
      s.usedO (s.account chain b.num) (dutySlot s.outputTime) + s.usedR (s.account chain b.num) (dutySlot s.outputTime)
        + (s.newSlots (s.account chain b.num) s.outputTime dur).length ≤ b.budget
      ∧ s.usedO (s.account chain b.num) (dutySlot s.outputTime)
        + (s.newSlots (s.account chain b.num) s.outputTime dur).length ≤ b.budget - s.reserve b))
  ∧ (∀ (s : State) (d : Desc) (l : List (List Byte)), s.serves d 0x23 → d.len ≠ 0 → d.target ≤ 7 → d.pZero 0 32 = true →
    s.cf .YRD_REGION F.YRD_REGION_SHARED = 0 → l = (isort (fun b => b.num) s.profile).map (s.dutyRecord d.target) →
    Does (.dutyRead d.did) s ((s.holding d.taken).okItems d.taken 16 l (fun n => n + 2 ^ 32 * l.length)))
  ∧ (∀ (s : State) (d : Desc), s.serves d 0x23 → 7 < d.target → d.target ≠ 15 →
    Does (.dutyRead d.did) s ((s.holding d.taken).fail d.taken stERR_ARG))

/-- For every state and every frame of a stall, taking the frame a second time leaves the accepted frames as the first
time left them: the highest counter and the 32-bit window refuse a counter that has been accepted, also where the
first frame is the first one under a renewed key. A frame whose class its type may not carry, and one whose counter
lies more than 31 below the highest or is marked in the window, is never taken. Outside an activation pause a frame
with a higher counter is taken, with the words that it holds there, and its counter becomes the highest. -/
def Obligations.NoUplinkFrameIsAcceptedTwice : Prop :=
  (∀ (s : State) (r : Rx), ((s.acceptUp r).acceptUp r).air.accepted = (s.acceptUp r).air.accepted)
  ∧ (∀ (s : State) (r : Rx), classOk r.frame.typ r.cls = false → (s.acceptUp r).air.accepted = s.air.accepted)
  ∧ (∀ (s : State) (r : Rx), (s.stall r.stall).oldKey = 0 → r.frame.fc ≤ (s.stall r.stall).fcUp →
    (r.frame.fc + 31 < (s.stall r.stall).fcUp ∨ r.frame.fc = (s.stall r.stall).fcUp
      ∨ bit (s.stall r.stall).fcWin ((s.stall r.stall).fcUp - 1 - r.frame.fc) = true) →
    (s.acceptUp r).air.accepted = s.air.accepted)
  ∧ (∀ (s : State) (r : Rx), classOk r.frame.typ r.cls = true → (s.stall r.stall).oldKey = 0 →
    (s.stall r.stall).fcUp < r.frame.fc → s.paused = false → ((s.acceptUp r).stall r.stall).fcUp = r.frame.fc
      ∧ ∃ w, (s.acceptUp r).air.accepted =
        if r.via = none then s.air.accepted ++ [{ r with words := w }] else { r with words := 0 } :: s.air.accepted)

/-- A single frame that ends on a serving lane, which acquires it by its preamble and SFD, not blanked and with a readable
header and a right FCS, counts as received with its power and SNR, and meets link security; with a wrong FCS it counts
as an error and goes no further; the front end's overloads are counted. A frame in a lane's output buffer is checked
when its key has been fetched, and waits while the shed is in reset. A frame of a wrong form or that does not
authenticate is discarded, and counted where it was counted as received. A RELAY message's inner frame meets the same
checks as if it had come itself, with its parent noted. -/
def Obligations.ReceivedFramesPassTheirLane : Prop :=
  (∀ (s u w : State) (n ovld : Nat) (f : AirRx), u = s.elapseTo f.last → u.lanes.leaving = [] → u.laneServes n = true →
    u.blanked (u.laneNow n) f = false → 4 ≤ f.preamble → f.sfdSet = u.cf (.YRD_PHY (u.laneYard n)) F.YRD_PHY_SFDSET →
    (f.coded = true → u.sf (.LNE_ASSIGN n) F.LNE_ASSIGN_MODE < 3) → f.ms = false → f.parityOk = true → f.fcsLen + 1 ≤ f.len →
    w = (if ovld = 0 then u else u.bumpSat (.YRD_FE_STAT (feOf (u.laneYard n))) F.YRD_FE_STAT_OVLD ovld) →
    (f.fcsOk = true → ∃ v, Does (.frameRx n [f] ovld) s
        (v.arriveRx { lane := n, yard := u.laneYard n, chan := u.sf (.LNE_ASSIGN n) F.LNE_ASSIGN_CHAN
                      mode := u.sf (.LNE_ASSIGN n) F.LNE_ASSIGN_MODE, frame := f, sic := false, via := none
                      out := u.outputTime - (u.tsu.raw - f.sfd : Nat), words := 0 })
      ∧ v = (((w.bump (.LNE_RXOK n) F.word).bump (.YRD_RXOK (u.laneYard n)) F.word).setSf (.LNE_RSSI n) F.LNE_RSSI_RSSI
        (twos 16 f.rssi)).setSf (.LNE_RSSI n) F.LNE_RSSI_SNR f.snr)
    ∧ (f.fcsOk = false → Does (.frameRx n [f] ovld) s
        ((w.bump (.LNE_CRCERR n) F.word).bump (.YRD_CRCERR (u.laneYard n)) F.word)))
  ∧ (∀ (s : State) (r : Rx) (l : List Rx), s.air.waiting = r :: l →
    (s.shed.down = false → Does .keyCacheFill s (({ s with air := { s.air with waiting := l } } : State).secure r).judge)
    ∧ (s.shed.down = true → Does .keyCacheFill s s))
  ∧ (∀ (s : State) (r : Rx), (s.rxForm r = false ∨ s.rxKey r = none) →
    s.secure r = if r.via = none then s.bump (.LNE_AUTHFAIL r.lane) F.word else s)
  ∧ (∀ (s : State) (r : Rx) (k : CacheKey), s.rxForm r = true → s.rxKey r = some k →
    ((s.touchKey k).rxAuth r = true → s.secure r = (s.touchKey k).accept r)
    ∧ ((s.touchKey k).rxAuth r = false →
      s.secure r = if r.via = none then (s.touchKey k).bump (.LNE_AUTHFAIL r.lane) F.word else s.touchKey k))
  ∧ (∀ (s u : State) (r : Rx) (c : RelayCheck), s.takes (isUp 0x14) r u →
    Does (.relay c) s (u.secure { r with frame := c.frame, via := some r.stall, words := 0 }))

/-- Any accepted uplink makes a DOZING or ADRIFT stall ACTIVE. STATUS and ENERGY store their reports, ENERGY with the
instant of its frame less its age; FAULT changes the bit that its code names and reports the change once, outside a
storm's summary; every 10 s the yards in summary report their counts, and the counts start again. DOZE of 60 to 64,800
s makes an ACTIVE stall DOZING. ACK completes the item of its counter. An image report of a known campaign with result
3 counts and marks its stall's status 3. An APP message is handed on, a POLL needs nothing more. A KEY_ACK of a
renewal puts the renewed key in the place of the one that the stall's frames leave under, and keeps that one as the
old key. -/
def Obligations.UplinkMessagesUpdateTheirStall : Prop :=
  (∀ (s u : State) (r : Rx),
    (s.takes (isUp 0x10) r u → Does .poll s u)
    ∧ (s.takes (isUp 0x04) r u → Does .status s
        (u.modStall r.stall (fun x => { x with status := fitBytes 14 (r.frame.body.drop 1), fwver := r.num 10 4 })))
    ∧ (s.takes (isUp 0x06) r u → Does .energy s (u.modStall r.stall (fun x => { x with
        energy := r.num 0 8, reports := (u.tickAt r.frame.sfd - r.num 8 2 * 32768, r.num 0 8) :: x.reports })))
    ∧ (s.takes (isUp 0x20) r u → Does .app s { u with seg := { u.seg with apps := u.seg.apps + 1 } })
    ∧ (s.takes (isUp 0x11) r u → 60 ≤ r.num 0 4 → r.num 0 4 ≤ 64800 → (u.stall r.stall).state = sACTIVE →
        Does .doze s (u.modStall r.stall (fun x => { x with
          state := sDOZING, dozeEnd := (u.tickAt r.frame.sfd + r.num 0 4 * 32768) / 65536 % 2 ^ 32, dozeSf := none })))
    ∧ (∀ it, s.takes (isUp 0x15) r u →
        u.seg.items.find? (fun k => k.stall == r.stall && k.ackReq && k.fc == some (r.num 0 4)) = some it →
        Does .ack s (u.endItem it stOK 0))
    ∧ (∀ c, s.takes (isUp 0x07) r u → r.sub = 1 → u.camp? (r.num 1 2) = some c → r.num 3 1 = 3 →
        Does .imageReport s
          ((u.bump .FLT_RPTS F.word).modCamp c.id (fun k => { k with status := Tbl.put 0 k.status r.stall 3 })))
    ∧ (∀ v, s.takes (isUp 0x09) r u → r.sub = 2 → r.num 1 2 = 0xFFFF → (u.stall r.stall).renew ≠ 0 →
        (u.stall r.stall).nextHeld = false → r.num 3 1 = (u.stall r.stall).epoch →
        v = (u.evict (u.stall r.stall).oldKey).endKey r.stall (.keyStall (r.num 3 1)) →
        Does .keyAck s ((v.modStall r.stall (fun x => { x with
          oldKey := x.key, oldEp := x.epoch, key := x.renew, renew := 0, fcDown := 0, fcSaved := 0 })).event 6
            (yardOf r.stall) 0x0508 0 [r.stall]))
    ∧ (∀ v, s.takes (isUp 0x09) r u → r.sub = 2 → r.num 1 2 = 0xFFFF → (u.stall r.stall).renew ≠ 0 →
        (u.stall r.stall).nextHeld = true → r.num 3 1 = u.nextEpoch8 →
        v = (u.evict (u.stall r.stall).oldKey).endKey r.stall (.keyStall (r.num 3 1)) →
        Does .keyAck s ((v.modStall r.stall (fun x => { x with
          oldKey := x.keyNext, oldEp := r.num 3 1, keyNext := x.renew, renew := 0, fcDown := 0, fcSaved := 0 })).event 6
            (yardOf r.stall) 0x0508 0 [r.stall]))
    ∧ (s.takes (isUp 0x05) r u → faultBits (u.stall r.stall).faults (r.num 0 2) (r.num 2 1) = (u.stall r.stall).faults →
        Does .fault s u)
    ∧ (∀ y n, s.takes (isUp 0x05) r u → y = yardOf r.stall →
        n = faultBits (u.stall r.stall).faults (r.num 0 2) (r.num 2 1) → n ≠ (u.stall r.stall).faults →
        u.seg.summary.contains y = false → (Tbl.get (0, 0) u.seg.storm y).1 + (Tbl.get (0, 0) u.seg.storm y).2 < u.param 0x0501 →
        ∃ t, exec .fault s = .next t ∧ (t.stall r.stall).faults = n ∧ t.seg.summary = u.seg.summary
          ∧ t.evq = u.evq ++ [{ src := srcOf 6 y, code := 0x0502, sev := 2, args := [r.stall, r.num 0 2, r.num 2 1], at_ := u.tsu.raw }]
          ∧ t.cfg = s.cfg))
  ∧ (∀ (s : State) (r : Rx), ((s.stall r.stall).state = sDOZING ∨ (s.stall r.stall).state = sADRIFT) →
    ((s.uplinked r).stall r.stall).state = sACTIVE)
  ∧ (∀ s : State, ∃ t, exec .faultStormPeriod s = .next t ∧ t.seg.storm = [] ∧ t.evq.length = s.evq.length + s.seg.summary.length
      ∧ (∀ y ∈ t.seg.summary, y ∈ s.seg.summary) ∧ t.seg.stalls = s.seg.stalls ∧ t.cfg = s.cfg)

/-- A join request whose counter is new is answered by the first check of R172 that applies; where the shed has prepared
its key and no check refuses it, its stall becomes JOINING with that key and fresh counters. One whose counter is not
new is counted as a replay unless it asks for its answer again. The shed's readiness gives a prepared stall its key
handle. JOIN_CONFIRM of version 2 makes a JOINING stall ACTIVE; JOIN_TIMEOUT makes it UNBOUND with no key. REJOIN
takes over the node's parameters and brings a LOST stall back. An ADRIFT stall becomes LOST after LOST_AFTER; a held
item expires with DETAIL 0x01 unless a frame of its stall from before that instant is still to be handled. Persisting
saves every stall, paddock and yard number. -/
def Obligations.JoiningFollowsItsSteps : Prop :=
  (∀ (s t : State) (r : Rx), s.upNext (fun r => r.frame.typ == tyJOIN) = some r → r.frame.upBad = none →
    t = { s with air := { s.air with accepted := s.air.accepted.erase r } } → r.sub = 0 →
    ((t.joinFcOf r).any (fun v => decide (r.frame.fc ≤ v)) = false → Does .joinReq s ((t.keepJoinFc r).joinRequest r))
    ∧ (∀ q, (t.joinFcOf r).any (fun v => decide (r.frame.fc ≤ v)) = true →
      t.seg.stalls.find? (fun q => q.2.eui == r.eui) = some q → r.frame.ar = false →
      Does .joinReq s ((t.replayed r).event 6 r.yard 0x0405 1 [q.1, r.frame.fc, (t.joinFcOf r).getD 0])))
  ∧ (∀ (s : State) (r : Rx) (a : Admit) (p : Prep) (i h : Nat), r.num 9 1 = 2 → s.holder r.eui r.yard = none →
    s.admitOf r.eui = some a → a.refuse = false → bit a.mask r.yard = true → s.yardFull r.yard = false → s.freeStall r.yard = some i →
    s.seg.preps.find? (fun p => p.eui == r.eui) = some p → p.handle = some h →
    ((s.joinRequest r).stall i).state = sJOINING ∧ ((s.joinRequest r).stall i).eui = r.eui ∧ ((s.joinRequest r).stall i).key = h
      ∧ ((s.joinRequest r).stall i).fcUp = 0 ∧ ((s.joinRequest r).stall i).joinFc = r.frame.fc)
  ∧ (∀ (s : State) (i : Nat) (p : Prep), s.keyed = true → s.seg.preps = [p] → p.stall = i → p.handle = none →
    ∃ t h, exec (.stallKeyReady i) s = .next t ∧ t.seg.preps = [{ p with handle := some h }] ∧ t.seg.stalls = s.seg.stalls
      ∧ t.cfg = s.cfg)
  ∧ (∀ (s u v : State) (r : Rx), s.takes (fun r => isUp 0x08 r && r.sub == 2) r u → (u.stall r.stall).state = sJOINING →
    r.num 1 1 = 2 → v = ((u.unadmit (u.stall r.stall).eui).modStall r.stall (fun x => { x with state := sACTIVE })).queueKeys r.stall →
    (v.rolling = false → Does .joinConfirm s v.rollOn)
    ∧ (v.rolling = true → (u.stall r.stall).epoch = v.nextEpoch8 → Does .joinConfirm s (v.rolledDone r.stall)))
  ∧ (∀ (s u : State) (r : Rx), s.takes (fun r => isUp 0x08 r && r.sub != 2) r u → r.rejoins = true →
    ∃ t, exec .rejoin s = .next t ∧ (t.stall r.stall).tol = r.num 10 1 ∧ (t.stall r.stall).p = r.num 11 1
      ∧ (t.stall r.stall).listen = r.num 12 1 ∧ (t.stall r.stall).fwver = r.num 17 4
      ∧ ((u.stall r.stall).state = sLOST → (t.stall r.stall).state = sACTIVE) ∧ t.cfg = s.cfg)
  ∧ (∀ (s u : State) (i : Nat), (s.stall i).state = sJOINING → s.serving = true →
    u = s.elapseTo ((s.stall i).joinAt + s.cf .YRD_MAC_JOIN F.YRD_MAC_JOIN_JOIN_TIMEOUT * secT) →
    Does (.joinTimeout i) s (u.failJoin i).rollOn ∧ ((u.failJoin i).stall i).state = sUNBOUND ∧ ((u.failJoin i).stall i).key = 0)
  ∧ (∀ (s u : State) (i h : Nat) (it : Item), (s.stall i).state = sADRIFT → s.serving = true →
    s.seg.items.filter (fun t => t.stall == i) = [it] → it.hold = some h → it.busy = false → it.ackDue = none →
    u = s.elapseTo h → (((s.air.accepted ++ s.air.waiting).any (fun r =>
        r.stall == i && r.frame.typ == tyUP && decide (r.frame.sfd < h))) = false → Does (.holdAdrift i) s (u.endItem it stEXPIRED 1))
      ∧ (((s.air.accepted ++ s.air.waiting).any (fun r =>
        r.stall == i && r.frame.typ == tyUP && decide (r.frame.sfd < h))) = true → Does (.holdAdrift i) s u))
  ∧ (∀ (s u v : State) (i : Nat), (s.stall i).state = sADRIFT → s.serving = true →
    u = s.elapseRtc (max (s.stall i).lastSeen ((s.stall i).dozeEnd * 65536) + s.param 0x0402 * 60 * 32768) →
    v = (u.endItems i stEXPIRED 2).modStall i (fun x => { x with state := sLOST }) →
    Does (.lostAfter i) s ((v.event 6 (yardOf i) 0x0402 2 [i, yardOf i]).rollLeave i))
  ∧ (∀ s : State, ∃ t, exec .stallPersist s = .next t ∧ t.nvseg.stalls = t.seg.stalls ∧ t.nvseg.pads = t.seg.pads
      ∧ t.nvseg.claimEpoch = s.twn.epoch ∧ (∀ q ∈ t.seg.stalls, q.2.fcSaved = q.2.fcDown) ∧ (∀ q ∈ t.seg.pads, q.2.fcSaved = q.2.fc)
      ∧ s.seg.savedAt + s.inForce 0x0507 * 32768 ≤ t.seg.savedAt ∧ t.cfg = s.cfg)

/-- A first part of at most the total starts the slot afresh and holds its octets; a part that goes on where the last one
ended is appended. The last part makes the slot hold an image where its manifest is right; otherwise the slot is empty
and the operation completes with ERR_ARG and DETAIL 3. A part out of order gives ERR_ARG with DETAIL 1, one beyond the
total ERR_ARG with DETAIL 2, and a slot that a campaign names gives BUSY; none of these changes a slot. -/
def Obligations.ImagesAreStoredInOrder : Prop :=
  ∀ (s : State) (d e : Desc) (read : HostRead) (x : ImgSlot), s.serves d 0x30 → d.seen s read = some e →
    e.len ≠ 0 → e.len ≤ 65536 → e.target < 8 → e.pByte 8 < 4 → e.pZero 9 32 = true → 129 ≤ e.pNum 4 4 → e.pNum 4 4 ≤ 4194304 →
    x = (if bit (e.pByte 8) 0 then { state := 1, total := e.pNum 4 4, data := [] } else s.img e.target) →
    (s.slotInUse e.target = true → Does (.imageStore d.did read) s ((s.holding e).fail e stBUSY))
    ∧ (s.slotInUse e.target = false →
      ((x.state ≠ 1 ∨ e.pNum 0 4 ≠ x.data.length ∨ e.pNum 4 4 ≠ x.total) →
        Does (.imageStore d.did read) s ((s.holding e).fail e stERR_ARG 1))
      ∧ (x.state = 1 → e.pNum 0 4 = x.data.length → e.pNum 4 4 = x.total →
        (e.pNum 4 4 < e.pNum 0 4 + e.len → Does (.imageStore d.did read) s ((s.holding e).fail e stERR_ARG 2))
        ∧ (e.pNum 0 4 + e.len ≤ e.pNum 4 4 → bit (e.pByte 8) 1 = false →
          Does (.imageStore d.did read) s (((s.holding e).setImg e.target { x with data := x.data ++ e.buf }).ok e))
        ∧ (e.pNum 0 4 + e.len = e.pNum 4 4 → bit (e.pByte 8) 1 = true →
          (manifestOk (x.data ++ e.buf) (e.pNum 4 4) = true → Does (.imageStore d.did read) s
            (((s.holding e).setImg e.target { x with state := 2, data := x.data ++ e.buf }).ok e))
          ∧ (manifestOk (x.data ++ e.buf) (e.pNum 4 4) = false → Does (.imageStore d.did read) s
            (((s.holding e).setImg e.target ImgSlot.empty).fail e stERR_ARG 3)))))

/-- DEFINE of a right record with a new ID adds a campaign in state DEFINED; the ninth gives BUSY. START arms, with its
image's length, a DEFINED campaign that passes the checks while no other is under way, else BUSY. PAUSE acts on an
ARMED or SENDING one, RESUME arms a PAUSED one, STOP ends one that is under way and its open stalls become unreached,
DELETE removes one that has ended and gives BUSY otherwise; an action in another state gives ERR_ARG with DETAIL 1.
READ answers the summary and the status map. -/
def Obligations.CampaignsFollowTheirCommands : Prop :=
  (∀ (s : State) (d e : Desc) (read : HostRead), s.serves d 0x31 → d.seen s read = some e → campArgsOk e = true → e.pByte 0 = 0 →
    e.len = 64 → campReserved e.buf = true → s.camp? e.target = none → s.campCheck (campOf e.target e.buf) = none →
    (8 ≤ s.flt.camps.length → Does (.campaignDefine d.did read) s ((s.holding e).fail e stBUSY))
    ∧ (s.flt.camps.length < 8 → ∃ t c, exec (.campaignDefine d.did read) s = .next t ∧ t.camp? e.target = some c
      ∧ c.state = cDEFINED ∧ c.slot = leAt e.buf 0 1 ∧ c.pads = (campOf e.target e.buf).pads ∧ c.night = 0
      ∧ t.flt.camps.length = s.flt.camps.length + 1 ∧ t.flt.slots = s.flt.slots ∧ t.cfg = s.cfg))
  ∧ (∀ (s : State) (d : Desc) (c : Campaign), s.serves d 0x31 → campArgsOk d = true → d.len = 0 → s.camp? d.target = some c →
    (d.pByte 0 = 1 →
      (c.state ≠ cDEFINED → Does (.campaignStart d.did) s ((s.holding d.taken).fail d.taken stERR_ARG 1))
      ∧ (c.state = cDEFINED → s.campCheck c = none →
        (s.flt.camps.any (fun x => decide (1 ≤ x.state ∧ x.state ≤ 3)) = true →
          Does (.campaignStart d.did) s ((s.holding d.taken).fail d.taken stBUSY))
        ∧ (s.flt.camps.any (fun x => decide (1 ≤ x.state ∧ x.state ≤ 3)) = false →
          Does (.campaignStart d.did) s (((((s.holding d.taken).setCamp c.id cARMED).modCamp c.id (fun c =>
            { c with len := (s.img c.slot).data.length })).campEvent c 0x0601 1
            [c.id, c.slot, (s.img c.slot).field 8 4]).ok d.taken))))
    ∧ (d.pByte 0 = 2 → (c.state = cARMED ∨ c.state = cSENDING) →
      Does (.campaignPause d.did) s ((((s.holding d.taken).setCamp c.id cPAUSED).dropImages c.id).ok d.taken))
    ∧ (d.pByte 0 = 3 → c.state = cPAUSED →
      Does (.campaignResume d.did) s ((((s.holding d.taken).setCamp c.id cARMED).modCamp c.id (fun c =>
        { c with resumed := true })).ok d.taken))
    ∧ (d.pByte 0 = 4 → (c.state = cARMED ∨ c.state = cSENDING ∨ c.state = cPAUSED) →
      ∃ t k, exec (.campaignStop d.did) s = .next t ∧ t.camp? d.target = some k ∧ k.state = cSTOPPED
        ∧ k.count 1 = 0 ∧ k.count 5 = 0 ∧ k.count 6 = c.count 1 + c.count 5 + c.count 6
        ∧ t.sf .FLT_EVT F.FLT_EVT_DONE = 1 ∧ t.cfg = s.cfg)
    ∧ (d.pByte 0 = 5 → c.state ≤ 3 → Does (.campaignDelete d.did) s ((s.holding d.taken).fail d.taken stBUSY))
    ∧ (d.pByte 0 = 5 → 3 < c.state →
      ∃ t, exec (.campaignDelete d.did) s = .next t ∧ t.flt.camps = s.flt.camps.filter (fun x => x.id != c.id)
        ∧ t.flt.slots = s.flt.slots ∧ t.cfg = s.cfg)
    ∧ (d.pByte 0 = 3 → c.state ≠ cPAUSED → Does (.campaignResume d.did) s ((s.holding d.taken).fail d.taken stERR_ARG 1)))
  ∧ (∀ (s : State) (d : Desc) (c : Campaign), s.serves d 0x32 → s.camp? d.target = some c → d.len ≠ 0 →
    (d.pByte 0 = 0 → d.pZero 1 32 = true → 64 ≤ d.len →
      ∃ b, Does (.campaignReadSummary d.did) s ((s.holding d.taken).okData d.taken b 64) ∧ b.length = 64
        ∧ b.take 4 = le 2 c.id ++ le 1 c.state ++ le 1 c.night)
    ∧ (d.pByte 0 = 1 → d.pZero 1 4 = true → d.pZero 12 32 = true → d.pNum 8 4 ≠ 0 → d.pNum 4 4 + d.pNum 8 4 ≤ nStalls →
      ∃ b, Does (.campaignReadMap d.did) s ((s.holding d.taken).okData d.taken b (min b.length d.len))
        ∧ b.length = (d.pNum 8 4 + 1) / 2))

/-- At the window of an ARMED campaign with a night left the time passes to its opening and the campaign is SENDING, or
its night has ended already; that counts one night more, and the encoder starts with no block. At the close of the
window the time passes to it and the campaign is no longer counted in it. A failed read of the image makes an ARMED or
SENDING campaign FAULTED. The encoder adds the next block while any is missing. Every 60 s the campaigns are saved as
they are. -/
def Obligations.CampaignNightsFollowTheirWindow : Prop :=
  (∀ (s u : State) (c c1 : Campaign), s.camp? c.id = some c → c.state = cARMED → s.serving = true →
    (c.resumed = false ∨ s.openWindow s.outputTime c.winStart c.winEnd = none) → c.winClose = none → c.night < c.nights → u = s.elapseOut (s.nextWindow s.outputTime c.winStart c.winEnd).1 →
    c1 = { c with night := c.night + 1, counted := true, resumed := false, blocks := []
                  winClose := some (s.nextWindow s.outputTime c.winStart c.winEnd).2 } →
    Does (.campaignWindowOpen c.id) s
      ((((u.modCamp c.id (fun _ => u.planNight c1)).setCamp c.id cSENDING).setSf .FLT_ENC_STAT F.FLT_ENC_STAT_BUSY
        (b2n (decide (0 < c.z)))).campIdle c.id))
  ∧ (∀ (s : State) (c : Campaign) (w : Int), s.camp? c.id = some c → c.winClose = some w →
    ∃ t, exec (.campaignWindowClose c.id) s = .next t ∧ t.tsu.raw = (s.elapseOut w).tsu.raw ∧ t.cfg = s.cfg
      ∧ (∀ k, t.camp? c.id = some k → k.winClose = none ∧ k.counted = false ∧ k.state ≠ cSENDING))
  ∧ (∀ (s : State) (c : Campaign), s.camp? c.id = some c → (c.state = cARMED ∨ c.state = cSENDING) →
    ∃ t k, exec (.campaignImageReadFail c.id) s = .next t ∧ t.camp? c.id = some k ∧ k.state = cFAULTED
      ∧ t.sf .FLT_EVT F.FLT_EVT_FAULT = 1 ∧ t.cfg = s.cfg)
  ∧ (∀ (s : State) (c : Campaign), s.flt.camps.find? (fun c => c.state == cSENDING) = some c →
    c.blocks.length < c.z →
    Does .encoderBlockReady s ((s.modCamp c.id (fun c => { c with blocks := c.blocks ++ [c.blocks.length] })).setSf
      .FLT_ENC_STAT F.FLT_ENC_STAT_BUSY (b2n (decide (c.blocks.length + 1 < c.z)))))
  ∧ (∀ s u : State, s.done = true → u = s.elapseRtc (s.flt.savedAt + 60 * 32768) →
    Does .campaignPersist s { u with flt := { u.flt with
      saved := s.flt.camps, savedAt := max (s.flt.savedAt + 60 * 32768) u.newt.tick } })

/-- From 60 s before LAUNCH_TIME an accepted action with a free slot of its class, in time for the latest arming instant,
takes the slot and is armed; one that comes after it begins at once and counts as late; without a free slot it waits.
A slot fires when the output time has passed to its instant, or at once where an action has waited for it beyond its
arming instant, and is free again; the action begins, late if it waited so or the slack of its class has passed. The
slot of an activation pause's general action waits. -/
def Obligations.LaunchSlotsArmAndFire : Prop :=
  (∀ (s u : State) (d : Desc), s.desc? d.did = some d → d.stage = .launchWait → d.op ≠ 0x18 → s.paused = false →
    u = s.elapseOut ((d.launchTime : Int) - 60 * secT) →
    (u.slotFree d.slotClass = false → Does (.launchSlotArm d.did) s u)
    ∧ (u.slotFree d.slotClass = true → u.outputTime ≤ (d.launchTime : Int) - d.slotClass.limit →
      Does (.launchSlotArm d.did) s
        ((u.takeSlot { cls := d.slotClass, did := d.did, time := d.launchTime, scene := none, yards := 0, late := false }).updDesc d.did (fun x =>
          { x with stage := .armed })))
    ∧ (u.slotFree d.slotClass = true → (d.launchTime : Int) - d.slotClass.limit < u.outputTime →
      Does (.launchSlotArm d.did) s (u.fireDesc d true)))
  ∧ (∀ (s u v : State) (x : Slot) (d : Desc), s.armedSlots.filter (fun k => k.did == x.did) = [x] → x.scene = none →
    s.slotHeld x = false → u = (if x.late then s else s.elapseOut x.time) → v = u.putSlots (u.tsu.slots.filter (fun k => k != x)) →
    u.desc? x.did = some d →
    Does (.launchSlotFire x.did) s (v.fireDesc d (x.late || decide ((x.time : Int) + v.slack x.cls < v.outputTime))))
  ∧ (∀ (s : State) (x : Slot), s.armedSlots.filter (fun k => k.did == x.did) = [x] → x.cls = .general → s.paused = true →
    Does (.launchSlotFire x.did) s s)
  ∧ (∀ (s : State) (x : Slot) (id : Nat) (c : Scene), x.scene = some id → x.cls = .drive → s.scene? id = some c →
    s.fireSlot x = ((s.modScene id (fun c => { c with late := c.late || x.late })).sceneDrive c).checkScene id)

/-- A damaged frame counts in RXFCS and goes nowhere, one too short or too long in RXDISC. Another one is learned from and
forwarded, and counts in RXOK where a destination admitted it, in RXDROP where every one refused it. No frame goes
back to its source, to a port without link or to a blocked port, and a group-addressed one that is not the module's
own goes only to members of its VLAN. An address without traffic for the ageing time is forgotten, except while the
ports are reloaded. The management port takes the first frame of its highest class: a poisoned one is discarded and
counted, an ARP request for its address is answered. The host frees receive entries through HEAD, which moves only up
to TAIL, and gets at most one message in 50 microseconds. -/
def Obligations.FabricForwardsWithinItsVlan : Prop :=
  (∀ (s : State) (p : Nat) (f : EthRx), p < 3 → s.done = true → s.linkUp p = true →
    (f.intact = false → Does (.portFrameRx p f) s (s.bump (.SWX_PORT_RXFCS p) F.word))
    ∧ (f.intact = true → (f.data.length < 60 ∨ 1996 < f.data.length) →
      Does (.portFrameRx p f) s (s.bump (.SWX_PORT_RXDISC p) F.word))
    ∧ (∀ (v m : Nat) (tc : Nat) (r : State × Nat × Nat), f.intact = true → 60 ≤ f.data.length → f.data.length ≤ 1996 →
      beAt f.data 12 2 ≠ 0x8808 → v = vidOf (s.cf (.SWX_PORT_CFG p) F.SWX_PORT_CFG_PVID) f.data →
      (s.vlan v).map (fun x => x.1) = some m → bit m p = true → s.portBlocked p = false → s.cf .SWX_CFG F.SWX_CFG_ENABLE ≠ 0 →
      tc = (if tagged f.data then s.pcpClass (beAt f.data 14 2 / 8192) else s.cf (.SWX_PORT_CFG p) F.SWX_PORT_CFG_DEFTC) →
      r = ((s.rxStamp p).2.learn (leAt f.data 6 6) v p).forward p v tc
        { data := f.data, port := some p, raw := (s.rxStamp p).1.1, out := (s.rxStamp p).1.2, bad := f.hostBad } →
      (r.2.1 = 0 → Does (.portFrameRx p f) s r.1)
      ∧ (r.2.1 ≠ 0 → r.2.2 = 0 → Does (.portFrameRx p f) s (r.1.bump (.SWX_PORT_RXDROP p) F.word))
      ∧ (r.2.1 ≠ 0 → r.2.2 ≠ 0 → Does (.portFrameRx p f) s (r.1.bump (.SWX_PORT_RXOK p) F.word))))
  ∧ (∀ (s : State) (mac v src m d : Nat), d ∈ s.destsOf mac v src m →
    d ≠ src ∧ (d < 3 → s.linkUp d = true ∧ s.portBlocked d = false)
    ∧ (mac % 2 = 1 → mac ≠ s.macM → mac ≠ s.macH → bit m d = true))
  ∧ (∀ (s : State) (a : AddrEnt) (l : List AddrEnt), isort (fun a => a.at_) s.swx.addrs = a :: l →
    (s.portsReload = true → Does .addressAgeing s s)
    ∧ (s.portsReload = false → a.at_ + s.cf .SWX_CFG F.SWX_CFG_AGE * secT < 2 ^ 64 → ∃ t, exec .addressAgeing s = .next t ∧ a.at_ + s.cf .SWX_CFG F.SWX_CFG_AGE * secT ≤ t.tsu.raw ∧ a ∉ t.swx.addrs
      ∧ (∀ x ∈ t.swx.addrs, x ∈ s.swx.addrs ∧ t.tsu.raw < x.at_ + s.cf .SWX_CFG F.SWX_CFG_AGE * secT) ∧ t.cfg = s.cfg))
  ∧ (∀ (s : State) (f : EgFrame) (l : List EgFrame) (w : Nat), s.queue (qOf dstM 7) = f :: l →
    Does (.mgmtFrameRx (some w)) s (((s.setQueue (qOf dstM 7) l).poisonQueue (qOf dstM 7) w).bump .SWX_MSTAT F.word))
  ∧ (∀ (s t : State) (f : EgFrame) (l : List EgFrame), s.queue (qOf dstM 7) = f :: l → t = s.setQueue (qOf dstM 7) l →
    etherType f.data = 0x0806 → beAt (payloadOf f.data) 6 2 = 1 →
    beAt (payloadOf f.data) 24 4 = (s.cfg.get .SWX_MGMT_IP4).toNat →
    ∃ reply, Does (.mgmtFrameRx none) s (t.mgmtSend f.vid 5 reply) ∧ reply.length = 60)
  ∧ (∀ (s : State) (v : Nat), s.clk.phase = Phase.run → v < s.hrxSize → v < 65536 →
    ((v + s.hrxSize - s.hif.hrxHead) % s.hrxSize ≤ (s.hrxTail + s.hrxSize - s.hif.hrxHead) % s.hrxSize →
      Turns (.hostRxHeadWrite v) s
        { s.setCf .SWX_HRX_HEAD F.SWX_HRX_HEAD_HEAD v with hif := { s.hif with hrxHead := v } })
    ∧ ((s.hrxTail + s.hrxSize - s.hif.hrxHead) % s.hrxSize < (v + s.hrxSize - s.hif.hrxHead) % s.hrxSize →
      Turns (.hostRxHeadWrite v) s (s.event 0 0 0x0201 2 [3, 0, v, s.hrxTail])))
  ∧ (∀ (s u : State), s.hif.hrxIvl ≠ 0 → u = s.elapseTo s.hif.hrxIvl → s.cf .SWX_HRX_CFG F.SWX_HRX_CFG_VECTOR ≠ 0 →
    Does .hostRxMessageInterval s
      ({ u with hif := { u.hif with hrxIvl := 0 } }.msix (s.cf .SWX_HRX_CFG F.SWX_HRX_CFG_VECTOR)))

/-- A FRAME_SEND of a good frame to a port with room puts it at the end of the queue of its port and class; without room
it completes with BUSY and DETAIL 1; for H it is forwarded at once; with LAUNCH it waits for a port slot. Whatever the
classes hold, the scheduler takes the head of the highest class at or above SP_FLOOR first. The head that it takes
leaves the port, unless it would run into an armed slot's instant; a blocked ring port drops one that is not R-APS. A
link that the port's search finds comes up at its rate; losing it flushes the port's queues, counts a flap and forgets
the port's addresses. An automatic port without link turns to the other rate after 500 ms. -/
def Obligations.PortsSendTheirQueues : Prop :=
  (∀ (s : State) (d e : Desc) (read : HostRead), s.serves d 0x40 → d.seen s read = some e → e.target < 8 → e.pByte 0 < 32 →
    bit (e.pByte 0) 3 = false → e.pZero 1 32 = true →
    (e.target = 3 → Does (.frameSend d.did read) s ((s.holding e).fail e stERR_ARG 1))
    ∧ (e.target < 3 → e.len < 60 → Does (.frameSend d.did read) s ((s.holding e).fail e stERR_ARG 2))
    ∧ (e.target < 3 → 60 ≤ e.len → e.len ≤ 1996 → e.launch = false →
      (s.admitCells (qOf e.target (sendTc e)) (cellsFor e.buf) = none →
        Does (.frameSend d.did read) s ((s.holding e).fail e stBUSY 1))
      ∧ (∀ sh, s.admitCells (qOf e.target (sendTc e)) (cellsFor e.buf) = some sh →
        ∃ t f, exec (.frameSend d.did read) s = .next t
          ∧ t.queue (qOf e.target (sendTc e)) = s.queue (qOf e.target (sendTc e)) ++ [f]
          ∧ f.data = e.buf ∧ f.did = some d.did ∧ f.tsreq = sendTs e ∧ t.cfg = s.cfg))
    ∧ (e.target < 3 → 60 ≤ e.len → e.len ≤ 1996 → e.launch = true → (s.holding e).pend < 4096 →
      Does (.frameSend d.did read) s ((s.holding e).updDesc d.did (fun x => { x with stage := .launchWait })))
    ∧ (∀ v r, e.target = 7 → sendTs e = false → 60 ≤ e.len → e.len ≤ 1996 → e.launch = false → s.cf .SWX_CFG F.SWX_CFG_ENABLE ≠ 0 →
      v = vidOf Config.hostVid.toNat e.buf →
      r = (((s.holding e).beginDesc d.did).learn (leAt e.buf 6 6) v dstH).forward dstH v (sendTc e) (InFrame.own e.buf) →
      Does (.frameSend d.did read) s (if r.2.1 ≠ 0 ∧ r.2.2 = 0 then r.1.fail { e with actTime := some s.outputTime } stBUSY 1
        else r.1.ok { e with actTime := some s.outputTime })))
  ∧ (∀ (s : State) (p c : Nat), c < 8 → s.cf (.SWX_PORT_SCHED p) F.SWX_PORT_SCHED_SP_FLOOR ≤ c → s.queue (qOf p c) ≠ [] →
    (∀ k, c < k → k < 8 → s.queue (qOf p k) = []) → s.nextEgress p = some (qOf p c, s))
  ∧ (∀ (s t : State) (p q : Nat) (f : EgFrame) (l : List EgFrame), p < 3 → s.linkUp p = true → s.nextEgress p = some (q, t) →
    t.queue q = f :: l →
    (t.portBlocked p = true → etherType f.data ≠ etherRaps → ∀ b,
      Does (.portFrameTx p b) s ((t.setQueue q l).endDid f.did stABORTED 1 0))
    ∧ ((t.portBlocked p = false ∨ etherType f.data = etherRaps) → (t.guarded p f.data = false →
      Does (.portFrameTx p none) s ((t.setQueue q l).portSend p f.data f.did f.tsreq false)
      ∧ ∀ w, Does (.portFrameTx p (some w)) s (((t.setQueue q l).poisonQueue q w).portSend p f.data f.did f.tsreq true))
    ∧ (t.guarded p f.data = true → ∀ b, Does (.portFrameTx p b) s s)))
  ∧ (∀ (s : State) (p : Nat) (g a : Bool), p < 3 → s.done = true → s.serdesOk = true → s.linkUp p = false →
    s.cf (.SWX_PORT_CFG p) F.SWX_PORT_CFG_ENABLE = 1 → s.mayLink p g a = true →
    ∃ t, exec (.portLinkUp p g a) s = .next t ∧ t.linkUp p = true
      ∧ t.sf (.SWX_PORT_STAT p) F.SWX_PORT_STAT_RATE = (if g then 1 else 2) ∧ t.sf (.SWX_PORT_EVT p) F.SWX_PORT_EVT_UP = 1
      ∧ t.cfg = s.cfg)
  ∧ (∀ (s : State) (p : Nat), p < 3 → s.linkUp p = true →
    ∃ t, exec (.portLinkDown p) s = .next t ∧ t.linkUp p = false ∧ (∀ c, c < 8 → t.queue (qOf p c) = [])
      ∧ (∀ a ∈ t.swx.addrs, a.dest ≠ p) ∧ t.sf (.SWX_PORT_EVT p) F.SWX_PORT_EVT_DOWN = 1 ∧ t.cfg = s.cfg)
  ∧ (∀ (s : State) (p : Nat), p < 3 → s.done = true → s.replaying = false → s.linkUp p = false →
    s.cf (.SWX_PORT_CFG p) F.SWX_PORT_CFG_ENABLE = 1 → s.cf (.SWX_PORT_CFG p) F.SWX_PORT_CFG_SPEED = 0 →
    Tbl.get 0 s.swx.searchAt p + 500 * msT < 2 ^ 64 →
    ∃ t, exec (.speedSearchTimeout p) s = .next t ∧ Tbl.get 0 t.swx.search p = 1 - Tbl.get 0 s.swx.search p
      ∧ Tbl.get 0 s.swx.searchAt p + 500 * msT ≤ t.tsu.raw ∧ t.cfg = s.cfg)

/-- While ring protection is off or in its guard time, an R-APS message changes nothing, nor does one of the module's own,
of another VID or of another MEL. In IDLE or PENDING a signal-failure message takes the ring to PROTECTION with its
good ports unblocked; a no-request message with RPL blocked takes a ring node to IDLE. The guard timer's end lifts the
guard; the end of the wait to restore makes the owner of a PENDING ring block its RPL and go to IDLE. CREDIT_INIT
begins the exchange of an ISOLATED crossing, which reads INIT, and ends it, which makes the crossing ACTIVE; a
crossing that is ACTIVE stays as it is. -/
def Obligations.RingProtectionFollowsItsMessages : Prop :=
  (∀ (s : State) (p : Nat) (m : Raps), (s.swx.erps.on = false ∨ s.swx.erps.guardEnd.isSome = true
      ∨ m.node = beAt (le 6 s.macM) 0 6 ∨ m.vid ≠ s.cf .SWX_ERPS F.SWX_ERPS_VID ∨ m.mel ≠ 7) → Does (.rApsRx p m) s s)
  ∧ (∀ (s : State) (p : Nat) (m : Raps), s.swx.erps.on = true → p < 2 → s.linkUp p = true → s.swx.erps.guardEnd = none →
    s.swx.erps.failed = [] → m.node ≠ beAt (le 6 s.macM) 0 6 → m.vid = s.cf .SWX_ERPS F.SWX_ERPS_VID → m.mel = 7 →
    (m.req = .sf → (s.ringState = 1 ∨ s.ringState = 3) →
      ∃ t, exec (.rApsRx p m) s = .next t ∧ t.ringState = 2 ∧ t.portBlocked 0 = false ∧ t.portBlocked 1 = false
        ∧ t.swx.erps.tx = none ∧ t.cfg = s.cfg)
    ∧ (m.req = .nrRb → s.ringState ≠ 1 → s.ringRole = 0 →
      ∃ t, exec (.rApsRx p m) s = .next t ∧ t.ringState = 1 ∧ t.portBlocked 0 = false ∧ t.portBlocked 1 = false
        ∧ t.swx.erps.tx = none ∧ t.cfg = s.cfg))
  ∧ (∀ (s : State) (r : Nat), s.swx.erps.guardEnd = some r → r < 2 ^ 64 →
    ∃ t, exec (.erpsTimer .guard) s = .next t ∧ r ≤ t.tsu.raw ∧ t.swx.erps = { s.swx.erps with guardEnd := none } ∧ t.cfg = s.cfg)
  ∧ (∀ (s : State) (r : Nat), s.swx.erps.wtrEnd = some r → r < 2 ^ 64 → s.ringState = 3 → s.ringRole = 1 →
    ∃ t, exec (.erpsTimer .waitToRestore) s = .next t ∧ r ≤ t.tsu.raw ∧ t.ringState = 1 ∧ t.portBlocked s.rplPort = true
      ∧ t.portBlocked (1 - s.rplPort) = false ∧ t.swx.erps.wtrEnd = none ∧ t.cfg = s.cfg)
  ∧ (∀ (s : State) (n st : Nat) (sig : Bool), n < 20 → s.hif.perst = true → s.sf (.QUE_X_STAT n) F.QUE_X_STAT_STATE = st →
    (st = 1 ∨ st = 2) →
    ∃ t, exec (.creditInit n sig) s = .next t ∧ t.sf (.QUE_X_STAT n) F.QUE_X_STAT_STATE = (if st = 1 then 2 else 0) ∧ t.cfg = s.cfg
      ∧ (∀ k, k < 20 → k ≠ n → t.sf (.QUE_X_STAT k) F.QUE_X_STAT_STATE = s.sf (.QUE_X_STAT k) F.QUE_X_STAT_STATE))
  ∧ (∀ (s : State) (n : Nat) (sig : Bool), s.sf (.QUE_X_STAT n) F.QUE_X_STAT_STATE = 0 → Does (.creditInit n sig) s s)

/-- For every state, taking a fresh counter makes it not fresh, and no counter that was not fresh becomes fresh by taking
another one. A SEALED operation, and a datagram of a right form, queue their envelope while fewer than 9 wait; then a
SEALED completes with BUSY and a datagram is dropped and counted. The envelope at the head that fails a check is
denied with the first failing check's number and takes no counter; one that passes takes its counter; where its
operation needs presence it consumes an open credit, or waits for 60 s. -/
def Obligations.SealedCountersAreTakenOnce : Prop :=
  (∀ (s : State) (a b : Nat), s.ctrFresh b = true → (s.takeCtr b).ctrFresh b = false
    ∧ (s.ctrFresh a = false → (s.takeCtr b).ctrFresh a = false))
  ∧ (∀ (s : State) (d e : Desc) (read : HostRead) (env : Envelope), s.serves d 0x06 → d.seen s read = some e → e.target = 0 →
    e.param = 0#256 → e.len ≠ 0 →
    (s.shed.down = true → Does (.sealed d.did read env) s ((s.holding e).fail e stERR_ABSENT))
    ∧ (s.shed.down = false → 9 ≤ s.shed.queue.length → Does (.sealed d.did read env) s ((s.holding e).fail e stBUSY))
    ∧ (s.shed.down = false → s.shed.queue.length < 9 → Does (.sealed d.did read env) s
      { s.holding e with shed := { s.shed with queue := s.shed.queue ++ [{ src := .sealedRing d.did, env := env }] } }))
  ∧ (∀ (s : State) (ip port len : Nat) (env : Envelope), 1400 < len → Does (.udpEnvelopeRx ip port len false env) s s)
  ∧ (∀ (s : State) (ip port len : Nat) (env : Envelope), s.done = true → s.ready = true → s.replaying = false → len ≤ 1400 →
    ((s.shed.down = true ∨ 9 ≤ s.shed.queue.length) →
      Does (.udpEnvelopeRx ip port len false env) s (s.bumpSat .SEC_UDP F.SEC_UDP_DROPPED))
    ∧ (s.shed.down = false → s.shed.queue.length < 9 → Does (.udpEnvelopeRx ip port len false env) s
      { s with shed := { s.shed with queue := s.shed.queue ++ [{ src := .sealedUdp ip port, env := env }] } }))
  ∧ (∀ (s t : State) (w : EnvWait) (l : List EnvWait) (sigOk : Bool), s.shed.queue = w :: l → s.ready = true →
    s.shedRuns = true → s.shed.identity = true → s.radioPaused = false → t = { s with shed := { s.shed with queue := l } } →
    (∀ k, t.envCheck w.env sigOk = some k → Does (.envelopeVerified sigOk) s (t.deny w k) ∧ (t.deny w k).tack = s.tack)
    ∧ (t.envCheck w.env sigOk = none → Does (.envelopeVerified sigOk) s (t.acceptEnv w)
      ∧ (t.acceptEnv w).tack.high = max s.tack.high w.env.ctr))
  ∧ (∀ (s : State) (e : Envelope) (sigOk : Bool), s.envCheck e sigOk = none →
    sigOk = true ∧ s.ctrFresh e.ctr = true ∧ e.wellFormed = true ∧ envMayEnclose e = true ∧ s.destOk e = true
      ∧ (∀ o, s.tack.owner = some o → e.kid = o.id))
  ∧ (∀ (s : State) (w : EnvWait), isTrustOp w.env.op = true → envPresence w.env = true →
    (s.creditOpen = false → s.shed.pend = none → ∃ k, (s.acceptEnv w).shed.pend = some (k, s.tsu.raw + 60 * secT))
    ∧ (s.creditOpen = true → (s.acceptEnv w).sec F.SEC_STAT_CREDIT = false ∧ (s.acceptEnv w).shed.pend = s.shed.pend))

/-- OWNER_ENROL on an unowned module sets the owner at generation 1 with a fresh WK and broadcast key and takes the
counter of its envelope as HIGH, and is denied on an owned one. OWNER_ROLL replaces the key and counts the generation;
OWNER_CHANGE also discards the join roots and takes the counter of its envelope. PRESENCE_OPEN of 10 to 600 s opens
the window, PRESENCE_CLOSE closes it. DEBUG_UNLOCK sets the debug flag and empties the key cache. JOINROOT_LOAD puts a
root at its index, JOINROOT_DELETE removes it. TWIN_PAIR sends the WK to a peer of the same owner. TAMPER_CLEAR and
OSC_CLEAR clear their flags. LIZARD_ENTER completes and resets the module into the loader. ATTEST answers the report,
the certificate and the history, and ERR_ABSENT while the shed is in reset. -/
def Obligations.TrustOperationsHaveTheirEffect : Prop :=
  (∀ (s : State) (d : Desc), s.serves d 0xC0 → ownerArgsOk d = true →
    (s.tack.owner.isSome = true → Does (.ownerEnrol d.did) s ((s.holding d.taken).fail d.taken stDENIED))
    ∧ (s.tack.owner = none → ∃ t, exec (.ownerEnrol d.did) s = .next t ∧ t.tack.owner = some { id := newOwner d, gen := 1 }
      ∧ t.tack.wk.isSome = true ∧ t.sf .SEC_STAT F.SEC_STAT_OWNED = 1 ∧ t.upd.verified = false ∧ t.tack.high = d.work
      ∧ t.cfg = s.cfg))
  ∧ (∀ (s : State) (d : Desc) (o : Owner), ownerArgsOk d = true → s.tack.owner = some o →
    (s.serves d 0xC1 → ∃ t, exec (.ownerRoll d.did) s = .next t ∧ t.tack = { s.tack with
      owner := some { id := newOwner d, gen := (o.gen + 1) % 2 ^ 32 }, history := t.tack.history } ∧ t.cfg = s.cfg)
    ∧ (s.serves d 0xC2 → ∃ t, exec (.ownerChange d.did) s = .next t
      ∧ t.tack.owner = some { id := newOwner d, gen := (o.gen + 1) % 2 ^ 32 } ∧ t.tack.high = d.work ∧ t.tack.roots = []
      ∧ t.tack.wk.isSome = true ∧ (s.tack.wk.isSome = true → t.tack.wk = s.tack.wk) ∧ t.cfg = s.cfg))
  ∧ (∀ (s : State) (d : Desc), trustBare d = true →
    (s.serves d 0xC3 → 10 ≤ d.target → d.target ≤ 600 →
      Does (.presenceOpen d.did) s (((s.holding d.taken).openPresence d.target).ok d.taken))
    ∧ (s.serves d 0xC3 → (d.target < 10 ∨ 600 < d.target) →
      Does (.presenceOpen d.did) s ((s.holding d.taken).fail d.taken stERR_ARG))
    ∧ (s.serves d 0xC4 → d.target = 0 → Does (.presenceClose d.did) s ((s.holding d.taken).closeWindow.ok d.taken))
    ∧ (s.serves d 0xC5 → d.target = 0 → ∃ t, exec (.debugUnlock d.did) s = .next t ∧ t.sf .SEC_STAT F.SEC_STAT_DEBUG = 1
      ∧ t.air.cache = [] ∧ t.tack.unlocks = (s.tack.unlocks + 1) % 2 ^ 32 ∧ t.tack.owner = s.tack.owner ∧ t.cfg = s.cfg)
    ∧ (s.serves d 0xC9 → d.target = 0 → ∃ t, exec (.tamperClear d.did) s = .next t ∧ t.sf .SEC_STAT F.SEC_STAT_TAMPER = 0
      ∧ t.sf .SEC_STAT F.SEC_STAT_TAMPER_LOST = 0 ∧ t.tack = s.tack ∧ t.cfg = s.cfg)
    ∧ (s.serves d 0xCA → d.target = 0 →
      (s.sf .CLK_SRC_STAT ⟨3, 2⟩ ≠ 1 → Does (.oscClear d.did) s ((s.holding d.taken).fail d.taken stBUSY))
      ∧ (s.sf .CLK_SRC_STAT ⟨3, 2⟩ = 1 → ∃ t, exec (.oscClear d.did) s = .next t
        ∧ t.sf .NEWT_STAT F.NEWT_STAT_OSC_STOP = 0 ∧ t.cfg = s.cfg))
    ∧ (s.serves d 0xC7 → d.target < 32 → ∃ t, exec (.joinrootDelete d.did) s = .next t
      ∧ t.tack = { s.tack with roots := s.tack.roots.filter (fun q => q.1 != d.target) } ∧ t.cfg = s.cfg)
    ∧ (∀ (p : PairCheck) (k : Nat), s.serves d 0xC8 → d.target = 0 → s.twinRole = 3 → s.tw F.TWN_STAT_LANE_OK = true →
      p.certOk = true → s.tack.owner.map (fun o => o.id) = some p.owner → s.tack.wk = some k →
      Does (.twinPair d.did p) s (((((s.holding d.taken).laneSend (.wk k (Config.devId.toNat % 2 ^ 64))).setSec
        F.SEC_STAT_PAIRED true).event 14 0 0x0C09 1 [p.devid % 2 ^ 64]).ok d.taken))
    ∧ (∀ v : State, s.serves d 0xCB → d.target < 2 → v = (s.holding d.taken).hold (fun u => (u.ok d.taken).yieldFirst) →
      v.upd.session = none → Turns (.lizardEnter d.did) s
        ((({ v with upd := { v.upd with lizard := d.target + 1 } } : State).elapse msT).moduleReset 4 d.target true)))
  ∧ (∀ (s : State) (d : Desc), s.serves d 0xC6 → d.len = 99 → d.target = 0 → d.param = 0#256 → d.launch = false →
    leAt d.buf 0 1 ≤ 31 → leAt d.buf 1 1 ≤ 64 → leAt d.buf 2 8 % 2 ^ (64 - leAt d.buf 1 1) = 0 →
    Does (.joinrootLoad d.did false) s ((s.holding d.taken).fail d.taken stERR_ARG 1)
    ∧ ∃ t k, exec (.joinrootLoad d.did true) s = .next t ∧ t.cfg = s.cfg
      ∧ t.tack.roots = s.tack.roots.filter (fun r => r.1 != leAt d.buf 0 1)
        ++ [(leAt d.buf 0 1, { plen := leAt d.buf 1 1, pref := leAt d.buf 2 8, key := k })])
  ∧ (∀ (s : State) (d : Desc), s.serves d 0x61 → d.target = 0 →
    (s.shed.down = true → d.pByte 0 = 1 → d.pZero 1 32 = true → 2048 ≤ d.len →
      Does (.attestCert d.did) s ((s.holding d.taken).fail d.taken stERR_ABSENT))
    ∧ (s.shed.down = false → d.pByte 0 = 0 → d.pZero 1 16 = true → 512 ≤ d.len → ∃ (b : List Byte) (v : State), Does (.attestReport d.did) s (v.okData d.taken b b.length)
      ∧ ((s.holding d.taken).report (d.pNum 16 16)) <:+: b ∧ v.tack = s.tack ∧ v.sts = s.sts)
    ∧ (s.shed.down = false → d.pByte 0 = 1 → d.pZero 1 32 = true → 2048 ≤ d.len → Does (.attestCert d.did) s
      ((s.holding d.taken).okData d.taken Config.certificate (min Config.certificate.length d.len)))
    ∧ (s.shed.down = false → d.pByte 0 = 2 → d.pZero 1 32 = true → 512 ≤ d.len → Does (.attestHistory d.did) s
      ((s.holding d.taken).okData d.taken (s.historyBytes 64) 512)))

/-- A button held for 5 s, where it may give presence, lets the operation that waits start, or opens a credit of 60 s; a
shorter press does nothing. The seal loop opened and closed again after 1 to 30 s does the same, after any other time
it is tamper. What waits for presence completes with NEEDS_PRESENCE after 60 s; the credit and the window end at their
ends. A sample that finds the mesh broken makes the running shed zeroise its keys: no wrap key and no join root is
left, and the window is closed. A reset of the shed empties its queues and the key cache, and isolates its crossings. -/
def Obligations.PresenceAndTamperAct : Prop :=
  (∀ (s : State) (ms : Nat), (ms < 5000 ∨ s.presenceAllowed F.SEC_TAMPER_CFG_BTN_PRES = false) → Turns (.presenceButton ms) s s)
  ∧ (∀ (s : State) (ms : Nat), 5000 ≤ ms → s.presenceAllowed F.SEC_TAMPER_CFG_BTN_PRES = true → s.upd.lizWait = 0 →
    (s.shed.pend = none → ∃ t, exec (.presenceButton ms) s = .next t ∧ t.sf .SEC_STAT F.SEC_STAT_CREDIT = 1
      ∧ t.shed.creditEnd = s.tsu.raw + 60 * secT ∧ t.sf .SEC_EVT F.SEC_EVT_PRESENCE = 1 ∧ t.cfg = s.cfg)
    ∧ (∀ d w, s.shed.pend = some (d.did, w) → s.desc? d.did = some d → s.tsu.raw ≤ w → ∃ t, exec (.presenceButton ms) s = .next t
      ∧ t.shed.pend = none ∧ t.desc? d.did = some { d with stage := .waiting } ∧ t.cfg = s.cfg)
    ∧ (∀ p, s.shed.pend = some p → p.2 < s.tsu.raw → ∃ t, exec (.presenceButton ms) s = .next t ∧ t.shed.pend = none
      ∧ t.sf .SEC_STAT F.SEC_STAT_CREDIT = 1 ∧ t.cfg = s.cfg))
  ∧ (∀ (s : State) (ms : Nat), s.sf .SEC_TAMPER_IN F.SEC_TAMPER_IN_SEAL = 1 → s.sf .SEC_TAMPER_IN F.SEC_TAMPER_IN_DOOR = 1 →
    s.presenceAllowed F.SEC_TAMPER_CFG_SEAL_PRES = true → s.upd.lizWait = 0 → s.shed.pend = none →
    s.tsu.raw + ms * msT < 2 ^ 64 → ∃ t, exec (.presenceSeal ms) s = .next t ∧ t.tsu.raw = s.tsu.raw + ms * msT ∧ t.shed.sealAt = none ∧ t.cfg = s.cfg
      ∧ (1000 ≤ ms → ms ≤ 30000 → t.sf .SEC_STAT F.SEC_STAT_CREDIT = 1)
      ∧ (ms < 1000 ∨ 30000 < ms → t.sf .SEC_STAT F.SEC_STAT_CREDIT = s.sf .SEC_STAT F.SEC_STAT_CREDIT))
  ∧ (∀ (s u : State) (d : Desc) (w : Nat), s.upd.lizWait = 0 → s.shed.pend = some (d.did, w) → s.desc? d.did = some d →
    u = s.elapseTo w → Does .presenceTimeout s
      ((({ u with shed := { u.shed with pend := none } }.presenceDone 1).event 14 0 0x0C03 2 [d.op]).fail d stNEEDS_PRESENCE))
  ∧ (∀ s : State, s.sec F.SEC_STAT_CREDIT = true → Does .presenceCreditExpiry s (s.elapseTo s.shed.creditEnd).dropCredit)
  ∧ (∀ s : State, s.sec F.SEC_STAT_WINDOW = true → Does .presenceWindowExpiry s (s.elapseTo s.shed.windowEnd).closeWindow)
  ∧ (∀ (s : State) (door loop btn : Bool) (m : Mesh), m ≠ .intact → s.sf .SEC_TAMPER_IN F.SEC_TAMPER_IN_MESH_OK = 1 →
    s.shedRuns = true → s.newt.halted = false → s.shed.sealAt = none → loop = (s.sf .SEC_TAMPER_IN F.SEC_TAMPER_IN_SEAL == 1) →
    ∃ t, exec (.tamperSample door loop btn m) s = .next t ∧ t.tack.wk = none ∧ t.tack.roots = []
      ∧ t.sf .SEC_STAT F.SEC_STAT_ZEROISED = 1 ∧ t.sf .SEC_STAT F.SEC_STAT_TAMPER = 1 ∧ t.sf .SEC_STAT F.SEC_STAT_WINDOW = 0
      ∧ t.sf .SEC_TAMPER_IN F.SEC_TAMPER_IN_BTN = b2n btn ∧ t.cfg = s.cfg)
  ∧ (∀ s : State, s.ready = true → ∃ t, exec .shedReset s = .next t ∧ t.shed.queue = [] ∧ t.shed.pend = none
      ∧ t.air.cache = [] ∧ t.shed.down = true ∧ t.sec F.SEC_STAT_CREDIT = false ∧ t.sec F.SEC_STAT_WINDOW = false
      ∧ (∀ n ∈ shedCrossings, t.sf (.QUE_X_STAT n) F.QUE_X_STAT_STATE = 1) ∧ t.cfg = s.cfg)

/-- A domain's time at the instant of a fold is what it was. A switch from a synchronised domain with a residue of at most
100 ms leaves the output time as it was, and each slew step brings the residue 1 tick nearer 0, none earlier than SLEW
ppm allow. Time that passes to an instant of output time reaches it, and a tick less does not. A Sync interval without
its Sync brings no measurement. A LOCKING domain's measurement of more than 1 ms steps it; 16 in a row below the
threshold make it SYNCED; a SYNCED domain beyond the lock threshold is LOCKING again; without its master it is in
HOLDOVER. An Announce of the best master starts a LISTENING domain's servo. A used PPS_IN edge counts; its loss clears
IN_OK, and takes a domain that follows it into HOLDOVER. PPS_OUT rises at a whole second after the last one. -/
def Obligations.OutputTimeStandsThroughServoAndSwitch : Prop :=
  (∀ (d : Dom) (raw : Nat) (rate : Int), domTime (d.fold raw rate) raw = domTime d raw
    ∧ -rateMax ≤ (d.fold raw rate).rate ∧ (d.fold raw rate).rate ≤ rateMax)
  ∧ (∀ (s : State) (d : Dom) (t : Int), s.compatOn = false → d = s.dom s.act → -rateMax ≤ d.rate → d.rate ≤ rateMax →
    d.anchor ≤ s.tsu.raw → d.offset.natAbs < 2 ^ 61 → s.tsu.raw + s.outWait t < 2 ^ 62 → s.tsu.res.natAbs ≤ 100 * msT → s.outputTime < t →
    t ≤ (s.elapseOut t).outputTime ∧ ∀ n, n < s.outWait t → (s.elapse n).outputTime < t)
  ∧ (∀ (s : State) (d : Nat), d < 2 → s.compatOn = false → (s.domState s.act = dSYNCED ∨ s.domState s.act = dHOLDOVER) →
    (s.outputTime - s.domNow d).natAbs ≤ 100 * msT →
    (s.switchTo d).outputTime = s.outputTime ∧ (s.switchTo d).act = d ∧ (s.switchTo d).sf .TSU_EVT F.TSU_EVT_SWITCH = 1)
  ∧ (∀ s : State, s.tsu.res ≠ 0 → s.slewAt (s.tsu.slewN + 1) < 2 ^ 64 → ∃ t, exec .slewStep s = .next t
      ∧ t.tsu.res.natAbs + 1 = s.tsu.res.natAbs ∧ s.slewAt (s.tsu.slewN + 1) ≤ t.tsu.raw ∧ t.tsu.slewN = s.tsu.slewN + 1
      ∧ t.tsu.slewFrom = s.tsu.slewFrom ∧ t.cfg = s.cfg)
  ∧ (∀ (s : State) (k : Nat), k * 1000000 ≤ (s.slewAt k - s.tsu.slewFrom) * s.cf .TSU_CFG F.TSU_CFG_SLEW
      ∨ s.cf .TSU_CFG F.TSU_CFG_SLEW = 0)
  ∧ (∀ (s : State) (d : Nat) (o r : Int), (s.dom d).sync ≠ 2 → Does (.ptpSyncInterval d o r) s s)
  ∧ (∀ (s v u : State) (d : Nat) (o r : Int), d < 2 → s.domPps d = false → (s.dom d).sync = 2 →
    v = s.setDom d { s.dom d with sync := 0 } → u = (v.setSw (.TSU_DOM_OFFS d) (sat32 (2 * o))).steer d r →
    (s.domState d = dLOCKING → 1000000 < (2 * o).natAbs →
      Does (.ptpSyncInterval d o r) s ((u.setDom d { u.dom d with good := 0 }).stepDom d (-o) 0))
    ∧ (s.domState d = dLOCKING → (2 * o).natAbs ≤ 1000000 → (2 * o).natAbs < u.cf (.TSU_DOM_THR d) F.TSU_DOM_THR_SYNC_THR →
      ((u.dom d).good < 15 → Does (.ptpSyncInterval d o r) s (u.setDom d { u.dom d with good := (u.dom d).good + 1 }))
      ∧ (15 ≤ (u.dom d).good →
        Does (.ptpSyncInterval d o r) s ((u.setDom d { u.dom d with good := 0 }).changeDom d dSYNCED)))
    ∧ (s.domState d = dSYNCED → u.cf (.TSU_DOM_THR d) F.TSU_DOM_THR_LOCK_THR * 1000 < (2 * o).natAbs →
      Does (.ptpSyncInterval d o r) s ((u.setDom d { u.dom d with good := 0 }).changeDom d dLOCKING)))
  ∧ (∀ (s u : State) (d : Nat), d < 2 → s.domPps d = false → (s.domState d = dLOCKING ∨ s.domState d = dSYNCED) →
    u = s.elapseTo ((s.dom d).annAt + s.cf (.TSU_DOM_INT d) F.TSU_DOM_INT_ART * s.intervalT d F.TSU_DOM_INT_LOG_ANN) →
    Does (.announceReceiptTimeout d) s ((u.setDom d { u.dom d with master := false, sync := 0 }).changeDom d dHOLDOVER))
  ∧ (∀ (s : State) (p : Nat) (m : PtpMsg), s.domState 1 = dDISABLED → s.domState 0 = dLISTENING → s.domNum 0 = m.domNum →
    bit (s.cf (.TSU_DOM_CFG 0) F.TSU_DOM_CFG_PORTS) p = true → m.kind = .announce → m.best = true → s.domPps 0 = false →
    s.clk.timeRco = false → p < 3 → s.domUdp 0 = m.udp → s.linkUp p = true → s.portBlocked p = false →
    ∃ t, exec (.ptpMessageRx p m) s = .next t ∧ t.domState 0 = dLOCKING ∧ (t.dom 0).gm = m.gm ∧ (t.dom 0).master = true
      ∧ t.sf (.TSU_DOM_STAT 0) F.TSU_DOM_STAT_PORT = p ∧ t.cfg = s.cfg)
  ∧ (∀ (s : State) (r : Int), s.replaying = false → s.cf .TSU_PPS F.TSU_PPS_IN_EN = 1 → s.cf .TSU_PPS F.TSU_PPS_IN_EDGE = 0 → s.domPps 0 = false →
    s.domPps 1 = false → ∃ t, exec (.ppsInEdge true r) s = .next t ∧ t.tsu.ppsIn = twos 64 s.outputTime
      ∧ t.tsu.ppsRaw = s.tsu.raw
      ∧ t.sf .TSU_PPS_STAT F.TSU_PPS_STAT_IN_OK = 1
      ∧ t.sf .TSU_PPS_STAT F.TSU_PPS_STAT_IN_EDGES
        = (s.sf .TSU_PPS_STAT F.TSU_PPS_STAT_IN_EDGES + 1) % 2 ^ F.TSU_PPS_STAT_IN_EDGES.width ∧ t.cfg = s.cfg)
  ∧ (∀ s : State, s.sf .TSU_PPS_STAT F.TSU_PPS_STAT_IN_OK = 1 → s.domPps 0 = false → s.domPps 1 = false →
    edgesLost s.tsu.ppsAt < 2 ^ 64 → ∃ t, exec .ppsLoss s = .next t
      ∧ t.sf .TSU_PPS_STAT F.TSU_PPS_STAT_IN_OK = 0 ∧ t.sf .TSU_EVT F.TSU_EVT_PPS_LOSS = 1 ∧ t.cfg = s.cfg)
  ∧ (∀ (s : State) (d : Nat), d < 2 → s.sf .TSU_PPS_STAT F.TSU_PPS_STAT_IN_OK = 0 → s.domPps d = true → s.domPps (1 - d) = false →
    (s.domState d = dLOCKING ∨ s.domState d = dSYNCED) → edgesLost (s.dom d).edgeAt < 2 ^ 64 → ∃ t, exec .ppsLoss s = .next t
      ∧ t.domState d = dHOLDOVER ∧ t.cfg = s.cfg)
  ∧ (∀ s : State, s.replaying = false → s.cf .TSU_PPS F.TSU_PPS_OUT_EN = 1 → s.sf .TSU_STAT F.TSU_STAT_SYNCED = 1 → ∃ t k,
      exec .ppsOutPulse s = .next t ∧ t.out = .ppsOut k (s.cf .TSU_PPS F.TSU_PPS_OUT_WIDTH) :: s.out ∧ t.tsu.ppsSec = k
      ∧ k ≠ s.tsu.ppsSec ∧ s.outputTime ≤ k * 500000000 ∧ t.tsu.raw = (s.elapseOut (k * 500000000)).tsu.raw ∧ t.cfg = s.cfg)

/-- A read of TSU_TIME_LO answers the low half of the output time and latches the rest for its own side only; TSU_PPSIN_LO
likewise. TIME_READ answers the time record. TIME_CTL SELECT switches to a SYNCED domain, gives BUSY for another, and
in compatibility mode ERR_ARG; STEP and SET step a domain that the servo does not hold; DISABLE of the active domain
gives ERR_ARG; ENABLE makes a disabled domain LISTENING. TS_READ answers and removes the oldest entries of a port's
queue and clears its loss. -/
def Obligations.TimeIsReadAndControlled : Prop :=
  (∀ (s : State) (l : TimeLatch), l = { timeHi := twos 64 s.outputTime / 2 ^ 32, rawLo := s.tsu.raw % 2 ^ 32
                                        rawHi := s.tsu.raw / 2 ^ 32 % 2 ^ 32, res := twos 32 s.tsu.res } →
    Does (.tsuTimeLoRead .host) s
      ({ s with tsu := { s.tsu with latHost := l } }.emit (.readData .host (twos 64 s.outputTime % 2 ^ 32)))
    ∧ Does (.tsuTimeLoRead .firmware) s
      ({ s with tsu := { s.tsu with latFw := l } }.emit (.readData .firmware (twos 64 s.outputTime % 2 ^ 32))))
  ∧ (∀ s : State, Does (.tsuPpsinLoRead .host) s
      ({ s with tsu := { s.tsu with ppsHiHost := s.tsu.ppsIn / 2 ^ 32 } }.emit (.readData .host (s.tsu.ppsIn % 2 ^ 32)))
    ∧ Does (.tsuPpsinLoRead .firmware) s
      ({ s with tsu := { s.tsu with ppsHiFw := s.tsu.ppsIn / 2 ^ 32 } }.emit (.readData .firmware (s.tsu.ppsIn % 2 ^ 32))))
  ∧ (∀ (s : State) (d : Desc), s.serves d 0x42 →
    (64 ≤ d.len → Does (.timeRead d.did) s
      ((s.holding d.taken).okData { d.taken with actTime := some s.outputTime } s.timeRecord 0) ∧ s.timeRecord.length = 64)
    ∧ (d.len < 64 → Does (.timeRead d.did) s ((s.holding d.taken).fail d.taken stERR_ARG)))
  ∧ (∀ (s : State) (d e : Desc) (read : HostRead) (k : Nat), s.serves d 0x43 → d.seen s read = some e → timeCtlOk e = true →
    k = timeDomain e →
    (timeAction e = 0 → s.compatOn = true → Does (.timeCtlSelect d.did read) s ((s.holding e).fail e stERR_ARG))
    ∧ (timeAction e = 0 → s.compatOn = false → k = s.act → Does (.timeCtlSelect d.did read) s ((s.holding e).ok e))
    ∧ (timeAction e = 0 → s.compatOn = false → k ≠ s.act →
      (s.domState k = dSYNCED → Does (.timeCtlSelect d.did read) s (((s.holding e).switchTo k).ok e))
      ∧ (s.domState k ≠ dSYNCED → Does (.timeCtlSelect d.did read) s ((s.holding e).fail e stBUSY)))
    ∧ (timeAction e = 1 →
      (s.servoHolds k = true → Does (.timeCtlStep d.did read) s ((s.holding e).fail e stBUSY))
      ∧ (s.servoHolds k = false → s.compatOn = true → Does (.timeCtlStep d.did read) s
        (((s.holding e).stepNs k (s.tsu.compat + timeValue e * 2 ^ 16)).ok e))
      ∧ (s.servoHolds k = false → s.compatOn = false → Does (.timeCtlStep d.did read) s (((s.holding e).stepDom k (timeValue e) 1).ok e)))
    ∧ (timeAction e = 2 → s.servoHolds k = false → s.compatOn = false →
      ((wrap64 ((timeRaw e : Int) - e.at_)).natAbs ≤ secT → Does (.timeCtlSet d.did read) s
        (((s.holding e).stepDom k (timeValue e - domTime (s.dom k) (timeRaw e)) 1).ok e))
      ∧ (secT < (wrap64 ((timeRaw e : Int) - e.at_)).natAbs → Does (.timeCtlSet d.did read) s ((s.holding e).fail e stERR_ARG)))
    ∧ (timeAction e = 3 → s.domState k ≠ dDISABLED →
      (k = s.act → Does (.timeCtlDisable d.did read) s ((s.holding e).fail e stERR_ARG))
      ∧ (k ≠ s.act → Does (.timeCtlDisable d.did read) s (((s.holding e).changeDom k dDISABLED).ok e)))
    ∧ (timeAction e = 4 → s.compatOn = false → s.domState k = dDISABLED →
      Does (.timeCtlEnable d.did read) s (((s.holding e).changeDom k dLISTENING).ok e)))
  ∧ (∀ (s : State) (d : Desc) (p n : Nat), s.serves d 0x41 → d.target = p → p < 3 → d.len ≠ 0 → d.pByte 0 = 0 →
    (Tbl.get [] s.tsu.tsq p).length ≤ 64 → n = min (Tbl.get [] s.tsu.tsq p).length (d.len / 24) →
    ∃ t, exec (.tsRead d.did) s = .next t ∧ Tbl.get [] t.tsu.tsq p = (Tbl.get [] s.tsu.tsq p).drop n
      ∧ t.sf (.TSU_PORT_TSQ p) F.TSU_PORT_TSQ_LEVEL = (Tbl.get [] s.tsu.tsq p).length - n
      ∧ t.sf (.TSU_PORT_TSQ p) F.TSU_PORT_TSQ_LOST = 0 ∧ t.sf (.TSU_PORT_TSQ p) F.TSU_PORT_TSQ_OVF = 0 ∧ t.cfg = s.cfg)

/-- A DRIVE_SET record puts its level, fade and CLR before each channel that it names; a bad record gives ERR_ARG with its
place and changes nothing; a DRIVE_LATCH with a bad section gives ERR_ARG with DETAIL 1; a gated drive block gives
ERR_GATED. A boundary of an enabled channel with nothing waiting shows the fade's level and puts out its on-time,
nothing while the output is forced low, and no pulse while the claim gate is closed; a change that waits becomes its
target there. The mean of a window's samples is its measurement. Three measurements in a row below the threshold make
a channel OPEN, one at or above it ends that. A probe counts and puts out 1,600 cycles. Each temperature reading moves
a group's factor by at most one toward its target. The claim gate's closing and opening show in DRV_GATE, and a
closing leaves no pad driven. -/
def Obligations.DriveChannelsFollowTheirCommands : Prop :=
  (∀ (s : State) (d e : Desc) (read : HostRead) (n : Nat), s.serves d 0x50 → d.seen s read = some e → e.target = 0 →
    e.pZero 0 32 = true → e.len = 8 → e.buf.length = 8 → e.launch = false → leAt e.buf 0 1 = n → leAt e.buf 1 1 < 2 →
    leAt e.buf 6 2 = 0 →
    (s.pwmGated = true → n < 48 → Does (.driveSet d.did read) s ((s.holding e).fail e stERR_GATED))
    ∧ (s.pwmGated = false → n < 48 → ∃ t, exec (.driveSet d.did read) s = .next t ∧ t.cfg = s.cfg ∧ t.sts = s.sts ∧ t.drv.changes = s.drv.changes
      ++ [{ ch := n, did := some e.did, scene := none, level := leAt e.buf 2 2, fade := leAt e.buf 4 2
            clr := bit (leAt e.buf 1 1) 0, due := none }])
    ∧ (48 ≤ n → n < 0x40 → Does (.driveSet d.did read) s ((s.holding e).fail e stERR_ARG 0)))
  ∧ (∀ (s : State) (d e : Desc) (read : HostRead), s.serves d 0x51 → d.seen s read = some e → e.target = 0 →
    e.pZero 2 32 = true →
    (driveSectionOk e.buf = false → Does (.driveLatch d.did read) s ((s.holding e).fail e stERR_ARG 1))
    ∧ (driveSectionOk e.buf = true → s.pwmGated = false → e.launch = false → driveMask e.buf ≠ 0 →
      ∃ t, exec (.driveLatch d.did read) s = .next t ∧ t.cfg = s.cfg ∧ t.sts = s.sts
        ∧ (t.drv.changes.drop s.drv.changes.length).map (fun c => c.ch) = maskChans (driveMask e.buf)
        ∧ (t.drv.changes.drop s.drv.changes.length).map (fun c => c.level) = driveLevels e.buf))
  ∧ (∀ (s : State) (n v : Nat), n < 48 → s.chEnabled n = true → s.drv.changes.filter (fun c => c.ch == n) = [] →
    ∃ t, exec (.pwmPeriodBoundary n v) s = .next t ∧ t.cfg = s.cfg ∧ (s.drvChan n).next < (t.drvChan n).next
      ∧ t.sf (.DRV_CH_LEVEL n) F.DRV_CH_LEVEL_PRESENT = fadeLevel (s.drvChan n).from_
        (s.sf (.DRV_CH_LEVEL n) F.DRV_CH_LEVEL_TARGET) (t.tsu.raw - (s.drvChan n).fadeAt) (s.drvChan n).fade % 2 ^ 16
      ∧ (s.forcedLow n = true → t.sf (.DRV_CH_ON n) F.DRV_CH_ON_ON = 0)
      ∧ (s.gateClosed = true → t.out = s.out)
      ∧ (s.gateClosed = false → s.forcedLow n = false → s.cf (.DRV_CH_DIAG n) F.DRV_CH_DIAG_OVER_THR = 0 →
        t.out = .pwm n (some { on := s.onTime n (t.sf (.DRV_CH_LEVEL n) F.DRV_CH_LEVEL_PRESENT), per := 2 ^ s.chRes n
                               start := s.cf (.DRV_CH_CFG n) F.DRV_CH_CFG_PHASE * 2 ^ (s.chRes n - 4)
                               high := s.cf (.DRV_CH_CFG n) F.DRV_CH_CFG_POL == 0 }) :: s.out))
  ∧ (∀ (s : State) (n v : Nat) (c : DrvChange), n < 48 → s.chEnabled n = true → s.drv.changes = [c] → c.ch = n → c.did = none →
    c.scene = none → c.level < 2 ^ 16 → ∃ t, exec (.pwmPeriodBoundary n v) s = .next t ∧ t.cfg = s.cfg ∧ t.drv.changes = []
      ∧ t.sf (.DRV_CH_LEVEL n) F.DRV_CH_LEVEL_TARGET = c.level ∧ (t.drvChan n).fade = c.fade ∧ (t.drvChan n).fadeAt = t.tsu.raw
      ∧ (c.fade = 0 → t.sf (.DRV_CH_LEVEL n) F.DRV_CH_LEVEL_PRESENT = c.level))
  ∧ (∀ (s : State) (n v : Nat) (p : Bool), s.cf (.DRV_CH_DIAG n) F.DRV_CH_DIAG_OPEN_THR ≠ 0 → n < 48 →
    (s.cf (.DRV_CH_DIAG n) F.DRV_CH_DIAG_OPEN_THR ≤ v → ((s.measureCh n v p).drvChan n).isOpen = false)
    ∧ (v < s.cf (.DRV_CH_DIAG n) F.DRV_CH_DIAG_OPEN_THR → 2 ≤ s.sf (.DRV_CH_STAT n) F.DRV_CH_STAT_LOW →
      ((s.measureCh n v p).drvChan n).isOpen = true)
    ∧ (v < s.cf (.DRV_CH_DIAG n) F.DRV_CH_DIAG_OPEN_THR → s.sf (.DRV_CH_STAT n) F.DRV_CH_STAT_LOW < 2 →
      ((s.measureCh n v p).drvChan n).isOpen = (s.drvChan n).isOpen))
  ∧ (∀ (s u z : State) (n w : Nat) (x : DrvChan), n < 48 → s.chEnabled n = true → s.gateClosed = false → x = s.drvChan n →
    w = max (s.drvChan n).window ((s.tsu.raw - s.drv.setupAt) / (100 * msT)) + 1 →
    u = s.elapseTo (s.drv.setupAt + w * 100 * msT) →
    z = u.modDrvChan n (fun x => { x with window := w, count := 0, sum := 0 }) →
    (x.count = 0 → Does (.isnsWindow n) s z)
    ∧ (x.count ≠ 0 → Does (.isnsWindow n) s ((z.round x.sum x.count).2.measureCh n (z.round x.sum x.count).1 false)))
  ∧ (∀ (s u : State) (n v : Nat), n < 48 → s.probes n = true → s.drv.changes = [] →
    u = (s.elapseTo ((s.drvChan n).probeAt + s.cf .DRV_CFG F.DRV_CFG_PROBE_PERIOD * secT)).boundary n → u.probes n = true →
    ∃ t f, exec (.drvProbe n v) s = .next t ∧ t.cfg = s.cfg ∧ t.out = .pwm n (some f) :: s.out ∧ f.on = 1600
      ∧ t.sf (.DRV_CH_ON n) F.DRV_CH_ON_ON = 1600
      ∧ t.sf (.DRV_CH_STAT n) F.DRV_CH_STAT_PROBES = min (s.sf (.DRV_CH_STAT n) F.DRV_CH_STAT_PROBES + 1) 65535
      ∧ t.sf (.DRV_CH_ISNS n) F.DRV_CH_ISNS_PROBE = 1)
  ∧ (∀ (s : State) (g o : Nat), g < 8 → s.done = true → 100 ≤ o → o ≤ 1000000 →
    ∃ t x f, exec (.ntcRead g o) s = .next t ∧ t.cfg = s.cfg ∧ f = s.sf (.DRV_NTC_STAT g) F.DRV_NTC_STAT_FACTOR
      ∧ x = s.ntcTarget g (some (Config.ntcTemp (s.cf (.DRV_NTC_CFG g) F.DRV_NTC_CFG_BETA) o))
      ∧ t.sf (.DRV_NTC_STAT g) F.DRV_NTC_STAT_FAULT = 0
      ∧ (f < 511 → t.sf (.DRV_NTC_STAT g) F.DRV_NTC_STAT_FACTOR = if f < x then f + 1 else if x < f then f - 1 else f))
  ∧ (∀ s : State, s.done = true → s.gateShut = true → Does .claimGateClose s s.closeGate ∧ s.closeGate.gateClosed = true
    ∧ (s.gateClosed = false → ∀ n, n < 48 → (s.closeGate.drvChan n).pad = none))
  ∧ (∀ (s u : State), s.serving = true → s.twn.lapsed = false → s.gateClosed = true →
    u = s.elapseTo (max (s.twn.gateUntil.getD 0) ((s.twn.gateHeard.map (fun t => t + 20 * msT)).getD 0)) →
    Does .claimGateOpen s (u.modTwn (fun w => { w with gateUntil := none, gateHeard := none })).openGate
      ∧ u.openGate.gateClosed = false)

/-- For every state in which no accumulator exceeds 2^96 - 1, after any METER_SAMPLE, PULSE_COUNT, PULSE_REJECTED,
METER_SAVE, RECON_INTERVAL_END, METER_SNAPSHOT or METER_CTL other than ZERO every accumulator is at least what it was
and at most 2^96 - 1. A pulse adds its weight where that fits, and counts for the minute; where it does not fit the
accumulator stands at 2^96 - 1, is marked and stays there. A rejected pulse counts. The samples of a channel that is
not measured change nothing of its own. -/
def Obligations.EnergyNeverWrapsOrFalls : Prop :=
  (∀ (s t : State) (c : Instr), (∀ i, s.acc i ≤ accMax) →
    ((∃ m, c = .meterSample m) ∨ (∃ i, c = .pulseCount i) ∨ (∃ i, c = .pulseRejected i) ∨ (∃ b, c = .meterSave b)
      ∨ c = .reconIntervalEnd ∨ (∃ k, c = .meterSnapshot k) ∨ (∃ k r, c = .meterCtlClearEvt k r)
      ∨ (∃ k r b, c = .meterCtlSaveNow k r b) ∨ (∃ k r, c = .meterCtlSavePeriod k r) ∨ (∃ k r, c = .meterCtlRevHold k r)) →
    exec c s = .next t → ∀ i, s.acc i ≤ t.acc i ∧ t.acc i ≤ accMax)
  ∧ (∀ (s : State) (i w : Nat), s.pulseOn i = true → w = s.cf (.MTR_PI_WT i) F.MTR_PI_WT_VALUE →
    s.mtr.sat.contains (18 + i) = false → Tbl.get 0 s.mtr.pulseAt i < 2 ^ 64 →
    ∃ t, exec (.pulseCount i) s = .next t ∧ t.cfg = s.cfg ∧ t.sf (.MTR_PI_STAT i) F.MTR_PI_STAT_ACTIVE = 1
      ∧ t.acc (18 + i) = min (s.acc (18 + i) + w * 2 ^ 32) accMax
      ∧ (accMax < s.acc (18 + i) + w * 2 ^ 32 → t.mtr.sat.contains (18 + i) = true ∧ t.sf .MTR_EVT F.MTR_EVT_SAT = 1)
      ∧ Tbl.get 0 s.mtr.pulseAt i ≤ t.tsu.raw
      ∧ Tbl.get 0 t.mtr.pulseAt i = t.tsu.raw + 2 * s.cf (.MTR_PI_CFG i) F.MTR_PI_CFG_DEB * msT
      ∧ Tbl.get 0 t.mtr.minute i = Tbl.get 0 s.mtr.minute i + w ∧ ∀ k, k ≠ 18 + i → t.acc k = s.acc k)
  ∧ (∀ (s : State) (i : Nat), s.pulseOn i = true → Does (.pulseRejected i) s
    (((s.bumpSat (.MTR_PI_STAT i) F.MTR_PI_STAT_REJECT).setSf (.MTR_PI_STAT i) F.MTR_PI_STAT_ACTIVE 0).pulseNext i))
  ∧ (∀ (s : State) (m : MeterIn), s.metering = true → s.mtr.sampleAt < 2 ^ 64 → (∀ n, n < 6 → s.measured n = false) →
    ∃ t, exec (.meterSample m) s = .next t ∧ t.mtr.acc = s.mtr.acc ∧ t.mtr.sampleAt = t.tsu.raw + 125 * usT
      ∧ s.mtr.sampleAt ≤ t.tsu.raw ∧ t.cfg = s.cfg)
  ∧ (∀ (s : State) (m : MeterIn) (x : MtrI), s.metering = true → s.measured 0 = true → (∀ n, 0 < n → n < 6 → s.measured n = false) →
    s.cf (.MTR_I_CFG 0) F.MTR_I_CFG_VSEL = 3 → s.cf (.MTR_I_CFG 0) F.MTR_I_CFG_AUTO = 0 → s.mtrI 0 = x → x.n < 160 →
    ∃ t, exec (.meterSample m) s = .next t ∧ (t.mtrI 0).n = x.n + 1 ∧ t.mtr.acc = s.mtr.acc ∧ t.cfg = s.cfg)

/-- METER_SNAPSHOT answers 448 octets of all accumulators at one sample instant, or ERR_ARG with DETAIL 1 for a shorter
buffer. A save that reads back makes its SEQ the last one, and one that fails keeps the last SEQ and sets SAVEFAIL.
SAVE_NOW saves and answers the SEQ; SAVE_PERIOD and REV_HOLD take effect later; CLEAR_EVT clears the event words; ZERO
from a ring is denied, and from an owner's envelope zeroes the accumulators of its mask. Every period of METER_SAVE
saves. At an interval's end each feeder is reconciled and the next interval begins; away from one nothing happens. -/
def Obligations.MeterCommandsAnswerAndSave : Prop :=
  (∀ (s : State) (d : Desc), s.serves d 0x52 →
    (448 ≤ d.len → s.metering = true → Does (.meterSnapshot d.did) s
      { s.holding d.taken with mtr := { s.mtr with snaps := s.mtr.snaps ++ [d.did] } })
    ∧ (448 ≤ d.len → s.metering = false → Does (.meterSnapshot d.did) s
      ((s.holding d.taken).okData { d.taken with actTime := some s.outputTime } s.meterRecord 0) ∧ s.meterRecord.length = 448)
    ∧ (d.len < 448 → Does (.meterSnapshot d.did) s ((s.holding d.taken).fail d.taken stERR_ARG 1)))
  ∧ (∀ (s : State) (m : MeterIn), s.metering = true → ∃ t, exec (.meterSample m) s = .next t ∧ t.mtr.snaps = [] ∧ t.cfg = s.cfg)
  ∧ (∀ (s : State) (d : Desc), s.mtr.snaps = [d.did] → s.desc? d.did = some d → s.snapAll = ({ s with mtr := { s.mtr with snaps := [] } } : State).okData
    { d with actTime := some s.outputTime } s.meterRecord 0)
  ∧ (∀ s : State, (s.save true).sf .MTR_SAVESEQ F.MTR_SAVESEQ_VALUE = (s.sf .MTR_SAVESEQ F.MTR_SAVESEQ_VALUE + 1) % 2 ^ 32
    ∧ (s.save false).sf .MTR_SAVESEQ F.MTR_SAVESEQ_VALUE = s.sf .MTR_SAVESEQ F.MTR_SAVESEQ_VALUE
    ∧ (s.save false).sf .MTR_EVT F.MTR_EVT_SAVEFAIL = 1
    ∧ (∃ x, ((s.save true).nvmtr.slotA = some x ∨ (s.save true).nvmtr.slotB = some x) ∧ x.acc = s.mtr.acc ∧ x.sat = s.mtr.sat
      ∧ x.seq = (s.sf .MTR_SAVESEQ F.MTR_SAVESEQ_VALUE + 1) % 2 ^ 32))
  ∧ (∀ (s : State) (b : Bool), s.clk.phase = Phase.run → s.mtr.saveAt < 2 ^ 64 → ∃ t, exec (.meterSave b) s = .next t
    ∧ t.nvmtr = ((s.elapseTo s.mtr.saveAt).save b).nvmtr ∧ t.mtr.acc = s.mtr.acc ∧ t.mtr.saveAt = t.tsu.raw + t.savePeriod
    ∧ s.mtr.saveAt ≤ t.tsu.raw ∧ t.cfg = s.cfg)
  ∧ (∀ (s : State) (d e : Desc) (read : HostRead) (b : Bool), s.serves d 0x53 → d.seen s read = some e → meterForm e = true →
    (meterAction e = 0 → ∃ t, exec (.meterCtlClearEvt d.did read) s = .next t ∧ t.sts.get .MTR_EVT = 0
      ∧ (∀ n, n < 6 → t.sts.get (.MTR_I_EVT n) = 0) ∧ t.mtr = s.mtr ∧ t.cfg = s.cfg)
    ∧ (meterAction e = 1 → Does (.meterCtlSaveNow d.did read b) s
      (((s.holding e).save b).ok e ((s.sf .MTR_SAVESEQ F.MTR_SAVESEQ_VALUE + 1) % 2 ^ 32)))
    ∧ (meterAction e = 2 → 100 ≤ meterValue e → meterValue e ≤ 10000 → meterValue e % 100 = 0 →
      Does (.meterCtlSavePeriod d.did read) s
        (State.ok { s.holding e with mtr := { s.mtr with savePend := some (meterValue e / 100) } } e))
    ∧ (meterAction e = 3 → 1 ≤ meterValue e → meterValue e ≤ 255 → Does (.meterCtlRevHold d.did read) s
        (State.ok { s.holding e with mtr := { s.mtr with revPend := some (meterValue e) } } e))
    ∧ (meterAction e = 4 → (∃ n, e.src = .ring n) → Does (.meterCtlZero d.did read b) s ((s.holding e).fail e stDENIED))
    ∧ (meterAction e = 4 → (∀ n, e.src ≠ .ring n) → meterValue e ≠ 0 → meterValue e < 2 ^ 26 →
      ∃ t, exec (.meterCtlZero d.did read b) s = .next t ∧ t.seg.reconGap = true ∧ t.cfg = s.cfg
        ∧ (∀ i, bit (meterValue e) i = true → t.acc i = 0) ∧ (∀ i, bit (meterValue e) i = false → t.acc i = s.acc i)))
  ∧ (∀ s : State, s.newt.cal.secondOfDay % s.reconParam 0x0502 ≠ 0 → Does .reconIntervalEnd s s)
  ∧ (∀ s : State, s.ready = true → s.newt.cal.secondOfDay % s.reconParam 0x0502 = 0 →
    s.newt.tick / 32768 ≠ s.seg.reconAt / 32768 →
    ∃ t, exec .reconIntervalEnd s = .next t ∧ t.seg.reconAt = s.newt.tick ∧ t.seg.reconGap = false ∧ t.mtr = s.mtr ∧ t.cfg = s.cfg
      ∧ (∀ f, f < 6 → Tbl.get 0 t.seg.reconB f = t.importOf (bits (t.reconParam (0x0510 + f)) 5 0))
      ∧ (∀ f, f < 6 → bit (s.reconParam (0x0510 + f)) 31 = true →
        ∃ r ∈ t.seg.recon, r.feeder = f ∧ r.start = s.seg.reconAt))

/-- An active unit that hears a claim above its own, by bus, lane or air, is STANDBY at once, with no carrier on the air,
no armed slot and claim 0; where it may not emit no grant starts a carrier. The lease's lapse stops every carrier and
closes the gate. A unit that becomes active has the claim of its PREF and an epoch above every one heard or saved, and
its gate is closed for 20 ms. A unit that hears no peer while it listens becomes active, or at the last epoch a
standby with TWIN_FAULT. A standby whose peer is absent becomes active; so does the unit that a reversion falls due
for; an unhealthy active unit yields to a healthy peer in sync. HANDOVER is denied to a ring. -/
def Obligations.OneUnitOfATwinPairActs : Prop :=
  (∀ (s : State) (path claim : Nat), s.twinRole = 3 → s.ownClaim < claim → claim < 2 ^ 32 → s.twn.epoch < 2 ^ 28 →
    (s.hear path claim).twinRole = 2 ∧ (s.hear path claim).onAir = [] ∧ (s.hear path claim).tsu.slots = []
      ∧ (s.hear path claim).standby = true ∧ claimPref (s.hear path claim).ownClaim = 0)
  ∧ (∀ s : State, s.mayEmit = false → ∀ (bad : Option Nat) (symBad : Bool), ∃ t, exec (.chainGrant bad symBad) s = .next t ∧ t.onAir = s.onAir ∧ t.cfg = s.cfg)
  ∧ (∀ s : State, s.twinOn = true → s.twn.lapsed = false → s.leaseHeld = false →
    ∃ t, exec .leaseLapse s = .next t ∧ t.twn.lapsed = true ∧ t.onAir = [] ∧ t.gateClosed = true ∧ t.mayEmit = false ∧ t.cfg = s.cfg)
  ∧ (∀ (s : State) (cause : Nat), s.held = false → s.topEpoch < 0x0FFFFFFF → s.ownPref < 16 →
    (s.becomeActive cause).twinRole = 3 ∧ (s.becomeActive cause).ownClaim = claimOf s.ownPref (s.topEpoch + 1)
      ∧ (s.becomeActive cause).gateClosed = true ∧ (s.becomeActive cause).twn.gateUntil = some (s.tsu.raw + 20 * msT)
      ∧ s.twn.epoch < (s.becomeActive cause).twn.epoch)
  ∧ (∀ (s : State) (cause : Nat), s.held = true → s.becomeActive cause = s)
  ∧ (∀ s : State, s.twinOn = true → s.twinRole = 2 → s.topEpoch < 0x0FFFFFFF → s.ownPref < 16 →
    max s.twn.busHeard s.twn.laneHeard + s.lossT < 2 ^ 64 → ∃ t, exec .peerAbsent s = .next t ∧ t.twinRole = 3 ∧ t.tw F.TWN_STAT_PEER_PRESENT = false ∧ s.twn.busHeard + s.lossT ≤ t.tsu.raw
      ∧ t.cfg = s.cfg)
  ∧ (∀ s : State, s.twinOn = true → s.twinRole = 1 → s.tw F.TWN_STAT_PEER_PRESENT = true →
    s.sf .TWN_STAT F.TWN_STAT_PEER_ROLE = 3 → Does .listenTimerEnd s (s.elapseTo s.twn.listenEnd).becomeStandby)
  ∧ (∀ s u : State, s.twinOn = true → s.twinRole = 1 → s.tw F.TWN_STAT_PEER_PRESENT = false → u = s.elapseTo s.twn.listenEnd →
    (u.topEpoch < 0x0FFFFFFF → Does .listenTimerEnd s (u.becomeActive 4))
    ∧ (0x0FFFFFFF ≤ u.topEpoch → Does .listenTimerEnd s (u.twinFault 1).becomeStandby))
  ∧ (∀ (s u : State) (r : Nat), u = s.refreshTwin →
    (u.twn.revSince = some r → Does .reversionHoldoff s
      ((u.elapseTo (r + u.cf .TWN_TIMERS F.TWN_TIMERS_HOLDOFF * secT)).becomeActive 2))
    ∧ (u.twn.revSince = none → Does .reversionHoldoff s u)
    ∧ (∀ v : State, u.twn.sickSince = some r → v = u.elapseTo (r + u.cf .TWN_TIMERS F.TWN_TIMERS_YIELD_AFTER * secT) →
      v.reportFresh = true → bit v.twn.peerFlags 0 = true → bit v.twn.peerFlags 1 = true → Does .yieldAfter s v.yields))
  ∧ (∀ s : State, s.yields.twinRole = 2 ∧ s.yields.onAir = [] ∧ s.yields.gateClosed = true)
  ∧ (∀ (s : State) (d : Desc), s.serves d 0x60 →
    (d.pByte 0 = 1 → (∃ n, d.src = .ring n) → Does (.twinCtlHandover d.did) s ((s.holding d.taken).fail d.taken stDENIED))
    ∧ (∀ (v : Bool) (u : State), d.pByte 0 = 1 → (∀ n, d.src ≠ .ring n) → twinArgsOk d = true → d.len = 0 →
      s.tw F.TWN_STAT_PEER_PRESENT = true → v = !s.tw F.TWN_STAT_INHIBIT →
      u = (((s.holding d.taken).setTw F.TWN_STAT_INHIBIT v).laneSend (.inhibit v)).ok d.taken →
      (s.twinRole = 3 → Does (.twinCtlHandover d.did) s u.yields)
      ∧ (s.twinRole = 2 → Does (.twinCtlHandover d.did) s (u.becomeActive 3))))

/-- A claim-bus frame goes out at its time with the unit's claim, PREF, role and health; a read-back failure counts. A
frame received on the bus, the lane or the air makes its claim heard; one of the lane also has its body acted on. Bus
silence with the lane up clears BUS_OK. Records in sequence are applied and acknowledged by their last number; a gap
makes the standby start afresh. Losing the lane clears LANE_OK and aborts the channels to the peer, its link sets it.
Each second's health report stands in TWN_HLOCAL and counts; each self-test step moves on by one, 70 to a rotation.
TWIN_CTL READ answers 128 octets, RESYNC starts the mirror afresh: on an active unit at once, on a standby it waits
for the sweep. -/
def Obligations.TwinUnitsTalkAndMirror : Prop :=
  (∀ (s u : State), s.twinOn = true → s.twn.lapsed = false → u = s.elapseTo s.twn.busAt →
    (∃ t, exec (.claimBusFrameTx true) s = .next t ∧ t.twn.busBad = false ∧ t.cfg = s.cfg
      ∧ t.out = .claimBus u.ownClaim u.ownPref u.twinRole (u.tw F.TWN_STAT_HEALTHY) :: u.out
      ∧ (s.unit = 0 → t.twn.busAt = u.tsu.raw + msT))
    ∧ (∃ t, exec (.claimBusFrameTx false) s = .next t ∧ t.twn.busBad = true ∧ t.twn.busAt = u.tsu.raw + 250 * usT
      ∧ t.sf .TWN_STAT F.TWN_STAT_BUSERR = satAdd F.TWN_STAT_BUSERR.width (s.sf .TWN_STAT F.TWN_STAT_BUSERR) 1 ∧ t.cfg = s.cfg))
  ∧ (∀ (s v u : State) (f : ClaimFrame), s.twinOn = true → v = (s.setTw F.TWN_STAT_BUS_OK true).peerRole f.role →
    u = v.modTwn (fun w => { w with
      busQuiet := false, busHeard := v.tsu.raw, peerHealthy := f.healthy, busRx := v.tsu.raw - 48 * usT
      busAt := if s.unit = 1 then v.tsu.raw + 452 * usT else w.busAt }) →
    Does (.claimBusFrameRx f) s ((u.notePref f.pref).hear 0 f.claim).refreshTwin)
  ∧ (∀ (s u : State) (f : TwinFrame), s.twinOn = true → s.tw F.TWN_STAT_LANE_OK = true → claimPref f.claim = 0 →
    u = (s.modTwn (fun w => { w with laneHeard := s.tsu.raw })).peerRole f.role →
    Does (.twinLaneFrameRx f) s ((u.hear 1 f.claim).takeBody f.body).refreshTwin)
  ∧ (∀ (s u : State) (r : Rx) (l : List Rx), s.air.beacons = r :: l → u = { s with air := { s.air with beacons := l } } →
    ((u.seq (r.stall / 16384)).fcSeen < r.frame.fc + 1 → Does .beaconRxTwin s
      ((u.setSeq (r.stall / 16384) { u.seq (r.stall / 16384) with fcSeen := r.frame.fc + 1, fcRx := r.frame.fc + 1 }).hear 2
        (leAt r.frame.body 2 4)).refreshTwin)
    ∧ (r.frame.fc + 1 ≤ (u.seq (r.stall / 16384)).fcSeen → Does .beaconRxTwin s u))
  ∧ (∀ s : State, s.twinOn = true → s.twn.busQuiet = false → s.tw F.TWN_STAT_LANE_OK = true → s.twn.busHeard + s.lossT < 2 ^ 64 →
    ∃ t, exec .claimBusSilence s = .next t ∧ t.twn.busQuiet = true ∧ t.tw F.TWN_STAT_BUS_OK = false ∧ s.twn.busHeard + s.lossT ≤ t.tsu.raw ∧ t.cfg = s.cfg)
  ∧ (∀ (s : State) (first : Nat) (l : List MirrorRec), s.twinRole = 2 → s.tw F.TWN_STAT_VERSION_OK = true →
    (s.twn.fresh = true → first ≠ s.twn.seq + 1 → s.takeRecords first l = s.mirrorRestart 2)
    ∧ (first = s.twn.seq + 1 → (s.takeRecords first l).twn.seq = s.twn.seq + l.length ∧ (s.takeRecords first l).twn.fresh = true))
  ∧ (∀ s : State, s.tw F.TWN_STAT_LANE_OK = true → ∃ t, exec .twinLaneDown s = .next t ∧ t.tw F.TWN_STAT_LANE_OK = false
    ∧ t.tw F.TWN_STAT_IN_SYNC = (if s.twinOn then false else s.tw F.TWN_STAT_IN_SYNC)
    ∧ (∀ k, 12 ≤ k → k < 14 → (t.mbx_ k).msgs = [])
    ∧ (∀ k m, 14 ≤ k → k < 16 → m ∈ (t.mbx_ k).msgs → m.2 = true) ∧ t.cfg = s.cfg)
  ∧ (∀ s : State, s.tw F.TWN_STAT_LANE_OK = false → s.ready = true → s.serdesOk = true →
    ∃ t, exec .twinLaneUp s = .next t ∧ t.tw F.TWN_STAT_LANE_OK = true ∧ t.mbx.twin = true ∧ t.cfg = s.cfg)
  ∧ (∀ (s u : State) (v : Nat) (c : Int), s.twinOn = true → u = (s.elapseTo s.twn.reportNext).refreshTwin →
    ∃ t b, exec (.healthReport v c) s = .next t ∧ t.twn.reports = u.twn.reports + 1 ∧ t.twn.reportNext = u.tsu.raw + secT
      ∧ b.length = 64 ∧ (∀ k, k < 16 → t.sf (.TWN_HLOCAL k) F.word = leAt b (4 * k) 4)
      ∧ b.drop 60 = le 4 (crc32 (b.take 60)) ∧ t.air.rxCount = 0 ∧ t.cfg = s.cfg)
  ∧ (∀ s : State, s.twinOn = true → s.twinRole = 2 → s.twn.bist < 70 →
    s.twn.bistAt + (bistStep s.twn.bist).2.2 * msT < 2 ^ 64 →
    ∃ t, exec (.twinBistStep true) s = .next t ∧ t.twn.bist = (s.twn.bist + 1) % 70 ∧ t.cfg = s.cfg
      ∧ s.twn.bistAt + (bistStep s.twn.bist).2.2 * msT ≤ t.tsu.raw
      ∧ t.twn.rotations = (if s.twn.bist = 69 then s.twn.rotations + 1 else s.twn.rotations))
  ∧ (∀ (s : State) (d : Desc), s.serves d 0x60 → twinArgsOk d = true →
    (d.pByte 0 = 0 → 128 ≤ d.len → ∃ b, Does (.twinCtlRead d.did) s
      ((s.holding d.taken).okData d.taken b (s.ownClaim + 2 ^ 32 * s.peerClaim)) ∧ b.length = 128)
    ∧ (∀ u : State, d.pByte 0 = 2 → d.len = 0 → u = (s.holding d.taken).mirrorRestart 3 →
      (u.twinRole = 2 ∧ u.tw F.TWN_STAT_LANE_OK = true ∧ u.tw F.TWN_STAT_VERSION_OK = true → Does (.twinCtlResync d.did) s
        (u.modTwn (fun w => { w with resync := w.resync ++ [d.did] })))
      ∧ (u.twinRole ≠ 2 → Does (.twinCtlResync d.did) s (u.mirrorFlush.ok d.taken))))

/-- If no channel holds more than four messages, all of 64 octets, that holds after every mailbox command. A post on an
ACTIVE channel with a free slot is appended, and one on any other counts as refused; taking consumes the oldest; CLEAR
empties the channel and marks it ABORTED until its receiver reopens it; SRESET marks the messages not yet marked as
orphans. Unmasking a host doorbell that stands raises the mailbox cause. A PING at a running end is taken and answered
by PONG or NAK, and HOST_STATE sets whether the driver is stopping. -/
def Obligations.MailboxesKeepTheirFour : Prop :=
  (∀ (s t : State) (c : Instr), (∀ n, (s.mbx_ n).msgs.length ≤ 4 ∧ ∀ m ∈ (s.mbx_ n).msgs, m.1.length = 64) →
    ((∃ n b, c = .mbxPost n b) ∨ (∃ n, c = .mbxAck n) ∨ (∃ n, c = .mbxClear n) ∨ (∃ n, c = .mbxSreset n) ∨ (∃ n, c = .mbxReopen n)
      ∨ (∃ v, c = .mbxHdbMaskWrite v) ∨ (∃ n, c = .ping n) ∨ c = .hostState) →
    exec c s = .next t → ∀ n, (t.mbx_ n).msgs.length ≤ 4 ∧ ∀ m ∈ (t.mbx_ n).msgs, m.1.length = 64)
  ∧ (∀ (s : State) (n : Nat) (b : List Byte), n < 6 →
    (s.chanState n = 0 → (s.mbx_ n).msgs.length < 4 → (s.mbx_ n).rd < 4 → ∃ t, exec (.mbxPost n b) s = .next t ∧ t.cfg = s.cfg
      ∧ (t.mbx_ n).msgs = (s.mbx_ n).msgs ++ [(fitBytes 64 b, false)] ∧ (t.mbx_ n).refused = (s.mbx_ n).refused
      ∧ t.out = .mailbox n (fitBytes 64 b) :: s.out)
    ∧ ((s.chanState n ≠ 0 ∨ 4 ≤ (s.mbx_ n).msgs.length) → ∃ t, exec (.mbxPost n b) s = .next t ∧ t.cfg = s.cfg ∧ t.out = s.out
      ∧ (t.mbx_ n).msgs = (s.mbx_ n).msgs ∧ (t.mbx_ n).refused = satAdd 8 (s.mbx_ n).refused 1))
  ∧ (∀ (s : State) (n : Nat) (m : List Byte × Bool) (l : List (List Byte × Bool)), n < 6 → (s.mbx_ n).msgs = m :: l →
    ∃ t, exec (.mbxAck n) s = .next t ∧ (t.mbx_ n).msgs = l ∧ t.cfg = s.cfg)
  ∧ (∀ (s : State) (n : Nat), n < 16 →
    (∃ t, exec (.mbxClear n) s = .next t ∧ (t.mbx_ n).msgs = [] ∧ (t.mbx_ n).aborted = true ∧ t.chanState n ≠ 0
      ∧ (∀ k, k ≠ n → t.mbx_ k = s.mbx_ k) ∧ t.cfg = s.cfg)
    ∧ (∃ t, exec (.mbxSreset n) s = .next t ∧ (t.mbx_ n).msgs.map (fun m => m.1) = (s.mbx_ n).msgs.map (fun m => m.1)
      ∧ (∀ m ∈ (t.mbx_ n).msgs, m.2 = true) ∧ (∀ k, k ≠ n → t.mbx_ k = s.mbx_ k) ∧ t.cfg = s.cfg)
    ∧ (s.endRuns (mbxReceiver n) = false → Does (.mbxReopen n) s s)
    ∧ (s.endRuns (mbxReceiver n) = true → ∃ t, exec (.mbxReopen n) s = .next t ∧ (t.mbx_ n).aborted = false ∧ t.cfg = s.cfg))
  ∧ (∀ (s : State) (v k : Nat), k < 32 → bit s.mbx.mask k = true → bit v k = false → bit s.mbx.hdb k = true →
    Does (.mbxHdbMaskWrite v) s (({ s with mbx := { s.mbx with mask := v % 2 ^ 32 } } : State).raiseCause 7))
  ∧ (∀ (s : State) (n : Nat) (m : List Byte), s.mbxHead n = some m → n < 6 → s.servesMbx n = true →
    (nakReason n m = none → msgBroken m = false → msgKind m = 0x0001 →
      Does (.ping n) s ((s.mbxServe n).answerMbx (n + 6) 0x0002 (msgSeq m) ((m.drop 8).take (msgLen m))))
    ∧ (∀ r, nakReason n m = some r →
      Does (.ping n) s ((s.mbxServe n).answerMbx (n + 6) 0x0004 (msgSeq m) (le 2 (msgKind m) ++ le 1 r))))
  ∧ (∀ (s : State) (m : List Byte), s.mbxHead 0 = some m → s.servesMbx 0 = true → msgKind m = 0x0003 →
    msgLen m ≤ 56 → msgBroken m = false → ∃ t, exec .hostState s = .next t ∧ t.cfg = s.cfg
      ∧ (leAt m 8 1 = 0 → t.mbx.stopping = false) ∧ (leAt m 8 1 = 1 → t.mbx.stopping = true))

/-- A POST on any channel that finds four messages waiting, or a channel that is not OPEN, completes at once: REFUSED of
the channel rises by one (it saturates), no slot is taken, no doorbell of any end rings, and nothing else changes but
the octets that the sender wrote into a free slot before it. (Excepted are M0's own channels 6 to 9 while the driver
is stopping, on which M0 posts nothing: R417.) An ACK that frees a slot of a host's channel sets the STATUS doorbell
of that channel at the host, and one that frees a slot of a channel of M0 or the shed sets theirs. -/
def Obligations.RefusedPostTakesNoSlot : Prop :=
  (∀ (s w : State) (n : Nat) (b : List Byte), n < 16 → (s.mbx.stopping = true → n < 6 ∨ 9 < n) →
    ((s.mbx_ n).msgs.length = 4 ∨ s.chanState n ≠ 0) →
    w = s.setMbx n ((s.mbx_ n).fill (64 * (s.mbx_ n).wr) (fitBytes 64 b)) →
    Does (.mbxPost n b) s (w.setMbx n { w.mbx_ n with refused := satAdd 8 (w.mbx_ n).refused 1 })
      ∧ (w.mbx_ n).refused = (s.mbx_ n).refused ∧ (w.mbx_ n).msgs = (s.mbx_ n).msgs
      ∧ ((s.mbx_ n).msgs.length = 4 → w.mbx_ n = s.mbx_ n))
  ∧ (∀ (s : State) (n : Nat), n < 16 → (s.mbx_ n).msgs ≠ [] →
    ∃ t, exec (.mbxAck n) s = .next t ∧ t.cfg = s.cfg
      ∧ (n < 6 → bit t.mbx.hdb (2 * n + 1) = true) ∧ (6 ≤ n → n < 14 → bit t.mbx.mdb (2 * n + 1) = true))

/-- A first part of a right header from nobody's session opens one; a part that goes on where the last ended is kept,
another gives ERR_ARG with DETAIL 0x02 and the next offset, and one from another source gives BUSY with DETAIL 0x01.
CANCEL and 300 s without a part end the session. While the shed is in reset VERIFY gives ERR_ABSENT. VERIFY of a whole
bundle that passes every check marks it verified; a failed one ends the session and leaves nothing staged; without a
whole bundle it gives ERR_ARG with DETAIL 0x01. ACTIVATE of a verified bundle begins the pause, otherwise ERR_ARG with
DETAIL 0x01. A shed image that fails its signature leaves the shed in reset after its reload. The pause's end makes
the new slot run on trial and completes it. CONFIRM ends the trial; its window's expiry resets the module. -/
def Obligations.BundlesAreStagedVerifiedAndConfirmed : Prop :=
  (∀ (s : State) (d e : Desc) (read : HostRead) (h : Holder) (x : Session), s.serves d 0x70 → d.seen s read = some e →
    updCancel e = false → e.target = 0 → e.pByte 8 / 8 = 0 → e.pZero 9 32 = true → e.len ≠ 0 → e.len ≤ 65536 → updFirst e = false →
    h = s.updHolder d → s.onTrial = false → (s.upd.verified = false ∨ s.upd.armed = none) → s.upd.session = some x →
    s.tsu.raw < x.idleEnd →
    (x.source ≠ h → Does (.updStage d.did read) s
      ((s.holding e).finish e { status := stBUSY, detail := 1, result := x.source.result }))
    ∧ (x.source = h → e.pNum 4 4 = x.total → (e.pNum 0 4 ≠ x.next ∨ x.last = true) → Does (.updStage d.did read) s
      ((s.holding e).finish e { status := stERR_ARG, detail := 2, result := x.next }))
    ∧ (x.source = h → e.pNum 4 4 = x.total → e.pNum 0 4 = x.next → x.last = false → x.next + e.len < x.total →
      updLast e = false → ∃ t y, exec (.updStage d.did read) s = .next t ∧ t.upd.session = some y ∧ t.cfg = s.cfg
        ∧ y.next = x.next + e.buf.length ∧ y.last = false ∧ y.source = h ∧ y.ident = x.ident
        ∧ t.upd.staged = s.upd.staged.take x.next ++ e.buf))
  ∧ (∀ (s : State) (d e : Desc) (read : HostRead), s.serves d 0x70 → d.seen s read = some e → updCancel e = false → e.target = 0 →
    e.pByte 8 / 8 = 0 → e.pZero 9 32 = true → 512 ≤ e.len → e.len ≤ 65536 → updFirst e = true → updLast e = false →
    s.onTrial = false → (s.upd.verified = false ∨ s.upd.armed = none) → s.upd.session = none → s.upd.journal = none →
    headerFormed e.buf = true → e.pNum 4 4 = leAt e.buf 12 4 → e.pNum 4 4 ≤ bundleMax → e.pNum 0 4 = 0 → e.len ≤ e.pNum 4 4 →
    ∃ t y, exec (.updStage d.did read) s = .next t ∧ t.upd.session = some y ∧ y.total = e.pNum 4 4 ∧ y.source = s.updHolder d
      ∧ y.ident = (Config.sha256 (e.buf.take 512)).toNat ∧ t.upd.staged = e.buf ∧ t.bundle s.stagingSlot = none ∧ t.cfg = s.cfg)
  ∧ (∀ (s : State) (d : Desc) (x : Session), s.serves d 0x70 → updCancel d = true → d.target = 0 → d.pByte 8 / 8 = 0 →
    d.pZero 9 32 = true → d.len = 0 → s.onTrial = false → s.upd.verified = false → s.upd.session = some x →
    s.tsu.raw < x.idleEnd → x.source = s.updHolder d → ∃ t, exec (.updStageCancel d.did) s = .next t ∧ t.upd.session = none ∧ t.upd.journal = none
      ∧ t.sf .UPD_EVT F.UPD_EVT_SESSION = 1 ∧ t.cfg = s.cfg)
  ∧ (∀ (s : State) (x : Session), s.upd.session = some x → s.upd.armed = none →
    Does .updSessionIdle s ((s.elapseTo x.idleEnd).endSession 3))
  ∧ (∀ (s : State) (x : Session), s.upd.session = some x → s.upd.armed = none →
    (x.idleEnd ≤ s.tsu.raw → s.sessionDue = s.endSession 3) ∧ (s.tsu.raw < x.idleEnd → s.sessionDue = s))
  ∧ (∀ (s : State) (d : Desc) (k : BundleCheck), s.serves d 0x71 → d.target = 0 → d.param = 0#256 → s.sessionDue = s →
    (s.shed.down = true → Does (.updVerify d.did k) s ((s.holding d.taken).fail d.taken stERR_ABSENT))
    ∧ (s.shed.down = false → s.upd.session = none → Does (.updVerify d.did k) s
      (((s.holding d.taken).event 20 0 0x0E03 2 [1, s.stagingSlot]).fail d.taken stERR_ARG 1))
    ∧ (∀ x, s.shed.down = false → s.upd.session = some x → x.last = true →
      s.bundleFails x.header (digestOk s.upd.staged) k = none →
      ∃ t, exec (.updVerify d.did k) s = .next t ∧ t.upd.verified = true ∧ t.upd.staged = s.upd.staged ∧ t.cfg = s.cfg)
    ∧ (∀ x q, s.shed.down = false → s.upd.session = some x → x.last = true →
      s.bundleFails x.header (digestOk s.upd.staged) k = some q →
      ∃ t, exec (.updVerify d.did k) s = .next t ∧ t.upd.verified = false ∧ t.upd.staged = [] ∧ t.upd.session = none
        ∧ t.bundle s.stagingSlot = none ∧ t.cfg = s.cfg))
  ∧ (∀ (s : State) (d : Desc), s.serves d 0x72 → d.target = 0 → d.pZero 2 32 = true → s.sessionDue = s →
    (s.upd.verified = false → Does (.updActivate d.did) s ((s.holding d.taken).fail d.taken stERR_ARG 1))
    ∧ (s.activateFails d = none → d.launch = false → s.upd.armed = none → ∃ t p, exec (.updActivate d.did) s = .next t
      ∧ t.paused = true ∧ t.upd.pause = some p ∧ p.did = d.did ∧ t.upd.boot.active = s.stagingSlot ∧ t.upd.boot.trial = true
      ∧ t.air.cache = [] ∧ t.cfg = s.cfg))
  ∧ (∀ (s : State) (p : Pause) (r : Nat), s.upd.pause = some p → p.radioAt = some r → p.radioMs = none →
    Turns (.radioPauseEnd true true) s
      { s with upd := { s.upd with pause := some { p with radioMs := some ((s.tsu.raw - r) / msT) } }
               shed := { s.shed with down := false }, mbx := { s.mbx with shedRan := true } }
    ∧ (∃ t, exec (.radioPauseEnd true false) s = .next t ∧ t.shed.down = true ∧ t.cfg = s.cfg)
    ∧ ∀ g : Bool, Turns (.radioPauseEnd false g) s (s.moduleReset 2 2 true))
  ∧ (∀ (s : State) (p : Pause) (r : Nat), s.upd.pause = some p → p.radioMs = some r → s.upd.boot.active < 2 →
    (∃ t, exec (.activationPauseEnd true) s = .next t ∧ t.paused = false ∧ t.upd.pause = none ∧ t.onTrial = true
      ∧ t.slotNow = s.upd.boot.active ∧ t.upd.windowEnd = some (s.tsu.raw + s.upd.boot.confirm * secT) ∧ t.cfg = s.cfg)
    ∧ Turns (.activationPauseEnd false) s (s.moduleReset 2 2 true))
  ∧ (∀ (s : State) (d : Desc), s.serves d 0x73 → d.target = 0 → d.param = 0#256 →
    (s.onTrial = true → ∃ t, exec (.updConfirm d.did) s = .next t ∧ t.onTrial = false ∧ t.upd.windowEnd = none
      ∧ t.upd.boot.trial = false ∧ t.upd.boot.seq = (s.upd.boot.seq + 1) % 2 ^ 32 ∧ t.sf .UPD_EVT F.UPD_EVT_CONFIRMED = 1 ∧ t.cfg = s.cfg)
    ∧ (s.onTrial = false → Does (.updConfirm d.did) s ((s.holding d.taken).fail d.taken stERR_ARG 1)))
  ∧ (∀ (s : State) (e : Nat), s.upd.windowEnd = some e → Turns .confirmWindowExpiry s
      ((s.hold (fun s => ((s.elapseTo e).setAnchorFlag 0 true).yieldFirst)).moduleReset 3 1 true))

/-- Outside the loader no request is answered. INFO answers the identity. BEGIN of a good header waits for presence, with
an open credit it empties the slots at once; another answers its failure. DATA at the next offset is kept, and any
other gives ERR_ARG with the next offset. END of a whole bundle that passes commits slot A, otherwise it answers its
failure. RESET answers and resets the module. ERASE with an envelope that passes takes its counter and waits for
presence. Attaching the port shows in its state. -/
def Obligations.LizardLoaderAnswersItsPort : Prop :=
  (∀ s : State, s.usbServes = false → Does .lizInfo s s ∧ Turns .lizReset s s ∧ (∀ o b, Does (.lizData o b) s s)
    ∧ (∀ k, Does (.lizEnd k) s s) ∧ (∀ b k, Turns (.lizBegin b k) s s) ∧ ∀ e g, Turns (.lizErase e g) s s)
  ∧ (∀ s : State, s.usbServes = true → ∃ b, Does .lizInfo s (s.usbAnswer stOK 0 b) ∧ b.length = 64
      ∧ b.take 16 = le 16 Config.devId.toNat)
  ∧ (∀ (s : State) (b : List Byte) (k : BundleCheck), s.usbServes = true →
    (b.length ≠ 512 → Turns (.lizBegin b k) s (s.usbAnswer stERR_ARG 2 []))
    ∧ (∀ q, b.length = 512 → s.bundleFails b true k = some q →
      Turns (.lizBegin b k) s (s.usbAnswer q.1 q.2 []))
    ∧ (b.length = 512 → s.bundleFails b true k = none →
      (s.creditOpen = false → Turns (.lizBegin b k) s { s with upd := { s.upd with
        lizHeader := some b, lizOpen := false, lizWait := 1, lizUntil := s.tsu.raw + 60 * secT } })
      ∧ (s.creditOpen = true → ∃ t, exec (.lizBegin b k) s = .next t ∧ t.upd.slotA = none ∧ t.upd.slotB = none
        ∧ t.upd.lizOpen = true ∧ t.upd.lizHeader = some b ∧ t.upd.staged = [] ∧ t.sec F.SEC_STAT_CREDIT = false
        ∧ t.cfg = s.cfg)))
  ∧ (∀ (s : State) (b h : List Byte), s.usbServes = true → s.upd.lizOpen = true → s.upd.lizHeader = some h → b ≠ [] →
    b.length ≤ 65536 → s.upd.staged.length + b.length ≤ leAt h 12 4 →
    Does (.lizData s.upd.staged.length b) s
      (({ s with upd := { s.upd with staged := s.upd.staged ++ b } } : State).usbAnswer stOK 0 [])
    ∧ ∀ o, o ≠ s.upd.staged.length → Does (.lizData o b) s (s.usbAnswer stERR_ARG 2 (le 4 s.upd.staged.length)))
  ∧ (∀ (s : State) (k : BundleCheck), s.usbServes = true → s.upd.lizOpen = true → s.upd.staged.length = leAt s.upd.staged 12 4 →
    (∀ q, s.bundleFails (s.upd.staged.take 512) (digestOk s.upd.staged) k = some q → Does (.lizEnd k) s (s.usbAnswer q.1 q.2 []))
    ∧ (s.bundleFails (s.upd.staged.take 512) (digestOk s.upd.staged) k = none → ∃ t, exec (.lizEnd k) s = .next t ∧ t.cfg = s.cfg
      ∧ t.upd.slotA = some (bundleOf s.upd.staged) ∧ t.upd.boot.active = 0 ∧ t.upd.boot.trial = false ∧ t.upd.lizOpen = false))
  ∧ (∀ s : State, s.usbServes = true → Turns .lizReset s ((s.usbAnswer stOK 0 []).moduleReset 3 2 true))
  ∧ (∀ (s : State) (e : Envelope) (g : Bool), s.usbServes = true →
    (∀ k, s.envCheck e g = some k → Turns (.lizErase e g) s (s.usbAnswer stDENIED k []))
    ∧ (s.envCheck e g = none → e.op = 0xCB → e.target = 1 → s.creditOpen = false →
      ∃ t, exec (.lizErase e g) s = .next t ∧ t.upd.lizWait = 2 ∧ t.upd.lizUntil = s.tsu.raw + 60 * secT
        ∧ t.tack.high = max s.tack.high e.ctr ∧ t.tack.owner = s.tack.owner ∧ t.cfg = s.cfg))
  ∧ (∀ s : State, s.eraseAll.tack.owner = none ∧ s.eraseAll.tack.wk = none ∧ s.eraseAll.tack.roots = []
    ∧ s.eraseAll.upd.slotA = none ∧ s.eraseAll.upd.slotB = none ∧ s.eraseAll.upd.erased = true)
  ∧ (∀ (s : State) (b : Bool), Does (.maintenancePortAttach b) s { s with clk := { s.clk with vbus := b } })

/-- An event that arrives takes the SEQ of EVR_FENCE, which rises by one modulo 2^32; in a store whose slots are numbered
from 0 every held record of higher severity stays, and with a slot free (and the log running) the new record is held.
A page persists as the newest page of the log, whose oldest block goes when it is full; a failed block uses a spare,
and with none left the log is RAM_ONLY. EVR_READ BY_SEQ answers the held records of its range in SEQ order, ALL every
held record, both with the fences of their begin and end, ANCHORS its entries. While capture runs the gate writes each
input; one that leaves no room for the final DIGEST entry stops it with FULL, STOP and the trigger stop it with their
causes. ARM, DISARM, EXPORT, READ, REPLAY_ARM and STATUS have their effects. In REPLAY mode the gate takes the next
entry. -/
def Obligations.RecorderKeepsHigherSeverities : Prop :=
  (∀ (s : State) (bad : Option (Nat × Nat)) (e : Ev) (rest : List Ev), s.clk.phase = Phase.run → nextEv s.evq = some (e, rest) →
    s.evr.store.map (fun p => p.1) = List.range s.evr.store.length →
    ∃ t, exec (.eventArrival bad) s = .next t ∧ t.cfg = s.cfg ∧ rest <+: t.evq ∧ (bad = none → t.evq = rest)
      ∧ t.sf .EVR_FENCE F.word = (s.sf .EVR_FENCE F.word + 1) % 2 ^ 32
      ∧ (∀ p ∈ s.evr.store, e.sev < p.2.sev → p ∈ t.evr.store)
      ∧ (s.evr.store.length < 65536 → s.sf .EVR_STAT F.EVR_STAT_RAM_ONLY = 0 →
          ∃ r, (s.evr.store.length, r) ∈ t.evr.store ∧ r.seq = s.sf .EVR_FENCE F.word ∧ r.rtc = s.newt.tick
            ∧ r.sev = e.sev ∧ r.src = e.src ∧ r.code = e.code ∧ r.args = argBytes e.code e.args))
  ∧ (∀ (s : State), s.evr.page ≠ [] → s.sf .EVR_STAT F.EVR_STAT_RAM_ONLY = 0 →
    (∃ t, exec (.evrPagePersist true) s = .next t ∧ t.cfg = s.cfg ∧ t.evr.page = s.evr.page.drop 128
      ∧ t.nvlog.pages = (if s.nvlog.pages.length < 16384 then s.nvlog.pages else s.nvlog.pages.drop 32) ++ [s.evr.page.take 128]
      ∧ t.sf .EVR_PSEQ F.word = pageNewest (s.evr.page.take 128) % 2 ^ 32
      ∧ (s.evr.page.length < 128 → s.evr.pageAt + s.cf .EVR_CFG F.EVR_CFG_PERSIST * msT < 2 ^ 64 →
          s.evr.pageAt + s.cf .EVR_CFG F.EVR_CFG_PERSIST * msT ≤ t.tsu.raw))
    ∧ ∃ t, exec (.evrPagePersist false) s = .next t ∧ t.cfg = s.cfg
      ∧ (s.nvlog.spares = 0 → t.sf .EVR_STAT F.EVR_STAT_RAM_ONLY = 1 ∧ t.evr.page = [] ∧ t.nvlog.pages = s.nvlog.pages
          ∧ t.nvlog.sparesOut = true)
      ∧ (s.nvlog.spares ≠ 0 → t.nvlog.spares + 1 = s.nvlog.spares ∧ t.sf .EVR_STAT F.EVR_STAT_RAM_ONLY = 0
          ∧ t.sf .EVR_EVT F.EVR_EVT_NAND = 1 ∧ t.evr.page = s.evr.page.drop 128))
  ∧ (∀ (s : State) (d : Desc) (n : Nat), s.serves d 0x80 → d.len ≠ 0 → n = d.pNum 8 4 →
    (d.pByte 0 = 0 → 1 ≤ n → n ≤ 65536 → ∃ l : List Rec,
      Does (.evrReadBySeq d.did []) s ((s.holding d.taken).okItems d.taken 32 (l.map Rec.bytes)
        (fun _ => s.sf .EVR_FENCE F.word + 2 ^ 32 * s.sf .EVR_FENCE F.word))
      ∧ (∀ r, r ∈ l ↔ (∃ i, (i, r) ∈ s.evr.store) ∧ (r.seq + 2 ^ 32 - d.pNum 4 4) % 2 ^ 32 < n)
      ∧ l.Pairwise (fun a b => (a.seq + 2 ^ 32 - d.pNum 4 4) % 2 ^ 32 ≤ (b.seq + 2 ^ 32 - d.pNum 4 4) % 2 ^ 32))
    ∧ (∀ during : List Nat, d.pByte 0 = 0 → 1 ≤ n → n ≤ 65536 → ∃ (v : State) (l : List Rec),
      Does (.evrReadBySeq d.did during) s (v.okItems d.taken 32 (l.map Rec.bytes)
        (fun _ => s.sf .EVR_FENCE F.word + 2 ^ 32 * v.sf .EVR_FENCE F.word)))
    ∧ (d.pByte 0 = 1 → (∀ p ∈ s.evr.store, p.1 < 65536) → Does (.evrReadAll d.did []) s ((s.holding d.taken).okItems d.taken 32
        (s.evr.store.map (fun p => p.2.bytes)) (fun _ => s.sf .EVR_FENCE F.word + 2 ^ 32 * s.sf .EVR_FENCE F.word)))
    ∧ (d.pByte 0 = 2 → 1 ≤ n → n ≤ 4096 → Does (.evrReadAnchors d.did) s ((s.holding d.taken).okItems d.taken 16
        ((List.range n).map (fun i => s.anchorAt (d.pNum 4 4 + i))) (fun m => m))))
  ∧ (∀ (s : State) (g : GateInput) (e : List Byte), s.replaying = false → s.sf .EVR_STAT F.EVR_STAT_CAPTURING = 1 →
    g.core < 4 → g.kind < 256 → g.source < 2 ^ 32 → g.payload.length ≤ 2048 → s.evr.sinceDigest < 65535 →
    e = capEntry s.evr.gseq g.core g.kind (Tbl.get 0 s.evr.points g.core + 1) g.source g.payload →
    ∃ t, exec (.journalGateInput g) s = .next t ∧ t.cfg = s.cfg
      ∧ (s.sf .EVR_CAPLEN F.word + e.length + 48 ≤ 268435456 → t.evr.cap = e :: s.evr.cap
          ∧ t.sf .EVR_CAPLEN F.word = s.sf .EVR_CAPLEN F.word + e.length ∧ t.evr.gseq = s.evr.gseq + 1)
      ∧ (268435456 < s.sf .EVR_CAPLEN F.word + e.length + 48 → t.sf .EVR_STAT F.EVR_STAT_CAPTURING = 0
          ∧ t.sf .EVR_STAT F.EVR_STAT_STOP = 1 ∧ t.evr.capStopped = true))
  ∧ (∀ (s : State) (g : GateInput) (e : List Byte) (rest : List (List Byte)), s.replaying = true →
    s.evr.replay = some (e :: rest) →
    ∃ t, exec (.journalGateInput g) s = .next t ∧ t.cfg = s.cfg
      ∧ (leAt e 5 1 ≠ 0x0D ∨ g.digestOk = true →
          Tbl.get 0 t.evr.points (leAt e 4 1 % 4) = Tbl.get 0 s.evr.points (leAt e 4 1 % 4) + 1
          ∧ t.evr.replay = (if rest = [] then none else some rest) ∧ t.evr.replayed = s.evr.replayed + 1)
      ∧ (leAt e 5 1 = 0x0D → g.digestOk = false → t.evr.replay = none
          ∧ ∃ v ∈ t.evq, v.code = 0x0F06 ∧ v.args = [leAt e 0 4]))
  ∧ (∀ (s : State) (at_ : Nat), s.evr.trigAt = some at_ → at_ < 2 ^ 64 → s.sf .EVR_STAT F.EVR_STAT_CAPTURING = 1 →
    ∃ t, exec .captureTriggerStop s = .next t ∧ t.cfg = s.cfg ∧ t.sf .EVR_STAT F.EVR_STAT_CAPTURING = 0
      ∧ t.sf .EVR_STAT F.EVR_STAT_STOP = 3 ∧ at_ ≤ t.tsu.raw ∧ t.evr.capStopped = true)
  ∧ (∀ (s : State) (d : Desc), s.serves d 0x81 →
    (d.pByte 0 = 0 → d.len ≠ 0 → ∃ b : List Byte, b.length = 32
      ∧ Does (.captureCtlStatus d.did) s ((s.holding d.taken).okData d.taken b 0))
    ∧ (d.pByte 0 = 1 → s.capState = 1 → Does (.captureCtlArm d.did) s ((s.holding d.taken).fail d.taken stBUSY))
    ∧ (d.pByte 0 = 1 → s.capState ≠ 1 → ∃ t, exec (.captureCtlArm d.did) s = .next t ∧ t.cfg = s.cfg
        ∧ t.anchorFlag 1 = true ∧ t.sf .EVR_STAT F.EVR_STAT_ARMED = 1)
    ∧ (d.pByte 0 = 2 → ∃ t, exec (.captureCtlDisarm d.did) s = .next t ∧ t.cfg = s.cfg
        ∧ t.anchorFlag 1 = false ∧ t.sf .EVR_STAT F.EVR_STAT_ARMED = 0)
    ∧ (d.pByte 0 = 3 → s.sf .EVR_STAT F.EVR_STAT_CAPTURING = 1 → ∃ t, exec (.captureCtlStop d.did) s = .next t ∧ t.cfg = s.cfg
        ∧ t.sf .EVR_STAT F.EVR_STAT_CAPTURING = 0 ∧ t.sf .EVR_STAT F.EVR_STAT_STOP = 2 ∧ t.evr.capStopped = true)
    ∧ (d.pByte 0 = 4 → s.evr.capStopped = false →
        Does (.captureCtlExport d.did) s ((s.holding d.taken).fail d.taken stERR_ARG 0x01))
    ∧ (d.pByte 0 = 4 → s.evr.capStopped = true → s.shed.down = true →
        Does (.captureCtlExport d.did) s ((s.holding d.taken).fail d.taken stERR_ABSENT))
    ∧ (d.pByte 0 = 4 → s.evr.capStopped = true → s.shed.down = false → ∃ t, exec (.captureCtlExport d.did) s = .next t ∧ t.cfg = s.cfg
        ∧ t.nvlog.exportEntries = s.evr.cap.reverse ∧ t.nvlog.exportData.isSome = true)
    ∧ (∀ x : List Byte, d.pByte 0 = 5 → d.len ≠ 0 → x = ((s.nvlog.exportData.getD []).drop (d.pNum 4 4)).take d.len →
        Does (.captureCtlRead d.did) s ((s.holding d.taken).okData d.taken x x.length))
    ∧ (∀ (b : List Byte) (c : ExportCheck), d.pByte 0 = 6 → s.hostUp = true → d.pNum 16 8 % 8 = 0 →
        ∃ t, exec (.captureCtlReplayArm d.did (.ok b) c) s = .next t ∧ t.cfg = s.cfg
          ∧ t.nvlog.exportData = some (fitBytes (d.pNum 12 4) b) ∧ t.nvlog.exportEntries = c.entries
          ∧ (c.sigOk = true ∧ c.measOk = true → t.anchorFlag 2 = true)))

/-- A source that is OK and whose detector fires is FAILED, its domains are on fallback, CLK_EVT.FAIL and
HIF_INT_CAUSE.CLK_FAIL are set; where XO_MAIN fails with RCO not OK, or the root PLL, or its relock takes 1 ms, the
module resets with SOURCE 2 and DETAIL 1. A judged source is OK at a start; a FAILED oscillator is JUDGING, a FAILED
PLL returns. A source whose reference is not OK has no windows. A window in tolerance clears the count, the second in
a row outside fails XO_LF or REFIN; with XO_LF failed RCO is charged; RETURN_WIN windows in tolerance return a source.
A domain restarts at the end of its gap. A start retry counts. A unit is gated as its condition has it, and forced
after its wait. The region temperatures set and clear the limit to two chains. -/
def Obligations.ClockSourcesFailAndReturn : Prop :=
  (∀ (s : State) (k cause : Nat), s.clk.phase ≠ Phase.off → s.srcState k = 1 →
    (cause = 0 ∧ (k = 0 ∨ k = 1 ∨ k = 3 ∨ k = 4) ∨ cause = 2 ∧ 5 ≤ k ∧ k ≤ 10) →
    (k ≠ 5 → (k = 0 → s.srcState 2 = 1) → ∃ t, exec (.clkSourceFail k cause) s = .next t ∧ t.srcState k = 2
      ∧ (∀ d ∈ s.srcDomains k, t.onFallback d = true) ∧ t.sf .CLK_EVT F.CLK_EVT_FAIL = 1 ∧ t.sf .HIF_INT_CAUSE ⟨0, 0⟩ = 1
      ∧ (k ≠ 4 → t.cfg = s.cfg))
    ∧ (k = 5 ∨ (k = 0 ∧ s.srcState 2 ≠ 1) → ∃ t, exec (.clkSourceFail k cause) s = .next t ∧ t.clk.phase = Phase.starting
      ∧ t.sf .CLK_RESET_CAUSE F.CLK_RESET_CAUSE_SOURCE = 2 ∧ t.sf .CLK_RESET_CAUSE F.CLK_RESET_CAUSE_DETAIL = 1
      ∧ t.cfg = s.cfg.afterReset true))
  ∧ (∀ s : State, s.clk.relock = true → ∃ t, exec .pllRelockTimeout s = .next t ∧ t.clk.phase = Phase.starting
      ∧ t.sf .CLK_RESET_CAUSE F.CLK_RESET_CAUSE_SOURCE = 2 ∧ t.sf .CLK_RESET_CAUSE F.CLK_RESET_CAUSE_DETAIL = 1
      ∧ t.cfg = s.cfg.afterReset true)
  ∧ (∀ (s : State) (k : Nat), s.clk.phase ≠ Phase.off → k ≤ 10 → ∃ t, exec (.sourceJudged k) s = .next t ∧ t.cfg = s.cfg
      ∧ (s.srcState k = 0 → t.srcState k = 1 ∧ (s.judgeFrom k + s.judgeT k < 2 ^ 64 → s.judgeFrom k + s.judgeT k ≤ t.tsu.raw))
      ∧ (s.srcState k = 2 → k < 5 → t.srcState k = 3 ∧ t.clk.counted.contains k = true)
      ∧ (s.srcState k = 2 → 5 ≤ k → t.srcState k = 1 ∧ t.sf .CLK_EVT F.CLK_EVT_RESTORED = 1)
      ∧ ∀ j, j ≤ 10 → j ≠ k → t.srcState j = s.srcState j)
  ∧ (∀ (s : State) (k : Nat) (lf : Bool), s.clk.phase ≠ Phase.off → windowT k ≠ 0 →
    (s.srcState (windowRef k) ≠ 1 → ∀ b, Turns (.clkMonitorWindow k b lf) s s)
    ∧ (s.srcState k = 1 → s.srcState (windowRef k) = 1 →
      (max (Tbl.get 0 s.clk.winAt k) (s.tsu.raw / windowT k) + 1) * windowT k < 2 ^ 64 → ∃ t, exec (.clkMonitorWindow k true lf) s = .next t ∧ t.srcState k = 1
      ∧ Tbl.get 0 t.clk.outWin k = 0 ∧ s.tsu.raw / windowT k < t.tsu.raw / windowT k ∧ t.cfg = s.cfg)
    ∧ (s.srcState k = 1 → s.srcState (windowRef k) = 1 → Tbl.get 0 s.clk.outWin k = 0 → ∃ t, exec (.clkMonitorWindow k false lf) s = .next t
      ∧ t.srcState k = 1 ∧ Tbl.get 0 t.clk.outWin k = 1 ∧ t.cfg = s.cfg)
    ∧ (s.srcState k = 1 → k = 1 ∨ k = 3 → s.srcState (windowRef k) = 1 → 1 ≤ Tbl.get 0 s.clk.outWin k →
      ∃ t, exec (.clkMonitorWindow k false lf) s = .next t ∧ t.srcState k = 2 ∧ t.cfg = s.cfg)
    ∧ (s.srcState k = 1 → k = 0 ∨ k = 2 → s.srcState 1 ≠ 1 → s.srcState 2 = 1 → s.srcState 0 = 1 → 1 ≤ Tbl.get 0 s.clk.outWin k →
      ∃ t, exec (.clkMonitorWindow k false lf) s = .next t ∧ t.srcState 2 = 2 ∧ t.srcState 0 = s.srcState 0 ∧ t.cfg = s.cfg)
    ∧ (s.srcState k = 3 → s.srcState (windowRef k) = 1 → s.clk.counted.contains k = true →
      s.cf .CLK_CFG F.CLK_CFG_RETURN_WIN ≤ Tbl.get 0 s.clk.inWin k + 1 →
      ∃ t, exec (.clkMonitorWindow k true lf) s = .next t ∧ t.srcState k = 1 ∧ t.sf .CLK_EVT F.CLK_EVT_RESTORED = 1
        ∧ t.cfg = s.cfg))
  ∧ (∀ (s : State) (d : Nat), Tbl.get 0 s.clk.stopped d ≠ 0 → Tbl.get 0 s.clk.stopped d < 2 ^ 64 →
    ∃ t, exec (.clockRestart d) s = .next t
      ∧ Tbl.get 0 t.clk.stopped d = 0 ∧ Tbl.get 0 s.clk.stopped d ≤ t.tsu.raw ∧ t.sts = s.sts ∧ t.cfg = s.cfg
      ∧ (∀ j, j ≠ d → Tbl.get 0 t.clk.stopped j = Tbl.get 0 s.clk.stopped j))
  ∧ (∀ s : State, s.clk.phase = Phase.starting → s.srcState 0 ≠ 1 → ∃ t, exec .xoMainStartRetry s = .next t
      ∧ t.sf .CLK_RESET_CAUSE F.CLK_RESET_CAUSE_XO_RETRIES
        = satAdd F.CLK_RESET_CAUSE_XO_RETRIES.width (s.sf .CLK_RESET_CAUSE F.CLK_RESET_CAUSE_XO_RETRIES) 1
      ∧ t.tsu.raw = (s.tsu.raw + 100 * msT) % 2 ^ 64 ∧ t.clk.phase = Phase.starting ∧ t.cfg = s.cfg)
  ∧ (∀ (s : State) (k : Nat), s.clk.phase = Phase.run ∨ s.clk.phase = Phase.lizard → gateUnit k = true →
    (∃ t, exec (.unitGated k) s = .next t ∧ t.isGated k = s.gateWanted k ∧ t.cfg = s.cfg
      ∧ ∀ j, gateUnit j = true → j ≠ k → t.isGated j = s.isGated j)
    ∧ (∀ a : GateAccess, s.gateWanted k = true → s.isGated k = false → s.tsu.raw + 2 ^ 32 < 2 ^ 64 →
      ∃ t, exec (.gateForced k a) s = .next t ∧ t.isGated k = true
      ∧ t.sf .CLK_EVT F.CLK_EVT_GATE_FORCED = 1 ∧ s.tsu.raw < t.tsu.raw ∧ t.cfg = s.cfg))
  ∧ (∀ (s : State) (r d m : Int), s.clk.phase = Phase.run → ∃ t, exec (.regionTempRead r d m) s = .next t
      ∧ t.sf .CLK_TEMP F.CLK_TEMP_RADIO = twos 10 r ∧ t.sf .CLK_TEMP F.CLK_TEMP_DIGITAL = twos 10 d
      ∧ t.sf .CLK_TEMP F.CLK_TEMP_MEMORY = twos 10 m ∧ t.cfg = s.cfg
      ∧ (100 < r - d → t.clk.regionHot = true ∧ (s.clk.regionHot = false → t.sf .CLK_EVT F.CLK_EVT_REGION = 1))
      ∧ (r - d < 80 → t.clk.regionHot = false)
      ∧ (80 ≤ r - d → r - d ≤ 100 → t.clk.regionHot = s.clk.regionHot))

/-- POWER_LOSS keeps the newt domain's count and its host-written fields only; a ridden sag changes nothing, and a sag
that disturbs the logic stops the model (R495: undefined). POWER_ON starts with SOURCE 0. RESET_N low for 10 us resets
with SOURCE 1 and the link lost, for less than 1 us does nothing, between them does one of the two. The watchdog
resets with SOURCE 2, DETAIL 0, and keeps the link. Each counts. A start from a slot that the boot ROM chooses runs,
sets READY, records RESET_CAUSE, and raises RESET_DONE after a requested reset (DETAIL 0 or 1; the model's reading,
log 126); a lizard request enters the loader. A PCIe function reset clears the MSI-X table and marks every ring
descriptor to be discarded; all but FLR take the link down. Pads are as the power, reset and running columns have
them, and no drive pad is driven while the module does not run. -/
def Obligations.ResetsLeaveWhatTheyName : Prop :=
  (∀ (s : State) (j : JournalTear), s.clk.phase ≠ Phase.off → ∃ t, exec (.powerLoss (.loss j)) s = .next t ∧ t.clk.phase = Phase.off
      ∧ t.cfg = s.cfg.afterReset false ∧ t.newt.tick = s.newt.tick ∧ t.newt.cal = s.newt.cal ∧ t.hif.inflight = []
      ∧ t.evq = [] ∧ t.evr.store = [] ∧ t.nvseg = s.nvseg ∧ t.nvlog = s.nvlog ∧ t.hif.linkUp = false
      ∧ ∀ r : Reg, r.inNewt = true → r ≠ .NEWT_STAT → t.sts.get r = s.sts.get r)
  ∧ (∀ s : State, Does (.powerLoss .sagRidden) s s)
  ∧ (∀ s : State, s.clk.phase ≠ Phase.off → Stops (.powerLoss .sagDisturbs) s .undefinedAfterSag)
  ∧ (∀ s : State, s.clk.phase = Phase.off → Does (.powerLoss .sagDisturbs) s s ∧ ∃ t, exec .powerOn s = .next t
      ∧ t.clk.phase = Phase.starting ∧ t.clk.vin = true ∧ t.newt.halted = false ∧ t.cfg = s.cfg.afterReset false
      ∧ t.sf .CLK_RESET_CAUSE F.CLK_RESET_CAUSE_SOURCE = 0 ∧ t.ready = false ∧ t.tsu.raw = 0 ∧ t.nvseg = s.nvseg
      ∧ t.nvlog = s.nvlog)
  ∧ (∀ (s : State) (ns : Nat), s.clk.phase ≠ Phase.off →
    (ns < 1000 → Does (.resetN ns) s s)
    ∧ (1000 ≤ ns → ∃ t, exec (.resetN ns) s = .next t
      ∧ ((t.clk.phase = Phase.starting ∧ t.sf .CLK_RESET_CAUSE F.CLK_RESET_CAUSE_SOURCE = 1 ∧ t.hif.linkUp = false
          ∧ t.cfg = s.cfg.afterReset false ∧ t.nvseg = s.nvseg
          ∧ t.sf .CLK_RESET_CAUSE F.CLK_RESET_CAUSE_COUNT
            = satAdd F.CLK_RESET_CAUSE_COUNT.width (s.sf .CLK_RESET_CAUSE F.CLK_RESET_CAUSE_COUNT) 1)
        ∨ (ns < 10000 ∧ t = { s with free := s.free + 1 }))))
  ∧ (∀ (s : State) (p : Option Nat), s.clk.phase ≠ Phase.off → ∃ t, exec (.watchdogTimeout p) s = .next t
      ∧ t.clk.phase = Phase.starting ∧ t.sf .CLK_RESET_CAUSE F.CLK_RESET_CAUSE_SOURCE = 2
      ∧ t.sf .CLK_RESET_CAUSE F.CLK_RESET_CAUSE_DETAIL = 0 ∧ t.hif.linkUp = s.hif.linkUp ∧ t.cfg = s.cfg.afterReset true
      ∧ t.sf .CLK_RESET_CAUSE F.CLK_RESET_CAUSE_COUNT
        = satAdd F.CLK_RESET_CAUSE_COUNT.width (s.sf .CLK_RESET_CAUSE F.CLK_RESET_CAUSE_COUNT) 1 ∧ t.nvseg = s.nvseg)
  ∧ (∀ (s : State) (inp : StartInput), s.clk.phase = Phase.starting → s.srcState 0 ≠ 2 →
    ∃ t, exec (.moduleStart inp) s = .next t ∧ t.cfg = s.cfg
      ∧ (s.upd.lizard ≠ 0 ∨ (s.startSources.boot inp).1.slot = none → t.clk.phase = Phase.lizard ∧ t.upd.lizard = 0
          ∧ ∃ v ∈ t.evq, v.code = 0x0E08)
      ∧ (s.upd.lizard = 0 → (s.startSources.boot inp).1.slot ≠ none → t.clk.phase = Phase.run ∧ t.ready = true
          ∧ (s.sf .CLK_RESET_CAUSE F.CLK_RESET_CAUSE_SOURCE = 3 → s.sf .CLK_RESET_CAUSE F.CLK_RESET_CAUSE_DETAIL ≤ 1 → t.sf .HIF_INT_CAUSE ⟨6, 6⟩ = 1)
          ∧ ∃ v ∈ t.evq, v.code = 0x1006 ∧ v.args.head? = some (s.sf .CLK_RESET_CAUSE F.CLK_RESET_CAUSE_SOURCE)))
  ∧ (∀ (s : State) (kind : PcieReset), s.clk.phase ≠ Phase.off → ∃ t, exec (.pcieFunctionReset kind) s = .next t
      ∧ t.hif.linkUp = (s.hif.linkUp && kind == .flr) ∧ (∀ d ∈ t.hif.inflight, d.ofRing = true → d.discard = true)
      ∧ (∀ r : Reg, r.isMsix = true → t.cfg.get r = r.reset)
      ∧ ∀ r : Reg, r.isMsix = false → r ≠ .SWX_HRX_HEAD → t.cfg.get r = s.cfg.get r)
  ∧ (∀ (s : State) (p : Pad), (s.clk.phase = Phase.off → s.padNow p = p.unpowered)
    ∧ (s.clk.phase = Phase.starting → s.padNow p = s.padInReset p) ∧ (s.clk.phase = Phase.run → s.padNow p = s.padRunning p)
    ∧ ∀ n, s.clk.phase ≠ Phase.run ∨ (s.drvChan n).pad = none → s.padNow (.drvPwm n) = .hiZ)

/-- After a newt power-on reset the count, calendar, alarms and anchors are at the values of R510 and OSC_STOP is 1. A
compensation window comes where the count has crossed its multiple; it conserves the correction: what it gives the
residue and the whole ticks together is what was there and the window's correction, at most 127 ticks either way; with
no valid curve or on RCO none. VBAT_LOW sets below 2,200 mV and clears above 2,350 mV. At a second carry with nothing
staged the calendar advances and an enabled alarm that fits sets its event bit. A BCD field stays BCD within its
range. A read of RTC_TICK_LO answers the low half of the count and latches the rest. A _HI write stages its pair,
which takes effect whole. XO_LF stopped unpowered halts the count and sets OSC_STOP. A record's calendar stamp is its
anchor's calendar moved on by the seconds between them. -/
def Obligations.NewtDomainKeepsTheTime : Prop :=
  (∀ s : State, ∃ t, exec .newtPor s = .next t ∧ t.newt.tick = 0 ∧ t.newt.cal = ⟨0, 1, 1, 0, 0, 0⟩ ∧ t.newt.alm0 = ⟨0, 0⟩
      ∧ t.newt.alm1 = ⟨0, 0⟩ ∧ t.sf .NEWT_STAT F.NEWT_STAT_OSC_STOP = 1 ∧ (∀ k, k < 16 → t.sf (.NEWT_ANCHOR k) F.word = 0)
      ∧ t.sf .NEWT_TC_OFF F.NEWT_TC_OFF_VALID = 0 ∧ t.newt.stCal = none ∧ t.newt.stAlm0 = none ∧ t.newt.stAlm1 = none
      ∧ t.shed.log = [] ∧ ∀ r : Reg, r.inNewt = false → t.cfg.get r = s.cfg.get r ∧ t.sts.get r = s.sts.get r)
  ∧ (∀ (s : State) (temp : Int) (mv : Nat), s.newt.tick / 524288 = s.newt.win → Does (.tcWindow temp mv) s s)
  ∧ (∀ (s : State) (temp : Int) (mv : Nat), s.newt.halted = false → s.newt.tick / 524288 ≠ s.newt.win → ∃ t, exec (.tcWindow temp mv) s = .next t ∧ t.cfg = s.cfg
      ∧ t.sf .NEWT_COMP F.NEWT_COMP_TEMP = twos 10 temp ∧ -127 ≤ t.newt.adjust ∧ t.newt.adjust ≤ 127
      ∧ (s.sf .NEWT_TC_OFF F.NEWT_TC_OFF_VALID = 1 → s.sf .NEWT_STAT F.NEWT_STAT_SRC = 0 →
          t.newt.residue + t.newt.adjust * 10 ^ 14 = s.newt.residue + s.newt.adjust * 10 ^ 14 + s.correction temp)
      ∧ (s.sf .NEWT_TC_OFF F.NEWT_TC_OFF_VALID = 0 ∨ s.sf .NEWT_STAT F.NEWT_STAT_SRC = 1 →
          t.newt.adjust = 0 ∧ t.newt.residue = s.newt.residue + s.newt.adjust * 10 ^ 14)
      ∧ (s.clk.phase ≠ Phase.off →
          (mv < 2200 → t.sf .NEWT_STAT F.NEWT_STAT_VBAT_LOW = 1)
          ∧ (2350 < mv → t.sf .NEWT_STAT F.NEWT_STAT_VBAT_LOW = 0)
          ∧ (2200 ≤ mv → mv ≤ 2350 →
            t.sf .NEWT_STAT F.NEWT_STAT_VBAT_LOW = s.sf .NEWT_STAT F.NEWT_STAT_VBAT_LOW)))
  ∧ (∀ s : State, s.newt.halted = false → s.newt.stCal = none → s.newt.stAlm0 = none → s.newt.stAlm1 = none →
    ∃ t, exec .secondCarry s = .next t ∧ t.newt.cal = s.newt.cal.advance ∧ t.cfg = s.cfg
      ∧ ∀ n, n < 2 → (s.alarm n).fits s.newt.cal.advance = true → t.sf .NEWT_EVT ⟨n, n⟩ = 1)
  ∧ (∀ v low high : Nat, v % 16 ≤ 9 → v ≤ high → high % 16 ≤ 9 → low % 16 ≤ 9 → low ≤ high →
    (calStep v low high).1 % 16 ≤ 9 ∧ (calStep v low high).1 ≤ high ∧ ((calStep v low high).2 = true ↔ v = high))
  ∧ (∀ (s : State) (l : RtcLatch), s.clk.phase ≠ Phase.off → l = { tickHi := s.newt.tick / 2 ^ 32, cal := s.newt.cal } →
    (s.lizardHides .host (Reg.RTC_TICK_LO).offset = false → Does (.rtcTickLoRead .host) s
      ({ s with newt := { s.newt with latHost := l } }.emit (.readData .host (s.newt.tick % 2 ^ 32))))
    ∧ (s.lizardHides .firmware (Reg.RTC_TICK_LO).offset = false → Does (.rtcTickLoRead .firmware) s
      ({ s with newt := { s.newt with latFw := l } }.emit (.readData .firmware (s.newt.tick % 2 ^ 32)))))
  ∧ (∀ (s : State) (w : BitVec 32), s.clk.phase = Phase.run →
    Does (.rtcCalHiWrite w.toNat) s
      { s with newt := { s.newt with stCal := some (s.newt.calLo, (w &&& (Reg.RTC_CAL_HI).hostMask).toNat) } }
    ∧ Does (.rtcAlmHiWrite 0 w.toNat) s
      { s with newt := { s.newt with stAlm0 := some (s.newt.almLo0, (w &&& (Reg.RTC_ALM_HI 0).hostMask).toNat) } }
    ∧ Does (.rtcAlmHiWrite 1 w.toNat) s
      { s with newt := { s.newt with stAlm1 := some (s.newt.almLo1, (w &&& (Reg.RTC_ALM_HI 1).hostMask).toNat) } })
  ∧ (∀ (s : State) (lo hi : Nat), s.newt.halted = false → s.newt.stCal = some (lo, hi) →
    ∃ t, exec .rtcStagedApply s = .next t ∧ t.newt.cal = Cal.ofWords lo hi ∧ t.newt.stCal = none ∧ t.cfg = s.cfg
      ∧ (s.clk.phase = Phase.run → t.evr.gen = s.nvlog.nextGen ∧ ∃ v ∈ t.evq, v.code = 0x1106))
  ∧ (∀ (s : State) (lo hi : Nat), s.newt.halted = false → s.newt.stAlm0 = some (lo, hi) →
    ∃ t, exec .rtcStagedApply s = .next t ∧ t.newt.alm0 = ⟨lo, hi⟩ ∧ t.newt.stAlm0 = none ∧ t.cfg = s.cfg)
  ∧ (∀ s : State, s.clk.phase = Phase.off → ∃ t, exec .xoLfStopUnpowered s = .next t ∧ t.newt.halted = true
      ∧ t.sf .NEWT_STAT F.NEWT_STAT_OSC_STOP = 1 ∧ t.newt.adjust = 0 ∧ t.newt.cal = s.newt.cal ∧ t.cfg = s.cfg)
  ∧ (∀ (s : State) (r : Rec) (a : Anchor), s.nvlog.anchors.find? (fun p => p.1 == r.gen) = some (r.gen, a) →
    (a.firstSeq = r.seq → r.rtc / 32768 = a.rtc / 32768 → s.calStamp r = some (Cal.ofBytes a.cal))
    ∧ (a.firstSeq = r.seq → r.rtc / 32768 = a.rtc / 32768 + 1 → s.calStamp r = some (Cal.ofBytes a.cal).advance)
    ∧ (a.firstSeq ≠ r.seq → seqLater r.seq a.firstSeq = false → s.calStamp r = none))
end

