-- ==== Sys2Proof/Laws/State.lean ====
section
/-! SUPPORT. Sys2Proof/Laws/State.lean: the fields of the state under the shared updates: each update changes its own field and
leaves every other. -/
namespace Sys2Proof.Machine

section
variable (s : State) (o : Out)

@[simp] theorem State.emit_pending : (s.emit o).pending = s.pending := rfl
@[simp] theorem State.emit_cfg : (s.emit o).cfg = s.cfg := rfl
@[simp] theorem State.emit_sts : (s.emit o).sts = s.sts := rfl
@[simp] theorem State.emit_bcFw : (s.emit o).bcFw = s.bcFw := rfl
@[simp] theorem State.emit_evq : (s.emit o).evq = s.evq := rfl
@[simp] theorem State.emit_free : (s.emit o).free = s.free := rfl
@[simp] theorem State.emit_hif : (s.emit o).hif = s.hif := rfl
@[simp] theorem State.emit_evr : (s.emit o).evr = s.evr := rfl
@[simp] theorem State.emit_tsu : (s.emit o).tsu = s.tsu := rfl
@[simp] theorem State.emit_newt : (s.emit o).newt = s.newt := rfl
@[simp] theorem State.emit_clk : (s.emit o).clk = s.clk := rfl
@[simp] theorem State.emit_nvlog : (s.emit o).nvlog = s.nvlog := rfl
@[simp] theorem State.emit_lanes : (s.emit o).lanes = s.lanes := rfl
@[simp] theorem State.emit_seg : (s.emit o).seg = s.seg := rfl
@[simp] theorem State.emit_nvseg : (s.emit o).nvseg = s.nvseg := rfl
@[simp] theorem State.emit_roll : (s.emit o).roll = s.roll := rfl
@[simp] theorem State.emit_rollOld : (s.emit o).rollOld = s.rollOld := rfl
@[simp] theorem State.emit_air : (s.emit o).air = s.air := rfl
@[simp] theorem State.emit_flt : (s.emit o).flt = s.flt := rfl
@[simp] theorem State.emit_swx : (s.emit o).swx = s.swx := rfl
@[simp] theorem State.emit_drv : (s.emit o).drv = s.drv := rfl
@[simp] theorem State.emit_mtr : (s.emit o).mtr = s.mtr := rfl
@[simp] theorem State.emit_nvmtr : (s.emit o).nvmtr = s.nvmtr := rfl
@[simp] theorem State.emit_mbx : (s.emit o).mbx = s.mbx := rfl
@[simp] theorem State.emit_twn : (s.emit o).twn = s.twn := rfl
@[simp] theorem State.emit_tack : (s.emit o).tack = s.tack := rfl
@[simp] theorem State.emit_shed : (s.emit o).shed = s.shed := rfl
@[simp] theorem State.emit_upd : (s.emit o).upd = s.upd := rfl
end

section
variable (s : State) (f i c v : Nat) (a : List Nat)

@[simp] theorem State.event_pending : (s.event f i c v a).pending = s.pending := rfl
@[simp] theorem State.event_cfg : (s.event f i c v a).cfg = s.cfg := rfl
@[simp] theorem State.event_sts : (s.event f i c v a).sts = s.sts := rfl
@[simp] theorem State.event_bcFw : (s.event f i c v a).bcFw = s.bcFw := rfl
@[simp] theorem State.event_out : (s.event f i c v a).out = s.out := rfl
@[simp] theorem State.event_free : (s.event f i c v a).free = s.free := rfl
@[simp] theorem State.event_hif : (s.event f i c v a).hif = s.hif := rfl
@[simp] theorem State.event_evr : (s.event f i c v a).evr = s.evr := rfl
@[simp] theorem State.event_tsu : (s.event f i c v a).tsu = s.tsu := rfl
@[simp] theorem State.event_newt : (s.event f i c v a).newt = s.newt := rfl
@[simp] theorem State.event_clk : (s.event f i c v a).clk = s.clk := rfl
@[simp] theorem State.event_nvlog : (s.event f i c v a).nvlog = s.nvlog := rfl
@[simp] theorem State.event_lanes : (s.event f i c v a).lanes = s.lanes := rfl
@[simp] theorem State.event_seg : (s.event f i c v a).seg = s.seg := rfl
@[simp] theorem State.event_nvseg : (s.event f i c v a).nvseg = s.nvseg := rfl
@[simp] theorem State.event_roll : (s.event f i c v a).roll = s.roll := rfl
@[simp] theorem State.event_rollOld : (s.event f i c v a).rollOld = s.rollOld := rfl
@[simp] theorem State.event_air : (s.event f i c v a).air = s.air := rfl
@[simp] theorem State.event_flt : (s.event f i c v a).flt = s.flt := rfl
@[simp] theorem State.event_swx : (s.event f i c v a).swx = s.swx := rfl
@[simp] theorem State.event_drv : (s.event f i c v a).drv = s.drv := rfl
@[simp] theorem State.event_mtr : (s.event f i c v a).mtr = s.mtr := rfl
@[simp] theorem State.event_nvmtr : (s.event f i c v a).nvmtr = s.nvmtr := rfl
@[simp] theorem State.event_mbx : (s.event f i c v a).mbx = s.mbx := rfl
@[simp] theorem State.event_twn : (s.event f i c v a).twn = s.twn := rfl
@[simp] theorem State.event_tack : (s.event f i c v a).tack = s.tack := rfl
@[simp] theorem State.event_shed : (s.event f i c v a).shed = s.shed := rfl
@[simp] theorem State.event_upd : (s.event f i c v a).upd = s.upd := rfl
end

section
variable (s : State) (r : Reg) (f : Fld) (v : Nat)

@[simp] theorem State.setSf_pending : (s.setSf r f v).pending = s.pending := rfl
@[simp] theorem State.setSf_cfg : (s.setSf r f v).cfg = s.cfg := rfl
@[simp] theorem State.setSf_bcFw : (s.setSf r f v).bcFw = s.bcFw := rfl
@[simp] theorem State.setSf_out : (s.setSf r f v).out = s.out := rfl
@[simp] theorem State.setSf_evq : (s.setSf r f v).evq = s.evq := rfl
@[simp] theorem State.setSf_free : (s.setSf r f v).free = s.free := rfl
@[simp] theorem State.setSf_hif : (s.setSf r f v).hif = s.hif := rfl
@[simp] theorem State.setSf_evr : (s.setSf r f v).evr = s.evr := rfl
@[simp] theorem State.setSf_tsu : (s.setSf r f v).tsu = s.tsu := rfl
@[simp] theorem State.setSf_newt : (s.setSf r f v).newt = s.newt := rfl
@[simp] theorem State.setSf_clk : (s.setSf r f v).clk = s.clk := rfl
@[simp] theorem State.setSf_nvlog : (s.setSf r f v).nvlog = s.nvlog := rfl
@[simp] theorem State.setSf_lanes : (s.setSf r f v).lanes = s.lanes := rfl
@[simp] theorem State.setSf_seg : (s.setSf r f v).seg = s.seg := rfl
@[simp] theorem State.setSf_nvseg : (s.setSf r f v).nvseg = s.nvseg := rfl
@[simp] theorem State.setSf_roll : (s.setSf r f v).roll = s.roll := rfl
@[simp] theorem State.setSf_rollOld : (s.setSf r f v).rollOld = s.rollOld := rfl
@[simp] theorem State.setSf_air : (s.setSf r f v).air = s.air := rfl
@[simp] theorem State.setSf_flt : (s.setSf r f v).flt = s.flt := rfl
@[simp] theorem State.setSf_swx : (s.setSf r f v).swx = s.swx := rfl
@[simp] theorem State.setSf_drv : (s.setSf r f v).drv = s.drv := rfl
@[simp] theorem State.setSf_mtr : (s.setSf r f v).mtr = s.mtr := rfl
@[simp] theorem State.setSf_nvmtr : (s.setSf r f v).nvmtr = s.nvmtr := rfl
@[simp] theorem State.setSf_mbx : (s.setSf r f v).mbx = s.mbx := rfl
@[simp] theorem State.setSf_twn : (s.setSf r f v).twn = s.twn := rfl
@[simp] theorem State.setSf_tack : (s.setSf r f v).tack = s.tack := rfl
@[simp] theorem State.setSf_shed : (s.setSf r f v).shed = s.shed := rfl
@[simp] theorem State.setSf_upd : (s.setSf r f v).upd = s.upd := rfl
end

section
variable (s : State) (r : Reg) (v : Nat)

@[simp] theorem State.setSw_pending : (s.setSw r v).pending = s.pending := rfl
@[simp] theorem State.setSw_cfg : (s.setSw r v).cfg = s.cfg := rfl
@[simp] theorem State.setSw_bcFw : (s.setSw r v).bcFw = s.bcFw := rfl
@[simp] theorem State.setSw_out : (s.setSw r v).out = s.out := rfl
@[simp] theorem State.setSw_evq : (s.setSw r v).evq = s.evq := rfl
@[simp] theorem State.setSw_free : (s.setSw r v).free = s.free := rfl
@[simp] theorem State.setSw_hif : (s.setSw r v).hif = s.hif := rfl
@[simp] theorem State.setSw_evr : (s.setSw r v).evr = s.evr := rfl
@[simp] theorem State.setSw_tsu : (s.setSw r v).tsu = s.tsu := rfl
@[simp] theorem State.setSw_newt : (s.setSw r v).newt = s.newt := rfl
@[simp] theorem State.setSw_clk : (s.setSw r v).clk = s.clk := rfl
@[simp] theorem State.setSw_nvlog : (s.setSw r v).nvlog = s.nvlog := rfl
@[simp] theorem State.setSw_lanes : (s.setSw r v).lanes = s.lanes := rfl
@[simp] theorem State.setSw_seg : (s.setSw r v).seg = s.seg := rfl
@[simp] theorem State.setSw_nvseg : (s.setSw r v).nvseg = s.nvseg := rfl
@[simp] theorem State.setSw_roll : (s.setSw r v).roll = s.roll := rfl
@[simp] theorem State.setSw_rollOld : (s.setSw r v).rollOld = s.rollOld := rfl
@[simp] theorem State.setSw_air : (s.setSw r v).air = s.air := rfl
@[simp] theorem State.setSw_flt : (s.setSw r v).flt = s.flt := rfl
@[simp] theorem State.setSw_swx : (s.setSw r v).swx = s.swx := rfl
@[simp] theorem State.setSw_drv : (s.setSw r v).drv = s.drv := rfl
@[simp] theorem State.setSw_mtr : (s.setSw r v).mtr = s.mtr := rfl
@[simp] theorem State.setSw_nvmtr : (s.setSw r v).nvmtr = s.nvmtr := rfl
@[simp] theorem State.setSw_mbx : (s.setSw r v).mbx = s.mbx := rfl
@[simp] theorem State.setSw_twn : (s.setSw r v).twn = s.twn := rfl
@[simp] theorem State.setSw_tack : (s.setSw r v).tack = s.tack := rfl
@[simp] theorem State.setSw_shed : (s.setSw r v).shed = s.shed := rfl
@[simp] theorem State.setSw_upd : (s.setSw r v).upd = s.upd := rfl
end

section
variable (s : State) (r : Reg) (v : BitVec 32)

@[simp] theorem State.setCw_pending : (s.setCw r v).pending = s.pending := rfl
@[simp] theorem State.setCw_sts : (s.setCw r v).sts = s.sts := rfl
@[simp] theorem State.setCw_bcFw : (s.setCw r v).bcFw = s.bcFw := rfl
@[simp] theorem State.setCw_out : (s.setCw r v).out = s.out := rfl
@[simp] theorem State.setCw_evq : (s.setCw r v).evq = s.evq := rfl
@[simp] theorem State.setCw_free : (s.setCw r v).free = s.free := rfl
@[simp] theorem State.setCw_hif : (s.setCw r v).hif = s.hif := rfl
@[simp] theorem State.setCw_evr : (s.setCw r v).evr = s.evr := rfl
@[simp] theorem State.setCw_tsu : (s.setCw r v).tsu = s.tsu := rfl
@[simp] theorem State.setCw_newt : (s.setCw r v).newt = s.newt := rfl
@[simp] theorem State.setCw_clk : (s.setCw r v).clk = s.clk := rfl
@[simp] theorem State.setCw_nvlog : (s.setCw r v).nvlog = s.nvlog := rfl
@[simp] theorem State.setCw_lanes : (s.setCw r v).lanes = s.lanes := rfl
@[simp] theorem State.setCw_seg : (s.setCw r v).seg = s.seg := rfl
@[simp] theorem State.setCw_nvseg : (s.setCw r v).nvseg = s.nvseg := rfl
@[simp] theorem State.setCw_roll : (s.setCw r v).roll = s.roll := rfl
@[simp] theorem State.setCw_rollOld : (s.setCw r v).rollOld = s.rollOld := rfl
@[simp] theorem State.setCw_air : (s.setCw r v).air = s.air := rfl
@[simp] theorem State.setCw_flt : (s.setCw r v).flt = s.flt := rfl
@[simp] theorem State.setCw_swx : (s.setCw r v).swx = s.swx := rfl
@[simp] theorem State.setCw_drv : (s.setCw r v).drv = s.drv := rfl
@[simp] theorem State.setCw_mtr : (s.setCw r v).mtr = s.mtr := rfl
@[simp] theorem State.setCw_nvmtr : (s.setCw r v).nvmtr = s.nvmtr := rfl
@[simp] theorem State.setCw_mbx : (s.setCw r v).mbx = s.mbx := rfl
@[simp] theorem State.setCw_twn : (s.setCw r v).twn = s.twn := rfl
@[simp] theorem State.setCw_tack : (s.setCw r v).tack = s.tack := rfl
@[simp] theorem State.setCw_shed : (s.setCw r v).shed = s.shed := rfl
@[simp] theorem State.setCw_upd : (s.setCw r v).upd = s.upd := rfl
end

section
variable (s : State) (r : Reg) (f : Fld) (v : Nat)

@[simp] theorem State.setCf_pending : (s.setCf r f v).pending = s.pending := rfl
@[simp] theorem State.setCf_sts : (s.setCf r f v).sts = s.sts := rfl
@[simp] theorem State.setCf_bcFw : (s.setCf r f v).bcFw = s.bcFw := rfl
@[simp] theorem State.setCf_out : (s.setCf r f v).out = s.out := rfl
@[simp] theorem State.setCf_evq : (s.setCf r f v).evq = s.evq := rfl
@[simp] theorem State.setCf_free : (s.setCf r f v).free = s.free := rfl
@[simp] theorem State.setCf_hif : (s.setCf r f v).hif = s.hif := rfl
@[simp] theorem State.setCf_evr : (s.setCf r f v).evr = s.evr := rfl
@[simp] theorem State.setCf_tsu : (s.setCf r f v).tsu = s.tsu := rfl
@[simp] theorem State.setCf_newt : (s.setCf r f v).newt = s.newt := rfl
@[simp] theorem State.setCf_clk : (s.setCf r f v).clk = s.clk := rfl
@[simp] theorem State.setCf_nvlog : (s.setCf r f v).nvlog = s.nvlog := rfl
@[simp] theorem State.setCf_lanes : (s.setCf r f v).lanes = s.lanes := rfl
@[simp] theorem State.setCf_seg : (s.setCf r f v).seg = s.seg := rfl
@[simp] theorem State.setCf_nvseg : (s.setCf r f v).nvseg = s.nvseg := rfl
@[simp] theorem State.setCf_roll : (s.setCf r f v).roll = s.roll := rfl
@[simp] theorem State.setCf_rollOld : (s.setCf r f v).rollOld = s.rollOld := rfl
@[simp] theorem State.setCf_air : (s.setCf r f v).air = s.air := rfl
@[simp] theorem State.setCf_flt : (s.setCf r f v).flt = s.flt := rfl
@[simp] theorem State.setCf_swx : (s.setCf r f v).swx = s.swx := rfl
@[simp] theorem State.setCf_drv : (s.setCf r f v).drv = s.drv := rfl
@[simp] theorem State.setCf_mtr : (s.setCf r f v).mtr = s.mtr := rfl
@[simp] theorem State.setCf_nvmtr : (s.setCf r f v).nvmtr = s.nvmtr := rfl
@[simp] theorem State.setCf_mbx : (s.setCf r f v).mbx = s.mbx := rfl
@[simp] theorem State.setCf_twn : (s.setCf r f v).twn = s.twn := rfl
@[simp] theorem State.setCf_tack : (s.setCf r f v).tack = s.tack := rfl
@[simp] theorem State.setCf_shed : (s.setCf r f v).shed = s.shed := rfl
@[simp] theorem State.setCf_upd : (s.setCf r f v).upd = s.upd := rfl
end

section
variable (s : State) (k : Nat) (f : Desc → Desc)

@[simp] theorem State.updDesc_pending : (s.updDesc k f).pending = s.pending := rfl
@[simp] theorem State.updDesc_cfg : (s.updDesc k f).cfg = s.cfg := rfl
@[simp] theorem State.updDesc_sts : (s.updDesc k f).sts = s.sts := rfl
@[simp] theorem State.updDesc_bcFw : (s.updDesc k f).bcFw = s.bcFw := rfl
@[simp] theorem State.updDesc_out : (s.updDesc k f).out = s.out := rfl
@[simp] theorem State.updDesc_evq : (s.updDesc k f).evq = s.evq := rfl
@[simp] theorem State.updDesc_free : (s.updDesc k f).free = s.free := rfl
@[simp] theorem State.updDesc_evr : (s.updDesc k f).evr = s.evr := rfl
@[simp] theorem State.updDesc_tsu : (s.updDesc k f).tsu = s.tsu := rfl
@[simp] theorem State.updDesc_newt : (s.updDesc k f).newt = s.newt := rfl
@[simp] theorem State.updDesc_clk : (s.updDesc k f).clk = s.clk := rfl
@[simp] theorem State.updDesc_nvlog : (s.updDesc k f).nvlog = s.nvlog := rfl
@[simp] theorem State.updDesc_lanes : (s.updDesc k f).lanes = s.lanes := rfl
@[simp] theorem State.updDesc_seg : (s.updDesc k f).seg = s.seg := rfl
@[simp] theorem State.updDesc_nvseg : (s.updDesc k f).nvseg = s.nvseg := rfl
@[simp] theorem State.updDesc_roll : (s.updDesc k f).roll = s.roll := rfl
@[simp] theorem State.updDesc_rollOld : (s.updDesc k f).rollOld = s.rollOld := rfl
@[simp] theorem State.updDesc_air : (s.updDesc k f).air = s.air := rfl
@[simp] theorem State.updDesc_flt : (s.updDesc k f).flt = s.flt := rfl
@[simp] theorem State.updDesc_swx : (s.updDesc k f).swx = s.swx := rfl
@[simp] theorem State.updDesc_drv : (s.updDesc k f).drv = s.drv := rfl
@[simp] theorem State.updDesc_mtr : (s.updDesc k f).mtr = s.mtr := rfl
@[simp] theorem State.updDesc_nvmtr : (s.updDesc k f).nvmtr = s.nvmtr := rfl
@[simp] theorem State.updDesc_mbx : (s.updDesc k f).mbx = s.mbx := rfl
@[simp] theorem State.updDesc_twn : (s.updDesc k f).twn = s.twn := rfl
@[simp] theorem State.updDesc_tack : (s.updDesc k f).tack = s.tack := rfl
@[simp] theorem State.updDesc_shed : (s.updDesc k f).shed = s.shed := rfl
@[simp] theorem State.updDesc_upd : (s.updDesc k f).upd = s.upd := rfl
end

section
variable (s : State) (k : Nat)

@[simp] theorem State.dropDesc_pending : (s.dropDesc k).pending = s.pending := rfl
@[simp] theorem State.dropDesc_cfg : (s.dropDesc k).cfg = s.cfg := rfl
@[simp] theorem State.dropDesc_sts : (s.dropDesc k).sts = s.sts := rfl
@[simp] theorem State.dropDesc_bcFw : (s.dropDesc k).bcFw = s.bcFw := rfl
@[simp] theorem State.dropDesc_out : (s.dropDesc k).out = s.out := rfl
@[simp] theorem State.dropDesc_evq : (s.dropDesc k).evq = s.evq := rfl
@[simp] theorem State.dropDesc_free : (s.dropDesc k).free = s.free := rfl
@[simp] theorem State.dropDesc_evr : (s.dropDesc k).evr = s.evr := rfl
@[simp] theorem State.dropDesc_tsu : (s.dropDesc k).tsu = s.tsu := rfl
@[simp] theorem State.dropDesc_newt : (s.dropDesc k).newt = s.newt := rfl
@[simp] theorem State.dropDesc_clk : (s.dropDesc k).clk = s.clk := rfl
@[simp] theorem State.dropDesc_nvlog : (s.dropDesc k).nvlog = s.nvlog := rfl
@[simp] theorem State.dropDesc_lanes : (s.dropDesc k).lanes = s.lanes := rfl
@[simp] theorem State.dropDesc_seg : (s.dropDesc k).seg = s.seg := rfl
@[simp] theorem State.dropDesc_nvseg : (s.dropDesc k).nvseg = s.nvseg := rfl
@[simp] theorem State.dropDesc_roll : (s.dropDesc k).roll = s.roll := rfl
@[simp] theorem State.dropDesc_rollOld : (s.dropDesc k).rollOld = s.rollOld := rfl
@[simp] theorem State.dropDesc_air : (s.dropDesc k).air = s.air := rfl
@[simp] theorem State.dropDesc_flt : (s.dropDesc k).flt = s.flt := rfl
@[simp] theorem State.dropDesc_swx : (s.dropDesc k).swx = s.swx := rfl
@[simp] theorem State.dropDesc_drv : (s.dropDesc k).drv = s.drv := rfl
@[simp] theorem State.dropDesc_mtr : (s.dropDesc k).mtr = s.mtr := rfl
@[simp] theorem State.dropDesc_nvmtr : (s.dropDesc k).nvmtr = s.nvmtr := rfl
@[simp] theorem State.dropDesc_mbx : (s.dropDesc k).mbx = s.mbx := rfl
@[simp] theorem State.dropDesc_twn : (s.dropDesc k).twn = s.twn := rfl
@[simp] theorem State.dropDesc_tack : (s.dropDesc k).tack = s.tack := rfl
@[simp] theorem State.dropDesc_shed : (s.dropDesc k).shed = s.shed := rfl
@[simp] theorem State.dropDesc_upd : (s.dropDesc k).upd = s.upd := rfl
end

section
variable (s : State) (dt : Nat)

@[simp] theorem State.elapse_pending : (s.elapse dt).pending = s.pending := rfl
@[simp] theorem State.elapse_cfg : (s.elapse dt).cfg = s.cfg := rfl
@[simp] theorem State.elapse_sts : (s.elapse dt).sts = s.sts := rfl
@[simp] theorem State.elapse_bcFw : (s.elapse dt).bcFw = s.bcFw := rfl
@[simp] theorem State.elapse_out : (s.elapse dt).out = s.out := rfl
@[simp] theorem State.elapse_evq : (s.elapse dt).evq = s.evq := rfl
@[simp] theorem State.elapse_free : (s.elapse dt).free = s.free := rfl
@[simp] theorem State.elapse_hif : (s.elapse dt).hif = s.hif := rfl
@[simp] theorem State.elapse_evr : (s.elapse dt).evr = s.evr := rfl
@[simp] theorem State.elapse_clk : (s.elapse dt).clk = s.clk := rfl
@[simp] theorem State.elapse_nvlog : (s.elapse dt).nvlog = s.nvlog := rfl
@[simp] theorem State.elapse_lanes : (s.elapse dt).lanes = s.lanes := rfl
@[simp] theorem State.elapse_seg : (s.elapse dt).seg = s.seg := rfl
@[simp] theorem State.elapse_nvseg : (s.elapse dt).nvseg = s.nvseg := rfl
@[simp] theorem State.elapse_roll : (s.elapse dt).roll = s.roll := rfl
@[simp] theorem State.elapse_rollOld : (s.elapse dt).rollOld = s.rollOld := rfl
@[simp] theorem State.elapse_air : (s.elapse dt).air = s.air := rfl
@[simp] theorem State.elapse_flt : (s.elapse dt).flt = s.flt := rfl
@[simp] theorem State.elapse_swx : (s.elapse dt).swx = s.swx := rfl
@[simp] theorem State.elapse_drv : (s.elapse dt).drv = s.drv := rfl
@[simp] theorem State.elapse_mtr : (s.elapse dt).mtr = s.mtr := rfl
@[simp] theorem State.elapse_nvmtr : (s.elapse dt).nvmtr = s.nvmtr := rfl
@[simp] theorem State.elapse_mbx : (s.elapse dt).mbx = s.mbx := rfl
@[simp] theorem State.elapse_twn : (s.elapse dt).twn = s.twn := rfl
@[simp] theorem State.elapse_tack : (s.elapse dt).tack = s.tack := rfl
@[simp] theorem State.elapse_shed : (s.elapse dt).shed = s.shed := rfl
@[simp] theorem State.elapse_upd : (s.elapse dt).upd = s.upd := rfl
end

section
variable (s : State) (i : Nat) (x : Stall)

@[simp] theorem State.setStall_pending : (s.setStall i x).pending = s.pending := rfl
@[simp] theorem State.setStall_cfg : (s.setStall i x).cfg = s.cfg := rfl
@[simp] theorem State.setStall_sts : (s.setStall i x).sts = s.sts := rfl
@[simp] theorem State.setStall_bcFw : (s.setStall i x).bcFw = s.bcFw := rfl
@[simp] theorem State.setStall_out : (s.setStall i x).out = s.out := rfl
@[simp] theorem State.setStall_evq : (s.setStall i x).evq = s.evq := rfl
@[simp] theorem State.setStall_free : (s.setStall i x).free = s.free := rfl
@[simp] theorem State.setStall_hif : (s.setStall i x).hif = s.hif := rfl
@[simp] theorem State.setStall_evr : (s.setStall i x).evr = s.evr := rfl
@[simp] theorem State.setStall_tsu : (s.setStall i x).tsu = s.tsu := rfl
@[simp] theorem State.setStall_newt : (s.setStall i x).newt = s.newt := rfl
@[simp] theorem State.setStall_clk : (s.setStall i x).clk = s.clk := rfl
@[simp] theorem State.setStall_nvlog : (s.setStall i x).nvlog = s.nvlog := rfl
@[simp] theorem State.setStall_lanes : (s.setStall i x).lanes = s.lanes := rfl
@[simp] theorem State.setStall_nvseg : (s.setStall i x).nvseg = s.nvseg := rfl
@[simp] theorem State.setStall_roll : (s.setStall i x).roll = s.roll := rfl
@[simp] theorem State.setStall_rollOld : (s.setStall i x).rollOld = s.rollOld := rfl
@[simp] theorem State.setStall_air : (s.setStall i x).air = s.air := rfl
@[simp] theorem State.setStall_flt : (s.setStall i x).flt = s.flt := rfl
@[simp] theorem State.setStall_swx : (s.setStall i x).swx = s.swx := rfl
@[simp] theorem State.setStall_drv : (s.setStall i x).drv = s.drv := rfl
@[simp] theorem State.setStall_mtr : (s.setStall i x).mtr = s.mtr := rfl
@[simp] theorem State.setStall_nvmtr : (s.setStall i x).nvmtr = s.nvmtr := rfl
@[simp] theorem State.setStall_mbx : (s.setStall i x).mbx = s.mbx := rfl
@[simp] theorem State.setStall_twn : (s.setStall i x).twn = s.twn := rfl
@[simp] theorem State.setStall_tack : (s.setStall i x).tack = s.tack := rfl
@[simp] theorem State.setStall_shed : (s.setStall i x).shed = s.shed := rfl
@[simp] theorem State.setStall_upd : (s.setStall i x).upd = s.upd := rfl
end

section
variable (s : State) (p : Nat) (x : Paddock)

@[simp] theorem State.setPad_pending : (s.setPad p x).pending = s.pending := rfl
@[simp] theorem State.setPad_cfg : (s.setPad p x).cfg = s.cfg := rfl
@[simp] theorem State.setPad_sts : (s.setPad p x).sts = s.sts := rfl
@[simp] theorem State.setPad_bcFw : (s.setPad p x).bcFw = s.bcFw := rfl
@[simp] theorem State.setPad_out : (s.setPad p x).out = s.out := rfl
@[simp] theorem State.setPad_evq : (s.setPad p x).evq = s.evq := rfl
@[simp] theorem State.setPad_free : (s.setPad p x).free = s.free := rfl
@[simp] theorem State.setPad_hif : (s.setPad p x).hif = s.hif := rfl
@[simp] theorem State.setPad_evr : (s.setPad p x).evr = s.evr := rfl
@[simp] theorem State.setPad_tsu : (s.setPad p x).tsu = s.tsu := rfl
@[simp] theorem State.setPad_newt : (s.setPad p x).newt = s.newt := rfl
@[simp] theorem State.setPad_clk : (s.setPad p x).clk = s.clk := rfl
@[simp] theorem State.setPad_nvlog : (s.setPad p x).nvlog = s.nvlog := rfl
@[simp] theorem State.setPad_lanes : (s.setPad p x).lanes = s.lanes := rfl
@[simp] theorem State.setPad_nvseg : (s.setPad p x).nvseg = s.nvseg := rfl
@[simp] theorem State.setPad_roll : (s.setPad p x).roll = s.roll := rfl
@[simp] theorem State.setPad_rollOld : (s.setPad p x).rollOld = s.rollOld := rfl
@[simp] theorem State.setPad_air : (s.setPad p x).air = s.air := rfl
@[simp] theorem State.setPad_flt : (s.setPad p x).flt = s.flt := rfl
@[simp] theorem State.setPad_swx : (s.setPad p x).swx = s.swx := rfl
@[simp] theorem State.setPad_drv : (s.setPad p x).drv = s.drv := rfl
@[simp] theorem State.setPad_mtr : (s.setPad p x).mtr = s.mtr := rfl
@[simp] theorem State.setPad_nvmtr : (s.setPad p x).nvmtr = s.nvmtr := rfl
@[simp] theorem State.setPad_mbx : (s.setPad p x).mbx = s.mbx := rfl
@[simp] theorem State.setPad_twn : (s.setPad p x).twn = s.twn := rfl
@[simp] theorem State.setPad_tack : (s.setPad p x).tack = s.tack := rfl
@[simp] theorem State.setPad_shed : (s.setPad p x).shed = s.shed := rfl
@[simp] theorem State.setPad_upd : (s.setPad p x).upd = s.upd := rfl
end

section
variable (s t : State) (f : State → State)

@[simp] theorem State.hold_cfg : (s.hold f).cfg = s.cfg := rfl
@[simp] theorem State.framed_cfg : (s.framed t).cfg = s.cfg := rfl
@[simp] theorem State.framed_pending : (s.framed t).pending = s.pending := rfl
@[simp] theorem State.emit_out (o : Out) : (s.emit o).out = o :: s.out := rfl
@[simp] theorem State.elapse_raw (dt : Nat) : (s.elapse dt).tsu.raw = (s.tsu.raw + dt) % 2 ^ 64 := rfl
@[simp] theorem State.setSf_sts (r : Reg) (g : Fld) (v : Nat) :
    (s.setSf r g v).sts = s.sts.put r (g.set (s.sts.get r) v) := rfl
@[simp] theorem State.setCf_cfg (r : Reg) (g : Fld) (v : Nat) :
    (s.setCf r g v).cfg = s.cfg.put r (g.set (s.cfg.get r) v) := rfl

end

end Sys2Proof.Machine
end

