-- ==== Sys2Proof/Laws/Operations.lean ====
section
/-! SUPPORT. Sys2Proof/Laws/Operations.lean: what the shared operations can do: the frame of a command, the start of a
descriptor's operation, and its end. -/
namespace Sys2Proof.Machine

/-- A command of the module's own answers the framed state. -/
theorem quiet_eq (f : State → State) (s : State) : quiet f s = .next (s.framed (f s)) := rfl
/-- A command that may write host-written fields keeps the queue. -/
theorem loud_eq (f : State → State) (s : State) : loud f s = .next { f s with pending := s.pending } := rfl

theorem loud_next {f : State → State} {s t : State} (h : loud f s = .next t) :
    t = { f s with pending := s.pending } := by
  injection h with h; exact h.symm

theorem quiet_next {f : State → State} {s t : State} (h : quiet f s = .next t) : t = s.framed (f s) := by
  injection h with h; exact h.symm

/-- What the start of an operation does: its body on the descriptor taken up, where the module serves it. -/
theorem operation_serves {s : State} {d : Desc} {op : Nat} {sel : Desc → Bool} {body : State → Desc → State}
    (h : s.serves d op) (hs : sel d = true) : s.operation d.did op sel body = body (s.holding d.taken) d.taken := by
  obtain ⟨h1, rfl, h3, h4⟩ := h
  unfold State.operation
  rw [h1]
  simp only [hs, h3, and_self, if_true, h4]
  rfl

/-- An operation that the module turns away completes with the failure that says so, and nothing else happens. -/
theorem operation_turned {s : State} {d : Desc} {op st det : Nat} {sel : Desc → Bool} {body : State → Desc → State}
    (h1 : s.desc? d.did = some d) (h2 : d.op = op) (h3 : s.starts d = true) (h4 : s.turnsAway d = some (st, det))
    (hs : sel d = true) : s.operation d.did op sel body = s.fail d st det := by
  unfold State.operation
  rw [h1]
  simp only [h2, hs, h3, and_self, if_true, h4]

/-- A row's choice among those of one opcode does not look at the stage of a descriptor. -/
def StageFree (sel : Desc → Bool) : Prop := ∀ (d : Desc) (x : Stage), sel { d with stage := x } = sel d

/-- The start of an operation with an input buffer. -/
theorem operationIn_serves {s : State} {d e : Desc} {op : Nat} {read : HostRead} {sel : Desc → Bool}
    {body : State → Desc → State} (h : s.serves d op) (he : d.seen s read = some e) (hf : StageFree sel) (hs : sel e = true) :
    s.operationIn d.did op read sel body = body (s.holding e) e := by
  have h0 := h
  obtain ⟨h1, rfl, h3, h4⟩ := h0
  have hother : e = d.taken → s.operation d.did d.op sel body = body (s.holding e) e := fun he => by
    subst he; exact operation_serves h ((hf d Stage.queued).symm.trans hs)
  unfold State.operationIn
  rw [h1]
  cases hsrc : d.src with
  | ring n =>
    cases read with
    | failed => simp [Desc.seen, hsrc] at he
    | ok b =>
      obtain ⟨hup, he'⟩ : (d.len = 0 ∨ s.hostUp = true) ∧ d.filled b = e := by simpa [Desc.seen, hsrc] using he
      subst he'
      have hs' : sel { d with buf := if d.len = 0 then [] else fitBytes d.len b } = true := by
        rw [← hf _ Stage.queued]; exact hs
      rw [hsrc] at hs'
      simp only [State.holding, Desc.filled, hsrc, hs', h3, hup, and_self, if_true, h4]
  | _ =>
    have he' : e = d.taken := by simpa [Desc.seen, hsrc, eq_comm] using he
    simpa [hsrc] using hother he'

/-- A ring's operation whose buffer cannot be read completes with POISON (R62). -/
theorem operationIn_failed {s : State} {d : Desc} {op n : Nat} {sel : Desc → Bool} {body : State → Desc → State}
    (h : s.serves d op) (hn : d.src = .ring n) (hl : d.len ≠ 0)
    (hu : s.hostUp = true) :
    s.operationIn d.did op .failed sel body = s.hostMemFail.fail d stPOISON := by
  obtain ⟨h1, h2, h3, h4⟩ := h
  unfold State.operationIn
  rw [h1]
  simp only [hn, h2, h3, hl, hu, ne_eq, not_false_eq_true, and_self, if_true, h4]

end Sys2Proof.Machine
end

