-- ==== Sys2Proof/Laws/Tables.lean ====
section
/-! SUPPORT. Sys2Proof/Laws/Tables.lean: sparse tables and register files: a read after a write, and the canonical form that
every write keeps. -/
namespace Sys2Proof

/-- A sparse table's canonical form: keys strictly rising, no entry equal to what an unlisted key reads as. -/
def Tbl.canon {α : Type} (d : α) (t : Tbl α) : Prop := t.Pairwise (fun a b => a.1 < b.1) ∧ ∀ p ∈ t, p.2 ≠ d

theorem Tbl.get_erase_same {α : Type} (d : α) (t : Tbl α) (i : Nat) : Tbl.get d (Tbl.erase t i) i = d := by
  induction t with
  | nil => rfl
  | cons p t ih =>
    obtain ⟨k, v⟩ := p
    by_cases h : k = i
    · simpa [Tbl.erase, h] using ih
    · have : Tbl.erase ((k, v) :: t) i = (k, v) :: Tbl.erase t i := by simp [Tbl.erase, h]
      rw [this]; simp only [Tbl.get, h, if_false]; exact ih

theorem Tbl.get_erase_other {α : Type} (d : α) (t : Tbl α) {i j : Nat} (h : j ≠ i) :
    Tbl.get d (Tbl.erase t i) j = Tbl.get d t j := by
  induction t with
  | nil => rfl
  | cons p t ih =>
    obtain ⟨k, v⟩ := p
    by_cases hk : k = i
    · have : Tbl.erase ((k, v) :: t) i = Tbl.erase t i := by simp [Tbl.erase, hk]
      rw [this, ih]; simp [Tbl.get, hk, Ne.symm h]
    · have : Tbl.erase ((k, v) :: t) i = (k, v) :: Tbl.erase t i := by simp [Tbl.erase, hk]
      rw [this]; simp only [Tbl.get]; split
      · rfl
      · exact ih

theorem Tbl.get_insert_same {α : Type} (d : α) (t : Tbl α) (i : Nat) (v : α) : Tbl.get d (Tbl.insert t i v) i = v := by
  induction t with
  | nil => simp [Tbl.insert, Tbl.get]
  | cons p t ih =>
    obtain ⟨k, x⟩ := p
    simp only [Tbl.insert]
    split
    · simp [Tbl.get]
    · split
      · simp [Tbl.get]
      · rename_i h; simpa [Tbl.get, h] using ih

theorem Tbl.get_insert_other {α : Type} (d : α) (t : Tbl α) {i j : Nat} (v : α) (h : j ≠ i) :
    Tbl.get d (Tbl.insert t i v) j = Tbl.get d t j := by
  induction t with
  | nil => simp [Tbl.insert, Tbl.get, Ne.symm h]
  | cons p t ih =>
    obtain ⟨k, x⟩ := p
    simp only [Tbl.insert]
    split
    · simp [Tbl.get, Ne.symm h]
    · split
      · rename_i hk; simp [Tbl.get, Ne.symm h, hk]
      · simp only [Tbl.get]; split
        · rfl
        · exact ih

/-- A read of the key written gives the value written. -/
@[simp] theorem Tbl.get_put_same {α : Type} [DecidableEq α] (d : α) (t : Tbl α) (i : Nat) (v : α) :
    Tbl.get d (Tbl.put d t i v) i = v := by
  unfold Tbl.put
  split
  · rename_i h; rw [Tbl.get_erase_same, h]
  · exact Tbl.get_insert_same d t i v

/-- A read of any other key gives what it gave. -/
theorem Tbl.get_put_other {α : Type} [DecidableEq α] (d : α) (t : Tbl α) {i j : Nat} (v : α) (h : j ≠ i) :
    Tbl.get d (Tbl.put d t i v) j = Tbl.get d t j := by
  unfold Tbl.put
  split
  · exact Tbl.get_erase_other d t h
  · exact Tbl.get_insert_other d t v h

theorem Tbl.mem_insert {α : Type} {t : Tbl α} {i : Nat} {v : α} {p : Nat × α} (h : p ∈ Tbl.insert t i v) :
    p = (i, v) ∨ p ∈ t := by
  induction t with
  | nil => simpa [Tbl.insert] using h
  | cons q t ih =>
    obtain ⟨k, x⟩ := q
    simp only [Tbl.insert] at h
    split at h
    · simpa using h
    · split at h
      · rcases List.mem_cons.1 h with h | h
        · exact Or.inl h
        · exact Or.inr (List.mem_cons_of_mem _ h)
      · rcases List.mem_cons.1 h with h | h
        · exact Or.inr (h ▸ List.mem_cons_self)
        · rcases ih h with h | h
          · exact Or.inl h
          · exact Or.inr (List.mem_cons_of_mem _ h)

theorem Tbl.insert_rising {α : Type} {t : Tbl α} {i : Nat} {v : α} (h : t.Pairwise (fun a b => a.1 < b.1)) :
    (Tbl.insert t i v).Pairwise (fun a b => a.1 < b.1) := by
  induction t with
  | nil => simp [Tbl.insert]
  | cons q t ih =>
    obtain ⟨k, x⟩ := q
    have hq := List.pairwise_cons.1 h
    simp only [Tbl.insert]
    split
    · rename_i hik
      refine List.pairwise_cons.2 ⟨fun p hp => ?_, h⟩
      rcases List.mem_cons.1 hp with rfl | hp
      · exact hik
      · exact Nat.lt_trans hik (hq.1 p hp)
    · split
      · rename_i hk
        exact List.pairwise_cons.2 ⟨fun p hp => by have := hq.1 p hp; simpa [← hk] using this, hq.2⟩
      · rename_i h1 h2
        refine List.pairwise_cons.2 ⟨fun p hp => ?_, ih hq.2⟩
        rcases Tbl.mem_insert hp with rfl | hp
        · show k < i; omega
        · exact hq.1 p hp

/-- Every write keeps a table's canonical form. -/
theorem Tbl.put_canon {α : Type} [DecidableEq α] (d : α) {t : Tbl α} (i : Nat) (v : α) (h : Tbl.canon d t) :
    Tbl.canon d (Tbl.put d t i v) := by
  unfold Tbl.put
  split
  · exact ⟨h.1.filter _, fun p hp => h.2 p (List.mem_of_mem_filter hp)⟩
  · rename_i hv
    refine ⟨Tbl.insert_rising h.1, fun p hp => ?_⟩
    rcases Tbl.mem_insert hp with rfl | hp
    · exact hv
    · exact h.2 p hp

end Sys2Proof

namespace Sys2Proof.Machine

theorem RegFile.get_erase_same (l : RegFile) (r : Reg) : RegFile.get (RegFile.erase l r.offset) r = r.reset := by
  induction l with
  | nil => rfl
  | cons p l ih =>
    obtain ⟨k, v⟩ := p
    by_cases h : k.offset = r.offset
    · simpa [RegFile.erase, h] using ih
    · have : RegFile.erase ((k, v) :: l) r.offset = (k, v) :: RegFile.erase l r.offset := by simp [RegFile.erase, h]
      rw [this]; simp only [RegFile.get, h, if_false]; exact ih

theorem RegFile.get_erase_other (l : RegFile) {r q : Reg} (h : q.offset ≠ r.offset) :
    RegFile.get (RegFile.erase l r.offset) q = RegFile.get l q := by
  induction l with
  | nil => rfl
  | cons p l ih =>
    obtain ⟨k, v⟩ := p
    by_cases hk : k.offset = r.offset
    · have : RegFile.erase ((k, v) :: l) r.offset = RegFile.erase l r.offset := by simp [RegFile.erase, hk]
      rw [this, ih]; simp only [RegFile.get, hk, Ne.symm h, if_false]
    · have : RegFile.erase ((k, v) :: l) r.offset = (k, v) :: RegFile.erase l r.offset := by simp [RegFile.erase, hk]
      rw [this]; simp only [RegFile.get]; split
      · rfl
      · exact ih

/-- A read of the register written gives the value written. -/
@[simp] theorem RegFile.get_put_same (l : RegFile) (r : Reg) (v : BitVec 32) : RegFile.get (RegFile.put l r v) r = v := by
  unfold RegFile.put
  split
  · rename_i h; rw [RegFile.get_erase_same, h]
  · clear * -
    induction l with
    | nil => simp [RegFile.insert, RegFile.get]
    | cons p l ih =>
      obtain ⟨k, x⟩ := p
      simp only [RegFile.insert]
      split
      · simp [RegFile.get]
      · split
        · simp [RegFile.get]
        · rename_i h; simpa [RegFile.get, h] using ih

/-- A read of a register at any other offset gives what it gave. -/
theorem RegFile.get_put_other (l : RegFile) {r q : Reg} (v : BitVec 32) (h : q.offset ≠ r.offset) :
    RegFile.get (RegFile.put l r v) q = RegFile.get l q := by
  unfold RegFile.put
  split
  · exact RegFile.get_erase_other l h
  · induction l with
    | nil => simp [RegFile.insert, RegFile.get, Ne.symm h]
    | cons p l ih =>
      obtain ⟨k, x⟩ := p
      simp only [RegFile.insert]
      split
      · simp [RegFile.get, Ne.symm h]
      · split
        · rename_i hk; simp [RegFile.get, Ne.symm h, hk]
        · simp only [RegFile.get]; split
          · rfl
          · exact ih

theorem RegFile.mem_insert {l : RegFile} {r : Reg} {v : BitVec 32} {p : Reg × BitVec 32} (h : p ∈ RegFile.insert l r v) :
    p = (r, v) ∨ p ∈ l := by
  induction l with
  | nil => simpa [RegFile.insert] using h
  | cons q l ih =>
    obtain ⟨k, x⟩ := q
    simp only [RegFile.insert] at h
    split at h
    · simpa using h
    · split at h
      · rcases List.mem_cons.1 h with h | h
        · exact Or.inl h
        · exact Or.inr (List.mem_cons_of_mem _ h)
      · rcases List.mem_cons.1 h with h | h
        · exact Or.inr (h ▸ List.mem_cons_self)
        · rcases ih h with h | h
          · exact Or.inl h
          · exact Or.inr (List.mem_cons_of_mem _ h)

/-- Every write keeps a register file's canonical form. -/
theorem RegFile.put_canon {l : RegFile} (r : Reg) (v : BitVec 32) (h : l.canon) : (RegFile.put l r v).canon := by
  unfold RegFile.put
  split
  · exact ⟨h.1.filter _, fun p hp => h.2 p (List.mem_of_mem_filter hp)⟩
  · rename_i hv
    refine ⟨?_, fun p hp => ?_⟩
    · have h1 := h.1
      clear h
      induction l with
      | nil => simp [RegFile.insert]
      | cons q l ih =>
        obtain ⟨k, x⟩ := q
        have hq := List.pairwise_cons.1 h1
        simp only [RegFile.insert]
        split
        · rename_i hik
          refine List.pairwise_cons.2 ⟨fun p hp => ?_, h1⟩
          rcases List.mem_cons.1 hp with rfl | hp
          · exact hik
          · exact Nat.lt_trans hik (hq.1 p hp)
        · split
          · rename_i hk
            exact List.pairwise_cons.2 ⟨fun p hp => by have := hq.1 p hp; simpa [← hk] using this, hq.2⟩
          · rename_i h2 h3
            refine List.pairwise_cons.2 ⟨fun p hp => ?_, ih hq.2⟩
            rcases RegFile.mem_insert hp with rfl | hp
            · show k.offset < r.offset; omega
            · exact hq.1 p hp
    · rcases RegFile.mem_insert hp with rfl | hp
      · exact hv
      · exact h.2 p hp

end Sys2Proof.Machine
end

