-- ==== Sys2Proof/WellFormed.lean ====
section
/-! DEFINITION. Sys2Proof/WellFormed.lean: the operands that a command can carry: numbers of rings, yards, lanes, channels and
domains within the module's counts (R4), values within the width that carries them. A command outside these bounds stands for
nothing that can happen at the block's edge; its meaning is total all the same. -/
namespace Sys2Proof

/-- A 32-bit value. -/
def word (v : Nat) : Bool := decide (v < 2 ^ 32)
/-- A register access: width 8, 16, 32 or 64, an offset of BAR0, 16 MiB, or a number that stands for one of BAR4, 64 KiB (R28,
R29), and a value of that width. -/
def accessOk (width off val : Nat) : Bool :=
  (width == 8 || width == 16 || width == 32 || width == 64) && (decide (off < 16777216) || (decide (0x400000000 ≤ off) && decide (off < 0x400010000)))
    && decide (val < 2 ^ width)
/-- A doorbell write: a width of 8 to 64 bits (R29), and a value of that width. -/
def bellOk (width val : Nat) : Bool :=
  (width == 8 || width == 16 || width == 32 || width == 64) && decide (val < 2 ^ width)
/-- A stall index: 16 yards of 16,384 stalls (R4). -/
def isStall (i : Nat) : Bool := decide (i < 262144)
/-- A unit of R485, or 64 + n for lane Ln (R505). -/
def isUnit (k : Nat) : Bool := decide (k < 27) || (decide (64 ≤ k) && decide (k < 608))
/-- A temperature in 0.25 °C that 10 bits of two's complement hold (R503, R529). -/
def quarter (t : Int) : Bool := decide (-512 ≤ t) && decide (t < 512)
/-- The fields of an envelope lie within their widths (R383). -/
def Envelope.ok (e : Envelope) : Bool := decide (e.ctr < 2 ^ 64) && decide (e.op < 256) && decide (e.target < 2 ^ 32)
/-- The fields of a received frame lie within their widths, and its instants follow each other (R71, R128). -/
def AirRx.ok (f : AirRx) : Bool :=
  decide (f.first ≤ f.sfd) && decide (f.sfd ≤ f.last) && decide (f.typ < 8) && decide (f.addr < 2 ^ 32)
    && decide (f.fc < 2 ^ 32) && decide (f.seclvl < 8) && decide (f.sfdSet < 2)
/-- The hold-off timer belongs to P0 or P1 (R238). -/
def ErpsTimerKind.ok : ErpsTimerKind → Bool
  | .guard => true
  | .holdOff port => decide (port < 2)
  | .waitToRestore => true

/-- A link and settings that R27 lists, and BAR addresses aligned to their sizes (R28). -/
def PcieSetup.ok (p : PcieSetup) : Bool :=
  (p.gen == 1 || p.gen == 2 || p.gen == 3) && (p.width == 1 || p.width == 2 || p.width == 4)
    && (p.maxPayload == 128 || p.maxPayload == 256) && (p.maxRead == 128 || p.maxRead == 256 || p.maxRead == 512)
    && p.bar0 % 16777216 == 0 && p.bar2 % 65536 == 0 && p.bar4 % 65536 == 0
/-- A host write that a gate meets is one of BAR0. -/
def GateAccess.ok : GateAccess → Bool
  | .none => true
  | .hostWrite off => decide (off < 16777216)
  | .command _ => true

/-- A command's operands are such as the block can be given. (DESIGN CHOICE, log 9) -/
def Instr.wellFormed (i : Instr) : Bool :=
  match i with
  | .registerWrite _ width off val => accessOk width off val
  | .broadcastWrite _ width off val => accessOk width off val
  | .broadcastRead _ width off => accessOk width off 0
  | .hifSetupDone val => word val
  | .sqTailDoorbell width n val => decide (n < 64) && bellOk width val
  | .cqHeadDoorbell width n val => decide (n < 64) && bellOk width val
  | .eqHeadDoorbell width n val => decide (n < 8) && bellOk width val
  | .hostRxHeadWrite val => word val
  | .descriptorFetch _ => true
  | .nop _ => true
  | .abort _ => true
  | .ringCtlPause _ => true
  | .ringCtlResume _ => true
  | .ringCtlReset _ => true
  | .paramRead _ => true
  | .paramWrite _ => true
  | .queFlush _ => true
  | .resetModule _ => true
  | .sealed _ _ env => env.ok
  | .statusRead _ => true
  | .stallRead _ => true
  | .stallWrite _ _ => true
  | .stallAdmit _ => true
  | .stallRefuse _ => true
  | .stallRevoke _ => true
  | .stallRetire _ => true
  | .stallFree _ => true
  | .paddockRead _ => true
  | .paddockCreate _ _ => true
  | .paddockAdd _ _ => true
  | .paddockRemove _ _ => true
  | .paddockDelete _ => true
  | .scheduleLoad _ _ => true
  | .sceneLoad _ _ => true
  | .sceneCancel _ _ => true
  | .sceneLaunch _ => true
  | .sceneArm scene => decide (scene < 65536)
  | .sceneDiscard scene => decide (scene < 65536)
  | .epochRollQuery _ => true
  | .epochRollStart _ => true
  | .epochRollClose _ => true
  | .rollCloseAfterExpiry => true
  | .reconcileRead _ => true
  | .downlinkSend _ _ => true
  | .groupSend _ _ => true
  | .yardCtlHalt _ _ => true
  | .yardCtlResume _ _ => true
  | .yardCtlWithdraw _ _ => true
  | .yardCtlRestore _ _ => true
  | .yardCtlTxpwr _ _ => true
  | .yardCtlTest _ _ => true
  | .dutyRead _ => true
  | .imageStore _ _ => true
  | .campaignDefine _ _ => true
  | .campaignStart _ => true
  | .campaignPause _ => true
  | .campaignResume _ => true
  | .campaignStop _ => true
  | .campaignDelete _ => true
  | .campaignReadSummary _ => true
  | .campaignReadMap _ => true
  | .frameSend _ _ => true
  | .tsRead _ => true
  | .timeRead _ => true
  | .timeCtlSelect _ _ => true
  | .timeCtlStep _ _ => true
  | .timeCtlSet _ _ => true
  | .timeCtlDisable _ _ => true
  | .timeCtlEnable _ _ => true
  | .driveSet _ _ => true
  | .driveLatch _ _ => true
  | .meterSnapshot _ => true
  | .meterCtlClearEvt _ _ => true
  | .meterCtlSaveNow _ _ _ => true
  | .meterCtlSavePeriod _ _ => true
  | .meterCtlRevHold _ _ => true
  | .meterCtlZero _ _ _ => true
  | .twinCtlRead _ => true
  | .twinCtlHandover _ => true
  | .twinCtlResync _ => true
  | .attestReport _ => true
  | .attestCert _ => true
  | .attestHistory _ => true
  | .updStage _ _ => true
  | .updStageCancel _ => true
  | .updVerify _ _ => true
  | .updActivate _ => true
  | .radioPauseEnd _ _ => true
  | .activationPauseEnd _ => true
  | .updConfirm _ => true
  | .updSessionIdle => true
  | .confirmWindowExpiry => true
  | .evrReadBySeq _ _ => true
  | .evrReadAll _ _ => true
  | .evrReadAnchors _ => true
  | .captureCtlStatus _ => true
  | .captureCtlArm _ => true
  | .captureCtlDisarm _ => true
  | .captureCtlStop _ => true
  | .captureCtlExport _ => true
  | .captureCtlRead _ => true
  | .captureCtlReplayArm _ _ _ => true
  | .ownerEnrol _ => true
  | .ownerRoll _ => true
  | .ownerChange _ => true
  | .presenceOpen _ => true
  | .presenceClose _ => true
  | .debugUnlock _ => true
  | .joinrootLoad _ _ => true
  | .joinrootDelete _ => true
  | .twinPair _ _ => true
  | .tamperClear _ => true
  | .oscClear _ => true
  | .lizardEnter _ => true
  | .envelopeVerified _ => true
  | .udpEnvelopeRx ip port _ _ env => decide (ip < 2 ^ 32) && decide (port < 65536) && env.ok
  | .presenceButton _ => true
  | .presenceSeal _ => true
  | .presenceTimeout => true
  | .presenceCreditExpiry => true
  | .presenceWindowExpiry => true
  | .tamperSample _ _ _ _ => true
  | .pcieFunctionReset _ => true
  | .busMasterEnableChange _ => true
  | .cqCoalesceTimer n => decide (n < 64)
  | .eqMessageInterval n => decide (n < 8)
  | .deadlineExpiry _ => true
  | .launchSlotArm _ => true
  | .launchSlotFire _ => true
  | .frameRx lane group _ => decide (lane < 544) && group.all AirRx.ok
  | .keyCacheFill => true
  | .beaconRxTwin => true
  | .joinReq => true
  | .rejoin => true
  | .joinConfirm => true
  | .poll => true
  | .status => true
  | .fault => true
  | .energy => true
  | .imageReport => true
  | .keyAck => true
  | .doze => true
  | .relay _ => true
  | .ack => true
  | .app => true
  | .ansSend => true
  | .superframeStart y => decide (y < 16)
  | .beaconSkip y => decide (y < 16)
  | .downlinkRun y => decide (y < 16)
  | .timedFrame stall => isStall stall
  | .chainGrant _ _ => true
  | .txFrameEnd chain yard => decide (chain < 8) && decide (yard < 16)
  | .dutySlotTick => true
  | .bistInterval => true
  | .laneTestHandover lane => decide (lane < 544)
  | .bistShadowTimeout lane => decide (lane < 544)
  | .laneTestDone lane cause => decide (lane < 544) && decide (cause < 256)
  | .laneCheckFail lane cause _ => decide (lane < 544) && decide (cause < 256)
  | .laneMove lane => decide (lane < 544)
  | .yrdRegionCustomWrite val => word val
  | .joinTimeout stall => isStall stall
  | .holdAdrift stall => isStall stall
  | .lostAfter stall => isStall stall
  | .refuseLapse eui => decide (eui < 2 ^ 64)
  | .stallPersist => true
  | .faultStormPeriod => true
  | .reconIntervalEnd => true
  | .campaignWindowOpen id => decide (id < 65536)
  | .campaignWindowClose id => decide (id < 65536)
  | .campaignPersist => true
  | .campaignImageReadFail id => decide (id < 65536)
  | .encoderBlockReady => true
  | .portFrameRx p _ => decide (p < 3)
  | .portFrameTx p _ => decide (p < 3)
  | .portLinkDown p => decide (p < 3)
  | .portLinkUp p _ _ => decide (p < 3)
  | .speedSearchTimeout p => decide (p < 3)
  | .addressAgeing => true
  | .rApsRx p msg => decide (p < 2) && decide (msg.vid < 4096) && decide (msg.mel < 8)
  | .erpsTimer t => t.ok
  | .mgmtFrameRx _ => true
  | .creditInit n _ => decide (n < 20)
  | .ptpMessageRx p msg => decide (p < 3) && decide (msg.domNum < 256)
  | .ptpSyncInterval d _ _ => decide (d < 2)
  | .announceReceiptTimeout d => decide (d < 2)
  | .slewStep => true
  | .ppsInEdge _ _ => true
  | .ppsLoss => true
  | .ppsOutPulse => true
  | .tsuTimeLoRead _ => true
  | .tsuPpsinLoRead _ => true
  | .pwmPeriodBoundary ch sample => decide (ch < 48) && decide (sample < 4096)
  | .ntcRead g _ => decide (g < 8)
  | .isnsWindow ch => decide (ch < 48)
  | .drvProbe ch _ => decide (ch < 48)
  | .claimGateClose => true
  | .claimGateOpen => true
  | .meterSample sample => sample.amps.length == 6 && sample.volts.length == 3
  | .pulseCount k => decide (k < 8)
  | .meterSave _ => true
  | .claimBusFrameTx _ => true
  | .claimBusFrameRx frame => decide (frame.claim < 2 ^ 32) && decide (frame.pref < 16) && decide (frame.role < 8)
  | .twinLaneFrameRx frame => decide (frame.claim < 2 ^ 32) && decide (frame.role < 8)
  | .leaseLapse => true
  | .peerAbsent => true
  | .listenTimerEnd => true
  | .reversionHoldoff => true
  | .yieldAfter => true
  | .healthReport _ _ => true
  | .twinBistStep _ => true
  | .mbxPost ch msg => decide (ch < 16) && msg.length == 64
  | .mbxAck ch => decide (ch < 16)
  | .mbxClear ch => decide (ch < 16)
  | .mbxSreset ch => decide (ch < 16)
  | .mbxReopen ch => decide (ch < 16)
  | .mbxHdbMaskWrite val => word val
  | .ping ch => decide (ch < 16)
  | .hostState => true
  | .lizInfo => true
  | .lizBegin _ _ => true
  | .lizData off _ => decide (off < 2 ^ 32)
  | .lizEnd _ => true
  | .lizReset => true
  | .lizErase env _ => env.ok
  | .eventArrival _ => true
  | .evrPagePersist _ => true
  | .journalGateInput input => decide (input.core < 4) && decide (input.kind < 14) && decide (input.payload.length ≤ 2048)
  | .captureTriggerStop => true
  | .clkSourceFail src cause => decide (src < 11) && decide (cause < 4)
  | .clkMonitorWindow src _ _ => decide (src < 5)
  | .clockRestart dom => decide (dom < 11)
  | .sourceJudged src => decide (src < 11)
  | .xoMainStartRetry => true
  | .unitGated k => isUnit k
  | .gateForced k access => isUnit k && access.ok
  | .regionTempRead radio digital memory => quarter radio && quarter digital && quarter memory
  | .powerOn => true
  | .powerLoss _ => true
  | .resetN _ => true
  | .watchdogTimeout silent => silent.all (fun p => decide (p < 11))
  | .moduleStart inp => inp.badLanes.all (fun p => decide (p.1 < 544) && decide (p.2 < 256))
  | .newtPor => true
  | .tcWindow temp vbat => quarter temp && decide (vbat < 65536)
  | .secondCarry => true
  | .rtcTickLoRead _ => true
  | .rtcCalHiWrite val => word val
  | .rtcAlmHiWrite n val => decide (n < 2) && word val
  | .rtcStagedApply => true
  | .twinLaneDown => true
  | .twinLaneUp => true
  | .claimBusSilence => true
  | .ackWindowEnd stall => isStall stall
  | .stallKeyReady stall => isStall stall
  | .shedReset => true
  | .pulseRejected k => decide (k < 8)
  | .hostRxMessageInterval => true
  | .xoLfStopUnpowered => true
  | .perstNRelease => true
  | .pcieLinkUp setup => setup.ok
  | .maintenancePortAttach _ => true
  | .pllRelockTimeout => true

end Sys2Proof
end

