-- ==== Sys2Proof/Tests/Slice0.lean ====
section
/-! SUPPORT. Sys2Proof/Tests/Slice0.lean: tests of the model. An ill-formed command is refused by each check of WellFormed;
for each clause of the statements that has hypotheses, a concrete state and operands meet them all together. -/
set_option maxRecDepth 20000
set_option linter.unusedVariables false
namespace Sys2Proof.Tests
open Sys2Proof Sys2Proof.Machine

/-! ## Small states -/

/-- The module after its start and its set-up. -/
def up : State :=
  let s := ({ State.reset with clk := { State.reset.clk with phase := .run } } : State)
  ((s.setSf .HIF_STATUS F.HIF_STATUS_READY 1).setSf .HIF_SETUP_DONE F.HIF_SETUP_DONE_DONE 1).setSw .YRD_POOL 544
/-- The module after its start, before its set-up. -/
def raw : State := up.setSf .HIF_SETUP_DONE F.HIF_SETUP_DONE_DONE 0
/-- A parameter field of octets. -/
def pb (l : List Nat) : BitVec 256 := BitVec.ofNat 256 (ofLe (l.map (BitVec.ofNat 8)))
/-- Octets. -/
def oct (l : List Nat) : List Byte := l.map (BitVec.ofNat 8)
/-- A descriptor of ring 0, not yet taken up. -/
def dsc (op target : Nat) (param : BitVec 256 := 0) (len : Nat := 0) : Desc :=
  { did := 1, src := .ring 0, op := op, noComp := false, fence := false, launch := false, tag := 7, target := target,
    launchTime := 0, addr := 4096, len := len, deadline := 0, param := param, buf := [], stage := .waiting, at_ := 0, atOut := 0, atNs := 0, postBad := none,
    interim := false, late := false, actTime := none, discard := false, work := 0 }
/-- A state with a descriptor in flight. -/
def fly (s : State) (d : Desc) : State := { s with hif := { s.hif with inflight := s.hif.inflight ++ [d] } }

/-- A state whose submission, completion and event ring 0 have 16 entries each and run. -/
def ringUp : State :=
  let c := [(Reg.HIF_SQ_CFG 0, F.HIF_SQ_CFG_ENABLE, 1), (.HIF_SQ_CFG 0, F.HIF_SQ_CFG_SIZE, 4), (.HIF_CQ_CFG 0, F.HIF_CQ_CFG_ENABLE, 1),
    (.HIF_CQ_CFG 0, F.HIF_CQ_CFG_SIZE, 4), (.HIF_EQ_CFG 0, F.HIF_EQ_CFG_ENABLE, 1), (.HIF_EQ_CFG 0, F.HIF_EQ_CFG_SIZE, 4)]
  (c.foldl (fun (s : State) p => s.setCf p.1 p.2.1 p.2.2) up).setSf (.HIF_SQ_STAT 0) F.HIF_SQ_STAT_STATE 1

/-- A state in whose window a user may change the locks until 9,000. -/
def win (s : State) : State := let t := s.setSec F.SEC_STAT_WINDOW true; { t with shed := { t.shed with windowEnd := 9000 } }
/-- A state with an open presence credit until 9,000. -/
def cred (s : State) : State := let t := s.setSec F.SEC_STAT_CREDIT true; { t with shed := { t.shed with creditEnd := 9000 } }
/-- An activation pause whose radio part has ended. -/
def rest : Pause := { did := 1, start := 0, radioAt := some 0, radioMs := some 1, oldVersion := 6 }
/-- A state in an activation pause. -/
def still (s : State) (p : Pause) : State :=
  let t := s.setSf .HIF_STATUS F.HIF_STATUS_PAUSE 1
  { t with upd := { t.upd with pause := some p } }
/-- A completion of ring 0. -/
def cent : CEnt :=
  { sq := 0, tag := 1, status := 0, detail := 0, trunc := false, data := false, interim := false, xfer := 0, actTime := 0, result := 0
    octets := [], addr := 0, silent := false, bad := none }

/-- A state with a stall in a state of R154, of EUI 9, with key 5. -/
def stl (s : State) (i st : Nat) : State := s.setStall i { Stall.none with eui := 9, state := st, key := 5 }
/-- The module with an owner and a wrapping key. -/
def owned (s : State) : State :=
  { s with
    tack := { s.tack with owner := some { id := 1, gen := 1 }, wk := some 3, epoch := 7 }
    shed := { s.shed with identity := true } }
/-- A loaded scene: its ID, its instant, its launch. -/
def scn (id t : Nat) (launch : Option Nat) (armed : Bool) : Scene :=
  { id := id, t := t, body := [], carrier := 0, repeats := 3, dmask := 0, levels := [], lead := 5, loadDid := none,
    launchDid := launch, armed := armed, delivered := [], left := 0, late := false, yardsOut := 0, latched := 0, latching := 0 }

/-- Yard 0 in service: a beacon entry 0 of channel 10 on lane 0, a receive entry 1 of channel 12 on lane 1, both of mode 0;
its superframe number 4 began at 0. -/
def yardUp : State :=
  let c := [(Reg.YRD_CFG 0, F.YRD_CFG_ENABLE, 1), (.YRD_FE_CFG 0, F.YRD_FE_CFG_ENABLE, 1), (.YRD_FE_CFG 0, F.YRD_FE_CFG_LOW, 863000),
    (.YRD_TX_CFG 0, F.YRD_TX_CFG_ENABLE, 1), (.YRD_PLAN 0 0, F.YRD_PLAN_VALID, 1), (.YRD_PLAN 0 0, F.YRD_PLAN_BEACON, 1),
    (.YRD_PLAN 0 0, F.YRD_PLAN_TX, 1), (.YRD_PLAN 0 0, F.YRD_PLAN_RX, 1), (.YRD_PLAN 0 0, F.YRD_PLAN_CHAN, 10),
    (.YRD_PLAN 0 1, F.YRD_PLAN_VALID, 1), (.YRD_PLAN 0 1, F.YRD_PLAN_RX, 1), (.YRD_PLAN 0 1, F.YRD_PLAN_CHAN, 12)]
  let s := c.foldl (fun (s : State) p => s.setCf p.1 p.2.1 p.2.2) (owned up)
  let t := (((s.setSf (.YRD_STATE 0) F.YRD_STATE_STATE 1).setSf (.YRD_STATE 0) F.YRD_STATE_PLANNED 2).setSf (.YRD_STATE 0)
    F.YRD_STATE_INSERV 2).setSf (.YRD_CAP 0) F.YRD_CAP_CAPACITY 16384
  ((s.plan 0).foldl (fun t e => t.assignLane e.idx rACTIVE 0 e) t).setSeq 0
    { SeqY.reset with n := 4, started := true, dlChan := 10 }

/-- A beacon of yard 0 that asks for its chain. -/
def bcn : TxReq :=
  { id := 3, kind := .beacon, yard := 0, yards := 1, chain := 0, chan := 10, mode := 0, len := 60, latest := some 500000,
    endBy := none, waited := false, heldBy := none, words := 8, queued := true }
/-- A carrier of yard 0. -/
def crr : Carrier :=
  { id := 2, kind := .beacon, yard := 0, chain := 0, chan := 11, mode := 0, start := 0, stop := 900, item := none, on := true }
/-- An answer to stall 9, due at 10,000. -/
def answ : Ans :=
  { id := 1, kind := .answer false, stall := 9, yard := 0, chan := 10, mode := 0, due := 10100, fc := 1, at_ := 0, asked := false }
/-- A message to stall 9. -/
def itm : Item := newItem 9 0x20 .msg [1, 2] 0 true 0

/-- The module with yard 0 in service and stall 9 bound there, as `f` changes it. -/
def node (f : Stall → Stall) : State :=
  yardUp.setStall 9 (f { Stall.none with eui := 9, state := 2, key := 5, epoch := 7, listen := 1, p := 1 })
/-- A frame of stall 9, or of the node of EUI 9. -/
def fr (typ fc : Nat) (body : List Nat) : AirRx :=
  { first := 0, sfd := 100, last := 1000, power := 1, rssi := -400, snr := 10, preamble := 8, sfdSet := 0, coded := false, upBad := none, ms := false, parityOk := true
    len := 30, fcsLen := 4, fcsOk := true, typ := typ, ar := false, pend := false, epoch := 1, ver := 0, addr := 9, fc := fc
    seclvl := if typ = 1 then 6 else 2, body := oct body, key := .current }
/-- The frame as lane 0 recovers it. -/
def rx (typ fc : Nat) (body : List Nat) : Rx :=
  { lane := 0, yard := 0, chan := 10, mode := 0, frame := fr typ fc body, sic := false, via := none, out := 0, words := 8 }
/-- A state with an accepted frame. -/
def heard (s : State) (r : Rx) : State := { s with air := { s.air with accepted := [r] } }

/-- A campaign defined and not started: number 2, of slot 0 and the whole segment. -/
def cmp : Campaign :=
  { id := 2, state := 0, slot := 0, npad := 1, winStart := 0, winEnd := 60, overhead := 20, share := 50, nights := 3,
    descRepeats := 1, t := 64, actT := 0, pads := [0], user := 0, len := 200, plan := [], night := 0, counted := false, winClose := none, status := [],
    yards := [], symbols := 0, steps := 0, blocks := [], place := 0, chg := 0, resumed := false }

/-- An octet string with another inside it, most significant octet first, spells that one's number there. -/
theorem be_mid (a z : List Byte) (n v : Nat) (h : v < 256 ^ n) : beAt (a ++ (le n v).reverse ++ z) a.length n = v := by
  have hl : ∀ n v, (le n v).length = n := by
    intro n; induction n with
    | zero => intro v; rfl
    | succ n ih => intro v; simp [le, ih]
  have hf : ∀ n v, (le n v).foldr (fun x a => 256 * a + x.toNat) 0 = v % 256 ^ n := by
    intro n; induction n with
    | zero => intro v; simp [le, Nat.mod_one]
    | succ n ih =>
      intro v
      have e : (256 : Nat) ^ (n + 1) = 256 * 256 ^ n := by rw [Nat.pow_succ, Nat.mul_comm]
      simp only [le, List.foldr_cons, ih, e, Nat.mod_mul, BitVec.toNat_ofNat]
      omega
  unfold beAt
  rw [List.append_assoc, List.drop_left, List.take_append_of_le_length (by simp [hl]), List.take_of_length_le (by simp [hl]),
    List.foldl_reverse, hf, Nat.mod_eq_of_lt h]
/-- The SHA-256 of an octet string as 32 octets. -/
def sha (b : List Byte) : List Byte := (le 32 (Config.sha256 b).toNat).reverse
/-- An image of one octet with its manifest. -/
def img1 : List Byte := (oct [0x31, 0x4D, 0x49, 0x4E, 1] ++ zeros 23 ++ le 4 1) ++ sha (zeros 1) ++ (zeros 64 ++ zeros 1)
theorem img1_ok : manifestOk img1 129 = true := by
  have h : beAt img1 32 32 = (Config.sha256 (zeros 1)).toNat := be_mid _ _ 32 _ (Config.sha256 (zeros 1)).isLt
  have hd : img1.drop 128 = zeros 1 := by rfl
  unfold manifestOk
  rw [h, hd, beq_self_eq_true, Bool.and_true]
  decide

/-- The module with an image in slot 0 and campaigns. -/
def camps (l : List Campaign) : State :=
  let s := ((up.setCf .FLT_CFG F.FLT_CFG_ENABLE 1).setCf .FLT_CFG F.FLT_CFG_SHARE_MAX 60).setImg 0
    { state := 2, total := 200, data := zeros 7 ++ oct [2] ++ zeros 192 }
  { s with flt := { s.flt with camps := l } }

/-- The fabric on: VLAN 5 with the ports and M, ports 0 and 1 with link, 1 the higher of its classes above the floor. -/
def fab : State :=
  let c := [(Reg.SWX_CFG, F.SWX_CFG_ENABLE, 1), (.SWX_VLAN 0, F.SWX_VLAN_VALID, 1), (.SWX_VLAN 0, F.SWX_VLAN_VID, 5),
    (.SWX_VLAN 0, F.SWX_VLAN_MEMBER, 23), (.SWX_PORT_CFG 0, F.SWX_PORT_CFG_PVID, 5), (.SWX_PORT_CFG 0, F.SWX_PORT_CFG_ENABLE, 1),
    (.SWX_PORT_CFG 2, F.SWX_PORT_CFG_ENABLE, 1), (.SWX_HRX_CFG, F.SWX_HRX_CFG_ENABLE, 1), (.SWX_HRX_CFG, F.SWX_HRX_CFG_SIZE, 4),
    (.SWX_HRX_CFG, F.SWX_HRX_CFG_VECTOR, 3), (.SWX_MAC_M_LO, F.word, 18), (.SWX_MAC_H_LO, F.word, 34), (.SWX_MGMT_IP4, F.word, 77)]
  let s := c.foldl (fun (s : State) p => s.setCf p.1 p.2.1 p.2.2) up
  (s.setSf (.SWX_PORT_STAT 0) F.SWX_PORT_STAT_LINK 1).setSf (.SWX_PORT_STAT 1) F.SWX_PORT_STAT_LINK 1
/-- An Ethernet frame of EtherType `ty`. -/
def eth (dst src ty n : Nat) : List Byte := le 6 dst ++ le 6 src ++ oct [ty / 256, ty] ++ zeros (n - 14)
/-- A queued frame. -/
def egf (data : List Byte) : EgFrame :=
  { fid := 1, cells := 1, shared := false, data := data, vid := 5, did := none, tsreq := false, inPort := none, stampRaw := 0, stampOut := 0, bad := none }
/-- The ring protection on, in PENDING. -/
def erp : State := (({ fab with swx := { fab.swx with erps := { fab.swx.erps with on := true } } } : State).setSf
  .SWX_ERPS_STAT F.SWX_ERPS_STAT_STATE 3).setBlk 0 true

/-- An envelope of an operation, for every module of segment 0. -/
def envl (op ctr : Nat) : Envelope :=
  { wellFormed := true, algOk := true, kid := 1, dest := .segment 0, ctr := ctr, notAfter := none, op := op, target := 0, param := 0
    data := [], launchTime := none, proofOk := true }

/-- A state of the time domains: A in state `a`, B in state `b`. -/
def doms (a b : Nat) : State :=
  ((up.setSf (.TSU_DOM_STAT 0) F.TSU_DOM_STAT_STATE a).setSf (.TSU_DOM_STAT 1) F.TSU_DOM_STAT_STATE b).tsuRefresh
/-- A state in which a domain has a whole Sync, after `n` good ones. -/
def syn (s : State) (d n : Nat) : State := s.setDom d { s.dom d with sync := 2, good := n }
/-- Channel 47 enabled at 12 bits. -/
def chan : State := (up.setCf (.DRV_CH_CFG 47) F.DRV_CH_CFG_ENABLE 1).setSf .DRV_GATE F.DRV_GATE_CLOSED 0
/-- Metering on. -/
def metr : State :=
  (((up.setCf .MTR_CFG F.MTR_CFG_ENABLE 1).setCf (.MTR_PI_CFG 7) F.MTR_PI_CFG_ENABLE 1).setCf (.MTR_PI_WT 7) F.MTR_PI_WT_VALUE 5)
/-- A METER_CTL record. -/
def mctl (act v : Nat) : List Byte := oct [act, 0, 0, 0] ++ le 4 v
/-- A TIME_CTL record. -/
def tctl (act dom : Nat) : List Byte := oct [act, dom] ++ zeros 30

/-- A twin unit of PREF 1 in a role, its lane up and its lease renewed. -/
def twin (role : Nat) : State :=
  let s := (up.setCf .TWN_CFG F.TWN_CFG_ENABLE 1).setCf .TWN_CFG F.TWN_CFG_PREF 1
  let t := (s.setSf .TWN_STAT F.TWN_STAT_ROLE role).setTw F.TWN_STAT_LANE_OK true
  if role = 3 then t.setSw .TWN_CLAIM (claimOf 1 8) else t.setSf .HIF_STATUS F.HIF_STATUS_STANDBY 1
/-- The module with its mailboxes enabled. -/
def mbox : State :=
  let t := (up.setCf .MBX_CFG F.MBX_CFG_ENABLE 4095).setMbx 3 { MbxCh.reset with msgs := [(zeros 64, false)] }
  { t with mbx := { t.mbx with shedRan := true } }

/-- A bundle header: version 7, level 1, 4,096 octets. -/
def hdr : List Byte :=
  le 4 0x42444C31 ++ le 4 7 ++ le 2 1 ++ zeros 2 ++ le 4 4096 ++ zeros 48 ++ ([1, 2, 3, 4, 5].map (fun k => le 1 k ++ zeros 15)).flatten
    ++ zeros 368
/-- A whole bundle of that header, with the DIGEST of what follows it. -/
def bun : List Byte := hdr.take 32 ++ sha (zeros 3584) ++ (hdr.drop 64 ++ zeros 3584)
theorem bun_ok : digestOk bun = true := by
  have h : beAt bun 32 32 = (Config.sha256 (zeros 3584)).toNat := be_mid _ _ 32 _ (Config.sha256 (zeros 3584)).isLt
  have hd : bun.drop 512 = zeros 3584 := by rfl
  unfold digestOk
  rw [h, hd, beq_self_eq_true]
/-- A staging session of ring 0 that has `n` octets. -/
def ses (n : Nat) (last : Bool) : Session :=
  { source := { kind := 1, ring := 0, ip := 0 }, ident := 5, total := 4096, next := n, header := hdr, last := last, idleEnd := 99 }
/-- A state with a session, and its bundle verified. -/
def stag (n : Nat) (last v : Bool) : State :=
  { up with upd := { up.upd with
    session := some (ses n last), verified := v, slotB := some { version := 7, level := 1, headerOk := true, meas := 0, ident := 5 } } }
def okAll : BundleCheck := { vsigOk := true, osigOk := true }
/-- The lizard loader with a host at its port. -/
def lizd : State := { raw with clk := { raw.clk with phase := .lizard, vbus := true } }
/-- A state that reaches host memory. -/
def wired (s : State) : State := ({ s with hif := { s.hif with bme := true } } : State).setSf (.QUE_X_STAT 10) F.QUE_X_STAT_STATE 0
/-- An event record of a severity, of SEQ `n`. -/
def rcd (n sev : Nat) : Rec := { seq := n, rtc := 0, gen := 0, sev := sev, src := 0, code := 0x0F02, args := zeros 16 }
/-- An anchor of generation 0. -/
def anc (seq rtc : Nat) : Anchor := { firstSeq := seq, rtc := rtc, cal := oct [0x99, 0x12, 0x31, 0x23, 0x59, 0x59] }
/-- A state whose log has that anchor. -/
def anchored (seq rtc : Nat) : State := { up with nvlog := { up.nvlog with anchors := [(0, anc seq rtc)] } }
/-- Capture runs. -/
def capt : State := up.setSf .EVR_STAT F.EVR_STAT_CAPTURING 1

/-- The module with every clock source OK. -/
def clkd : State := (List.range 11).foldl (fun (t : State) k => t.setSrc k 1) up
/-- The module as it starts. -/
def strt (src : Nat) : State :=
  (State.reset.setSf .CLK_RESET_CAUSE F.CLK_RESET_CAUSE_SOURCE src).setSrc 0 1
def sinp : StartInput := { slotA := true, slotB := true, saveOk := true, identity := true, shedSig := true, badLanes := [] }
/-- Main power is absent. -/
def dark : State := { up with clk := { up.clk with phase := .off } }

/-- With no field written every ranged field stands at its reset value. -/
theorem in_range_of_nil {s : State} (h : s.cfg = []) : s.inRange := by
  intro r _ f _ _
  right
  simp only [State.cf, h]
  rfl
/-- No mailbox channel of this state holds more than four messages of 64 octets. -/
theorem mbox_four : ∀ n, (mbox.mbx_ n).msgs.length ≤ 4 ∧ ∀ m ∈ (mbox.mbx_ n).msgs, m.1.length = 64 := by
  intro n
  have h : mbox.mbx.chans = [(3, { MbxCh.reset with msgs := [(zeros 64, false)] })] := by rfl
  unfold State.mbx_
  rw [h]
  by_cases e : n = 3
  · subst e; decide
  · have g : Tbl.get MbxCh.reset [(3, { MbxCh.reset with msgs := [(zeros 64, false)] })] n = MbxCh.reset := by
      simp [Tbl.get, Ne.symm e]
    rw [g]; decide
/-- No chain of this state carries anything. -/
theorem chain_idle (c : Nat) : ({ yardUp with air := { yardUp.air with reqs := [bcn] } } : State).chainLoad c ≤ 4 := by
  have h : ({ yardUp with air := { yardUp.air with reqs := [bcn] } } : State).onAir = [] := by rfl
  simp [State.chainLoad, h]

/-- An envelope of the owner for this module passes every check. -/
theorem liz_env : (owned lizd).envCheck { envl 0xCB 3 with target := 1, dest := .device Config.devId.toNat } true = none := by
  have h : (owned lizd).destOk { envl 0xCB 3 with target := 1, dest := .device Config.devId.toNat } = true := by
    simp [State.destOk]
  unfold State.envCheck
  rw [h]
  decide

/-! ## WellFormed: an ill-formed term for each check, which the check refuses -/

/-- Every term of a list is refused. -/
def refused (l : List Instr) : Bool := l.all (fun i => !i.wellFormed)
/-- Every term of a list is accepted. -/
def accepted (l : List Instr) : Bool := l.all Instr.wellFormed

theorem smoke_access : refused [.registerWrite .host 24 0 0, .registerWrite .host 32 16777216 0, .registerWrite .host 8 0 256,
    .broadcastWrite .host 24 0 0, .broadcastWrite .firmware 32 16777216 0, .broadcastWrite .host 16 0 65536,
    .broadcastRead .host 24 0, .broadcastRead .host 64 16777216,
    .registerWrite .host 32 0x400010000 0] = true := by decide
theorem smoke_word : refused [.hifSetupDone 4294967296, .sqTailDoorbell 32 0 4294967296, .cqHeadDoorbell 16 0 65536,
    .eqHeadDoorbell 24 0 0, .hostRxHeadWrite 4294967296, .yrdRegionCustomWrite 4294967296, .mbxHdbMaskWrite 4294967296,
    .rtcCalHiWrite 4294967296, .rtcAlmHiWrite 0 4294967296] = true := by decide
theorem smoke_rings : refused [.sqTailDoorbell 32 64 0, .cqHeadDoorbell 32 64 0, .eqHeadDoorbell 32 8 0, .cqCoalesceTimer 64,
    .eqMessageInterval 8] = true := by decide
theorem smoke_envelopes : refused [.sealed 1 .failed { envl 0xC9 3 with ctr := 2 ^ 64 },
    .sealed 1 .failed { envl 0xC9 3 with op := 256 }, .sealed 1 .failed { envl 0xC9 3 with target := 2 ^ 32 },
    .udpEnvelopeRx (2 ^ 32) 0 0 false (envl 0xC9 3), .udpEnvelopeRx 0 65536 0 false (envl 0xC9 3),
    .udpEnvelopeRx 0 0 0 false (envl 256 3), .lizErase (envl 256 3) true] = true := by decide
theorem smoke_ids : refused [.sceneArm 65536, .sceneDiscard 65536, .campaignWindowOpen 65536, .campaignWindowClose 65536,
    .campaignImageReadFail 65536, .refuseLapse (2 ^ 64)] = true := by decide
theorem smoke_frames : refused [.frameRx 544 [] 0, .frameRx 0 [{ fr 1 0 [] with first := 101 }] 0,
    .frameRx 0 [{ fr 1 0 [] with sfd := 1001 }] 0, .frameRx 0 [{ fr 1 0 [] with typ := 8 }] 0,
    .frameRx 0 [{ fr 1 0 [] with addr := 2 ^ 32 }] 0, .frameRx 0 [{ fr 1 0 [] with fc := 2 ^ 32 }] 0,
    .frameRx 0 [{ fr 1 0 [] with seclvl := 8 }] 0,
    .frameRx 0 [{ fr 1 0 [] with sfdSet := 2 }] 0] = true := by decide
theorem smoke_radio : refused [.superframeStart 16, .beaconSkip 16, .downlinkRun 16, .txFrameEnd 8 0, .txFrameEnd 0 16,
    .laneTestHandover 544, .bistShadowTimeout 544, .laneTestDone 544 0, .laneTestDone 0 256, .laneCheckFail 544 0 true,
    .laneCheckFail 0 256 true, .laneMove 544] = true := by decide
theorem smoke_stalls : refused [.timedFrame 262144, .joinTimeout 262144, .holdAdrift 262144, .lostAfter 262144,
    .ackWindowEnd 262144, .stallKeyReady 262144] = true := by decide
/-- An R-APS message. -/
def raps : Raps := { vid := 1, mel := 7, req := .nr, dnf := false, bpr := false, node := 0 }
theorem smoke_ports : refused [.portFrameRx 3 { data := [], intact := true, hostBad := none }, .portFrameTx 3 none, .portLinkDown 3,
    .portLinkUp 3 true true, .speedSearchTimeout 3, .rApsRx 2 raps, .rApsRx 0 { raps with vid := 4096 }, .rApsRx 0 { raps with mel := 8 },
    .erpsTimer (.holdOff 2), .creditInit 20 true] = true := by decide
/-- A Sync. -/
def ptp : PtpMsg :=
  { udp := true, domNum := 0, kind := .sync true, gm := 0, clockClass := 6, prio1 := 0, prio2 := 0, best := true }
theorem smoke_time : refused [.ptpMessageRx 3 ptp, .ptpMessageRx 0 { ptp with domNum := 256 }, .ptpSyncInterval 2 0 0,
    .announceReceiptTimeout 2] = true := by decide
theorem smoke_field : refused [.pwmPeriodBoundary 48 0, .pwmPeriodBoundary 0 4096, .ntcRead 8 0, .isnsWindow 48, .drvProbe 48 0,
    .meterSample { amps := [], volts := [0, 0, 0] }, .meterSample { amps := List.replicate 6 ⟨0, 0, true⟩, volts := [] },
    .pulseCount 8, .pulseRejected 8] = true := by decide
theorem smoke_twin : refused [.claimBusFrameRx ⟨2 ^ 32, 0, 0, true⟩, .claimBusFrameRx ⟨0, 16, 0, true⟩,
    .claimBusFrameRx ⟨0, 0, 8, true⟩, .twinLaneFrameRx ⟨2 ^ 32, 0, .none⟩, .twinLaneFrameRx ⟨0, 8, .none⟩] = true := by decide
theorem smoke_mailboxes : refused [.mbxPost 16 (zeros 64), .mbxPost 0 (zeros 63), .mbxAck 16, .mbxClear 16, .mbxSreset 16,
    .mbxReopen 16, .ping 16, .lizData (2 ^ 32) [0]] = true := by decide
theorem smoke_gate : refused [.journalGateInput ⟨4, 0, 0, [], true⟩, .journalGateInput ⟨0, 14, 0, [], true⟩] = true := by decide
theorem smoke_clocks : refused [.clkSourceFail 11 0, .clkSourceFail 0 4, .clkMonitorWindow 5 true true, .clockRestart 11,
    .sourceJudged 11, .unitGated 27, .unitGated 63, .unitGated 608, .gateForced 608 .none, .gateForced 0 (.hostWrite 16777216), .regionTempRead 512 0 0,
    .regionTempRead 0 (-513) 0, .regionTempRead 0 0 512] = true := by decide
/-- A link and its settings. -/
def pcie : PcieSetup :=
  { gen := 3, width := 4, maxPayload := 256, maxRead := 512, aspmL1 := false, bar0 := 16777216, bar2 := 65536, bar4 := 131072 }
theorem smoke_links : refused [.pcieLinkUp { pcie with gen := 4 }, .pcieLinkUp { pcie with width := 8 },
    .pcieLinkUp { pcie with maxPayload := 512 }, .pcieLinkUp { pcie with maxRead := 1024 }, .pcieLinkUp { pcie with bar0 := 65536 },
    .pcieLinkUp { pcie with bar2 := 4096 }, .pcieLinkUp { pcie with bar4 := 1 }] = true := by decide
theorem smoke_starts : refused [.watchdogTimeout (some 11), .moduleStart { sinp with badLanes := [(544, 0)] },
    .moduleStart { sinp with badLanes := [(0, 256)] }, .tcWindow 512 0, .tcWindow 0 65536, .rtcAlmHiWrite 2 0] = true := by decide
/-- Operands at the ends of their ranges are accepted. -/
theorem smoke_bounds : accepted [.registerWrite .host 32 16777212 4294967295, .sqTailDoorbell 32 63 4294967295, .eqHeadDoorbell 64 7 0,
    .registerWrite .host 32 0x40000F000 1, .pcieLinkUp pcie, .frameRx 543 [fr 1 0 []] 0, .gateForced 26 (.hostWrite 16777215), .superframeStart 15, .timedFrame 262143, .portLinkUp 2 true false, .erpsTimer (.holdOff 1), .creditInit 19 false,
    .pwmPeriodBoundary 47 4095, .mbxPost 15 (zeros 64), .unitGated 607, .regionTempRead (-512) 511 0, .watchdogTimeout (some 10),
    .moduleStart { sinp with badLanes := [(543, 255)] }, .sealed 1 .failed (envl 255 3)] = true := by decide

/-! ## Worked examples of the manual -/

/-- R309's table: GAMMA at levels 0x2200 and 0x2400, and the second at RES = 12. -/
theorem test_gamma_example : curveGamma 544 = 772 ∧ curveGamma 576 = 876
    ∧ (((up.setCf (.DRV_CH_CFG 0) F.DRV_CH_CFG_CURVE 2).setCf (.DRV_CH_CFG 0) F.DRV_CH_CFG_RES 12).setSf (.DRV_NTC_STAT 0)
      F.DRV_NTC_STAT_FACTOR 256).onTime 0 0x2400 = 55 := by decide
set_option exponentiation.threshold 8000 in
/-- R301: LOG ends at 0 and 65,535. -/
theorem test_log_ends : curveLog 0 = 0 ∧ curveLog 4095 = 65535 := by decide
/-- The compensated module of R516's example: T0 = 25.00 °C, K = 0.0340 ppm/°C², OFF = 2.00 ppm. -/
def cold : State :=
  (((up.setSf .NEWT_TC_CURVE F.NEWT_TC_CURVE_K 340).setSf .NEWT_TC_CURVE F.NEWT_TC_CURVE_T0 2500).setSf .NEWT_TC_OFF
    F.NEWT_TC_OFF_OFF 200).setSf .NEWT_TC_OFF F.NEWT_TC_OFF_VALID 1
/-- R516's example at -5 °C: window 1 gives 14 ticks and leaves 0.9946, window 2 gives 15 and leaves 0.9892. -/
theorem test_compensation_example : (cold.compensate (-20)).newt.adjust = 14
    ∧ (cold.compensate (-20)).newt.residue / 10 ^ 10 = 9946
    ∧ wholeTicks (99463680000000 + cold.correction (-20)) = 15
    ∧ (99463680000000 + cold.correction (-20) - 15 * 10 ^ 14) / 10 ^ 10 = 9892 := by decide
/-- R139's example: a beacon with a PSDU of 71 octets at FSK100 takes 6.64 ms, in TSU ticks. -/
theorem test_airtime_example : (yardUp.setCf (.YRD_PHY 0) F.YRD_PHY_PREAMBLE 8).airT 0 1 71 = 3320000 := by decide
/-- R519, R518: the last second of a February in a leap year and in another, and of a century. -/
theorem test_calendar_carries : Cal.advance ⟨0x28, 0x02, 0x28, 0x23, 0x59, 0x59⟩ = ⟨0x28, 0x02, 0x29, 0, 0, 0⟩
    ∧ Cal.advance ⟨0x27, 0x02, 0x28, 0x23, 0x59, 0x59⟩ = ⟨0x27, 0x03, 0x01, 0, 0, 0⟩
    ∧ Cal.advance ⟨0x99, 0x12, 0x31, 0x23, 0x59, 0x59⟩ = ⟨0x00, 0x01, 0x01, 0, 0, 0⟩ := by decide


theorem witness_IdleStepCountsOneTick_0 : ∃ (s : State), s.pending = [] :=
  ⟨up,
   by decide⟩

theorem witness_CommandsKeepTheQueue_0 : ∃ (c : Instr) (s : State) (t : State), exec c s = .next t :=
  ⟨.perstNRelease, ({ up with pending := [.nop 3] }), _,
   rfl⟩

theorem witness_OnlyNamedCommandsWriteHostFields_0 : ∃ (c : Instr) (s : State) (t : State) (r : Reg) (f : Fld), writesFields c = false ∧ exec c s = .next t :=
  ⟨.perstNRelease, up, _, (.HIF_CQ_COAL 0), F.HIF_CQ_COAL_TIME,
   by decide, rfl⟩

theorem witness_OnlyNamedCommandsWriteHostFields_1 : ∃ (c : Instr) (s : State) (t : State), writesFields c = false ∧ exec c s = .next t :=
  ⟨.perstNRelease, up, _,
   by decide, rfl⟩

theorem witness_LockedFieldsHoldUntilReset_0 : ∃ (c : Instr) (s : State) (t : State), s.done = true ∧ exec c s = .next t :=
  ⟨(.registerWrite .host 32 (Reg.HIF_SQ_CFG 0).offset 1), up, _,
   by decide, rfl⟩

theorem witness_LockedFieldsHoldUntilReset_1 : ∃ (c : Instr) (s : State) (t : State), s.done = false ∧ exec c s = .next t ∧ (∀ w o v : Nat, c ≠ .registerWrite .host w o v ∧ c ≠ .broadcastWrite .host w o v ∧ c ≠ .hifSetupDone v) :=
  ⟨.perstNRelease, raw, _,
   by decide, rfl, (fun _ _ _ => ⟨by simp, by simp, by simp⟩)⟩

theorem witness_RangedFieldsStayInRange_0 : ∃ (s : State) (t : State), s.inRange ∧ step s = .next t :=
  ⟨({ State.reset with pending := [.registerWrite .host 32 (Reg.HIF_CQ_COAL 0).offset 300] }), _,
   (in_range_of_nil rfl), rfl⟩

theorem witness_ConfigurationStaysCanonical_0 : ∃ (s : State) (t : State), s.cfg.canon ∧ step s = .next t :=
  ⟨({ (up.setCf (.HIF_CQ_COAL 0) F.HIF_CQ_COAL_TIME 5) with pending := [.registerWrite .host 32 (Reg.HIF_CQ_COAL 1).offset 300] }), _,
   (by unfold RegFile.canon; decide), rfl⟩

theorem witness_RegisterWriteFollowsAccessTypes_0 : ∃ (s : State) (side : Side) (r : Reg) (f : Field) (w : BitVec 32), r.mapped ∧ f ∈ r.fields ∧ r.ownRow = false ∧ r ≠ .YRD_REGION ∧ r ≠ .SEC_TAMPER_CFG ∧ r ≠ .RTC_CAL_LO ∧ (∀ n, r ≠ .RTC_ALM_LO n) ∧ s.lizardHides side r.offset = false :=
  ⟨up, .host, (.MSIX_DATA 3), ({ span := F.MSIX_DATA_VALUE, acc := .RW, clamp := .none }), 0x12345678#32,
   (by decide : Reg.ofOffset _ = some _), by decide, by decide, by decide, by decide, by decide, (fun _ h => by cases h), by decide⟩

theorem witness_BroadcastAccessesReachTheMembers_0 : ∃ (s : State) (side : Side) (off : Nat) (w : BitVec 32) (f : Fam) (win : BcWin) (o : Nat), off % 4 = 0 ∧ bcWindow off = some (f, win, o) :=
  ⟨up, .host, 0x92010, 3#32, .yards, (.group 0), 16,
   by decide⟩

theorem witness_BroadcastAccessesReachTheMembers_1 : ∃ (s : State) (side : Side) (off : Nat) (f : Fam) (win : BcWin) (o : Nat) (i : Nat) (rest : List Nat), off % 4 = 0 ∧ bcWindow off = some (f, win, o) ∧ s.lizardHides side off = false ∧ s.bcMembers f win = i :: rest :=
  ⟨(up.setCw (.BC_MASK .yards 0 0) 6), .host, 0x92010, .yards, (.group 0), 16, 1, [2],
   by decide⟩

theorem witness_BroadcastAccessesReachTheMembers_2 : ∃ (s : State) (side : Side) (off : Nat) (f : Fam) (win : BcWin) (o : Nat), off % 4 = 0 ∧ bcWindow off = some (f, win, o) ∧ s.bcMembers f win = [] :=
  ⟨up, .firmware, 0x92010, .yards, (.group 0), 16,
   by decide⟩

theorem witness_BroadcastAccessesReachTheMembers_3 : ∃ (i : Nat) (j : Nat) (v : BitVec 32) (w : BitVec 32) (vals : List (Nat × BitVec 32)), i < 544 ∧ j < 544 ∧ w ≠ v ∧ vals.find? (fun p => p.2 != v) = some (j, w) :=
  ⟨0, 543, 1#32, 2#32, ([(1, 1), (543, 2), (2, 3)]),
   by decide⟩

theorem witness_OffsetNamesItsRegister_0 : ∃ (off : Nat) (r : Reg), Reg.ofOffset off = some r :=
  ⟨Reg.HIF_STATUS.offset, .HIF_STATUS,
   by decide⟩

theorem witness_OffsetNamesItsRegister_1 : ∃ (r : Reg) (q : Reg), r.mapped ∧ q.mapped ∧ r.offset = q.offset :=
  ⟨.HIF_STATUS, .HIF_STATUS,
   (by decide : Reg.ofOffset _ = some _), (by decide : Reg.ofOffset _ = some _), by decide⟩

theorem witness_SetupJudgesTheRings_0 : ∃ (s : State) (v : Nat), bit v 0 = true ∧ s.ready = true ∧ s.done = false :=
  ⟨raw, 1,
   by decide⟩

theorem witness_SetupJudgesTheRings_1 : ∃ (s : State) (n : Nat), n < 64 ∧ s.cf (.HIF_SQ_CFG n) F.HIF_SQ_CFG_ENABLE = 1 ∧ s.sqValid n = true :=
  ⟨((((raw.setCf (.HIF_SQ_CFG 63) F.HIF_SQ_CFG_ENABLE 1).setCf (.HIF_SQ_CFG 63) F.HIF_SQ_CFG_SIZE 4).setCf (.HIF_CQ_CFG 0) F.HIF_CQ_CFG_ENABLE 1).setCf (.HIF_CQ_CFG 0) F.HIF_CQ_CFG_SIZE 4 |>.setSf .HIF_SETUP_DONE F.HIF_SETUP_DONE_DONE 1), 63,
   by decide⟩

theorem witness_SetupJudgesTheRings_2 : ∃ (s : State) (n : Nat), n < 64 ∧ s.cf (.HIF_SQ_CFG n) F.HIF_SQ_CFG_ENABLE = 1 ∧ s.sqValid n = false :=
  ⟨((raw.setCf (.HIF_SQ_CFG 0) F.HIF_SQ_CFG_ENABLE 1).setSf .HIF_SETUP_DONE F.HIF_SETUP_DONE_DONE 1), 0,
   by decide⟩

theorem witness_SetupJudgesTheRings_3 : ∃ (s : State) (n : Nat), n < 64 ∧ s.cf (.HIF_SQ_CFG n) F.HIF_SQ_CFG_ENABLE = 1 :=
  ⟨((raw.setCf (.HIF_SQ_CFG 0) F.HIF_SQ_CFG_ENABLE 1).setSf .HIF_SETUP_DONE F.HIF_SETUP_DONE_DONE 1), 0,
   by decide⟩

theorem witness_SetupJudgesTheRings_4 : ∃ (s : State) (n : Nat) (v : Nat), n < 64 ∧ s.done = false ∧ v < 2 ^ 32 :=
  ⟨raw, 63, 4294967295,
   by decide⟩

theorem witness_DoorbellsMoveTheirRings_0 : ∃ (s : State) (n : Nat) (v : Nat), n < 64 ∧ s.done = true ∧ s.paused = false ∧ s.sqState n = 1 ∧ v < 65536 ∧ v < s.sqSize n ∧ s.sqAvail n + (v + s.sqSize n - s.sqTail n) % s.sqSize n ≤ s.sqSize n - 1 :=
  ⟨ringUp, 0, 15,
   by decide⟩

theorem witness_DoorbellsMoveTheirRings_1 : ∃ (s : State) (n : Nat) (v : Nat), n < 64 ∧ s.done = true ∧ s.paused = false ∧ s.sqState n = 1 ∧ v < 65536 ∧ (s.sqSize n ≤ v ∨ s.sqSize n - 1 < s.sqAvail n + (v + s.sqSize n - s.sqTail n) % s.sqSize n) :=
  ⟨ringUp, 0, 16,
   by decide⟩

theorem witness_DoorbellsMoveTheirRings_2 : ∃ (s : State) (n : Nat) (v : Nat), n < 64 ∧ s.done = true ∧ s.paused = false ∧ v < 65536 ∧ v < s.cqSize n ∧ (v + s.cqSize n - Tbl.get 0 s.hif.cqHead n) % s.cqSize n ≤ (s.sf (.HIF_CQ_STAT n) F.HIF_CQ_STAT_TAIL + s.cqSize n - Tbl.get 0 s.hif.cqHead n) % s.cqSize n :=
  ⟨(ringUp.setSf (.HIF_CQ_STAT 0) F.HIF_CQ_STAT_TAIL 3), 0, 3,
   by decide⟩

theorem witness_DoorbellsMoveTheirRings_3 : ∃ (s : State) (n : Nat) (v : Nat), n < 8 ∧ s.done = true ∧ s.paused = false ∧ v < 65536 ∧ v < s.eqSize n ∧ (v + s.eqSize n - Tbl.get 0 s.hif.eqHead n) % s.eqSize n ≤ (s.sf (.HIF_EQ_STAT n) F.HIF_EQ_STAT_TAIL + s.eqSize n - Tbl.get 0 s.hif.eqHead n) % s.eqSize n :=
  ⟨(ringUp.setSf (.HIF_EQ_STAT 0) F.HIF_EQ_STAT_TAIL 3), 0, 3,
   by decide⟩

theorem witness_DoorbellsMoveTheirRings_4 : ∃ (s : State) (n : Nat) (v : Nat), n < 64 ∧ s.done = true ∧ s.paused = false ∧ v < 65536 ∧ (s.cqSize n ≤ v ∨ (s.sf (.HIF_CQ_STAT n) F.HIF_CQ_STAT_TAIL + s.cqSize n - Tbl.get 0 s.hif.cqHead n) % s.cqSize n < (v + s.cqSize n - Tbl.get 0 s.hif.cqHead n) % s.cqSize n) :=
  ⟨ringUp, 0, 16,
   by decide⟩

theorem witness_DoorbellsMoveTheirRings_5 : ∃ (s : State) (n : Nat) (v : Nat), n < 8 ∧ s.done = true ∧ s.paused = false ∧ v < 65536 ∧ (s.eqSize n ≤ v ∨ (s.sf (.HIF_EQ_STAT n) F.HIF_EQ_STAT_TAIL + s.eqSize n - Tbl.get 0 s.hif.eqHead n) % s.eqSize n < (v + s.eqSize n - Tbl.get 0 s.hif.eqHead n) % s.eqSize n) :=
  ⟨ringUp, 0, 16,
   by decide⟩

theorem witness_DoorbellsMoveTheirRings_6 : ∃ (s : State) (w : Nat) (n : Nat) (v : Nat), w ≠ 32 :=
  ⟨ringUp, 16, 0, 3,
   by decide⟩

theorem witness_DescriptorFetchTakesTheEntry_0 : ∃ (s : State) (n : Nat) (most : Nat) (c : Bool) (b : List Byte) (k : Option Nat) (d : Desc), s.nextRead = some (n, most, c) ∧ 1 ≤ most ∧ 1 ≤ s.sqAvail n ∧ b.length = 64 ∧ bit (leAt b 1 1) 0 = Tbl.get true s.hif.sqPhase n ∧ d = parseDesc s.hif.nextDid (.ring n) s.tsu.raw s.outputTime s.nsNow k b ∧ descInvalid (leAt b 1 1) s.outputTime d = false :=
  ⟨(({ ringUp with hif := { ringUp.hif with sqTail := [(0, 1)] } } : State)), 0, 8, false, (oct [0, 1] ++ zeros 62), none, _,
   by decide, by decide, by decide, by decide, by decide, rfl, by decide⟩

theorem witness_DescriptorFetchTakesTheEntry_1 : ∃ (s : State) (n : Nat) (most : Nat) (c : Bool) (b : List Byte), s.nextRead = some (n, most, c) ∧ 1 ≤ most ∧ 1 ≤ s.sqAvail n ∧ b.length = 64 ∧ bit (leAt b 1 1) 0 ≠ Tbl.get true s.hif.sqPhase n :=
  ⟨(({ ringUp with hif := { ringUp.hif with sqTail := [(0, 1)] } } : State)), 0, 8, false, (zeros 64),
   by decide⟩

theorem witness_DescriptorFetchTakesTheEntry_2 : ∃ (s : State) (n : Nat) (most : Nat) (c : Bool), s.nextRead = some (n, most, c) :=
  ⟨(({ ringUp with hif := { ringUp.hif with sqTail := [(0, 1)] } } : State)), 0, 8, false,
   by decide⟩

theorem witness_FinalCompletionIsPosted_0 : ∃ (s : State) (d : Desc) (n : Nat) (a : Answer), d.src = .ring n :=
  ⟨(fly up (dsc 7 0 0 64)), (dsc 7 0 0 64), 0, ({ status := 0, data := [1, 2] }),
   by decide⟩

theorem witness_FinalCompletionIsPosted_1 : ∃ (s : State) (d : Desc) (n : Nat) (st : Nat), d.src = .ring n ∧ d.discard = false ∧ d.noComp = false ∧ d.late = false ∧ st ≠ 0 :=
  ⟨(fly up (dsc 7 0)), (dsc 7 0), 0, 1,
   by decide⟩

theorem witness_FinalCompletionIsPosted_2 : ∃ (s : State) (d : Desc) (n : Nat) (r : Nat), d.src = .ring n ∧ d.discard = false ∧ d.noComp = false :=
  ⟨(fly up (dsc 7 0)), (dsc 7 0), 0, 5,
   by decide⟩

theorem witness_FinalCompletionIsPosted_3 : ∃ (s : State) (d : Desc) (n : Nat) (b : List Byte) (r : Nat), d.src = .ring n ∧ d.discard = false ∧ d.noComp = false ∧ d.late = false ∧ b ≠ [] ∧ d.len ≠ 0 :=
  ⟨(fly up (dsc 7 0 0 64)), (dsc 7 0 0 64), 0, (oct [1]), 5,
   by decide⟩

theorem witness_FinalCompletionIsPosted_4 : ∃ (s : State) (d : Desc) (n : Nat) (r : Nat), d.src = .ring n ∧ d.discard = false ∧ d.noComp = true ∧ d.late = false :=
  ⟨(fly up ({ dsc 7 0 with noComp := true })), ({ dsc 7 0 with noComp := true }), 0, 5,
   by decide⟩

theorem witness_FinalCompletionIsPosted_5 : ∃ (s : State) (e : CEnt), e.silent = false ∧ s.cqWritable (s.cqOf e.sq) = false :=
  ⟨up, cent,
   by decide⟩

theorem witness_FinalCompletionIsPosted_6 : ∃ (s : State) (e : CEnt), e.silent = false ∧ e.bad = none ∧ s.cqWritable (s.cqOf e.sq) = true ∧ s.cqClearOf (s.cqOf e.sq) = true :=
  ⟨ringUp, cent,
   by decide⟩

theorem witness_RingOperationsComplete_0 : ∃ (s : State) (d : Desc), s.serves d 0x00 :=
  ⟨(fly up (dsc 0 0)), (dsc 0 0),
   ⟨by decide, by decide, by decide, by decide⟩⟩

theorem witness_RingOperationsComplete_1 : ∃ (s : State) (d : Desc) (hit : List Desc), s.serves d 0x01 ∧ d.target < 2 ^ 22 ∧ hit = (s.holding d.taken).hif.inflight.filter (fun e => e.did != d.did && d.src != .sealedRing e.did && e.src == .ring (bits d.target 21 16) && e.tag == bits d.target 15 0 && !(s.holding d.taken).hasBegun e && !(s.holding d.taken).firesNow e.did && !(((s.holding d.taken).inner e.did).map (fun i => (s.holding d.taken).firesNow i.did)).getD false) :=
  ⟨(fly (fly up (dsc 1 9)) { dsc 7 0 with did := 2, tag := 9 }), (dsc 1 9), _,
   ⟨by decide, by decide, by decide, by decide⟩, by decide, rfl⟩

theorem witness_RingOperationsComplete_2 : ∃ (s : State) (d : Desc), s.serves d 0x02 ∧ d.pByte 0 = 1 ∧ (s.holding d.taken).ringNamed d.taken = true ∧ ringKind d = 0 ∧ s.sqState (ringNo d) ≠ 3 :=
  ⟨(fly ringUp ({ dsc 2 0 (pb [1]) with src := .ring 1 })), ({ dsc 2 0 (pb [1]) with src := .ring 1 }),
   ⟨by decide, by decide, by decide, by decide⟩, by decide⟩

theorem witness_RingOperationsComplete_3 : ∃ (s : State) (d : Desc), s.serves d 0x02 ∧ d.pByte 0 = 2 ∧ (s.holding d.taken).ringNamed d.taken = true ∧ ringKind d = 0 ∧ s.sqState (ringNo d) ≠ 3 :=
  ⟨(fly ringUp ({ dsc 2 0 (pb [2]) with src := .ring 1 })), ({ dsc 2 0 (pb [2]) with src := .ring 1 }),
   ⟨by decide, by decide, by decide, by decide⟩, by decide⟩

theorem witness_RingOperationsComplete_4 : ∃ (s : State) (d : Desc), s.serves d 0x02 ∧ d.pByte 0 = 3 ∧ (s.holding d.taken).ringNamed d.taken = true ∧ ringKind d = 0 ∧ s.sqState (ringNo d) ≠ 3 :=
  ⟨(fly ringUp ({ dsc 2 0 (pb [3]) with src := .ring 1 })), ({ dsc 2 0 (pb [3]) with src := .ring 1 }),
   ⟨by decide, by decide, by decide, by decide⟩, by decide⟩

theorem witness_RingOperationsComplete_5 : ∃ (s : State) (d : Desc), s.serves d 0x02 ∧ d.pByte 0 = 3 ∧ (s.holding d.taken).ringNamed d.taken = true ∧ ringKind d = 2 ∧ s.eqUp (ringNo d) = true :=
  ⟨(fly ringUp ({ dsc 2 0x200 (pb [3]) with src := .ring 1 })), ({ dsc 2 0x200 (pb [3]) with src := .ring 1 }),
   ⟨by decide, by decide, by decide, by decide⟩, by decide⟩

theorem witness_RingOperationsComplete_6 : ∃ (s : State) (d : Desc), s.serves d 0x02 ∧ d.pByte 0 = 3 ∧ (s.holding d.taken).ringNamed d.taken = true ∧ ringKind d = 1 ∧ s.cqUp (ringNo d) = true ∧ (∀ k, k < 64 → s.cqOf k = ringNo d → s.sqState k ≠ 1) :=
  ⟨(fly (ringUp.setSf (.HIF_SQ_STAT 0) F.HIF_SQ_STAT_STATE 3) ({ dsc 2 0x100 (pb [3]) with src := .ring 1 })), ({ dsc 2 0x100 (pb [3]) with src := .ring 1 }),
   ⟨by decide, by decide, by decide, by decide⟩, by decide⟩

theorem witness_RingOperationsComplete_7 : ∃ (s : State) (d : Desc) (b : List Byte), s.serves d 0x07 ∧ d.len ≠ 0 ∧ (s.holding d.taken).statusData d.target = some b :=
  ⟨(fly up (dsc 7 0x05000000 0 64)), (dsc 7 0x05000000 0 64), _,
   ⟨by decide, by decide, by decide, by decide⟩, by decide, rfl⟩

theorem witness_RingOperationsComplete_8 : ∃ (s : State) (d : Desc), s.serves d 0x05 ∧ d.target = 0 ∧ d.param = 0#256 ∧ s.postsNow d = true :=
  ⟨(fly ringUp (dsc 5 0)), (dsc 5 0),
   ⟨by decide, by decide, by decide, by decide⟩, by decide⟩

theorem witness_RefusedOperationsComplete_0 : ∃ (s : State) (d : Desc), s.desc? d.did = some d ∧ s.starts d = true ∧ s.replaying = true ∧ d.op = 0x00 :=
  ⟨(fly (up.setSf .EVR_STAT F.EVR_STAT_REPLAYING 1) (dsc 0 0)), (dsc 0 0),
   by decide⟩

theorem witness_RefusedOperationsComplete_1 : ∃ (s : State) (d : Desc), s.desc? d.did = some d ∧ s.starts d = true ∧ s.replaying = true ∧ d.op = 0x01 :=
  ⟨(fly (up.setSf .EVR_STAT F.EVR_STAT_REPLAYING 1) (dsc 1 0)), (dsc 1 0),
   by decide⟩

theorem witness_RefusedOperationsComplete_2 : ∃ (s : State) (d : Desc), s.desc? d.did = some d ∧ s.starts d = true ∧ s.replaying = false ∧ s.standby = true ∧ d.op = 0x12 ∧ d.pByte 8 = 0 :=
  ⟨(fly (up.setSf .HIF_STATUS F.HIF_STATUS_STANDBY 1) (dsc 0x12 0)), (dsc 0x12 0),
   by decide⟩

theorem witness_RefusedOperationsComplete_3 : ∃ (s : State) (d : Desc), s.desc? d.did = some d ∧ s.starts d = true ∧ s.replaying = false ∧ s.standby = true ∧ d.op = 0x13 ∧ d.pByte 0 = 0 :=
  ⟨(fly (up.setSf .HIF_STATUS F.HIF_STATUS_STANDBY 1) (dsc 0x13 0)), (dsc 0x13 0),
   by decide⟩

theorem witness_RefusedOperationsComplete_4 : ∃ (s : State) (d : Desc) (n : Nat), d.src = .ring n ∧ d.len ≠ 0 ∧ s.hostUp = true ∧ s.serves d 0x11 :=
  ⟨(fly up (dsc 0x11 0 0 128)), (dsc 0x11 0 0 128), 0,
   by decide, by decide, by decide, ⟨by decide, by decide, by decide, by decide⟩⟩

theorem witness_RefusedOperationsComplete_5 : ∃ (s : State) (d : Desc) (n : Nat), d.src = .ring n ∧ d.len ≠ 0 ∧ s.hostUp = true ∧ s.serves d 0x17 :=
  ⟨(fly up (dsc 0x17 0 0 13)), (dsc 0x17 0 0 13), 0,
   by decide, by decide, by decide, ⟨by decide, by decide, by decide, by decide⟩⟩

theorem witness_RefusedOperationsComplete_6 : ∃ (s : State) (d : Desc), s.serves d 0x01 ∧ 2 ^ 22 ≤ d.target :=
  ⟨(fly up (dsc 1 4194304)), (dsc 1 4194304),
   ⟨by decide, by decide, by decide, by decide⟩, by decide⟩

theorem witness_RefusedOperationsComplete_7 : ∃ (s : State) (d : Desc), s.serves d 0x07 ∧ d.len = 0 :=
  ⟨(fly up (dsc 7 0)), (dsc 7 0),
   ⟨by decide, by decide, by decide, by decide⟩, by decide⟩

theorem witness_RefusedOperationsComplete_8 : ∃ (s : State) (d : Desc), s.serves d 0x02 ∧ d.pByte 0 = 1 ∧ s.sqState (ringNo d) = 3 :=
  ⟨(fly (ringUp.setSf (.HIF_SQ_STAT 0) F.HIF_SQ_STAT_STATE 3) ({ dsc 2 0 (pb [1]) with src := .ring 1 })), ({ dsc 2 0 (pb [1]) with src := .ring 1 }),
   ⟨by decide, by decide, by decide, by decide⟩, by decide⟩

theorem witness_RingTimersAndMessages_0 : ∃ (s : State) (n : Nat), n < 64 ∧ Tbl.get 0 s.hif.cqUnsig n ≠ 0 ∧ s.cf (.HIF_CQ_COAL n) F.HIF_CQ_COAL_TIME ≠ 0 :=
  ⟨((({ ringUp with hif := { ringUp.hif with cqUnsig := [(0, 1)], cqFirst := [(0, 10)] } } : State)).setCf (.HIF_CQ_COAL 0) F.HIF_CQ_COAL_TIME 20), 0,
   by decide⟩

theorem witness_RingTimersAndMessages_1 : ∃ (s : State) (n : Nat), n < 8 ∧ Tbl.get 0 s.hif.eqIvl n ≠ 0 ∧ Tbl.get 0 s.hif.eqIvl n < 2 ^ 64 :=
  ⟨({ ringUp with hif := { ringUp.hif with eqIvl := [(7, 25000)] } }), 7,
   by decide⟩

theorem witness_RingTimersAndMessages_2 : ∃ (s : State) (d : Desc), s.desc? d.did = some d ∧ d.deadline ≠ 0 ∧ s.hasBegun d = false :=
  ⟨(fly up ({ dsc 7 0 with deadline := 1000 })), ({ dsc 7 0 with deadline := 1000 }),
   by decide⟩

theorem witness_RingTimersAndMessages_3 : ∃ (s : State) (p : PcieSetup), s.hif.perst = true ∧ s.clk.phase ≠ Phase.off ∧ s.sf .CLK_SRC_STAT ⟨9, 8⟩ < 2 :=
  ⟨({ up with hif := { up.hif with perst := true } }), ({ gen := 3, width := 4, maxPayload := 128, maxRead := 512, aspmL1 := false, bar0 := 16777216, bar2 := 131072, bar4 := 0 }),
   by decide⟩

theorem witness_StallAndPaddockTablesFollowTheirCommands_0 : ∃ (s : State) (d : Desc) (hits : List Nat), s.serves d 0x10 ∧ d.len ≠ 0 ∧ d.target < nStalls ∧ 1 ≤ d.pNum 0 4 ∧ d.pNum 0 4 ≤ 131072 ∧ d.pByte 4 < 128 ∧ d.pZero 5 32 = true ∧ hits = ((List.range (min (d.target + d.pNum 0 4) nStalls - d.target)).map (fun k => d.target + k)).filter (fun i => d.pByte 4 == 0 || bit (d.pByte 4) (s.stall i).state) :=
  ⟨(fly (stl up 262143 2) (dsc 0x10 262142 (pb [4, 0, 0, 0, 4]) 128)), (dsc 0x10 262142 (pb [4, 0, 0, 0, 4]) 128), _,
   ⟨by decide, by decide, by decide, by decide⟩, by decide, by decide, by decide, by decide, by decide, of_decide_eq_true rfl, rfl⟩

theorem witness_StallAndPaddockTablesFollowTheirCommands_1 : ∃ (s : State) (d : Desc) (e : Desc) (read : HostRead), s.serves d 0x11 ∧ d.seen s read = some e ∧ e.len = 128 ∧ e.target < nStalls ∧ e.pByte 0 < 8 ∧ e.pZero 1 32 = true ∧ (s.stall e.target).free = false ∧ (s.stall e.target).state ≠ sRETIRED ∧ (bit (e.pByte 0) 0 = true → s.padsOk e.buf = true) ∧ (bit (e.pByte 0) 1 = true → s.schedOk (leAt e.buf 68 2) = true) :=
  ⟨(fly (stl up 262143 2) (dsc 0x11 262143 (pb [7]) 128)), (dsc 0x11 262143 (pb [7]) 128), ((dsc 0x11 262143 (pb [7]) 128).filled (zeros 68 ++ oct [255, 255] ++ zeros 50 ++ oct [9])), (.ok (zeros 68 ++ oct [255, 255] ++ zeros 50 ++ oct [9])),
   ⟨by decide, by decide, by decide, by decide⟩, by decide⟩

theorem witness_StallAndPaddockTablesFollowTheirCommands_2 : ∃ (s : State) (d : Desc), s.serves d 0x14 ∧ d.len ≠ 0 ∧ d.target < 4096 ∧ 1 ≤ d.pNum 0 2 ∧ d.pNum 0 2 ≤ 4096 ∧ d.pZero 2 32 = true :=
  ⟨(fly up (dsc 0x14 4095 (pb [2]) 64)), (dsc 0x14 4095 (pb [2]) 64),
   ⟨by decide, by decide, by decide, by decide⟩, by decide⟩

theorem witness_StallAndPaddockTablesFollowTheirCommands_3 : ∃ (s : State) (d : Desc) (e : Desc) (read : HostRead), s.serves d 0x15 ∧ d.seen s read = some e ∧ e.target < 4096 ∧ e.pByte 0 = 0 ∧ e.pZero 1 32 = true ∧ e.len = 64 ∧ s.schedOk (leAt e.buf 10 2) = true ∧ (s.padValid e.target = true ∨ (s.keyed = true ∧ s.shed.down = false)) :=
  ⟨(fly (owned up) (dsc 0x15 4095 0 64)), (dsc 0x15 4095 0 64), ((dsc 0x15 4095 0 64).filled (zeros 10 ++ oct [255, 255])), (.ok (zeros 10 ++ oct [255, 255])),
   ⟨by decide, by decide, by decide, by decide⟩, by decide⟩

theorem witness_StallAndPaddockTablesFollowTheirCommands_4 : ∃ (s : State) (d : Desc) (e : Desc) (read : HostRead) (t : State) (n : Nat), s.serves d 0x15 ∧ d.seen s read = some e ∧ e.target < 4096 ∧ e.target ≠ 0 ∧ e.pByte 0 = 1 ∧ e.pZero 1 32 = true ∧ listOk e = true ∧ s.padValid e.target = true ∧ (s.holding e).runList (addPad e.target) 0 0 (stallList e.buf) = .ok (t, n) :=
  ⟨(fly ((stl up 9 2).modPad 4095 (fun p => { p with valid := true, key := 4 })) (dsc 0x15 4095 (pb [1]) 4)), (dsc 0x15 4095 (pb [1]) 4), ((dsc 0x15 4095 (pb [1]) 4).filled (oct [9])), (.ok (oct [9])), _, 1,
   ⟨by decide, by decide, by decide, by decide⟩, by decide, by decide, by decide, by decide, by decide, of_decide_eq_true rfl, by decide, rfl⟩

theorem witness_StallAndPaddockTablesFollowTheirCommands_5 : ∃ (s : State) (d : Desc) (e : Desc) (read : HostRead) (k : Nat), s.serves d 0x15 ∧ d.seen s read = some e ∧ e.target < 4096 ∧ e.target ≠ 0 ∧ e.pByte 0 = 1 ∧ e.pZero 1 32 = true ∧ listOk e = true ∧ s.padValid e.target = true ∧ (s.holding e).runList (addPad e.target) 0 0 (stallList e.buf) = .error k :=
  ⟨(fly ((stl up 9 2).modPad 4095 (fun p => { p with valid := true, key := 4 })) (dsc 0x15 4095 (pb [1]) 8)), (dsc 0x15 4095 (pb [1]) 8), ((dsc 0x15 4095 (pb [1]) 8).filled (oct [9, 0, 0, 0, 8])), (.ok (oct [9, 0, 0, 0, 8])), 1,
   ⟨by decide, by decide, by decide, by decide⟩, by decide⟩

theorem witness_StallAndPaddockTablesFollowTheirCommands_6 : ∃ (s : State) (d : Desc) (e : Desc) (read : HostRead) (t : State) (n : Nat), s.serves d 0x15 ∧ d.seen s read = some e ∧ e.target < 4096 ∧ e.target ≠ 0 ∧ e.pByte 0 = 2 ∧ e.pZero 1 32 = true ∧ listOk e = true ∧ (s.holding e).runList (removePad e.target) 0 0 (stallList e.buf) = .ok (t, n) :=
  ⟨(fly ((stl up 9 2).modStall 9 (fun x => { x with pads := (some 4095) :: x.pads.tail })) (dsc 0x15 4095 (pb [2]) 4)), (dsc 0x15 4095 (pb [2]) 4), ((dsc 0x15 4095 (pb [2]) 4).filled (oct [9])), (.ok (oct [9])), _, 1,
   ⟨by decide, by decide, by decide, by decide⟩, by decide, by decide, by decide, by decide, by decide, of_decide_eq_true rfl, rfl⟩

theorem witness_StallAndPaddockTablesFollowTheirCommands_7 : ∃ (s : State) (d : Desc) (e : Desc) (read : HostRead) (k : Nat), s.serves d 0x15 ∧ d.seen s read = some e ∧ e.target < 4096 ∧ e.target ≠ 0 ∧ e.pByte 0 = 2 ∧ e.pZero 1 32 = true ∧ listOk e = true ∧ (s.holding e).runList (removePad e.target) 0 0 (stallList e.buf) = .error k :=
  ⟨(fly (stl up 9 2) (dsc 0x15 4095 (pb [2]) 4)), (dsc 0x15 4095 (pb [2]) 4), ((dsc 0x15 4095 (pb [2]) 4).filled (oct [9])), (.ok (oct [9])), 0,
   ⟨by decide, by decide, by decide, by decide⟩, by decide⟩

theorem witness_StallAndPaddockTablesFollowTheirCommands_8 : ∃ (s : State) (d : Desc), s.serves d 0x15 ∧ d.pByte 0 = 3 ∧ d.target < 4096 ∧ d.target ≠ 0 ∧ d.len = 0 ∧ d.pZero 1 32 = true ∧ s.padValid d.target = true ∧ s.padNamed d.target = false :=
  ⟨(fly ((stl up 9 2).modPad 4095 (fun p => { p with valid := true, key := 4 })) (dsc 0x15 4095 (pb [3]))), (dsc 0x15 4095 (pb [3])),
   ⟨by decide, by decide, by decide, by decide⟩, by decide⟩

theorem witness_AdmissionListFollowsItsCommands_0 : ∃ (s : State) (d : Desc) (refuse : Bool), s.serves d 0x12 ∧ d.target < 65536 ∧ d.pByte 8 = b2n refuse ∧ d.pZero 9 32 = true ∧ (s.seg.stalls.any (fun q => q.2.eui == d.pNum 0 8 && q.2.state != sUNBOUND)) = false ∧ ((s.admitOf (d.pNum 0 8)).isSome = true ∨ s.seg.admits.length < 4096) :=
  ⟨(fly { up with seg := { up.seg with admits := [{ eui := 8, refuse := false, mask := 1, tick := 0, joinFc := 0 }] } } (dsc 0x12 0 (pb [8, 0, 0, 0, 0, 0, 0, 0, 1]))), (dsc 0x12 0 (pb [8, 0, 0, 0, 0, 0, 0, 0, 1])), true,
   ⟨by decide, by decide, by decide, by decide⟩, by decide⟩

theorem witness_AdmissionListFollowsItsCommands_1 : ∃ (s : State) (d : Desc), s.serves d 0x12 ∧ d.target < 65536 ∧ d.pByte 8 ≤ 1 ∧ d.pZero 9 32 = true ∧ s.admitOf (d.pNum 0 8) = none ∧ 4096 ≤ s.seg.admits.length :=
  ⟨(fly { up with seg := { up.seg with admits := List.replicate 4096 { eui := 7, refuse := false, mask := 1, tick := 0, joinFc := 0 } } } (dsc 0x12 0 (pb [8, 0, 0, 0, 0, 0, 0, 0, 1]))), (dsc 0x12 0 (pb [8, 0, 0, 0, 0, 0, 0, 0, 1])),
   ⟨by decide, by decide, by decide, by decide⟩, by decide⟩

theorem witness_AdmissionListFollowsItsCommands_2 : ∃ (s : State) (d : Desc), s.serves d 0x12 ∧ d.target < 65536 ∧ d.pByte 8 = 2 ∧ d.pZero 9 32 = true ∧ (s.seg.stalls.any (fun q => q.2.eui == d.pNum 0 8 && q.2.state != sUNBOUND)) = true :=
  ⟨(fly (stl up 3 1) (dsc 0x12 0 (pb [9, 0, 0, 0, 0, 0, 0, 0, 2]))), (dsc 0x12 0 (pb [9, 0, 0, 0, 0, 0, 0, 0, 2])),
   ⟨by decide, by decide, by decide, by decide⟩, by decide⟩

theorem witness_AdmissionListFollowsItsCommands_3 : ∃ (s : State) (d : Desc), s.serves d 0x12 ∧ d.target < 65536 ∧ d.pByte 8 = 2 ∧ d.pZero 9 32 = true ∧ (s.seg.stalls.any (fun q => q.2.eui == d.pNum 0 8 && q.2.state != sUNBOUND)) = false ∧ s.admitOf (d.pNum 0 8) = none :=
  ⟨(fly up (dsc 0x12 0 (pb [9, 0, 0, 0, 0, 0, 0, 0, 2]))), (dsc 0x12 0 (pb [9, 0, 0, 0, 0, 0, 0, 0, 2])),
   ⟨by decide, by decide, by decide, by decide⟩, by decide⟩

theorem witness_AdmissionListFollowsItsCommands_4 : ∃ (s : State) (d : Desc), s.serves d 0x12 ∧ d.target < 65536 ∧ d.pByte 8 = 2 ∧ d.pZero 9 32 = true ∧ (s.seg.stalls.any (fun q => q.2.eui == d.pNum 0 8 && q.2.state != sUNBOUND)) = false ∧ (s.admitOf (d.pNum 0 8)).isSome = true :=
  ⟨(fly { up with seg := { up.seg with admits := [{ eui := 8, refuse := false, mask := 1, tick := 0, joinFc := 0 }] } } (dsc 0x12 0 (pb [8, 0, 0, 0, 0, 0, 0, 0, 2]))), (dsc 0x12 0 (pb [8, 0, 0, 0, 0, 0, 0, 0, 2])),
   ⟨by decide, by decide, by decide, by decide⟩, by decide⟩

theorem witness_AdmissionListFollowsItsCommands_5 : ∃ (s : State) (eui : Nat) (a : Admit), s.admitOf eui = some a ∧ a.refuse = true :=
  ⟨({ up with seg := { up.seg with admits := [{ eui := 8, refuse := true, mask := 1, tick := 0, joinFc := 0 }] } }), 8, ({ eui := 8, refuse := true, mask := 1, tick := 0, joinFc := 0 }),
   by decide⟩

theorem witness_AdmissionListFollowsItsCommands_6 : ∃ (s : State) (eui : Nat) (a : Admit), s.admitOf eui = some a ∧ a.refuse = false :=
  ⟨({ up with seg := { up.seg with admits := [{ eui := 8, refuse := false, mask := 1, tick := 0, joinFc := 0 }] } }), 8, ({ eui := 8, refuse := false, mask := 1, tick := 0, joinFc := 0 }),
   by decide⟩

theorem witness_RetiringEndsAStall_0 : ∃ (s : State) (d : Desc), s.serves d 0x13 ∧ d.target < nStalls ∧ d.pByte 0 = 0 ∧ d.pZero 1 32 = true ∧ (s.stall d.target).live = true :=
  ⟨(fly ({ (stl up 262143 2) with air := { up.air with cache := [{ kind := 0, id := 9, handle := 5 }] } } : State) (dsc 0x13 262143)), (dsc 0x13 262143),
   ⟨by decide, by decide, by decide, by decide⟩, by decide⟩

theorem witness_RetiringEndsAStall_1 : ∃ (s : State) (d : Desc), s.serves d 0x13 ∧ d.target < nStalls ∧ d.pByte 0 = 1 ∧ d.pZero 1 32 = true ∧ (s.stall d.target).state = sRETIRED :=
  ⟨(fly (stl up 262143 6) (dsc 0x13 262143 (pb [1]))), (dsc 0x13 262143 (pb [1])),
   ⟨by decide, by decide, by decide, by decide⟩, by decide⟩

theorem witness_RetiringEndsAStall_2 : ∃ (s : State) (d : Desc), s.serves d 0x13 ∧ d.target < nStalls ∧ d.pByte 0 = 1 ∧ d.pZero 1 32 = true ∧ (s.stall d.target).state ≠ sRETIRED :=
  ⟨(fly (stl up 262143 2) (dsc 0x13 262143 (pb [1]))), (dsc 0x13 262143 (pb [1])),
   ⟨by decide, by decide, by decide, by decide⟩, by decide⟩

theorem witness_MessagesAndSchedulesAreQueued_0 : ∃ (s : State) (d : Desc) (e : Desc) (read : HostRead), s.serves d 0x20 ∧ d.seen s read = some e ∧ e.pByte 1 ≤ 2 ∧ e.pByte 2 ≤ 1 ∧ e.pZero 3 32 = true ∧ e.target / 2 ^ 18 = s.segid ∧ (s.stall (e.target % 2 ^ 18)).state ∈ [sACTIVE, sDOZING, sADRIFT] ∧ bodyOk (e.pByte 0) e.buf = true ∧ (e.pByte 1 = 2 → s.timedFits (e.target % 2 ^ 18) (1 + e.len) = true) ∧ s.qcount (e.target % 2 ^ 18) < 8 ∧ (s.seg.items.filter (fun t => t.kind == .msg)).length < 65536 ∧ (e.launch = true → (s.holding e).pend < 4096) :=
  ⟨(fly (stl up 9 4) (dsc 0x20 9 (pb [1]) 7)), (dsc 0x20 9 (pb [1]) 7), ((dsc 0x20 9 (pb [1]) 7).filled (zeros 7)), (.ok (zeros 7)),
   ⟨by decide, by decide, by decide, by decide⟩, by decide⟩

theorem witness_MessagesAndSchedulesAreQueued_1 : ∃ (s : State) (d : Desc) (e : Desc) (read : HostRead) (ys : List Nat), s.serves d 0x21 ∧ d.seen s read = some e ∧ e.target < 4096 ∧ e.pZero 4 32 = true ∧ 1 ≤ e.pByte 1 ∧ e.pByte 1 ≤ 8 ∧ bodyOk (e.pByte 0) e.buf = true ∧ s.padValid e.target = true ∧ (e.launch = true → (s.holding e).pend < 4096) ∧ ys = (s.padYards e.target).filter (fun y => e.pNum 2 2 == 0 || bit (e.pNum 2 2) y) ∧ ys ≠ [] :=
  ⟨(fly (stl up 9 2) (dsc 0x21 0 (pb [1, 8]) 7)), (dsc 0x21 0 (pb [1, 8]) 7), ((dsc 0x21 0 (pb [1, 8]) 7).filled (zeros 7)), (.ok (zeros 7)), _,
   ⟨by decide, by decide, by decide, by decide⟩, by decide, by decide, by decide, by decide, by decide, of_decide_eq_true rfl, by decide, by decide, rfl, by decide⟩

theorem witness_MessagesAndSchedulesAreQueued_2 : ∃ (s : State) (d : Desc) (e : Desc) (read : HostRead) (ys : List Nat), s.serves d 0x21 ∧ d.seen s read = some e ∧ e.target < 4096 ∧ e.pZero 4 32 = true ∧ 1 ≤ e.pByte 1 ∧ e.pByte 1 ≤ 8 ∧ bodyOk (e.pByte 0) e.buf = true ∧ s.padValid e.target = true ∧ (e.launch = true → (s.holding e).pend < 4096) ∧ ys = (s.padYards e.target).filter (fun y => e.pNum 2 2 == 0 || bit (e.pNum 2 2) y) ∧ ys = [] :=
  ⟨(fly up (dsc 0x21 0 (pb [1, 8]) 7)), (dsc 0x21 0 (pb [1, 8]) 7), ((dsc 0x21 0 (pb [1, 8]) 7).filled (zeros 7)), (.ok (zeros 7)), _,
   ⟨by decide, by decide, by decide, by decide⟩, by decide, by decide, by decide, by decide, by decide, of_decide_eq_true rfl, by decide, by decide, rfl, rfl⟩

theorem witness_MessagesAndSchedulesAreQueued_3 : ∃ (s : State) (s1 : State) (d : Desc) (e : Desc) (read : HostRead), s.serves d 0x16 ∧ d.seen s read = some e ∧ e.target < 65536 ∧ e.pZero 0 32 = true ∧ bodyOk 0x02 e.buf = true ∧ leAt e.buf 0 2 = e.target ∧ ((s.schedule e.target).isSome = true ∨ s.seg.scheds.length < 1024) ∧ s1 = { s.holding e with seg := { s.seg with scheds := (e.target, e.buf) :: s.seg.scheds.filter (fun p => p.1 != e.target) } }.beginDesc d.did :=
  ⟨(fly (stl up 9 2) (dsc 0x16 65535 0 8)), _, (dsc 0x16 65535 0 8), ((dsc 0x16 65535 0 8).filled (oct [255, 255, 1])), (.ok (oct [255, 255, 1])),
   ⟨by decide, by decide, by decide, by decide⟩, by decide, by decide, by decide, by decide, by decide, of_decide_eq_true rfl, rfl⟩

theorem witness_ScenesFollowTheirCommands_0 : ∃ (s : State) (d : Desc) (e : Desc) (read : HostRead), s.serves d 0x17 ∧ d.seen s read = some e ∧ sceneArgsOk e = true ∧ bit (e.pByte 1) 0 = false ∧ e.len ≠ 0 ∧ s.sceneCheck d.atOut e.target (e.pNum 2 2) e.buf = none ∧ ((s.scene? e.target).map (fun c => c.armed)).getD false = false ∧ (s.scene? e.target = none → s.loadedScenes.length < 64) ∧ s.padYards (e.pNum 2 2) ≠ [] :=
  ⟨(fly (stl up 9 2) (dsc 0x17 6 0 17)), (dsc 0x17 6 0 17), ((dsc 0x17 6 0 17).filled (oct [6, 0] ++ le 8 6000000000 ++ zeros 2 ++ oct [1])), (.ok (oct [6, 0] ++ le 8 6000000000 ++ zeros 2 ++ oct [1])),
   ⟨by decide, by decide, by decide, by decide⟩, by decide⟩

theorem witness_ScenesFollowTheirCommands_1 : ∃ (s : State) (d : Desc) (e : Desc) (read : HostRead), s.serves d 0x17 ∧ d.seen s read = some e ∧ sceneArgsOk e = true ∧ bit (e.pByte 1) 0 = false ∧ e.len ≠ 0 ∧ s.sceneCheck d.atOut e.target (e.pNum 2 2) e.buf = none ∧ ((s.scene? e.target = none ∧ 64 ≤ s.loadedScenes.length) ∨ ((s.scene? e.target).map (fun c => c.armed)).getD false = true) :=
  ⟨(fly { (stl up 9 2) with seg := { (stl up 9 2).seg with scenes := [scn 6 6000000000 none true] } } (dsc 0x17 6 0 17)), (dsc 0x17 6 0 17), ((dsc 0x17 6 0 17).filled (oct [6, 0] ++ le 8 6000000000 ++ zeros 2 ++ oct [1])), (.ok (oct [6, 0] ++ le 8 6000000000 ++ zeros 2 ++ oct [1])),
   ⟨by decide, by decide, by decide, by decide⟩, by decide⟩

theorem witness_ScenesFollowTheirCommands_2 : ∃ (s : State) (d : Desc) (e : Desc) (read : HostRead) (c : Scene), s.serves d 0x17 ∧ d.seen s read = some e ∧ sceneArgsOk e = true ∧ bit (e.pByte 1) 0 = true ∧ e.len = 0 ∧ s.scene? e.target = some c :=
  ⟨(fly { (stl up 9 2) with seg := { (stl up 9 2).seg with scenes := [scn 6 6000000000 none true] } } (dsc 0x17 6 (pb [0, 1]))), (dsc 0x17 6 (pb [0, 1])), ((dsc 0x17 6 (pb [0, 1])).filled []), (.ok []), (scn 6 6000000000 none true),
   ⟨by decide, by decide, by decide, by decide⟩, by decide⟩

theorem witness_ScenesFollowTheirCommands_3 : ∃ (s : State) (d : Desc) (c : Scene), s.serves d 0x18 ∧ s.scene? d.target = some c ∧ d.launch = true ∧ d.launchTime = c.t ∧ d.pZero 0 32 = true ∧ c.launchDid = none ∧ (s.holding d.taken).pend < 4096 :=
  ⟨(fly { (stl up 9 2) with seg := { (stl up 9 2).seg with scenes := [scn 6 6000000000 none false] } } ({ dsc 0x18 6 with launch := true, launchTime := 6000000000 })), ({ dsc 0x18 6 with launch := true, launchTime := 6000000000 }), (scn 6 6000000000 none false),
   ⟨by decide, by decide, by decide, by decide⟩, by decide⟩

theorem witness_ScenesFollowTheirCommands_4 : ∃ (s : State) (s1 : State) (id : Nat) (k : Nat) (c : Scene) (c1 : Scene), s.scene? id = some c ∧ s.paused = false ∧ s1 = (s.elapseOut ((c.t : Int) - c.lead * secT)).endDelivery id ∧ s1.scene? id = some c1 ∧ c1.launchDid = some k ∧ c1.armed = false ∧ s1.serving = true :=
  ⟨({ (stl up 9 2) with seg := { (stl up 9 2).seg with scenes := [scn 6 6000000000 (some 1) false] } }), _, 6, 1, (scn 6 6000000000 (some 1) false), (scn 6 6000000000 (some 1) false),
   by decide, by decide, rfl, by decide⟩

theorem witness_ScenesFollowTheirCommands_5 : ∃ (s : State) (s1 : State) (id : Nat) (c : Scene) (c1 : Scene), s.scene? id = some c ∧ s1 = (s.elapseOut ((c.t : Int) + secT)).endDelivery id ∧ s1.scene? id = some c1 ∧ (c1.armed = false ∨ (c1.left = 0 ∧ c1.latching = 0)) :=
  ⟨({ (stl up 9 2) with seg := { (stl up 9 2).seg with scenes := [scn 6 6000000000 (some 1) false] } }), _, 6, (scn 6 6000000000 (some 1) false), (scn 6 6000000000 (some 1) false),
   by decide, rfl, by decide⟩

theorem witness_ScenesFollowTheirCommands_6 : ∃ (s : State) (s1 : State) (id : Nat) (c : Scene) (c1 : Scene), s.scene? id = some c ∧ s1 = (s.elapseOut ((c.t : Int) + secT)).endDelivery id ∧ s1.scene? id = some c1 ∧ c1.armed = true ∧ (c1.left ≠ 0 ∨ c1.latching ≠ 0) :=
  ⟨({ (stl up 9 2) with seg := { (stl up 9 2).seg with scenes := [{ scn 6 6000000000 (some 1) true with left := 1 }] } }), _, 6, ({ scn 6 6000000000 (some 1) true with left := 1 }), ({ scn 6 6000000000 (some 1) true with left := 1 }),
   by decide, rfl, by decide⟩

theorem witness_RolloverFollowsItsCommands_0 : ∃ (s : State) (d : Desc), s.serves d 0x19 ∧ d.target = 0 ∧ d.param = 0#256 ∧ d.len ≠ 0 :=
  ⟨(fly (owned (stl up 9 2)) (dsc 0x19 0 0 40)), (dsc 0x19 0 0 40),
   ⟨by decide, by decide, by decide, by decide⟩, by decide⟩

theorem witness_RolloverFollowsItsCommands_1 : ∃ (s : State) (d : Desc), s.serves d 0x19 ∧ d.target = 0 ∧ d.pByte 0 = 1 ∧ d.pZero 1 32 = true ∧ d.len ≠ 0 ∧ s.roll.phase = 0 ∧ s.shed.down = false ∧ s.keyed = true :=
  ⟨(fly (owned (stl up 9 2)) (dsc 0x19 0 (pb [1]) 40)), (dsc 0x19 0 (pb [1]) 40),
   ⟨by decide, by decide, by decide, by decide⟩, by decide⟩

theorem witness_RolloverFollowsItsCommands_2 : ∃ (s : State) (d : Desc), s.serves d 0x19 ∧ d.target = 0 ∧ d.pByte 0 = 1 ∧ d.pZero 1 32 = true ∧ d.len ≠ 0 ∧ s.roll.phase = 0 ∧ s.shed.down = true :=
  ⟨(fly { (owned (stl up 9 2)) with shed := { (owned (stl up 9 2)).shed with down := true } } (dsc 0x19 0 (pb [1]) 40)), (dsc 0x19 0 (pb [1]) 40),
   ⟨by decide, by decide, by decide, by decide⟩, by decide⟩

theorem witness_RolloverFollowsItsCommands_3 : ∃ (s : State) (d : Desc), s.serves d 0x19 ∧ d.target = 0 ∧ d.pByte 0 = 1 ∧ d.pZero 1 32 = true ∧ d.len ≠ 0 ∧ s.roll.phase = 0 ∧ s.shed.down = false ∧ s.keyed = false :=
  ⟨(fly (stl up 9 2) (dsc 0x19 0 (pb [1]) 40)), (dsc 0x19 0 (pb [1]) 40),
   ⟨by decide, by decide, by decide, by decide⟩, by decide⟩

theorem witness_RolloverFollowsItsCommands_4 : ∃ (s : State) (d : Desc), s.serves d 0x19 ∧ d.target = 0 ∧ d.pByte 0 = 1 ∧ d.pZero 1 32 = true ∧ d.len ≠ 0 ∧ s.roll.phase ≠ 0 :=
  ⟨(fly ((owned (stl up 9 2)).rollOpen) (dsc 0x19 0 (pb [1]) 40)), (dsc 0x19 0 (pb [1]) 40),
   ⟨by decide, by decide, by decide, by decide⟩, by decide⟩

theorem witness_RolloverFollowsItsCommands_5 : ∃ (s : State) (d : Desc), s.serves d 0x19 ∧ d.target = 0 ∧ d.pByte 0 = 2 ∧ d.pZero 1 32 = true ∧ d.len ≠ 0 ∧ s.roll.phase = 1 :=
  ⟨(fly ((owned (stl up 9 2)).rollOpen) (dsc 0x19 0 (pb [2]) 40)), (dsc 0x19 0 (pb [2]) 40),
   ⟨by decide, by decide, by decide, by decide⟩, by decide⟩

theorem witness_RolloverFollowsItsCommands_6 : ∃ (s : State) (d : Desc), s.serves d 0x19 ∧ d.target = 0 ∧ d.pByte 0 = 2 ∧ d.pZero 1 32 = true ∧ d.len ≠ 0 ∧ s.roll.phase ≠ 1 :=
  ⟨(fly (owned (stl up 9 2)) (dsc 0x19 0 (pb [2]) 40)), (dsc 0x19 0 (pb [2]) 40),
   ⟨by decide, by decide, by decide, by decide⟩, by decide⟩

theorem witness_RolloverFollowsItsCommands_7 : ∃ (s : State), s.roll.phase = 1 ∧ s.serving = true :=
  ⟨((owned (stl up 9 2)).rollOpen),
   by decide⟩

theorem witness_RolloverFollowsItsCommands_8 : ∃ (s : State), s.boundaryAhead = true :=
  ⟨((owned yardUp).rollOpen),
   by decide⟩

theorem witness_RolloverFollowsItsCommands_9 : ∃ (s : State), s.boundaryAhead = false :=
  ⟨((owned (stl up 9 2)).rollOpen),
   by decide⟩

theorem witness_RolloverFollowsItsCommands_10 : ∃ (s : State), s.roll.phase = 2 :=
  ⟨(((owned (stl up 9 2)).rollOpen).journal (fun r => { r with phase := 2 })),
   by decide⟩

theorem witness_RolloverFollowsItsCommands_11 : ∃ (s : State) (t : State) (p : Nat), t = s.rollFinish :=
  ⟨((owned (stl up 9 2)).rollOpen), _, 3,
   rfl⟩

theorem witness_RolloverFollowsItsCommands_12 : ∃ (s : State) (t : State) (i : Nat), t = s.rollFinish ∧ (s.stall i).live = true ∧ (s.stall i).rolled = false :=
  ⟨((owned (stl up 9 2)).rollOpen), _, 9,
   rfl, by decide⟩

theorem witness_RolloverFollowsItsCommands_13 : ∃ (s : State) (t : State) (i : Nat), t = s.rollFinish ∧ (s.stall i).live = true ∧ (s.stall i).rolled = true ∧ (s.stall i).keyNext ≠ 0 :=
  ⟨(owned (up.setStall 9 { Stall.none with eui := 9, state := 2, key := 5, rolled := true, keyNext := 6 })), _, 9,
   rfl, by decide⟩

theorem witness_RolloverFollowsItsCommands_14 : ∃ (s : State) (t : State), t = s.rollFinish :=
  ⟨((owned (stl up 9 2)).rollOpen), _,
   rfl⟩

theorem witness_ParametersFollowTheirCommands_0 : ∃ (s : State) (d : Desc), s.serves d 0x03 ∧ d.param = 0#256 ∧ d.target ≠ 0x0701 ∧ (paramRange d.target).isSome = true :=
  ⟨(fly up (dsc 3 0x0401)), (dsc 3 0x0401),
   ⟨by decide, by decide, by decide, by decide⟩, by decide⟩

theorem witness_ParametersFollowTheirCommands_1 : ∃ (s : State) (d : Desc), s.serves d 0x03 ∧ d.param = 0#256 ∧ d.target = 0x0701 :=
  ⟨(fly up (dsc 3 0x0701)), (dsc 3 0x0701),
   ⟨by decide, by decide, by decide, by decide⟩, by decide⟩

theorem witness_ParametersFollowTheirCommands_2 : ∃ (s : State) (d : Desc) (e : Desc), s.serves d 0x04 ∧ d.target ≠ 0x0701 ∧ d.pZero 4 32 = true ∧ d.launch = false ∧ paramOk d.target (paramValue d) = true ∧ e = { d with stage := .begun, actTime := some s.outputTime } :=
  ⟨(fly up (dsc 4 0x0401 (pb [10]))), (dsc 4 0x0401 (pb [10])), _,
   ⟨by decide, by decide, by decide, by decide⟩, by decide, by decide, by decide, by decide, rfl⟩

theorem witness_ParametersFollowTheirCommands_3 : ∃ (s : State) (d : Desc), s.serves d 0x04 ∧ d.target ≠ 0x0701 ∧ d.pZero 4 32 = true ∧ paramOk d.target (paramValue d) = false :=
  ⟨(fly up (dsc 4 0x0401 (pb [9]))), (dsc 4 0x0401 (pb [9])),
   ⟨by decide, by decide, by decide, by decide⟩, by decide⟩

theorem witness_ParametersFollowTheirCommands_4 : ∃ (s : State) (d : Desc) (e : Desc), s.serves d 0x04 ∧ d.target = 0x0701 ∧ d.pZero 4 32 = true ∧ d.launch = false ∧ paramValue d ≤ 71 ∧ e = { d with stage := .begun, actTime := some s.outputTime } :=
  ⟨(fly up (dsc 4 0x0701 (pb [71]))), (dsc 4 0x0701 (pb [71])), _,
   ⟨by decide, by decide, by decide, by decide⟩, by decide, by decide, by decide, by decide, rfl⟩

theorem witness_ParametersFollowTheirCommands_5 : ∃ (s : State) (d : Desc) (fs : List Nat), s.serves d 0x1A ∧ d.len ≠ 0 ∧ (d.target ≤ 5 ∨ d.target = 15) ∧ d.pByte 0 ≤ 24 ∧ d.pZero 1 32 = true ∧ fs = (if d.target = 15 then List.range 6 else [d.target]) :=
  ⟨(fly up (dsc 0x1A 15 (pb [24]) 48)), (dsc 0x1A 15 (pb [24]) 48), _,
   ⟨by decide, by decide, by decide, by decide⟩, by decide, by decide, by decide, by decide, rfl⟩

theorem witness_YardControlActsOnItsYard_0 : ∃ (s : State) (t : State) (d : Desc) (e : Desc) (read : HostRead) (y : Nat) (held : Bool) (c : Instr), s.serves d 0x22 ∧ d.seen s read = some e ∧ e.launch = false ∧ e.target = y ∧ y < 16 ∧ e.len % 8 = 0 ∧ 8 ≤ e.len ∧ e.len ≤ 128 ∧ s.yardLive y = true ∧ ((s.holding e).beginDesc d.did).yardList y 0 (yardActs e.buf) = .ok t ∧ held = (s.yardOnAir y && (yardActs e.buf).any (fun a => a.action == 1 || a.action == 2 || a.action == 5)) ∧ (leAt e.buf 0 1 = 1 → c = .yardCtlHalt d.did read) ∧ (leAt e.buf 0 1 = 2 → c = .yardCtlResume d.did read) ∧ (leAt e.buf 0 1 = 3 → c = .yardCtlWithdraw d.did read) ∧ (leAt e.buf 0 1 = 4 → c = .yardCtlRestore d.did read) ∧ (leAt e.buf 0 1 = 5 → c = .yardCtlTxpwr d.did read) ∧ (leAt e.buf 0 1 = 6 → c = .yardCtlTest d.did read) ∧ 1 ≤ leAt e.buf 0 1 ∧ leAt e.buf 0 1 ≤ 6 :=
  ⟨(fly yardUp (dsc 0x22 0 0 8)), _, (dsc 0x22 0 0 8), ((dsc 0x22 0 0 8).filled (oct [1])), (.ok (oct [1])), 0, _, (.yardCtlHalt 1 (.ok (oct [1]))),
   ⟨by decide, by decide, by decide, by decide⟩, by decide, by decide, by decide, by decide, by decide, of_decide_eq_true rfl, by decide, by decide, rfl, rfl, by decide⟩

theorem witness_YardControlActsOnItsYard_1 : ∃ (s : State) (d : Desc) (e : Desc) (read : HostRead) (y : Nat) (st : Nat) (i : Nat), s.serves d 0x22 ∧ d.seen s read = some e ∧ e.launch = false ∧ e.target = y ∧ y < 16 ∧ e.len % 8 = 0 ∧ 8 ≤ e.len ∧ e.len ≤ 128 ∧ s.yardLive y = true ∧ leAt e.buf 0 1 = 1 ∧ ((s.holding e).beginDesc d.did).yardList y 0 (yardActs e.buf) = .error (st, i) :=
  ⟨(fly yardUp (dsc 0x22 0 0 16)), (dsc 0x22 0 0 16), ((dsc 0x22 0 0 16).filled (oct [1, 0, 0, 0, 0, 0, 0, 0, 9])), (.ok (oct [1, 0, 0, 0, 0, 0, 0, 0, 9])), 0, stERR_ARG, 1,
   ⟨by decide, by decide, by decide, by decide⟩, by decide⟩

theorem witness_YardControlActsOnItsYard_2 : ∃ (s : State) (y : Nat) (k : Nat) (v : Nat), y < 16 :=
  ⟨yardUp, 15, 0, 0,
   by decide⟩

theorem witness_YardControlActsOnItsYard_3 : ∃ (s : State) (y : Nat) (k : Nat) (v : Nat), y < 16 ∧ s.yardState y = yHALTED :=
  ⟨(yardUp.setSf (.YRD_STATE 0) F.YRD_STATE_STATE 2), 0, 0, 0,
   by decide⟩

theorem witness_YardControlActsOnItsYard_4 : ∃ (s : State) (y : Nat) (k : Nat) (v : Nat) (p : PlanEntry), y < 16 ∧ k < 128 ∧ s.planEntry y k = some p ∧ p.rx = true ∧ p.beacon = false ∧ s.withdrawn y k = false :=
  ⟨yardUp, 0, 1, 0, ({ idx := 1, beacon := false, tx := false, rx := true, prio := 0, mode := 0, chan := 12 }),
   by decide⟩

theorem witness_YardControlActsOnItsYard_5 : ∃ (s : State) (y : Nat) (k : Nat) (v : Nat) (p : PlanEntry) (sp : Nat), y < 16 ∧ k < 128 ∧ s.planEntry y k = some p ∧ s.withdrawn y k = true ∧ s.lowestSpare = some sp :=
  ⟨((yardUp.withdrawEntry 0 1).setRole 1 rSPARE), 0, 1, 0, ({ idx := 1, beacon := false, tx := false, rx := true, prio := 0, mode := 0, chan := 12 }), 1,
   by decide⟩

theorem witness_YardControlActsOnItsYard_6 : ∃ (s : State) (y : Nat) (k : Nat) (v : Nat), y < 16 ∧ v ≤ s.cf (.YRD_CFG y) F.YRD_CFG_TXPWR :=
  ⟨(yardUp.setCf (.YRD_CFG 0) F.YRD_CFG_TXPWR 9), 0, 0, 9,
   by decide⟩

theorem witness_YardControlActsOnItsYard_7 : ∃ (s : State) (y : Nat) (k : Nat) (v : Nat) (p : PlanEntry) (n : Nat) (sh : Nat), y < 16 ∧ k < 128 ∧ s.planEntry y k = some p ∧ p.rx = true ∧ s.withdrawn y k = false ∧ s.laneOf y k = some n ∧ s.testOf n = none ∧ s.idleSpare = some sh :=
  ⟨yardUp, 0, 1, 0, ({ idx := 1, beacon := false, tx := false, rx := true, prio := 0, mode := 0, chan := 12 }), 1, 2,
   by decide⟩

theorem witness_RollingTestFollowsItsSteps_0 : ∃ (s : State) (u : State) (n : Nat), s.done = true ∧ s.cf .YRD_BIST_CFG F.YRD_BIST_CFG_ENABLE = 1 ∧ u = (let t := s.elapseTo s.lanes.bistAt; { t with lanes := { t.lanes with bistAt := t.tsu.raw + t.cf .YRD_BIST_CFG F.YRD_BIST_CFG_INTERVAL * msT } }).checkSuspend ∧ u.lanes.suspended = false ∧ (laneRound u.lanes.next).find? u.turnCounts = some n ∧ u.role n = rSPARE :=
  ⟨({ (yardUp.setCf .YRD_BIST_CFG F.YRD_BIST_CFG_ENABLE 1) with lanes := { yardUp.lanes with next := 543 } }), _, 543,
   by decide, by decide, rfl, by decide⟩

theorem witness_RollingTestFollowsItsSteps_1 : ∃ (s : State) (u : State) (n : Nat) (sh : Nat), s.done = true ∧ s.cf .YRD_BIST_CFG F.YRD_BIST_CFG_ENABLE = 1 ∧ u = (let t := s.elapseTo s.lanes.bistAt; { t with lanes := { t.lanes with bistAt := t.tsu.raw + t.cf .YRD_BIST_CFG F.YRD_BIST_CFG_INTERVAL * msT } }).checkSuspend ∧ u.lanes.suspended = false ∧ (laneRound u.lanes.next).find? u.turnCounts = some n ∧ u.role n ≠ rSPARE ∧ u.idleSpare = some sh :=
  ⟨(yardUp.setCf .YRD_BIST_CFG F.YRD_BIST_CFG_ENABLE 1), _, 0, 2,
   by decide, by decide, rfl, by decide⟩

theorem witness_RollingTestFollowsItsSteps_2 : ∃ (s : State) (n : Nat) (sh : Nat) (at_ : Nat), s.testOf n = some ⟨n, some sh, false, at_⟩ :=
  ⟨({ yardUp with lanes := { yardUp.lanes with tests := [⟨0, some 2, false, 5⟩] } }), 0, 2, 5,
   by decide⟩

theorem witness_RollingTestFollowsItsSteps_3 : ∃ (s : State) (p : State) (n : Nat) (sh : Nat) (at_ : Nat) (c : Nat), s.testOf n = some ⟨n, some sh, true, at_⟩ ∧ p = (((s.endTest n).setSf (.LNE_BIST n) F.LNE_BIST_RESULT 1).setSf (.LNE_BIST n) F.LNE_BIST_CAUSE 0).bumpSat (.LNE_BIST n) F.LNE_BIST_PASSES ∧ c ≠ 0 :=
  ⟨({ yardUp with lanes := { yardUp.lanes with tests := [⟨0, some 2, true, 5⟩] } }), _, 0, 2, 5, 3,
   by decide, rfl, by decide⟩

theorem witness_RollingTestFollowsItsSteps_4 : ∃ (s : State) (p : State) (n : Nat) (sh : Nat) (at_ : Nat), s.testOf n = some ⟨n, some sh, true, at_⟩ ∧ p = (((s.endTest n).setSf (.LNE_BIST n) F.LNE_BIST_RESULT 1).setSf (.LNE_BIST n) F.LNE_BIST_CAUSE 0).bumpSat (.LNE_BIST n) F.LNE_BIST_PASSES :=
  ⟨({ yardUp with lanes := { yardUp.lanes with tests := [⟨0, some 2, true, 5⟩] } }), _, 0, 2, 5,
   by decide, rfl⟩

theorem witness_RollingTestFollowsItsSteps_5 : ∃ (s : State) (p : State) (n : Nat) (at_ : Nat) (c : Nat), s.testOf n = some ⟨n, none, true, at_⟩ ∧ p = (((s.endTest n).setSf (.LNE_BIST n) F.LNE_BIST_RESULT 1).setSf (.LNE_BIST n) F.LNE_BIST_CAUSE 0).bumpSat (.LNE_BIST n) F.LNE_BIST_PASSES ∧ c ≠ 0 :=
  ⟨({ yardUp with lanes := { yardUp.lanes with tests := [⟨5, none, true, 5⟩] } }), _, 5, 5, 3,
   by decide, rfl, by decide⟩

theorem witness_RollingTestFollowsItsSteps_6 : ∃ (s : State) (p : State) (n : Nat) (at_ : Nat), s.testOf n = some ⟨n, none, true, at_⟩ ∧ p = (((s.endTest n).setSf (.LNE_BIST n) F.LNE_BIST_RESULT 1).setSf (.LNE_BIST n) F.LNE_BIST_CAUSE 0).bumpSat (.LNE_BIST n) F.LNE_BIST_PASSES :=
  ⟨({ yardUp with lanes := { yardUp.lanes with tests := [⟨5, none, true, 5⟩] } }), _, 5, 5,
   by decide, rfl⟩

theorem witness_FailedLanesAreReplaced_0 : ∃ (s : State) (n : Nat) (c : Nat) (busy : Bool), n < 544 ∧ s.role n = rSPARE :=
  ⟨yardUp, 543, 2, false,
   by decide⟩

theorem witness_FailedLanesAreReplaced_1 : ∃ (s : State) (n : Nat) (c : Nat) (busy : Bool), n < 544 ∧ s.role n = rACTIVE ∧ s.testOf n = none ∧ s.lanes.moves = [] :=
  ⟨yardUp, 0, 2, true,
   by decide⟩

theorem witness_FailedLanesAreReplaced_2 : ∃ (s : State) (n : Nat) (c : Nat) (y : Nat) (k : Nat), n < 544 ∧ c < 16 :=
  ⟨yardUp, 543, 15, 255, 255,
   by decide⟩

theorem witness_FailedLanesAreReplaced_3 : ∃ (s : State) (n : Nat) (y : Nat) (k : Nat) (sp : Nat) (e : PlanEntry), y < 16 ∧ s.planEntry y k = some e ∧ k < 128 ∧ s.lowestSpare = some sp :=
  ⟨yardUp, 1, 0, 1, 2, ({ idx := 1, beacon := false, tx := false, rx := true, prio := 0, mode := 0, chan := 12 }),
   by decide⟩

theorem witness_FailedLanesAreReplaced_4 : ∃ (s : State) (n : Nat) (m : LaneMove) (e : PlanEntry), s.lanes.moves.find? (fun m => m.lane == n) = some m ∧ s.planEntry (s.laneYard n) m.entry = some e ∧ s.testOf n = none ∧ s.role n ≠ rSHADOW :=
  ⟨({ yardUp with lanes := { yardUp.lanes with moves := [⟨1, 0, 0⟩] } }), 1, (⟨1, 0, 0⟩), ({ idx := 0, beacon := true, tx := true, rx := true, prio := 0, mode := 0, chan := 10 }),
   by decide⟩

theorem witness_FailedLanesAreReplaced_5 : ∃ (s : State) (v : Nat), s.winOpen = true ∧ bit v 31 ≠ s.customOn ∧ (bit v 31 = true → s.customProfile ≠ []) :=
  ⟨((win yardUp).setCf (.YRD_CUST_SB_HI 0) F.YRD_CUST_SB_HI_VALID 1), 2147483648,
   by decide⟩

theorem witness_FailedLanesAreReplaced_6 : ∃ (s : State) (v : Nat), s.winOpen = false :=
  ⟨yardUp, 2147483648,
   by decide⟩

theorem witness_SuperframesTakeRisingNumbers_0 : ∃ (s : State) (u : State) (y : Nat) (k : Int), y < 16 ∧ s.yardLive y = true ∧ s.serving = true ∧ (k = (if s.sfStart y (s.sfAt y s.outputTime) = s.outputTime ∧ ¬((s.seq y).started = true ∧ (s.seq y).start = s.outputTime) then s.sfAt y s.outputTime else s.sfAt y s.outputTime + 1)) ∧ u = ((s.elapseOut (s.sfStart y k)).judgeYard y).rollBoundary :=
  ⟨yardUp, _, 0, _,
   by decide, by decide, by decide, rfl, rfl⟩

theorem witness_SuperframesTakeRisingNumbers_1 : ∃ (s : State) (y : Nat) (k : Int), (s.seq y).started = true ∧ (s.seq y).takeover = false :=
  ⟨yardUp, 0, 9,
   by decide⟩

theorem witness_SuperframesTakeRisingNumbers_2 : ∃ (s : State) (y : Nat) (r : TxReq), s.air.reqs.find? (fun r => r.kind == .beacon && r.yard == y) = some r :=
  ⟨({ yardUp with air := { yardUp.air with reqs := [bcn] } }), 0, bcn,
   by decide⟩

theorem witness_SuperframesTakeRisingNumbers_3 : ∃ (s : State) (y : Nat) (b : Nat), y < 16 :=
  ⟨yardUp, 15, 255,
   by decide⟩

theorem witness_SuperframesTakeRisingNumbers_4 : ∃ (s : State) (u : State) (i : Nat) (from_ : Nat) (base : Nat) (w6 : Nat) (q : SeqY) (x : Stall), q = s.seq (yardOf i) ∧ x = s.stall i ∧ q.started = true ∧ x.live = true ∧ x.timed = true ∧ q.n % max x.wakeEvery 1 = x.wakePhase ∧ s.serving = true ∧ (from_ : Int) = q.start + x.wakeSlot * s.slotT + 32 * msT - s.sfdT (yardOf i) q.dlMode ∧ s.outputTime ≤ from_ ∧ u = s.elapseOut from_ ∧ base = s.cf .YRD_MAC_CFG F.YRD_MAC_CFG_BASE_WIN * msT ∧ (w6 : Int) = x.drift6 ((u.tsu.raw : Int) + s.sfdT (yardOf i) q.dlMode - x.syncRaw) ∧ (64 * msT - base) * 1000000 < w6 :=
  ⟨(yardUp.setStall 9 { Stall.none with state := 2, wakeEvery := 1, wakeSlot := 5, tol := 20, syncRaw := -1000000000000 }), _, 9, 35200000, _, 50001800000000, _, _,
   rfl, rfl, by decide, by decide, by decide, by decide, by decide, of_decide_eq_true rfl, by decide, rfl, rfl, by decide⟩

theorem witness_SuperframesTakeRisingNumbers_5 : ∃ (s : State) (u : State) (i : Nat) (from_ : Nat) (base : Nat) (w6 : Nat) (q : SeqY) (x : Stall) (it : Item) (len : Nat) (dur : Nat), q = s.seq (yardOf i) ∧ x = s.stall i ∧ q.started = true ∧ x.live = true ∧ x.timed = true ∧ q.n % max x.wakeEvery 1 = x.wakePhase ∧ s.serving = true ∧ (from_ : Int) = q.start + x.wakeSlot * s.slotT + 32 * msT - s.sfdT (yardOf i) q.dlMode ∧ s.outputTime ≤ from_ ∧ u = s.elapseOut from_ ∧ base = s.cf .YRD_MAC_CFG F.YRD_MAC_CFG_BASE_WIN * msT ∧ (w6 : Int) = x.drift6 ((u.tsu.raw : Int) + s.sfdT (yardOf i) q.dlMode - x.syncRaw) ∧ w6 ≤ (64 * msT - base) * 1000000 ∧ u.timedItem i = some it ∧ len = u.psduLen (yardOf i) (u.hopLen it) ∧ u.overtakes (u.yardChain (yardOf i)) q.dlChan q.dlMode (some it.id) = false ∧ dur = u.airT (yardOf i) q.dlMode len ∧ u.yardSends (yardOf i) = true ∧ u.outputTime + dur ≤ q.start + u.wakeRunEnd i * u.slotT ∧ u.admission (u.yardChain (yardOf i)) q.dlChan q.dlMode dur .ordinary 0 = .yes :=
  ⟨({ (node (fun x => { x with wakeEvery := 1, wakeSlot := 5, tol := 20 })) with seg := { (node (fun x => { x with wakeEvery := 1, wakeSlot := 5, tol := 20 })).seg with items := [itm] } }), _, 9, 35200000, _, 1800000000, _, _, itm, _, _,
   rfl, rfl, by decide, by decide, by decide, by decide, by decide, of_decide_eq_true rfl, by decide, rfl, rfl, by decide, by decide, by decide, rfl, by decide, rfl, by decide⟩

theorem witness_FramesLeaveInTheirTurn_0 : ∃ (s : State) (bad : Option Nat) (symBad : Bool) (r : TxReq), s.air.reqs = [r] ∧ r.queued = true ∧ s.reqLapsed r = false ∧ s.mayEmit = true ∧ s.keyed = true ∧ s.yardTx r.yard = true ∧ (s.seq r.yard).wait = false ∧ s.reqStopped r = false ∧ s.sceneHeld r = false ∧ s.chanBusy r.chain r.chan r.mode = false ∧ s.carrierOf r.chain r.yard = false ∧ s.chainTakes r.chain = true :=
  ⟨({ yardUp with air := { yardUp.air with reqs := [bcn] } }), none, false, bcn,
   by decide⟩

theorem witness_FramesLeaveInTheirTurn_1 : ∃ (s : State) (bad : Option Nat) (symBad : Bool) (r : TxReq), s.air.reqs = [r] ∧ r.queued = true ∧ s.reqLapsed r = false ∧ s.mayEmit = true ∧ s.keyed = true ∧ s.yardTx r.yard = true ∧ (s.seq r.yard).wait = false ∧ s.reqStopped r = false ∧ s.sceneHeld r = false ∧ s.chanBusy r.chain r.chan r.mode = false ∧ s.carrierOf r.chain r.yard = false ∧ s.chainTakes r.chain = false ∧ s.chainLoad r.chain = 0 :=
  ⟨({ yardUp with air := { yardUp.air with reqs := [bcn], carriers := [2, 4, 6, 7].map (fun c => { crr with chain := c }) } }), none, false, bcn,
   by decide⟩

theorem witness_FramesLeaveInTheirTurn_2 : ∃ (s : State) (t : State) (bad : Option Nat) (symBad : Bool), exec (.chainGrant bad symBad) s = .next t ∧ s.chainsOn ≤ s.chainLimit :=
  ⟨({ yardUp with air := { yardUp.air with reqs := [bcn] } }), _, none, false,
   rfl, by decide⟩

theorem witness_FramesLeaveInTheirTurn_3 : ∃ (s : State) (t : State) (bad : Option Nat) (symBad : Bool) (c : Nat), exec (.chainGrant bad symBad) s = .next t ∧ (∀ c, s.chainLoad c ≤ 4) :=
  ⟨({ yardUp with air := { yardUp.air with reqs := [bcn] } }), _, none, false, 0,
   rfl, (chain_idle)⟩

theorem witness_FramesLeaveInTheirTurn_4 : ∃ (s : State) (t : State) (bad : Option Nat) (symBad : Bool), exec (.chainGrant bad symBad) s = .next t ∧ (s.onAir.Pairwise (fun a b => a.chain = b.chain → a.yard ≠ b.yard)) :=
  ⟨({ yardUp with air := { yardUp.air with reqs := [bcn] } }), _, none, false,
   rfl, by decide⟩

theorem witness_FramesLeaveInTheirTurn_6 : ∃ (s : State) (u : State) (y : Nat) (a : Nat) (n : Nat) (stop : Int), (s.seq y).started = true ∧ s.yardLive y = true ∧ s.serving = true ∧ s.runs y = [(a, n)] ∧ stop = (s.seq y).start + (a + n : Nat) * s.slotT ∧ max s.outputTime (s.seq y).beaconEnd < stop ∧ (s.seq y).runEnd.getD (s.seq y).start < stop ∧ u = (s.elapseOut (max ((s.seq y).start + a * s.slotT) (s.seq y).beaconEnd)).judge :=
  ⟨yardUp, _, 0, 1, 31, _,
   by decide, by decide, by decide, by decide, rfl, by decide, by decide, rfl⟩

theorem witness_FramesLeaveInTheirTurn_7 : ∃ (s : State) (u : State) (chain : Nat) (y : Nat) (c : Carrier), s.onAir.find? (fun c => c.chain == chain && c.yard == y) = some c ∧ u = ((s.elapseTo c.stop).stopCarrier c.id).frameEnd c ∧ u.upd.pause = none :=
  ⟨({ yardUp with air := { yardUp.air with carriers := [crr] } }), _, 0, 0, crr,
   by decide, rfl, by decide⟩

theorem witness_FramesLeaveInTheirTurn_8 : ∃ (s : State) (a : Ans), s.air.answers = [a] ∧ a.asked = false ∧ a.due + 10000 < s.tsu.raw :=
  ⟨(({ yardUp with tsu := { yardUp.tsu with raw := 20101 }, air := { yardUp.air with answers := [answ] } } : State)), answ,
   by decide⟩

theorem witness_FramesLeaveInTheirTurn_9 : ∃ (s : State) (u : State) (a : Ans) (len : Nat), s.air.answers = [a] ∧ a.asked = false ∧ s.tsu.raw ≤ a.due ∧ u = s.elapseTo a.due ∧ u.yardSends a.yard = true ∧ len = u.psduLen a.yard (u.ansLen a) ∧ u.admission (u.yardChain a.yard) a.chan a.mode (u.airT a.yard a.mode len) .ordinary 0 = .yes :=
  ⟨({ yardUp with air := { yardUp.air with answers := [answ] } }), _, answ, _,
   by decide, by decide, by decide, rfl, by decide, rfl, by decide⟩

theorem witness_FramesLeaveInTheirTurn_10 : ∃ (s : State) (u : State) (i : Nat) (it : Item), s.seg.items.find? (fun t => t.stall == i && t.ackDue.isSome) = some it ∧ u = s.elapseTo (it.ackDue.getD 0) ∧ (u.stall i).live = true ∧ (u.stall i).state ≠ sLOST ∧ it.sent ≤ u.param 0x0405 :=
  ⟨({ node id with seg := { (node id).seg with items := [{ itm with ackDue := some 800 }] } }), _, 9, ({ itm with ackDue := some 800 }),
   by decide, rfl, by decide⟩

theorem witness_FramesLeaveInTheirTurn_11 : ∃ (s : State) (u : State) (i : Nat) (it : Item), s.seg.items.find? (fun t => t.stall == i && t.ackDue.isSome) = some it ∧ u = s.elapseTo (it.ackDue.getD 0) ∧ (u.stall i).live = true ∧ (u.stall i).state ≠ sLOST ∧ u.param 0x0405 < it.sent ∧ it.kind = .msg :=
  ⟨({ node id with seg := { (node id).seg with items := [{ itm with ackDue := some 800, sent := 99 }] } }), _, 9, ({ itm with ackDue := some 800, sent := 99 }),
   by decide, rfl, by decide⟩

theorem witness_FramesLeaveInTheirTurn_5 : ∃ (s : State) (t : State) (bad : Option Nat) (symBad : Bool), exec (.chainGrant bad symBad) s = .next t ∧ (s.onAir.Pairwise (fun a b => a.chain / 2 = b.chain / 2 → chansMeet a.chan a.mode b.chan b.mode = false)) :=
  ⟨({ yardUp with air := { yardUp.air with reqs := [bcn] } }), _, none, false,
   rfl, by decide⟩

theorem witness_DutyLedgerForgetsAfterAnHour_0 : ∃ (s : State) (u : State), u = s.elapseOut ((dutySlot s.outputTime + 1) * 500000) :=
  ⟨({ yardUp with air := { yardUp.air with duty := [(1, [{ slot := -3599999, cls := .ordinary, carrier := 0 }, { slot := 0, cls := .ordinary, carrier := 0 }])] } }), _,
   rfl⟩

theorem witness_DutyLedgerForgetsAfterAnHour_1 : ∃ (s : State) (chain : Nat) (chan : Nat) (mode : Nat) (dur : Nat) (share : Nat) (b : SubBand), s.subBandOf (chain / 2) chan mode = some b ∧ b.limited = true ∧ s.admission chain chan mode dur .reserved share = .yes :=
  ⟨yardUp, 0, 10, 0, 500001, 0, (⟨1, 865000, 868000, 10, 56, .erp, false, false⟩),
   by decide⟩

theorem witness_DutyLedgerForgetsAfterAnHour_2 : ∃ (s : State) (chain : Nat) (chan : Nat) (mode : Nat) (dur : Nat) (share : Nat) (b : SubBand), s.subBandOf (chain / 2) chan mode = some b ∧ b.limited = true ∧ s.admission chain chan mode dur .ordinary share = .yes :=
  ⟨yardUp, 0, 10, 0, 500001, 0, (⟨1, 865000, 868000, 10, 56, .erp, false, false⟩),
   by decide⟩

theorem witness_DutyLedgerForgetsAfterAnHour_3 : ∃ (s : State) (d : Desc) (l : List (List Byte)), s.serves d 0x23 ∧ d.len ≠ 0 ∧ d.target ≤ 7 ∧ d.pZero 0 32 = true ∧ s.cf .YRD_REGION F.YRD_REGION_SHARED = 0 ∧ l = (isort (fun b => b.num) s.profile).map (s.dutyRecord d.target) :=
  ⟨(fly yardUp (dsc 0x23 7 0 96)), (dsc 0x23 7 0 96), _,
   ⟨by decide, by decide, by decide, by decide⟩, by decide, by decide, by decide, by decide, rfl⟩

theorem witness_DutyLedgerForgetsAfterAnHour_4 : ∃ (s : State) (d : Desc), s.serves d 0x23 ∧ 7 < d.target ∧ d.target ≠ 15 :=
  ⟨(fly yardUp (dsc 0x23 8 0 96)), (dsc 0x23 8 0 96),
   ⟨by decide, by decide, by decide, by decide⟩, by decide⟩

theorem witness_NoUplinkFrameIsAcceptedTwice_0 : ∃ (s : State) (r : Rx), classOk r.frame.typ r.cls = false :=
  ⟨(node id), (rx 1 1 [0x99]),
   by decide⟩

theorem witness_NoUplinkFrameIsAcceptedTwice_1 : ∃ (s : State) (r : Rx), (s.stall r.stall).oldKey = 0 ∧ r.frame.fc ≤ (s.stall r.stall).fcUp ∧ (r.frame.fc + 31 < (s.stall r.stall).fcUp ∨ r.frame.fc = (s.stall r.stall).fcUp ∨ bit (s.stall r.stall).fcWin ((s.stall r.stall).fcUp - 1 - r.frame.fc) = true) :=
  ⟨(node (fun x => { x with fcUp := 40, fcWin := 2 ^ 30 })), (rx 1 9 [0x10]),
   by decide⟩

theorem witness_NoUplinkFrameIsAcceptedTwice_2 : ∃ (s : State) (r : Rx), classOk r.frame.typ r.cls = true ∧ (s.stall r.stall).oldKey = 0 ∧ (s.stall r.stall).fcUp < r.frame.fc ∧ s.paused = false :=
  ⟨(node (fun x => { x with fcUp := 40 })), (rx 1 41 [0x10]),
   by decide⟩

theorem witness_ReceivedFramesPassTheirLane_0 : ∃ (s : State) (u : State) (w : State) (n : Nat) (ovld : Nat) (f : AirRx), u = s.elapseTo f.last ∧ u.lanes.leaving = [] ∧ u.laneServes n = true ∧ u.blanked (u.laneNow n) f = false ∧ 4 ≤ f.preamble ∧ f.sfdSet = u.cf (.YRD_PHY (u.laneYard n)) F.YRD_PHY_SFDSET ∧ (f.coded = true → u.sf (.LNE_ASSIGN n) F.LNE_ASSIGN_MODE < 3) ∧ f.ms = false ∧ f.parityOk = true ∧ f.fcsLen + 1 ≤ f.len ∧ w = (if ovld = 0 then u else u.bumpSat (.YRD_FE_STAT (feOf (u.laneYard n))) F.YRD_FE_STAT_OVLD ovld) ∧ f.fcsOk = true :=
  ⟨(node id), _, _, 0, 0, (fr 1 1 [0x10]),
   rfl, by decide, by decide, by decide, by decide, by decide, of_decide_eq_true rfl, by decide, by decide, by decide, rfl, by decide⟩

theorem witness_ReceivedFramesPassTheirLane_1 : ∃ (s : State) (u : State) (w : State) (n : Nat) (ovld : Nat) (f : AirRx), u = s.elapseTo f.last ∧ u.lanes.leaving = [] ∧ u.laneServes n = true ∧ u.blanked (u.laneNow n) f = false ∧ 4 ≤ f.preamble ∧ f.sfdSet = u.cf (.YRD_PHY (u.laneYard n)) F.YRD_PHY_SFDSET ∧ (f.coded = true → u.sf (.LNE_ASSIGN n) F.LNE_ASSIGN_MODE < 3) ∧ f.ms = false ∧ f.parityOk = true ∧ f.fcsLen + 1 ≤ f.len ∧ w = (if ovld = 0 then u else u.bumpSat (.YRD_FE_STAT (feOf (u.laneYard n))) F.YRD_FE_STAT_OVLD ovld) ∧ f.fcsOk = false :=
  ⟨(node id), _, _, 0, 2, ({ fr 1 1 [0x10] with fcsOk := false }),
   rfl, by decide, by decide, by decide, by decide, by decide, of_decide_eq_true rfl, by decide, by decide, by decide, rfl, by decide⟩

theorem witness_ReceivedFramesPassTheirLane_2 : ∃ (s : State) (r : Rx) (l : List Rx), s.air.waiting = r :: l ∧ s.shed.down = false :=
  ⟨({ node id with air := { (node id).air with waiting := [rx 1 1 [0x10]] } }), (rx 1 1 [0x10]), [],
   by decide⟩

theorem witness_ReceivedFramesPassTheirLane_3 : ∃ (s : State) (r : Rx) (l : List Rx), s.air.waiting = r :: l ∧ s.shed.down = true :=
  ⟨({ node id with shed := { (node id).shed with down := true }, air := { (node id).air with waiting := [rx 1 1 [0x10]] } }), (rx 1 1 [0x10]), [],
   by decide⟩

theorem witness_ReceivedFramesPassTheirLane_4 : ∃ (s : State) (r : Rx), (s.rxForm r = false ∨ s.rxKey r = none) :=
  ⟨(node id), (rx 2 1 [0x10]),
   by decide⟩

theorem witness_ReceivedFramesPassTheirLane_5 : ∃ (s : State) (r : Rx) (k : CacheKey), s.rxForm r = true ∧ s.rxKey r = some k ∧ (s.touchKey k).rxAuth r = true :=
  ⟨(node id), (rx 1 1 [0x10]), ({ kind := 0, id := 9, handle := 5 }),
   by decide⟩

theorem witness_ReceivedFramesPassTheirLane_6 : ∃ (s : State) (r : Rx) (k : CacheKey), s.rxForm r = true ∧ s.rxKey r = some k ∧ (s.touchKey k).rxAuth r = false :=
  ⟨(node id), ({ rx 1 1 [0x10] with frame := { fr 1 1 [0x10] with key := .none } }), ({ kind := 0, id := 9, handle := 5 }),
   by decide⟩

theorem witness_ReceivedFramesPassTheirLane_7 : ∃ (s : State) (u : State) (r : Rx) (c : RelayCheck), s.takes (isUp 0x14) r u :=
  ⟨(heard (node id) (rx 1 1 [0x14])), _, (rx 1 1 [0x14]), ({ frame := { fr 1 4 [0x10] with addr := 10 } }),
   ⟨by decide, by decide, by decide, by decide, rfl⟩⟩

theorem witness_UplinkMessagesUpdateTheirStall_0 : ∃ (s : State) (u : State) (r : Rx), s.takes (isUp 0x10) r u :=
  ⟨(heard (node id) (rx 1 1 [0x10])), _, (rx 1 1 [0x10]),
   ⟨by decide, by decide, by decide, by decide, rfl⟩⟩

theorem witness_UplinkMessagesUpdateTheirStall_1 : ∃ (s : State) (u : State) (r : Rx), s.takes (isUp 0x04) r u :=
  ⟨(heard (node id) (rx 1 1 [4, 1, 2])), _, (rx 1 1 [4, 1, 2]),
   ⟨by decide, by decide, by decide, by decide, rfl⟩⟩

theorem witness_UplinkMessagesUpdateTheirStall_2 : ∃ (s : State) (u : State) (r : Rx), s.takes (isUp 0x06) r u :=
  ⟨(heard (node id) (rx 1 1 [6, 1, 2])), _, (rx 1 1 [6, 1, 2]),
   ⟨by decide, by decide, by decide, by decide, rfl⟩⟩

theorem witness_UplinkMessagesUpdateTheirStall_3 : ∃ (s : State) (u : State) (r : Rx), s.takes (isUp 0x20) r u :=
  ⟨(heard (node id) (rx 1 1 [32])), _, (rx 1 1 [32]),
   ⟨by decide, by decide, by decide, by decide, rfl⟩⟩

theorem witness_UplinkMessagesUpdateTheirStall_4 : ∃ (s : State) (u : State) (r : Rx), s.takes (isUp 0x11) r u ∧ 60 ≤ r.num 0 4 ∧ r.num 0 4 ≤ 64800 ∧ (u.stall r.stall).state = sACTIVE :=
  ⟨(heard (node id) (rx 1 1 [17, 60])), _, (rx 1 1 [17, 60]),
   ⟨by decide, by decide, by decide, by decide, rfl⟩, by decide⟩

theorem witness_UplinkMessagesUpdateTheirStall_5 : ∃ (s : State) (u : State) (r : Rx) (it : Item), s.takes (isUp 0x15) r u ∧ u.seg.items.find? (fun k => k.stall == r.stall && k.ackReq && k.fc == some (r.num 0 4)) = some it :=
  ⟨(heard { node id with seg := { (node id).seg with items := [{ itm with fc := some 3 }] } } (rx 1 1 [21, 3])), _, (rx 1 1 [21, 3]), ({ itm with fc := some 3 }),
   ⟨by decide, by decide, by decide, by decide, rfl⟩, by decide⟩

theorem witness_UplinkMessagesUpdateTheirStall_6 : ∃ (s : State) (u : State) (r : Rx) (c : Campaign), s.takes (isUp 0x07) r u ∧ r.sub = 1 ∧ u.camp? (r.num 1 2) = some c ∧ r.num 3 1 = 3 :=
  ⟨(heard { node id with flt := { (node id).flt with camps := [cmp] } } (rx 1 1 [7, 1, 2, 0, 3])), _, (rx 1 1 [7, 1, 2, 0, 3]), cmp,
   ⟨by decide, by decide, by decide, by decide, rfl⟩, by decide⟩

theorem witness_UplinkMessagesUpdateTheirStall_7 : ∃ (s : State) (u : State) (r : Rx) (v : State), s.takes (isUp 0x09) r u ∧ r.sub = 2 ∧ r.num 1 2 = 0xFFFF ∧ (u.stall r.stall).renew ≠ 0 ∧ (u.stall r.stall).nextHeld = false ∧ r.num 3 1 = (u.stall r.stall).epoch ∧ v = (u.evict (u.stall r.stall).oldKey).endKey r.stall (.keyStall (r.num 3 1)) :=
  ⟨(heard (node (fun x => { x with renew := 6 })) (rx 1 1 [9, 2, 255, 255, 7])), _, (rx 1 1 [9, 2, 255, 255, 7]), _,
   ⟨by decide, by decide, by decide, by decide, rfl⟩, by decide, by decide, by decide, by decide, by decide, rfl⟩

theorem witness_UplinkMessagesUpdateTheirStall_9 : ∃ (s : State) (u : State) (r : Rx), s.takes (isUp 0x05) r u ∧ faultBits (u.stall r.stall).faults (r.num 0 2) (r.num 2 1) = (u.stall r.stall).faults :=
  ⟨(heard (node id) (rx 1 1 [5, 1, 0, 0])), _, (rx 1 1 [5, 1, 0, 0]),
   ⟨by decide, by decide, by decide, by decide, rfl⟩, by decide⟩

theorem witness_UplinkMessagesUpdateTheirStall_10 : ∃ (s : State) (u : State) (r : Rx) (y : Nat) (n : Nat), s.takes (isUp 0x05) r u ∧ y = yardOf r.stall ∧ n = faultBits (u.stall r.stall).faults (r.num 0 2) (r.num 2 1) ∧ n ≠ (u.stall r.stall).faults ∧ u.seg.summary.contains y = false ∧ (Tbl.get (0, 0) u.seg.storm y).1 + (Tbl.get (0, 0) u.seg.storm y).2 < u.param 0x0501 :=
  ⟨(heard (node id) (rx 1 1 [5, 1, 0, 1])), _, (rx 1 1 [5, 1, 0, 1]), _, _,
   ⟨by decide, by decide, by decide, by decide, rfl⟩, rfl, rfl, by decide⟩

theorem witness_UplinkMessagesUpdateTheirStall_11 : ∃ (s : State) (r : Rx), ((s.stall r.stall).state = sDOZING ∨ (s.stall r.stall).state = sADRIFT) :=
  ⟨(node (fun x => { x with state := 4 })), (rx 1 1 [5, 1, 0, 1]),
   by decide⟩

theorem witness_UplinkMessagesUpdateTheirStall_8 : ∃ (s : State) (u : State) (r : Rx) (v : State), s.takes (isUp 0x09) r u ∧ r.sub = 2 ∧ r.num 1 2 = 0xFFFF ∧ (u.stall r.stall).renew ≠ 0 ∧ (u.stall r.stall).nextHeld = true ∧ r.num 3 1 = u.nextEpoch8 ∧ v = (u.evict (u.stall r.stall).oldKey).endKey r.stall (.keyStall (r.num 3 1)) :=
  ⟨(heard (node (fun x => { x with renew := 6, nextHeld := true })) (rx 1 1 [9, 2, 255, 255, 8])), _, (rx 1 1 [9, 2, 255, 255, 8]), _,
   ⟨by decide, by decide, by decide, by decide, rfl⟩, by decide, by decide, by decide, by decide, by decide, rfl⟩

theorem witness_JoiningFollowsItsSteps_0 : ∃ (s : State) (t : State) (r : Rx), s.upNext (fun r => r.frame.typ == tyJOIN) = some r ∧ r.frame.upBad = none ∧ t = { s with air := { s.air with accepted := s.air.accepted.erase r } } ∧ r.sub = 0 ∧ (t.joinFcOf r).any (fun v => decide (r.frame.fc ≤ v)) = false :=
  ⟨(heard yardUp (rx 5 1 ([8, 0, 8, 0, 0, 0, 0, 0, 0, 0, 2]))), _, (rx 5 1 ([8, 0, 8, 0, 0, 0, 0, 0, 0, 0, 2])),
   by decide, by decide, rfl, by decide⟩

theorem witness_JoiningFollowsItsSteps_1 : ∃ (s : State) (t : State) (r : Rx) (q : Nat × Stall), s.upNext (fun r => r.frame.typ == tyJOIN) = some r ∧ r.frame.upBad = none ∧ t = { s with air := { s.air with accepted := s.air.accepted.erase r } } ∧ r.sub = 0 ∧ (t.joinFcOf r).any (fun v => decide (r.frame.fc ≤ v)) = true ∧ t.seg.stalls.find? (fun q => q.2.eui == r.eui) = some q ∧ r.frame.ar = false :=
  ⟨(heard (node (fun x => { x with joinFc := 1 })) (rx 5 1 ([8, 0, 9, 0, 0, 0, 0, 0, 0, 0, 2]))), _, (rx 5 1 ([8, 0, 9, 0, 0, 0, 0, 0, 0, 0, 2])), ((9, { Stall.none with eui := 9, state := 2, key := 5, epoch := 7, listen := 1, p := 1, joinFc := 1 })),
   by decide, by decide, rfl, by decide⟩

theorem witness_JoiningFollowsItsSteps_2 : ∃ (s : State) (r : Rx) (a : Admit) (p : Prep) (i : Nat) (h : Nat), r.num 9 1 = 2 ∧ s.holder r.eui r.yard = none ∧ s.admitOf r.eui = some a ∧ a.refuse = false ∧ bit a.mask r.yard = true ∧ s.yardFull r.yard = false ∧ s.freeStall r.yard = some i ∧ s.seg.preps.find? (fun p => p.eui == r.eui) = some p ∧ p.handle = some h :=
  ⟨({ yardUp with seg := { yardUp.seg with admits := [{ eui := 8, refuse := false, mask := 1, tick := 0, joinFc := 0 }], preps := [⟨0, 8, some 77⟩] } }), (rx 5 1 ([8, 0, 8, 0, 0, 0, 0, 0, 0, 0, 2])), ({ eui := 8, refuse := false, mask := 1, tick := 0, joinFc := 0 }), (⟨0, 8, some 77⟩), 0, 77,
   by decide⟩

theorem witness_JoiningFollowsItsSteps_3 : ∃ (s : State) (i : Nat) (p : Prep), s.keyed = true ∧ s.seg.preps = [p] ∧ p.stall = i ∧ p.handle = none :=
  ⟨({ yardUp with seg := { yardUp.seg with preps := [⟨0, 8, none⟩] } }), 0, (⟨0, 8, none⟩),
   by decide⟩

theorem witness_JoiningFollowsItsSteps_4 : ∃ (s : State) (u : State) (v : State) (r : Rx), s.takes (fun r => isUp 0x08 r && r.sub == 2) r u ∧ (u.stall r.stall).state = sJOINING ∧ r.num 1 1 = 2 ∧ v = ((u.unadmit (u.stall r.stall).eui).modStall r.stall (fun x => { x with state := sACTIVE })).queueKeys r.stall ∧ v.rolling = false :=
  ⟨(heard (node (fun x => { x with state := 1 })) (rx 1 1 [8, 2, 2])), _, _, (rx 1 1 [8, 2, 2]),
   ⟨by decide, by decide, by decide, by decide, rfl⟩, by decide, by decide, rfl, by decide⟩

theorem witness_JoiningFollowsItsSteps_5 : ∃ (s : State) (u : State) (v : State) (r : Rx), s.takes (fun r => isUp 0x08 r && r.sub == 2) r u ∧ (u.stall r.stall).state = sJOINING ∧ r.num 1 1 = 2 ∧ v = ((u.unadmit (u.stall r.stall).eui).modStall r.stall (fun x => { x with state := sACTIVE })).queueKeys r.stall ∧ v.rolling = true ∧ (u.stall r.stall).epoch = v.nextEpoch8 :=
  ⟨(heard (node (fun x => { x with state := 1, epoch := 8 })).rollOpen (rx 1 1 [8, 2, 2])), _, _, (rx 1 1 [8, 2, 2]),
   ⟨by decide, by decide, by decide, by decide, rfl⟩, by decide, by decide, rfl, by decide⟩

theorem witness_JoiningFollowsItsSteps_6 : ∃ (s : State) (u : State) (r : Rx), s.takes (fun r => isUp 0x08 r && r.sub != 2) r u ∧ r.rejoins = true :=
  ⟨(heard (node (fun x => { x with state := 5 })) (rx 1 1 [8, 0, 9, 0, 0, 0, 0, 0, 0, 0, 2, 20, 3, 4, 2, 9])), _, (rx 1 1 [8, 0, 9, 0, 0, 0, 0, 0, 0, 0, 2, 20, 3, 4, 2, 9]),
   ⟨by decide, by decide, by decide, by decide, rfl⟩, by decide⟩

theorem witness_JoiningFollowsItsSteps_7 : ∃ (s : State) (u : State) (i : Nat), (s.stall i).state = sJOINING ∧ s.serving = true ∧ u = s.elapseTo ((s.stall i).joinAt + s.cf .YRD_MAC_JOIN F.YRD_MAC_JOIN_JOIN_TIMEOUT * secT) :=
  ⟨(node (fun x => { x with state := 1, joinAt := 3 })), _, 9,
   by decide, by decide, rfl⟩

theorem witness_JoiningFollowsItsSteps_8 : ∃ (s : State) (u : State) (i : Nat) (h : Nat) (it : Item), (s.stall i).state = sADRIFT ∧ s.serving = true ∧ s.seg.items.filter (fun t => t.stall == i) = [it] ∧ it.hold = some h ∧ it.busy = false ∧ it.ackDue = none ∧ u = s.elapseTo h ∧ ((s.air.accepted ++ s.air.waiting).any (fun r => r.stall == i && r.frame.typ == tyUP && decide (r.frame.sfd < h))) = false :=
  ⟨({ node (fun x => { x with state := 4 }) with seg := { (node (fun x => { x with state := 4 })).seg with items := [{ itm with hold := some 800 }] } }), _, 9, 800, ({ itm with hold := some 800 }),
   by decide, by decide, by decide, by decide, by decide, of_decide_eq_true rfl, rfl, by decide⟩

theorem witness_JoiningFollowsItsSteps_9 : ∃ (s : State) (u : State) (i : Nat) (h : Nat) (it : Item), (s.stall i).state = sADRIFT ∧ s.serving = true ∧ s.seg.items.filter (fun t => t.stall == i) = [it] ∧ it.hold = some h ∧ it.busy = false ∧ it.ackDue = none ∧ u = s.elapseTo h ∧ ((s.air.accepted ++ s.air.waiting).any (fun r => r.stall == i && r.frame.typ == tyUP && decide (r.frame.sfd < h))) = true :=
  ⟨({ node (fun x => { x with state := 4 }) with seg := { (node (fun x => { x with state := 4 })).seg with items := [{ itm with hold := some 800 }] }, air := { (node (fun x => { x with state := 4 })).air with accepted := [rx 1 1 [0x10]] } }), _, 9, 800, ({ itm with hold := some 800 }),
   by decide, by decide, by decide, by decide, by decide, of_decide_eq_true rfl, rfl, by decide⟩

theorem witness_JoiningFollowsItsSteps_10 : ∃ (s : State) (u : State) (v : State) (i : Nat), (s.stall i).state = sADRIFT ∧ s.serving = true ∧ u = s.elapseRtc (max (s.stall i).lastSeen ((s.stall i).dozeEnd * 65536) + s.param 0x0402 * 60 * 32768) ∧ v = (u.endItems i stEXPIRED 2).modStall i (fun x => { x with state := sLOST }) :=
  ⟨(node (fun x => { x with state := 4 })), _, _, 9,
   by decide, by decide, rfl, rfl⟩

theorem witness_ImagesAreStoredInOrder_0 : ∃ (s : State) (d : Desc) (e : Desc) (read : HostRead) (x : ImgSlot), s.serves d 0x30 ∧ d.seen s read = some e ∧ e.len ≠ 0 ∧ e.len ≤ 65536 ∧ e.target < 8 ∧ e.pByte 8 < 4 ∧ e.pZero 9 32 = true ∧ 129 ≤ e.pNum 4 4 ∧ e.pNum 4 4 ≤ 4194304 ∧ x = (if bit (e.pByte 8) 0 then { state := 1, total := e.pNum 4 4, data := [] } else s.img e.target) ∧ s.slotInUse e.target = true :=
  ⟨(fly ({ camps [{ cmp with slot := 7 }] with pending := [] }) (dsc 0x30 7 (pb [0, 0, 0, 0, 129, 0, 0, 0, 1]) 1)), (dsc 0x30 7 (pb [0, 0, 0, 0, 129, 0, 0, 0, 1]) 1), ((dsc 0x30 7 (pb [0, 0, 0, 0, 129, 0, 0, 0, 1]) 1).filled (oct [1])), (.ok (oct [1])), _,
   ⟨by decide, by decide, by decide, by decide⟩, by decide, by decide, by decide, by decide, by decide, of_decide_eq_true rfl, by decide, by decide, rfl, by decide⟩

theorem witness_ImagesAreStoredInOrder_1 : ∃ (s : State) (d : Desc) (e : Desc) (read : HostRead) (x : ImgSlot), s.serves d 0x30 ∧ d.seen s read = some e ∧ e.len ≠ 0 ∧ e.len ≤ 65536 ∧ e.target < 8 ∧ e.pByte 8 < 4 ∧ e.pZero 9 32 = true ∧ 129 ≤ e.pNum 4 4 ∧ e.pNum 4 4 ≤ 4194304 ∧ x = (if bit (e.pByte 8) 0 then { state := 1, total := e.pNum 4 4, data := [] } else s.img e.target) ∧ s.slotInUse e.target = false ∧ (x.state ≠ 1 ∨ e.pNum 0 4 ≠ x.data.length ∨ e.pNum 4 4 ≠ x.total) :=
  ⟨(fly (up) (dsc 0x30 7 (pb [5, 0, 0, 0, 129, 0, 0, 0, 0]) 1)), (dsc 0x30 7 (pb [5, 0, 0, 0, 129, 0, 0, 0, 0]) 1), ((dsc 0x30 7 (pb [5, 0, 0, 0, 129, 0, 0, 0, 0]) 1).filled (oct [1])), (.ok (oct [1])), _,
   ⟨by decide, by decide, by decide, by decide⟩, by decide, by decide, by decide, by decide, by decide, of_decide_eq_true rfl, by decide, by decide, rfl, by decide⟩

theorem witness_ImagesAreStoredInOrder_2 : ∃ (s : State) (d : Desc) (e : Desc) (read : HostRead) (x : ImgSlot), s.serves d 0x30 ∧ d.seen s read = some e ∧ e.len ≠ 0 ∧ e.len ≤ 65536 ∧ e.target < 8 ∧ e.pByte 8 < 4 ∧ e.pZero 9 32 = true ∧ 129 ≤ e.pNum 4 4 ∧ e.pNum 4 4 ≤ 4194304 ∧ x = (if bit (e.pByte 8) 0 then { state := 1, total := e.pNum 4 4, data := [] } else s.img e.target) ∧ s.slotInUse e.target = false ∧ x.state = 1 ∧ e.pNum 0 4 = x.data.length ∧ e.pNum 4 4 = x.total ∧ e.pNum 4 4 < e.pNum 0 4 + e.len :=
  ⟨(fly (up) (dsc 0x30 7 (pb [0, 0, 0, 0, 129, 0, 0, 0, 1]) 130)), (dsc 0x30 7 (pb [0, 0, 0, 0, 129, 0, 0, 0, 1]) 130), ((dsc 0x30 7 (pb [0, 0, 0, 0, 129, 0, 0, 0, 1]) 130).filled (oct [1])), (.ok (oct [1])), _,
   ⟨by decide, by decide, by decide, by decide⟩, by decide, by decide, by decide, by decide, by decide, of_decide_eq_true rfl, by decide, by decide, rfl, by decide⟩

theorem witness_ImagesAreStoredInOrder_3 : ∃ (s : State) (d : Desc) (e : Desc) (read : HostRead) (x : ImgSlot), s.serves d 0x30 ∧ d.seen s read = some e ∧ e.len ≠ 0 ∧ e.len ≤ 65536 ∧ e.target < 8 ∧ e.pByte 8 < 4 ∧ e.pZero 9 32 = true ∧ 129 ≤ e.pNum 4 4 ∧ e.pNum 4 4 ≤ 4194304 ∧ x = (if bit (e.pByte 8) 0 then { state := 1, total := e.pNum 4 4, data := [] } else s.img e.target) ∧ s.slotInUse e.target = false ∧ x.state = 1 ∧ e.pNum 0 4 = x.data.length ∧ e.pNum 4 4 = x.total ∧ e.pNum 0 4 + e.len ≤ e.pNum 4 4 ∧ bit (e.pByte 8) 1 = false :=
  ⟨(fly (up) (dsc 0x30 7 (pb [0, 0, 0, 0, 129, 0, 0, 0, 1]) 128)), (dsc 0x30 7 (pb [0, 0, 0, 0, 129, 0, 0, 0, 1]) 128), ((dsc 0x30 7 (pb [0, 0, 0, 0, 129, 0, 0, 0, 1]) 128).filled (oct [1])), (.ok (oct [1])), _,
   ⟨by decide, by decide, by decide, by decide⟩, by decide, by decide, by decide, by decide, by decide, of_decide_eq_true rfl, by decide, by decide, rfl, by decide⟩

theorem witness_ImagesAreStoredInOrder_4 : ∃ (s : State) (d : Desc) (e : Desc) (read : HostRead) (x : ImgSlot), s.serves d 0x30 ∧ d.seen s read = some e ∧ e.len ≠ 0 ∧ e.len ≤ 65536 ∧ e.target < 8 ∧ e.pByte 8 < 4 ∧ e.pZero 9 32 = true ∧ 129 ≤ e.pNum 4 4 ∧ e.pNum 4 4 ≤ 4194304 ∧ x = (if bit (e.pByte 8) 0 then { state := 1, total := e.pNum 4 4, data := [] } else s.img e.target) ∧ s.slotInUse e.target = false ∧ x.state = 1 ∧ e.pNum 0 4 = x.data.length ∧ e.pNum 4 4 = x.total ∧ e.pNum 0 4 + e.len = e.pNum 4 4 ∧ bit (e.pByte 8) 1 = true ∧ manifestOk (x.data ++ e.buf) (e.pNum 4 4) = true :=
  ⟨(fly up (dsc 0x30 7 (pb [0, 0, 0, 0, 129, 0, 0, 0, 3]) 129)), (dsc 0x30 7 (pb [0, 0, 0, 0, 129, 0, 0, 0, 3]) 129), ((dsc 0x30 7 (pb [0, 0, 0, 0, 129, 0, 0, 0, 3]) 129).filled img1), (.ok img1), _,
   ⟨by decide, by decide, by decide, by decide⟩, (rfl), by decide, by decide, by decide, by decide, by decide, of_decide_eq_true rfl, by decide, rfl, by decide, by decide, by decide, by decide, by decide, of_decide_eq_true rfl, (img1_ok)⟩

theorem witness_ImagesAreStoredInOrder_5 : ∃ (s : State) (d : Desc) (e : Desc) (read : HostRead) (x : ImgSlot), s.serves d 0x30 ∧ d.seen s read = some e ∧ e.len ≠ 0 ∧ e.len ≤ 65536 ∧ e.target < 8 ∧ e.pByte 8 < 4 ∧ e.pZero 9 32 = true ∧ 129 ≤ e.pNum 4 4 ∧ e.pNum 4 4 ≤ 4194304 ∧ x = (if bit (e.pByte 8) 0 then { state := 1, total := e.pNum 4 4, data := [] } else s.img e.target) ∧ s.slotInUse e.target = false ∧ x.state = 1 ∧ e.pNum 0 4 = x.data.length ∧ e.pNum 4 4 = x.total ∧ e.pNum 0 4 + e.len = e.pNum 4 4 ∧ bit (e.pByte 8) 1 = true ∧ manifestOk (x.data ++ e.buf) (e.pNum 4 4) = false :=
  ⟨(fly up (dsc 0x30 7 (pb [0, 0, 0, 0, 129, 0, 0, 0, 3]) 129)), (dsc 0x30 7 (pb [0, 0, 0, 0, 129, 0, 0, 0, 3]) 129), ((dsc 0x30 7 (pb [0, 0, 0, 0, 129, 0, 0, 0, 3]) 129).filled (oct [0x31, 0x4D, 0x49, 0x4F, 1] ++ zeros 23 ++ oct [1])), (.ok (oct [0x31, 0x4D, 0x49, 0x4F, 1] ++ zeros 23 ++ oct [1])), _,
   ⟨by decide, by decide, by decide, by decide⟩, by decide, by decide, by decide, by decide, by decide, of_decide_eq_true rfl, by decide, by decide, rfl, by decide⟩

theorem witness_CampaignsFollowTheirCommands_0 : ∃ (s : State) (d : Desc) (e : Desc) (read : HostRead), s.serves d 0x31 ∧ d.seen s read = some e ∧ campArgsOk e = true ∧ e.pByte 0 = 0 ∧ e.len = 64 ∧ campReserved e.buf = true ∧ s.camp? e.target = none ∧ s.campCheck (campOf e.target e.buf) = none ∧ 8 ≤ s.flt.camps.length :=
  ⟨(fly (camps ((List.range 8).map (fun k => { cmp with id := 10 + k }))) (dsc 0x31 2 0 64)), (dsc 0x31 2 0 64), ((dsc 0x31 2 0 64).filled (oct [0, 1, 0, 0, 60, 0, 20, 50, 3, 1, 64, 0])), (.ok (oct [0, 1, 0, 0, 60, 0, 20, 50, 3, 1, 64, 0])),
   ⟨by decide, by decide, by decide, by decide⟩, by decide⟩

theorem witness_CampaignsFollowTheirCommands_1 : ∃ (s : State) (d : Desc) (e : Desc) (read : HostRead), s.serves d 0x31 ∧ d.seen s read = some e ∧ campArgsOk e = true ∧ e.pByte 0 = 0 ∧ e.len = 64 ∧ campReserved e.buf = true ∧ s.camp? e.target = none ∧ s.campCheck (campOf e.target e.buf) = none ∧ s.flt.camps.length < 8 :=
  ⟨(fly (camps ((List.range 7).map (fun k => { cmp with id := 10 + k }))) (dsc 0x31 2 0 64)), (dsc 0x31 2 0 64), ((dsc 0x31 2 0 64).filled (oct [0, 1, 0, 0, 60, 0, 20, 50, 3, 1, 64, 0])), (.ok (oct [0, 1, 0, 0, 60, 0, 20, 50, 3, 1, 64, 0])),
   ⟨by decide, by decide, by decide, by decide⟩, by decide⟩

theorem witness_CampaignsFollowTheirCommands_2 : ∃ (s : State) (d : Desc) (c : Campaign), s.serves d 0x31 ∧ campArgsOk d = true ∧ d.len = 0 ∧ s.camp? d.target = some c ∧ d.pByte 0 = 1 ∧ c.state ≠ cDEFINED :=
  ⟨(fly (camps [{ cmp with state := 1 }]) (dsc 0x31 2 (pb [1]))), (dsc 0x31 2 (pb [1])), ({ cmp with state := 1 }),
   ⟨by decide, by decide, by decide, by decide⟩, by decide⟩

theorem witness_CampaignsFollowTheirCommands_3 : ∃ (s : State) (d : Desc) (c : Campaign), s.serves d 0x31 ∧ campArgsOk d = true ∧ d.len = 0 ∧ s.camp? d.target = some c ∧ d.pByte 0 = 1 ∧ c.state = cDEFINED ∧ s.campCheck c = none ∧ (s.flt.camps.any (fun x => decide (1 ≤ x.state ∧ x.state ≤ 3)) = true) :=
  ⟨(fly (camps [cmp, { cmp with id := 3, state := 2 }]) (dsc 0x31 2 (pb [1]))), (dsc 0x31 2 (pb [1])), cmp,
   ⟨by decide, by decide, by decide, by decide⟩, by decide⟩

theorem witness_CampaignsFollowTheirCommands_4 : ∃ (s : State) (d : Desc) (c : Campaign), s.serves d 0x31 ∧ campArgsOk d = true ∧ d.len = 0 ∧ s.camp? d.target = some c ∧ d.pByte 0 = 1 ∧ c.state = cDEFINED ∧ s.campCheck c = none ∧ (s.flt.camps.any (fun x => decide (1 ≤ x.state ∧ x.state ≤ 3)) = false) :=
  ⟨(fly (camps [cmp]) (dsc 0x31 2 (pb [1]))), (dsc 0x31 2 (pb [1])), cmp,
   ⟨by decide, by decide, by decide, by decide⟩, by decide⟩

theorem witness_CampaignsFollowTheirCommands_5 : ∃ (s : State) (d : Desc) (c : Campaign), s.serves d 0x31 ∧ campArgsOk d = true ∧ d.len = 0 ∧ s.camp? d.target = some c ∧ d.pByte 0 = 2 ∧ (c.state = cARMED ∨ c.state = cSENDING) :=
  ⟨(fly (camps [{ cmp with state := 2 }]) (dsc 0x31 2 (pb [2]))), (dsc 0x31 2 (pb [2])), ({ cmp with state := 2 }),
   ⟨by decide, by decide, by decide, by decide⟩, by decide⟩

theorem witness_CampaignsFollowTheirCommands_6 : ∃ (s : State) (d : Desc) (c : Campaign), s.serves d 0x31 ∧ campArgsOk d = true ∧ d.len = 0 ∧ s.camp? d.target = some c ∧ d.pByte 0 = 3 ∧ c.state = cPAUSED :=
  ⟨(fly (camps [{ cmp with state := 3 }]) (dsc 0x31 2 (pb [3]))), (dsc 0x31 2 (pb [3])), ({ cmp with state := 3 }),
   ⟨by decide, by decide, by decide, by decide⟩, by decide⟩

theorem witness_CampaignsFollowTheirCommands_7 : ∃ (s : State) (d : Desc) (c : Campaign), s.serves d 0x31 ∧ campArgsOk d = true ∧ d.len = 0 ∧ s.camp? d.target = some c ∧ d.pByte 0 = 4 ∧ (c.state = cARMED ∨ c.state = cSENDING ∨ c.state = cPAUSED) :=
  ⟨(fly (camps [{ cmp with state := 2, status := [(1, 1), (2, 5), (3, 6)] }]) (dsc 0x31 2 (pb [4]))), (dsc 0x31 2 (pb [4])), ({ cmp with state := 2, status := [(1, 1), (2, 5), (3, 6)] }),
   ⟨by decide, by decide, by decide, by decide⟩, by decide⟩

theorem witness_CampaignsFollowTheirCommands_8 : ∃ (s : State) (d : Desc) (c : Campaign), s.serves d 0x31 ∧ campArgsOk d = true ∧ d.len = 0 ∧ s.camp? d.target = some c ∧ d.pByte 0 = 5 ∧ c.state ≤ 3 :=
  ⟨(fly (camps [{ cmp with state := 3 }]) (dsc 0x31 2 (pb [5]))), (dsc 0x31 2 (pb [5])), ({ cmp with state := 3 }),
   ⟨by decide, by decide, by decide, by decide⟩, by decide⟩

theorem witness_CampaignsFollowTheirCommands_9 : ∃ (s : State) (d : Desc) (c : Campaign), s.serves d 0x31 ∧ campArgsOk d = true ∧ d.len = 0 ∧ s.camp? d.target = some c ∧ d.pByte 0 = 5 ∧ 3 < c.state :=
  ⟨(fly (camps [{ cmp with state := 4 }]) (dsc 0x31 2 (pb [5]))), (dsc 0x31 2 (pb [5])), ({ cmp with state := 4 }),
   ⟨by decide, by decide, by decide, by decide⟩, by decide⟩

theorem witness_CampaignsFollowTheirCommands_10 : ∃ (s : State) (d : Desc) (c : Campaign), s.serves d 0x31 ∧ campArgsOk d = true ∧ d.len = 0 ∧ s.camp? d.target = some c ∧ d.pByte 0 = 3 ∧ c.state ≠ cPAUSED :=
  ⟨(fly (camps [{ cmp with state := 1 }]) (dsc 0x31 2 (pb [3]))), (dsc 0x31 2 (pb [3])), ({ cmp with state := 1 }),
   ⟨by decide, by decide, by decide, by decide⟩, by decide⟩

theorem witness_CampaignsFollowTheirCommands_11 : ∃ (s : State) (d : Desc) (c : Campaign), s.serves d 0x32 ∧ s.camp? d.target = some c ∧ d.len ≠ 0 ∧ d.pByte 0 = 0 ∧ d.pZero 1 32 = true ∧ 64 ≤ d.len :=
  ⟨(fly (camps [cmp]) (dsc 0x32 2 0 64)), (dsc 0x32 2 0 64), cmp,
   ⟨by decide, by decide, by decide, by decide⟩, by decide⟩

theorem witness_CampaignsFollowTheirCommands_12 : ∃ (s : State) (d : Desc) (c : Campaign), s.serves d 0x32 ∧ s.camp? d.target = some c ∧ d.len ≠ 0 ∧ d.pByte 0 = 1 ∧ d.pZero 1 4 = true ∧ d.pZero 12 32 = true ∧ d.pNum 8 4 ≠ 0 ∧ d.pNum 4 4 + d.pNum 8 4 ≤ nStalls :=
  ⟨(fly (camps [cmp]) (dsc 0x32 2 (pb [1, 0, 0, 0, 255, 255, 3, 0, 1]) 8)), (dsc 0x32 2 (pb [1, 0, 0, 0, 255, 255, 3, 0, 1]) 8), cmp,
   ⟨by decide, by decide, by decide, by decide⟩, by decide⟩

theorem witness_CampaignNightsFollowTheirWindow_0 : ∃ (s : State) (u : State) (c : Campaign) (c1 : Campaign), s.camp? c.id = some c ∧ c.state = cARMED ∧ s.serving = true ∧ (c.resumed = false ∨ s.openWindow s.outputTime c.winStart c.winEnd = none) ∧ c.winClose = none ∧ c.night < c.nights ∧ u = s.elapseOut (s.nextWindow s.outputTime c.winStart c.winEnd).1 ∧ c1 = { c with night := c.night + 1, counted := true, resumed := false, blocks := [], winClose := some (s.nextWindow s.outputTime c.winStart c.winEnd).2 } :=
  ⟨(camps [{ cmp with state := 1 }]), _, ({ cmp with state := 1 }), _,
   by decide, by decide, by decide, by decide, by decide, of_decide_eq_true rfl, rfl, rfl⟩

theorem witness_CampaignNightsFollowTheirWindow_1 : ∃ (s : State) (c : Campaign) (w : Int), s.camp? c.id = some c ∧ c.winClose = some w :=
  ⟨(camps [{ cmp with state := 2, winClose := some 900, counted := true, night := 1 }]), ({ cmp with state := 2, winClose := some 900, counted := true, night := 1 }), 900,
   by decide⟩

theorem witness_CampaignNightsFollowTheirWindow_2 : ∃ (s : State) (c : Campaign), s.camp? c.id = some c ∧ (c.state = cARMED ∨ c.state = cSENDING) :=
  ⟨(camps [{ cmp with state := 2 }]), ({ cmp with state := 2 }),
   by decide⟩

theorem witness_CampaignNightsFollowTheirWindow_3 : ∃ (s : State) (c : Campaign), s.flt.camps.find? (fun c => c.state == cSENDING) = some c ∧ c.blocks.length < c.z :=
  ⟨(camps [{ cmp with state := 2 }]), ({ cmp with state := 2 }),
   by decide⟩

theorem witness_CampaignNightsFollowTheirWindow_4 : ∃ (s : State) (u : State), s.done = true ∧ u = s.elapseRtc (s.flt.savedAt + 60 * 32768) :=
  ⟨(camps [cmp]), _,
   by decide, rfl⟩

theorem witness_LaunchSlotsArmAndFire_0 : ∃ (s : State) (u : State) (d : Desc), s.desc? d.did = some d ∧ d.stage = .launchWait ∧ d.op ≠ 0x18 ∧ s.paused = false ∧ u = s.elapseOut ((d.launchTime : Int) - 60 * secT) ∧ u.slotFree d.slotClass = false :=
  ⟨(fly ({ up with tsu := { up.tsu with slots := (List.range 32).map (fun k => { cls := .general, did := 50 + k, time := 9, scene := none, yards := 0, late := false }) } } : State) ({ dsc 0x04 0x0401 (pb [10]) with launch := true, launchTime := 40000000000, stage := .launchWait })), _, ({ dsc 0x04 0x0401 (pb [10]) with launch := true, launchTime := 40000000000, stage := .launchWait }),
   by decide, by decide, by decide, by decide, rfl, by decide⟩

theorem witness_LaunchSlotsArmAndFire_1 : ∃ (s : State) (u : State) (d : Desc), s.desc? d.did = some d ∧ d.stage = .launchWait ∧ d.op ≠ 0x18 ∧ s.paused = false ∧ u = s.elapseOut ((d.launchTime : Int) - 60 * secT) ∧ u.slotFree d.slotClass = true ∧ u.outputTime ≤ (d.launchTime : Int) - d.slotClass.limit :=
  ⟨(fly up ({ dsc 0x04 0x0401 (pb [10]) with launch := true, launchTime := 40000000000, stage := .launchWait })), _, ({ dsc 0x04 0x0401 (pb [10]) with launch := true, launchTime := 40000000000, stage := .launchWait }),
   by decide, by decide, by decide, by decide, rfl, by decide⟩

theorem witness_LaunchSlotsArmAndFire_2 : ∃ (s : State) (u : State) (d : Desc), s.desc? d.did = some d ∧ d.stage = .launchWait ∧ d.op ≠ 0x18 ∧ s.paused = false ∧ u = s.elapseOut ((d.launchTime : Int) - 60 * secT) ∧ u.slotFree d.slotClass = true ∧ (d.launchTime : Int) - d.slotClass.limit < u.outputTime :=
  ⟨(fly up ({ dsc 0x04 0x0401 (pb [10]) with launch := true, launchTime := 0, stage := .launchWait })), _, ({ dsc 0x04 0x0401 (pb [10]) with launch := true, launchTime := 0, stage := .launchWait }),
   by decide, by decide, by decide, by decide, rfl, by decide⟩

theorem witness_LaunchSlotsArmAndFire_3 : ∃ (s : State) (u : State) (v : State) (x : Slot) (d : Desc), s.armedSlots.filter (fun k => k.did == x.did) = [x] ∧ x.scene = none ∧ s.slotHeld x = false ∧ u = (if x.late then s else s.elapseOut x.time) ∧ v = u.putSlots (u.tsu.slots.filter (fun k => k != x)) ∧ u.desc? x.did = some d :=
  ⟨(fly ({ up with tsu := { up.tsu with slots := [{ cls := .general, did := 1, time := 900, scene := none, yards := 0, late := false }] } } : State) ({ dsc 0x04 0x0401 (pb [10]) with launch := true, launchTime := 900, stage := .armed })), _, _, ({ cls := .general, did := 1, time := 900, scene := none, yards := 0, late := false }), ({ dsc 0x04 0x0401 (pb [10]) with launch := true, launchTime := 900, stage := .armed }),
   by decide, by decide, by decide, rfl, rfl, by decide⟩

theorem witness_LaunchSlotsArmAndFire_4 : ∃ (s : State) (x : Slot), s.armedSlots.filter (fun k => k.did == x.did) = [x] ∧ x.cls = .general ∧ s.paused = true :=
  ⟨(({ up with tsu := { up.tsu with slots := [{ cls := .general, did := 1, time := 900, scene := none, yards := 0, late := false }] } } : State).setSf .HIF_STATUS F.HIF_STATUS_PAUSE 1), ({ cls := .general, did := 1, time := 900, scene := none, yards := 0, late := false }),
   by decide⟩

theorem witness_LaunchSlotsArmAndFire_5 : ∃ (s : State) (x : Slot) (id : Nat) (c : Scene), x.scene = some id ∧ x.cls = .drive ∧ s.scene? id = some c :=
  ⟨({ up with seg := { up.seg with scenes := [scn 6 900 (some 1) true] } }), ({ cls := .drive, did := 1, time := 900, scene := some 6, yards := 0, late := false }), 6, (scn 6 900 (some 1) true),
   by decide⟩

theorem witness_FabricForwardsWithinItsVlan_0 : ∃ (s : State) (p : Nat) (f : EthRx), p < 3 ∧ s.done = true ∧ s.linkUp p = true ∧ f.intact = false :=
  ⟨fab, 0, ({ data := eth 64 66 0x800 60, intact := false, hostBad := none }),
   by decide⟩

theorem witness_FabricForwardsWithinItsVlan_1 : ∃ (s : State) (p : Nat) (f : EthRx), p < 3 ∧ s.done = true ∧ s.linkUp p = true ∧ f.intact = true ∧ (f.data.length < 60 ∨ 1996 < f.data.length) :=
  ⟨fab, 0, ({ data := eth 64 66 0x800 59, intact := true, hostBad := none }),
   by decide⟩

theorem witness_FabricForwardsWithinItsVlan_2 : ∃ (s : State) (p : Nat) (f : EthRx) (v : Nat) (m : Nat) (tc : Nat) (r : State × Nat × Nat), p < 3 ∧ s.done = true ∧ s.linkUp p = true ∧ f.intact = true ∧ 60 ≤ f.data.length ∧ f.data.length ≤ 1996 ∧ beAt f.data 12 2 ≠ 0x8808 ∧ v = vidOf (s.cf (.SWX_PORT_CFG p) F.SWX_PORT_CFG_PVID) f.data ∧ (s.vlan v).map (fun x => x.1) = some m ∧ bit m p = true ∧ s.portBlocked p = false ∧ s.cf .SWX_CFG F.SWX_CFG_ENABLE ≠ 0 ∧ tc = (if tagged f.data then s.pcpClass (beAt f.data 14 2 / 8192) else s.cf (.SWX_PORT_CFG p) F.SWX_PORT_CFG_DEFTC) ∧ r = ((s.rxStamp p).2.learn (leAt f.data 6 6) v p).forward p v tc { data := f.data, port := some p, raw := (s.rxStamp p).1.1, out := (s.rxStamp p).1.2, bad := f.hostBad } ∧ r.2.1 = 0 :=
  ⟨((fab.setSf (.SWX_PORT_STAT 1) F.SWX_PORT_STAT_LINK 0).setCf (.SWX_VLAN 0) F.SWX_VLAN_MEMBER 7), 0, ({ data := eth 64 66 0x800 60, intact := true, hostBad := none }), _, 7, _, _,
   by decide, by decide, by decide, by decide, by decide, of_decide_eq_true rfl, by decide, rfl, by decide, by decide, by decide, by decide, rfl, rfl, by decide⟩

theorem witness_FabricForwardsWithinItsVlan_3 : ∃ (s : State) (p : Nat) (f : EthRx) (v : Nat) (m : Nat) (tc : Nat) (r : State × Nat × Nat), p < 3 ∧ s.done = true ∧ s.linkUp p = true ∧ f.intact = true ∧ 60 ≤ f.data.length ∧ f.data.length ≤ 1996 ∧ beAt f.data 12 2 ≠ 0x8808 ∧ v = vidOf (s.cf (.SWX_PORT_CFG p) F.SWX_PORT_CFG_PVID) f.data ∧ (s.vlan v).map (fun x => x.1) = some m ∧ bit m p = true ∧ s.portBlocked p = false ∧ s.cf .SWX_CFG F.SWX_CFG_ENABLE ≠ 0 ∧ tc = (if tagged f.data then s.pcpClass (beAt f.data 14 2 / 8192) else s.cf (.SWX_PORT_CFG p) F.SWX_PORT_CFG_DEFTC) ∧ r = ((s.rxStamp p).2.learn (leAt f.data 6 6) v p).forward p v tc { data := f.data, port := some p, raw := (s.rxStamp p).1.1, out := (s.rxStamp p).1.2, bad := f.hostBad } ∧ r.2.1 ≠ 0 ∧ r.2.2 = 0 :=
  ⟨(((fab.setCf (.SWX_VLAN 0) F.SWX_VLAN_MEMBER 3).setCf .SWX_BUF_CFG F.SWX_BUF_CFG_RESERVE 0).setQueue (qOf 1 0) [{ egf (eth 1 3 0x800 60) with shared := true, cells := 33000 }]), 0, ({ data := eth 64 66 0x800 60, intact := true, hostBad := none }), _, 3, _, _,
   by decide, by decide, by decide, by decide, by decide, of_decide_eq_true rfl, by decide, rfl, by decide, by decide, by decide, by decide, rfl, rfl, by decide⟩

theorem witness_FabricForwardsWithinItsVlan_4 : ∃ (s : State) (p : Nat) (f : EthRx) (v : Nat) (m : Nat) (tc : Nat) (r : State × Nat × Nat), p < 3 ∧ s.done = true ∧ s.linkUp p = true ∧ f.intact = true ∧ 60 ≤ f.data.length ∧ f.data.length ≤ 1996 ∧ beAt f.data 12 2 ≠ 0x8808 ∧ v = vidOf (s.cf (.SWX_PORT_CFG p) F.SWX_PORT_CFG_PVID) f.data ∧ (s.vlan v).map (fun x => x.1) = some m ∧ bit m p = true ∧ s.portBlocked p = false ∧ s.cf .SWX_CFG F.SWX_CFG_ENABLE ≠ 0 ∧ tc = (if tagged f.data then s.pcpClass (beAt f.data 14 2 / 8192) else s.cf (.SWX_PORT_CFG p) F.SWX_PORT_CFG_DEFTC) ∧ r = ((s.rxStamp p).2.learn (leAt f.data 6 6) v p).forward p v tc { data := f.data, port := some p, raw := (s.rxStamp p).1.1, out := (s.rxStamp p).1.2, bad := f.hostBad } ∧ r.2.1 ≠ 0 ∧ r.2.2 ≠ 0 :=
  ⟨fab, 0, ({ data := eth 64 66 0x800 60, intact := true, hostBad := none }), _, 23, _, _,
   by decide, by decide, by decide, by decide, by decide, of_decide_eq_true rfl, by decide, rfl, by decide, by decide, by decide, by decide, rfl, rfl, by decide⟩

theorem witness_FabricForwardsWithinItsVlan_5 : ∃ (s : State) (mac : Nat) (v : Nat) (src : Nat) (m : Nat) (d : Nat), d ∈ s.destsOf mac v src m ∧ d < 3 :=
  ⟨fab, 64, 5, 0, 23, 1,
   by decide⟩

theorem witness_FabricForwardsWithinItsVlan_6 : ∃ (s : State) (mac : Nat) (v : Nat) (src : Nat) (m : Nat) (d : Nat), d ∈ s.destsOf mac v src m ∧ mac % 2 = 1 ∧ mac ≠ s.macM ∧ mac ≠ s.macH :=
  ⟨fab, 65, 5, 0, 23, 4,
   by decide⟩

theorem witness_FabricForwardsWithinItsVlan_7 : ∃ (s : State) (mac : Nat) (v : Nat) (src : Nat) (m : Nat) (d : Nat), d ∈ s.destsOf mac v src m :=
  ⟨fab, 18, 5, 0, 23, 4,
   by decide⟩

theorem witness_FabricForwardsWithinItsVlan_9 : ∃ (s : State) (a : AddrEnt) (l : List AddrEnt), isort (fun a => a.at_) s.swx.addrs = a :: l ∧ s.portsReload = false ∧ a.at_ + s.cf .SWX_CFG F.SWX_CFG_AGE * secT < 2 ^ 64 :=
  ⟨({ fab with swx := { fab.swx with addrs := [{ mac := 2, vid := 5, dest := 1, at_ := 9 }, { mac := 4, vid := 5, dest := 1, at_ := 5 }] } }), ({ mac := 4, vid := 5, dest := 1, at_ := 5 }), ([{ mac := 2, vid := 5, dest := 1, at_ := 9 }]),
   by decide⟩

theorem witness_FabricForwardsWithinItsVlan_10 : ∃ (s : State) (f : EgFrame) (l : List EgFrame) (w : Nat), s.queue (qOf dstM 7) = f :: l :=
  ⟨(fab.setQueue (qOf dstM 7) [egf (eth 18 66 0x800 60)]), (egf (eth 18 66 0x800 60)), [], 3,
   by decide⟩

theorem witness_FabricForwardsWithinItsVlan_11 : ∃ (s : State) (t : State) (f : EgFrame) (l : List EgFrame), s.queue (qOf dstM 7) = f :: l ∧ t = s.setQueue (qOf dstM 7) l ∧ etherType f.data = 0x0806 ∧ beAt (payloadOf f.data) 6 2 = 1 ∧ beAt (payloadOf f.data) 24 4 = (s.cfg.get .SWX_MGMT_IP4).toNat :=
  ⟨(fab.setQueue (qOf dstM 7) [egf (le 6 18 ++ le 6 66 ++ oct [8, 6, 0, 1, 8, 0, 6, 4, 0, 1] ++ zeros 16 ++ oct [0, 0, 0, 77] ++ zeros 18)]), _, (egf (le 6 18 ++ le 6 66 ++ oct [8, 6, 0, 1, 8, 0, 6, 4, 0, 1] ++ zeros 16 ++ oct [0, 0, 0, 77] ++ zeros 18)), [],
   by decide, rfl, by decide⟩

theorem witness_FabricForwardsWithinItsVlan_12 : ∃ (s : State) (v : Nat), s.clk.phase = Phase.run ∧ v < s.hrxSize ∧ v < 65536 ∧ (v + s.hrxSize - s.hif.hrxHead) % s.hrxSize ≤ (s.hrxTail + s.hrxSize - s.hif.hrxHead) % s.hrxSize :=
  ⟨(fab.setSf .SWX_HRX_STAT F.SWX_HRX_STAT_TAIL 3), 3,
   by decide⟩

theorem witness_FabricForwardsWithinItsVlan_13 : ∃ (s : State) (v : Nat), s.clk.phase = Phase.run ∧ v < s.hrxSize ∧ v < 65536 ∧ (s.hrxTail + s.hrxSize - s.hif.hrxHead) % s.hrxSize < (v + s.hrxSize - s.hif.hrxHead) % s.hrxSize :=
  ⟨(fab.setSf .SWX_HRX_STAT F.SWX_HRX_STAT_TAIL 3), 4,
   by decide⟩

theorem witness_FabricForwardsWithinItsVlan_14 : ∃ (s : State) (u : State), s.hif.hrxIvl ≠ 0 ∧ u = s.elapseTo s.hif.hrxIvl ∧ s.cf .SWX_HRX_CFG F.SWX_HRX_CFG_VECTOR ≠ 0 :=
  ⟨({ fab with hif := { fab.hif with hrxIvl := 9 } }), _,
   by decide, rfl, by decide⟩

theorem witness_FabricForwardsWithinItsVlan_8 : ∃ (s : State) (a : AddrEnt) (l : List AddrEnt), isort (fun a => a.at_) s.swx.addrs = a :: l ∧ s.portsReload = true :=
  ⟨(still { fab with swx := { fab.swx with addrs := [{ mac := 4, vid := 5, dest := 1, at_ := 5 }] } } rest), ({ mac := 4, vid := 5, dest := 1, at_ := 5 }), [],
   by decide⟩

theorem witness_PortsSendTheirQueues_0 : ∃ (s : State) (d : Desc) (e : Desc) (read : HostRead), s.serves d 0x40 ∧ d.seen s read = some e ∧ e.target < 8 ∧ e.pByte 0 < 32 ∧ bit (e.pByte 0) 3 = false ∧ e.pZero 1 32 = true ∧ e.target = 3 :=
  ⟨(fly fab (dsc 0x40 3 0 60)), (dsc 0x40 3 0 60), ((dsc 0x40 3 0 60).filled (eth 64 66 0x800 60)), (.ok (eth 64 66 0x800 60)),
   ⟨by decide, by decide, by decide, by decide⟩, by decide⟩

theorem witness_PortsSendTheirQueues_1 : ∃ (s : State) (d : Desc) (e : Desc) (read : HostRead), s.serves d 0x40 ∧ d.seen s read = some e ∧ e.target < 8 ∧ e.pByte 0 < 32 ∧ bit (e.pByte 0) 3 = false ∧ e.pZero 1 32 = true ∧ e.target < 3 ∧ e.len < 60 :=
  ⟨(fly fab (dsc 0x40 2 0 59)), (dsc 0x40 2 0 59), ((dsc 0x40 2 0 59).filled (eth 64 66 0x800 59)), (.ok (eth 64 66 0x800 59)),
   ⟨by decide, by decide, by decide, by decide⟩, by decide⟩

theorem witness_PortsSendTheirQueues_2 : ∃ (s : State) (d : Desc) (e : Desc) (read : HostRead), s.serves d 0x40 ∧ d.seen s read = some e ∧ e.target < 8 ∧ e.pByte 0 < 32 ∧ bit (e.pByte 0) 3 = false ∧ e.pZero 1 32 = true ∧ e.target < 3 ∧ 60 ≤ e.len ∧ e.len ≤ 1996 ∧ e.launch = false ∧ s.admitCells (qOf e.target (sendTc e)) (cellsFor e.buf) = none :=
  ⟨(fly ((fab.setCf .SWX_BUF_CFG F.SWX_BUF_CFG_RESERVE 0).setQueue (qOf 1 0) [{ egf (eth 1 3 0x800 60) with shared := true, cells := 33000 }]) (dsc 0x40 2 0 60)), (dsc 0x40 2 0 60), ((dsc 0x40 2 0 60).filled (eth 64 66 0x800 60)), (.ok (eth 64 66 0x800 60)),
   ⟨by decide, by decide, by decide, by decide⟩, by decide⟩

theorem witness_PortsSendTheirQueues_3 : ∃ (s : State) (d : Desc) (e : Desc) (read : HostRead) (sh : Bool), s.serves d 0x40 ∧ d.seen s read = some e ∧ e.target < 8 ∧ e.pByte 0 < 32 ∧ bit (e.pByte 0) 3 = false ∧ e.pZero 1 32 = true ∧ e.target < 3 ∧ 60 ≤ e.len ∧ e.len ≤ 1996 ∧ e.launch = false ∧ s.admitCells (qOf e.target (sendTc e)) (cellsFor e.buf) = some sh :=
  ⟨(fly fab (dsc 0x40 2 0 1996)), (dsc 0x40 2 0 1996), ((dsc 0x40 2 0 1996).filled (eth 64 66 0x800 1996)), (.ok (eth 64 66 0x800 1996)), false,
   ⟨by decide, by decide, by decide, by decide⟩, by decide⟩

theorem witness_PortsSendTheirQueues_4 : ∃ (s : State) (d : Desc) (e : Desc) (read : HostRead), s.serves d 0x40 ∧ d.seen s read = some e ∧ e.target < 8 ∧ e.pByte 0 < 32 ∧ bit (e.pByte 0) 3 = false ∧ e.pZero 1 32 = true ∧ e.target < 3 ∧ 60 ≤ e.len ∧ e.len ≤ 1996 ∧ e.launch = true ∧ (s.holding e).pend < 4096 :=
  ⟨(fly fab ({ dsc 0x40 2 0 60 with launch := true })), ({ dsc 0x40 2 0 60 with launch := true }), (({ dsc 0x40 2 0 60 with launch := true }).filled (eth 64 66 0x800 60)), (.ok (eth 64 66 0x800 60)),
   ⟨by decide, by decide, by decide, by decide⟩, by decide⟩

theorem witness_PortsSendTheirQueues_6 : ∃ (s : State) (p : Nat) (c : Nat), c < 8 ∧ s.cf (.SWX_PORT_SCHED p) F.SWX_PORT_SCHED_SP_FLOOR ≤ c ∧ s.queue (qOf p c) ≠ [] ∧ (∀ k, c < k → k < 8 → s.queue (qOf p k) = []) :=
  ⟨(fab.setQueue (qOf 0 7) [egf (eth 1 3 0x800 60)]), 0, 7,
   by decide, by decide, by decide, (fun k h1 h2 => absurd (Nat.lt_of_lt_of_le h1 (Nat.le_of_lt_succ h2)) (Nat.lt_irrefl 7))⟩

theorem witness_PortsSendTheirQueues_8 : ∃ (s : State) (t : State) (p : Nat) (q : Nat) (f : EgFrame) (l : List EgFrame) (w : Nat), p < 3 ∧ s.linkUp p = true ∧ s.nextEgress p = some (q, t) ∧ t.queue q = f :: l ∧ (t.portBlocked p = false ∨ etherType f.data = etherRaps) ∧ t.guarded p f.data = false :=
  ⟨(fab.setQueue (qOf 0 7) [egf (eth 1 3 0x800 60)]), (fab.setQueue (qOf 0 7) [egf (eth 1 3 0x800 60)]), 0, 7, (egf (eth 1 3 0x800 60)), [], 3,
   by decide, by decide, (rfl), by decide⟩

theorem witness_PortsSendTheirQueues_9 : ∃ (s : State) (t : State) (p : Nat) (q : Nat) (f : EgFrame) (l : List EgFrame), p < 3 ∧ s.linkUp p = true ∧ s.nextEgress p = some (q, t) ∧ t.queue q = f :: l ∧ (t.portBlocked p = false ∨ etherType f.data = etherRaps) ∧ t.guarded p f.data = false :=
  ⟨(fab.setQueue (qOf 0 7) [egf (eth 1 3 0x800 60)]), (fab.setQueue (qOf 0 7) [egf (eth 1 3 0x800 60)]), 0, 7, (egf (eth 1 3 0x800 60)), [],
   by decide, by decide, (rfl), by decide⟩

theorem witness_PortsSendTheirQueues_10 : ∃ (s : State) (t : State) (p : Nat) (q : Nat) (f : EgFrame) (l : List EgFrame) (b : Option Nat), p < 3 ∧ s.linkUp p = true ∧ s.nextEgress p = some (q, t) ∧ t.queue q = f :: l ∧ (t.portBlocked p = false ∨ etherType f.data = etherRaps) ∧ t.guarded p f.data = true :=
  ⟨(let u := fab.setQueue (qOf 0 7) [egf (eth 1 3 0x800 60)]; { u with tsu := { u.tsu with slots := [{ cls := .port 0, did := 3, time := 100, scene := none, yards := 0, late := false }] } }), (let u := fab.setQueue (qOf 0 7) [egf (eth 1 3 0x800 60)]; { u with tsu := { u.tsu with slots := [{ cls := .port 0, did := 3, time := 100, scene := none, yards := 0, late := false }] } }), 0, 7, (egf (eth 1 3 0x800 60)), [], none,
   by decide, by decide, (rfl), by decide⟩

theorem witness_PortsSendTheirQueues_11 : ∃ (s : State) (p : Nat) (g : Bool) (a : Bool), p < 3 ∧ s.done = true ∧ s.serdesOk = true ∧ s.linkUp p = false ∧ s.cf (.SWX_PORT_CFG p) F.SWX_PORT_CFG_ENABLE = 1 ∧ s.mayLink p g a = true :=
  ⟨fab, 2, true, false,
   by decide⟩

theorem witness_PortsSendTheirQueues_12 : ∃ (s : State) (p : Nat), p < 3 ∧ s.linkUp p = true :=
  ⟨(fab.setQueue (qOf 0 7) [egf (eth 1 3 0x800 60)]), 0,
   by decide⟩

theorem witness_PortsSendTheirQueues_13 : ∃ (s : State) (p : Nat), p < 3 ∧ s.done = true ∧ s.replaying = false ∧ s.linkUp p = false ∧ s.cf (.SWX_PORT_CFG p) F.SWX_PORT_CFG_ENABLE = 1 ∧ s.cf (.SWX_PORT_CFG p) F.SWX_PORT_CFG_SPEED = 0 ∧ Tbl.get 0 s.swx.searchAt p + 500 * msT < 2 ^ 64 :=
  ⟨fab, 2,
   by decide⟩

theorem witness_PortsSendTheirQueues_5 : ∃ (s : State) (d : Desc) (e : Desc) (read : HostRead) (v : Nat) (r : State×Nat×Nat), s.serves d 0x40 ∧ d.seen s read = some e ∧ e.target < 8 ∧ e.pByte 0 < 32 ∧ bit (e.pByte 0) 3 = false ∧ e.pZero 1 32 = true ∧ e.target = 7 ∧ sendTs e = false ∧ 60 ≤ e.len ∧ e.len ≤ 1996 ∧ e.launch = false ∧ s.cf .SWX_CFG F.SWX_CFG_ENABLE ≠ 0 ∧ v = vidOf Config.hostVid.toNat e.buf ∧ r = (((s.holding e).beginDesc d.did).learn (leAt e.buf 6 6) v dstH).forward dstH v (sendTc e) (InFrame.own e.buf) :=
  ⟨(fly fab (dsc 0x40 7 0 60)), (dsc 0x40 7 0 60), ((dsc 0x40 7 0 60).filled (eth 64 66 0x800 60)), (.ok (eth 64 66 0x800 60)), _, _,
   ⟨by decide, by decide, by decide, by decide⟩, by decide, by decide, by decide, by decide, by decide, of_decide_eq_true rfl, by decide, by decide, by decide, by decide, by decide, rfl, rfl⟩

theorem witness_PortsSendTheirQueues_7 : ∃ (s : State) (t : State) (p : Nat) (q : Nat) (f : EgFrame) (l : List EgFrame) (b : Option Nat), p < 3 ∧ s.linkUp p = true ∧ s.nextEgress p = some (q, t) ∧ t.queue q = f :: l ∧ t.portBlocked p = true ∧ etherType f.data ≠ etherRaps :=
  ⟨((fab.setQueue (qOf 0 7) [egf (eth 1 3 0x800 60)]).setBlk 0 true), ((fab.setQueue (qOf 0 7) [egf (eth 1 3 0x800 60)]).setBlk 0 true), 0, 7, (egf (eth 1 3 0x800 60)), [], none,
   by decide, by decide, (rfl), by decide⟩

theorem witness_RingProtectionFollowsItsMessages_0 : ∃ (s : State) (p : Nat) (m : Raps), (s.swx.erps.on = false ∨ s.swx.erps.guardEnd.isSome = true ∨ m.node = beAt (le 6 s.macM) 0 6 ∨ m.vid ≠ s.cf .SWX_ERPS F.SWX_ERPS_VID ∨ m.mel ≠ 7) :=
  ⟨fab, 0, ({ req := .sf, dnf := false, bpr := false, node := 5, vid := 0, mel := 7 }),
   by decide⟩

theorem witness_RingProtectionFollowsItsMessages_1 : ∃ (s : State) (p : Nat) (m : Raps), s.swx.erps.on = true ∧ p < 2 ∧ s.linkUp p = true ∧ s.swx.erps.guardEnd = none ∧ s.swx.erps.failed = [] ∧ m.node ≠ beAt (le 6 s.macM) 0 6 ∧ m.vid = s.cf .SWX_ERPS F.SWX_ERPS_VID ∧ m.mel = 7 ∧ m.req = .sf ∧ (s.ringState = 1 ∨ s.ringState = 3) :=
  ⟨erp, 0, ({ req := .sf, dnf := false, bpr := false, node := 5, vid := 0, mel := 7 }),
   by decide⟩

theorem witness_RingProtectionFollowsItsMessages_2 : ∃ (s : State) (p : Nat) (m : Raps), s.swx.erps.on = true ∧ p < 2 ∧ s.linkUp p = true ∧ s.swx.erps.guardEnd = none ∧ s.swx.erps.failed = [] ∧ m.node ≠ beAt (le 6 s.macM) 0 6 ∧ m.vid = s.cf .SWX_ERPS F.SWX_ERPS_VID ∧ m.mel = 7 ∧ m.req = .nrRb ∧ s.ringState ≠ 1 ∧ s.ringRole = 0 :=
  ⟨erp, 1, ({ req := .nrRb, dnf := false, bpr := false, node := 5, vid := 0, mel := 7 }),
   by decide⟩

theorem witness_RingProtectionFollowsItsMessages_3 : ∃ (s : State) (r : Nat), s.swx.erps.guardEnd = some r ∧ r < 2 ^ 64 :=
  ⟨(erp.modErps (fun e => { e with guardEnd := some 9 })), 9,
   by decide⟩

theorem witness_RingProtectionFollowsItsMessages_4 : ∃ (s : State) (r : Nat), s.swx.erps.wtrEnd = some r ∧ r < 2 ^ 64 ∧ s.ringState = 3 ∧ s.ringRole = 1 :=
  ⟨((erp.setCf .SWX_ERPS F.SWX_ERPS_ROLE 1).modErps (fun e => { e with wtrEnd := some 9 })), 9,
   by decide⟩

theorem witness_RingProtectionFollowsItsMessages_5 : ∃ (s : State) (n : Nat) (st : Nat) (sig : Bool), n < 20 ∧ s.hif.perst = true ∧ s.sf (.QUE_X_STAT n) F.QUE_X_STAT_STATE = st ∧ (st = 1 ∨ st = 2) :=
  ⟨(({ raw with hif := { raw.hif with perst := true } } : State).setSf (.QUE_X_STAT 19) F.QUE_X_STAT_STATE 2), 19, 2, true,
   by decide⟩

theorem witness_RingProtectionFollowsItsMessages_6 : ∃ (s : State) (n : Nat) (sig : Bool), s.sf (.QUE_X_STAT n) F.QUE_X_STAT_STATE = 0 :=
  ⟨raw, 3, true,
   by decide⟩

theorem witness_SealedCountersAreTakenOnce_0 : ∃ (s : State) (a : Nat) (b : Nat), s.ctrFresh b = true ∧ s.ctrFresh a = false :=
  ⟨({ up with tack := { up.tack with high := 5, window := 3 } }), 4, 9,
   by decide⟩

theorem witness_SealedCountersAreTakenOnce_1 : ∃ (s : State) (a : Nat) (b : Nat), s.ctrFresh b = true :=
  ⟨({ up with tack := { up.tack with high := 5, window := 3 } }), 4, 1,
   by decide⟩

theorem witness_SealedCountersAreTakenOnce_2 : ∃ (s : State) (d : Desc) (e : Desc) (read : HostRead) (env : Envelope), s.serves d 0x06 ∧ d.seen s read = some e ∧ e.target = 0 ∧ e.param = 0#256 ∧ e.len ≠ 0 ∧ s.shed.down = true :=
  ⟨(fly ({ up with shed := { up.shed with down := true } }) (dsc 0x06 0 0 9)), (dsc 0x06 0 0 9), ((dsc 0x06 0 0 9).filled (zeros 9)), (.ok (zeros 9)), (envl 0xC9 3),
   ⟨by decide, by decide, by decide, by decide⟩, by decide⟩

theorem witness_SealedCountersAreTakenOnce_3 : ∃ (s : State) (d : Desc) (e : Desc) (read : HostRead) (env : Envelope), s.serves d 0x06 ∧ d.seen s read = some e ∧ e.target = 0 ∧ e.param = 0#256 ∧ e.len ≠ 0 ∧ s.shed.down = false ∧ 9 ≤ s.shed.queue.length :=
  ⟨(fly ({ up with shed := { up.shed with down := false, queue := List.replicate 9 { src := .sealedUdp 1 2, env := envl 0xC9 3 } } }) (dsc 0x06 0 0 9)), (dsc 0x06 0 0 9), ((dsc 0x06 0 0 9).filled (zeros 9)), (.ok (zeros 9)), (envl 0xC9 3),
   ⟨by decide, by decide, by decide, by decide⟩, by decide⟩

theorem witness_SealedCountersAreTakenOnce_4 : ∃ (s : State) (d : Desc) (e : Desc) (read : HostRead) (env : Envelope), s.serves d 0x06 ∧ d.seen s read = some e ∧ e.target = 0 ∧ e.param = 0#256 ∧ e.len ≠ 0 ∧ s.shed.down = false ∧ s.shed.queue.length < 9 :=
  ⟨(fly ({ up with shed := { up.shed with down := false, queue := List.replicate 8 { src := .sealedUdp 1 2, env := envl 0xC9 3 } } }) (dsc 0x06 0 0 9)), (dsc 0x06 0 0 9), ((dsc 0x06 0 0 9).filled (zeros 9)), (.ok (zeros 9)), (envl 0xC9 3),
   ⟨by decide, by decide, by decide, by decide⟩, by decide⟩

theorem witness_SealedCountersAreTakenOnce_5 : ∃ (s : State) (ip : Nat) (port : Nat) (len : Nat) (env : Envelope), 1400 < len :=
  ⟨up, 7, 9, 1401, (envl 0xC9 3),
   by decide⟩

theorem witness_SealedCountersAreTakenOnce_6 : ∃ (s : State) (ip : Nat) (port : Nat) (len : Nat) (env : Envelope), s.done = true ∧ s.ready = true ∧ s.replaying = false ∧ len ≤ 1400 ∧ (s.shed.down = true ∨ 9 ≤ s.shed.queue.length) :=
  ⟨({ up with shed := { up.shed with down := true } }), 7, 9, 1400, (envl 0xC9 3),
   by decide⟩

theorem witness_SealedCountersAreTakenOnce_7 : ∃ (s : State) (ip : Nat) (port : Nat) (len : Nat) (env : Envelope), s.done = true ∧ s.ready = true ∧ s.replaying = false ∧ len ≤ 1400 ∧ s.shed.down = false ∧ s.shed.queue.length < 9 :=
  ⟨({ up with shed := { up.shed with down := false } }), 7, 9, 1400, (envl 0xC9 3),
   by decide⟩

theorem witness_SealedCountersAreTakenOnce_8 : ∃ (s : State) (t : State) (w : EnvWait) (l : List EnvWait) (sigOk : Bool) (k : Nat), s.shed.queue = w :: l ∧ s.ready = true ∧ s.shedRuns = true ∧ s.shed.identity = true ∧ s.radioPaused = false ∧ t = { s with shed := { s.shed with queue := l } } ∧ t.envCheck w.env sigOk = some k :=
  ⟨({ owned up with shed := { up.shed with identity := true, down := false, queue := [{ src := .sealedUdp 1 2, env := envl 0xC9 3 }] } }), _, ({ src := .sealedUdp 1 2, env := envl 0xC9 3 }), [], false, 4,
   by decide, by decide, by decide, by decide, by decide, rfl, by decide⟩

theorem witness_SealedCountersAreTakenOnce_9 : ∃ (s : State) (t : State) (w : EnvWait) (l : List EnvWait) (sigOk : Bool), s.shed.queue = w :: l ∧ s.ready = true ∧ s.shedRuns = true ∧ s.shed.identity = true ∧ s.radioPaused = false ∧ t = { s with shed := { s.shed with queue := l } } ∧ t.envCheck w.env sigOk = none :=
  ⟨({ owned up with shed := { up.shed with identity := true, down := false, queue := [{ src := .sealedUdp 1 2, env := envl 0xC9 3 }] } }), _, ({ src := .sealedUdp 1 2, env := envl 0xC9 3 }), [], true,
   by decide, by decide, by decide, by decide, by decide, rfl, by decide⟩

theorem witness_SealedCountersAreTakenOnce_10 : ∃ (s : State) (e : Envelope) (sigOk : Bool) (o : Owner), s.envCheck e sigOk = none ∧ s.tack.owner = some o :=
  ⟨(owned up), (envl 0xC9 3), true, ({ id := 1, gen := 1 }),
   by decide⟩

theorem witness_SealedCountersAreTakenOnce_11 : ∃ (s : State) (e : Envelope) (sigOk : Bool), s.envCheck e sigOk = none :=
  ⟨(owned up), (envl 0xC9 3), true,
   by decide⟩

theorem witness_SealedCountersAreTakenOnce_12 : ∃ (s : State) (w : EnvWait), isTrustOp w.env.op = true ∧ envPresence w.env = true ∧ s.creditOpen = false ∧ s.shed.pend = none :=
  ⟨(owned up), ({ src := .sealedUdp 1 2, env := envl 0xC3 3 }),
   by decide⟩

theorem witness_SealedCountersAreTakenOnce_13 : ∃ (s : State) (w : EnvWait), isTrustOp w.env.op = true ∧ envPresence w.env = true ∧ s.creditOpen = true :=
  ⟨(cred (owned up)), ({ src := .sealedUdp 1 2, env := envl 0xC3 3 }),
   by decide⟩

theorem witness_TrustOperationsHaveTheirEffect_0 : ∃ (s : State) (d : Desc), s.serves d 0xC0 ∧ ownerArgsOk d = true ∧ s.tack.owner.isSome = true :=
  ⟨(fly (owned up) (dsc 0xC0 0 0 130)), (dsc 0xC0 0 0 130),
   ⟨by decide, by decide, by decide, by decide⟩, by decide⟩

theorem witness_TrustOperationsHaveTheirEffect_1 : ∃ (s : State) (d : Desc), s.serves d 0xC0 ∧ ownerArgsOk d = true ∧ s.tack.owner = none :=
  ⟨(fly up (dsc 0xC0 0 0 130)), (dsc 0xC0 0 0 130),
   ⟨by decide, by decide, by decide, by decide⟩, by decide⟩

theorem witness_TrustOperationsHaveTheirEffect_2 : ∃ (s : State) (d : Desc) (o : Owner), ownerArgsOk d = true ∧ s.tack.owner = some o ∧ s.serves d 0xC1 :=
  ⟨(fly (owned up) (dsc 0xC1 0 0 130)), (dsc 0xC1 0 0 130), ({ id := 1, gen := 1 }),
   by decide, by decide, ⟨by decide, by decide, by decide, by decide⟩⟩

theorem witness_TrustOperationsHaveTheirEffect_3 : ∃ (s : State) (d : Desc) (o : Owner), ownerArgsOk d = true ∧ s.tack.owner = some o ∧ s.serves d 0xC2 :=
  ⟨(fly (owned up) (dsc 0xC2 0 0 130)), (dsc 0xC2 0 0 130), ({ id := 1, gen := 1 }),
   by decide, by decide, ⟨by decide, by decide, by decide, by decide⟩⟩

theorem witness_TrustOperationsHaveTheirEffect_4 : ∃ (s : State) (d : Desc), trustBare d = true ∧ s.serves d 0xC3 ∧ 10 ≤ d.target ∧ d.target ≤ 600 :=
  ⟨(fly (owned up) (dsc 0xC3 600)), (dsc 0xC3 600),
   by decide, ⟨by decide, by decide, by decide, by decide⟩, by decide⟩

theorem witness_TrustOperationsHaveTheirEffect_5 : ∃ (s : State) (d : Desc), trustBare d = true ∧ s.serves d 0xC3 ∧ (d.target < 10 ∨ 600 < d.target) :=
  ⟨(fly (owned up) (dsc 0xC3 601)), (dsc 0xC3 601),
   by decide, ⟨by decide, by decide, by decide, by decide⟩, by decide⟩

theorem witness_TrustOperationsHaveTheirEffect_6 : ∃ (s : State) (d : Desc), trustBare d = true ∧ s.serves d 0xC4 ∧ d.target = 0 :=
  ⟨(fly ((win (owned up))) (dsc 0xC4 0)), (dsc 0xC4 0),
   by decide, ⟨by decide, by decide, by decide, by decide⟩, by decide⟩

theorem witness_TrustOperationsHaveTheirEffect_7 : ∃ (s : State) (d : Desc), trustBare d = true ∧ s.serves d 0xC5 ∧ d.target = 0 :=
  ⟨(fly (owned up) (dsc 0xC5 0)), (dsc 0xC5 0),
   by decide, ⟨by decide, by decide, by decide, by decide⟩, by decide⟩

theorem witness_TrustOperationsHaveTheirEffect_8 : ∃ (s : State) (d : Desc), trustBare d = true ∧ s.serves d 0xC9 ∧ d.target = 0 :=
  ⟨(fly ((owned up).setSec F.SEC_STAT_TAMPER true) (dsc 0xC9 0)), (dsc 0xC9 0),
   by decide, ⟨by decide, by decide, by decide, by decide⟩, by decide⟩

theorem witness_TrustOperationsHaveTheirEffect_9 : ∃ (s : State) (d : Desc), trustBare d = true ∧ s.serves d 0xCA ∧ d.target = 0 ∧ s.sf .CLK_SRC_STAT ⟨3, 2⟩ ≠ 1 :=
  ⟨(fly ((owned up).setSf .CLK_SRC_STAT ⟨3, 2⟩ 2) (dsc 0xCA 0)), (dsc 0xCA 0),
   by decide, ⟨by decide, by decide, by decide, by decide⟩, by decide⟩

theorem witness_TrustOperationsHaveTheirEffect_10 : ∃ (s : State) (d : Desc), trustBare d = true ∧ s.serves d 0xCA ∧ d.target = 0 ∧ s.sf .CLK_SRC_STAT ⟨3, 2⟩ = 1 :=
  ⟨(fly (((owned up).setSf .CLK_SRC_STAT ⟨3, 2⟩ 1).setSf .NEWT_STAT F.NEWT_STAT_OSC_STOP 1) (dsc 0xCA 0)), (dsc 0xCA 0),
   by decide, ⟨by decide, by decide, by decide, by decide⟩, by decide⟩

theorem witness_TrustOperationsHaveTheirEffect_11 : ∃ (s : State) (d : Desc), trustBare d = true ∧ s.serves d 0xC7 ∧ d.target < 32 :=
  ⟨(fly ({ owned up with tack := { (owned up).tack with roots := [(31, { plen := 8, pref := 0, key := 4 }), (2, { plen := 8, pref := 0, key := 4 })] } }) (dsc 0xC7 31)), (dsc 0xC7 31),
   by decide, ⟨by decide, by decide, by decide, by decide⟩, by decide⟩

theorem witness_TrustOperationsHaveTheirEffect_12 : ∃ (s : State) (d : Desc) (p : PairCheck) (k : Nat), trustBare d = true ∧ s.serves d 0xC8 ∧ d.target = 0 ∧ s.twinRole = 3 ∧ s.tw F.TWN_STAT_LANE_OK = true ∧ p.certOk = true ∧ s.tack.owner.map (fun o => o.id) = some p.owner ∧ s.tack.wk = some k :=
  ⟨(fly (((owned up).setSf .TWN_STAT F.TWN_STAT_ROLE 3).setTw F.TWN_STAT_LANE_OK true) (dsc 0xC8 0)), (dsc 0xC8 0), ({ certOk := true, owner := 1, devid := 8 }), 3,
   by decide, ⟨by decide, by decide, by decide, by decide⟩, by decide⟩

theorem witness_TrustOperationsHaveTheirEffect_13 : ∃ (s : State) (d : Desc) (v : State), trustBare d = true ∧ s.serves d 0xCB ∧ d.target < 2 ∧ v = (s.holding d.taken).hold (fun u => (u.ok d.taken).yieldFirst) ∧ v.upd.session = none :=
  ⟨(fly (owned up) (dsc 0xCB 1)), (dsc 0xCB 1), _,
   by decide, ⟨by decide, by decide, by decide, by decide⟩, by decide, rfl, by decide⟩

theorem witness_TrustOperationsHaveTheirEffect_14 : ∃ (s : State) (d : Desc), s.serves d 0xC6 ∧ d.len = 99 ∧ d.target = 0 ∧ d.param = 0#256 ∧ d.launch = false ∧ leAt d.buf 0 1 ≤ 31 ∧ leAt d.buf 1 1 ≤ 64 ∧ leAt d.buf 2 8 % 2 ^ (64 - leAt d.buf 1 1) = 0 :=
  ⟨(fly ({ owned up with tack := { (owned up).tack with roots := [(31, { plen := 8, pref := 0, key := 4 }), (2, { plen := 8, pref := 0, key := 4 })] } }) ({ dsc 0xC6 0 0 99 with buf := oct [31, 64] ++ zeros 97 })), ({ dsc 0xC6 0 0 99 with buf := oct [31, 64] ++ zeros 97 }),
   ⟨by decide, by decide, by decide, by decide⟩, by decide⟩

theorem witness_TrustOperationsHaveTheirEffect_16 : ∃ (s : State) (d : Desc), s.serves d 0x61 ∧ d.target = 0 ∧ s.shed.down = false ∧ d.pByte 0 = 0 ∧ d.pZero 1 16 = true ∧ 512 ≤ d.len :=
  ⟨(fly (owned up) (dsc 0x61 0 0 512)), (dsc 0x61 0 0 512),
   ⟨by decide, by decide, by decide, by decide⟩, by decide⟩

theorem witness_TrustOperationsHaveTheirEffect_17 : ∃ (s : State) (d : Desc), s.serves d 0x61 ∧ d.target = 0 ∧ s.shed.down = false ∧ d.pByte 0 = 1 ∧ d.pZero 1 32 = true ∧ 2048 ≤ d.len :=
  ⟨(fly (owned up) (dsc 0x61 0 (pb [1]) 2048)), (dsc 0x61 0 (pb [1]) 2048),
   ⟨by decide, by decide, by decide, by decide⟩, by decide⟩

theorem witness_TrustOperationsHaveTheirEffect_18 : ∃ (s : State) (d : Desc), s.serves d 0x61 ∧ d.target = 0 ∧ s.shed.down = false ∧ d.pByte 0 = 2 ∧ d.pZero 1 32 = true ∧ 512 ≤ d.len :=
  ⟨(fly (owned up) (dsc 0x61 0 (pb [2]) 512)), (dsc 0x61 0 (pb [2]) 512),
   ⟨by decide, by decide, by decide, by decide⟩, by decide⟩

theorem witness_TrustOperationsHaveTheirEffect_15 : ∃ (s : State) (d : Desc), s.serves d 0x61 ∧ d.target = 0 ∧ s.shed.down = true ∧ d.pByte 0 = 1 ∧ d.pZero 1 32 = true ∧ 2048 ≤ d.len :=
  ⟨(fly { owned up with shed := { (owned up).shed with down := true } } (dsc 0x61 0 (pb [1]) 2048)), (dsc 0x61 0 (pb [1]) 2048),
   ⟨by decide, by decide, by decide, by decide⟩, by decide⟩

theorem witness_PresenceAndTamperAct_0 : ∃ (s : State) (ms : Nat), (ms < 5000 ∨ s.presenceAllowed F.SEC_TAMPER_CFG_BTN_PRES = false) :=
  ⟨up, 4999,
   by decide⟩

theorem witness_PresenceAndTamperAct_1 : ∃ (s : State) (ms : Nat), 5000 ≤ ms ∧ s.presenceAllowed F.SEC_TAMPER_CFG_BTN_PRES = true ∧ s.upd.lizWait = 0 ∧ s.shed.pend = none :=
  ⟨((owned up).setCf .SEC_TAMPER_CFG F.SEC_TAMPER_CFG_BTN_PRES 1), 5000,
   by decide⟩

theorem witness_PresenceAndTamperAct_2 : ∃ (s : State) (ms : Nat) (d : Desc) (w : Nat), 5000 ≤ ms ∧ s.presenceAllowed F.SEC_TAMPER_CFG_BTN_PRES = true ∧ s.upd.lizWait = 0 ∧ s.shed.pend = some (d.did, w) ∧ s.desc? d.did = some d ∧ s.tsu.raw ≤ w :=
  ⟨(let x0 := fly ((owned up).setCf .SEC_TAMPER_CFG F.SEC_TAMPER_CFG_BTN_PRES 1) { dsc 0xC3 10 with stage := .queued }; { x0 with shed := { x0.shed with pend := some (1, 99) } }), 5000, ({ dsc 0xC3 10 with stage := .queued }), 99,
   by decide⟩

theorem witness_PresenceAndTamperAct_4 : ∃ (s : State) (ms : Nat), s.sf .SEC_TAMPER_IN F.SEC_TAMPER_IN_SEAL = 1 ∧ s.sf .SEC_TAMPER_IN F.SEC_TAMPER_IN_DOOR = 1 ∧ s.presenceAllowed F.SEC_TAMPER_CFG_SEAL_PRES = true ∧ s.upd.lizWait = 0 ∧ s.shed.pend = none ∧ s.tsu.raw + ms * msT < 2 ^ 64 :=
  ⟨((((owned up).setCf .SEC_TAMPER_CFG F.SEC_TAMPER_CFG_SEAL_PRES 1).setSf .SEC_TAMPER_IN F.SEC_TAMPER_IN_SEAL 1).setSf .SEC_TAMPER_IN F.SEC_TAMPER_IN_DOOR 1), 30000,
   by decide⟩

theorem witness_PresenceAndTamperAct_5 : ∃ (s : State) (u : State) (d : Desc) (w : Nat), s.upd.lizWait = 0 ∧ s.shed.pend = some (d.did, w) ∧ s.desc? d.did = some d ∧ u = s.elapseTo w :=
  ⟨(let x0 := fly ((owned up).setCf .SEC_TAMPER_CFG F.SEC_TAMPER_CFG_BTN_PRES 1) { dsc 0xC3 10 with stage := .queued }; { x0 with shed := { x0.shed with pend := some (1, 99) } }), _, ({ dsc 0xC3 10 with stage := .queued }), 99,
   by decide, by decide, by decide, rfl⟩

theorem witness_PresenceAndTamperAct_6 : ∃ (s : State), s.sec F.SEC_STAT_CREDIT = true :=
  ⟨(cred (owned up)),
   by decide⟩

theorem witness_PresenceAndTamperAct_7 : ∃ (s : State), s.sec F.SEC_STAT_WINDOW = true :=
  ⟨(win (owned up)),
   by decide⟩

theorem witness_PresenceAndTamperAct_8 : ∃ (s : State) (door : Bool) (loop : Bool) (btn : Bool) (m : Mesh), m ≠ .intact ∧ s.sf .SEC_TAMPER_IN F.SEC_TAMPER_IN_MESH_OK = 1 ∧ s.shedRuns = true ∧ s.newt.halted = false ∧ s.shed.sealAt = none ∧ loop = (s.sf .SEC_TAMPER_IN F.SEC_TAMPER_IN_SEAL == 1) :=
  ⟨((owned up).setSf .SEC_TAMPER_IN F.SEC_TAMPER_IN_MESH_OK 1), true, _, true, .opened,
   by decide, by decide, by decide, by decide, by decide, rfl⟩

theorem witness_PresenceAndTamperAct_9 : ∃ (s : State), s.ready = true :=
  ⟨(owned up),
   by decide⟩

theorem witness_PresenceAndTamperAct_3 : ∃ (s : State) (ms : Nat) (p : Nat×Nat), 5000 ≤ ms ∧ s.presenceAllowed F.SEC_TAMPER_CFG_BTN_PRES = true ∧ s.upd.lizWait = 0 ∧ s.shed.pend = some p ∧ p.2 < s.tsu.raw :=
  ⟨(let x0 := (owned up).setCf .SEC_TAMPER_CFG F.SEC_TAMPER_CFG_BTN_PRES 1; { x0 with shed := { x0.shed with pend := some (1, 4) }, tsu := { x0.tsu with raw := 5 } }), 5000, ((1, 4)),
   by decide⟩

theorem witness_OutputTimeStandsThroughServoAndSwitch_0 : ∃ (s : State) (d : Dom) (t : Int) (n : Nat), s.compatOn = false ∧ d = s.dom s.act ∧ -rateMax ≤ d.rate ∧ d.rate ≤ rateMax ∧ d.anchor ≤ s.tsu.raw ∧ d.offset.natAbs < 2 ^ 61 ∧ s.tsu.raw + s.outWait t < 2 ^ 62 ∧ s.tsu.res.natAbs ≤ 100 * msT ∧ s.outputTime < t ∧ n < s.outWait t :=
  ⟨(doms 3 1), _, 100, 99,
   by decide, rfl, by decide⟩

theorem witness_OutputTimeStandsThroughServoAndSwitch_1 : ∃ (s : State) (d : Dom) (t : Int), s.compatOn = false ∧ d = s.dom s.act ∧ -rateMax ≤ d.rate ∧ d.rate ≤ rateMax ∧ d.anchor ≤ s.tsu.raw ∧ d.offset.natAbs < 2 ^ 61 ∧ s.tsu.raw + s.outWait t < 2 ^ 62 ∧ s.tsu.res.natAbs ≤ 100 * msT ∧ s.outputTime < t :=
  ⟨(doms 3 1), _, 100,
   by decide, rfl, by decide⟩

theorem witness_OutputTimeStandsThroughServoAndSwitch_2 : ∃ (s : State) (d : Nat), d < 2 ∧ s.compatOn = false ∧ (s.domState s.act = dSYNCED ∨ s.domState s.act = dHOLDOVER) ∧ (s.outputTime - s.domNow d).natAbs ≤ 100 * msT :=
  ⟨((doms 3 3).setDom 1 { up.dom 1 with offset := 7 }), 1,
   by decide⟩

theorem witness_OutputTimeStandsThroughServoAndSwitch_3 : ∃ (s : State), s.tsu.res ≠ 0 ∧ s.slewAt (s.tsu.slewN + 1) < 2 ^ 64 :=
  ⟨({ up with tsu := { up.tsu with res := -3, slewFrom := 20 } }),
   by decide⟩

theorem witness_OutputTimeStandsThroughServoAndSwitch_4 : ∃ (s : State) (d : Nat) (o : Int) (r : Int), (s.dom d).sync ≠ 2 :=
  ⟨(doms 2 1), 0, 500001, 4,
   by decide⟩

theorem witness_OutputTimeStandsThroughServoAndSwitch_5 : ∃ (s : State) (v : State) (u : State) (d : Nat) (o : Int) (r : Int), d < 2 ∧ s.domPps d = false ∧ (s.dom d).sync = 2 ∧ v = s.setDom d { s.dom d with sync := 0 } ∧ u = (v.setSw (.TSU_DOM_OFFS d) (sat32 (2 * o))).steer d r ∧ s.domState d = dLOCKING ∧ 1000000 < (2 * o).natAbs :=
  ⟨(syn (doms 2 1) 0 0), _, _, 0, 500001, 4,
   by decide, by decide, by decide, rfl, rfl, by decide⟩

theorem witness_OutputTimeStandsThroughServoAndSwitch_6 : ∃ (s : State) (v : State) (u : State) (d : Nat) (o : Int) (r : Int), d < 2 ∧ s.domPps d = false ∧ (s.dom d).sync = 2 ∧ v = s.setDom d { s.dom d with sync := 0 } ∧ u = (v.setSw (.TSU_DOM_OFFS d) (sat32 (2 * o))).steer d r ∧ s.domState d = dLOCKING ∧ (2 * o).natAbs ≤ 1000000 ∧ (2 * o).natAbs < u.cf (.TSU_DOM_THR d) F.TSU_DOM_THR_SYNC_THR ∧ (u.dom d).good < 15 :=
  ⟨(syn (doms 1 2) 1 14), _, _, 1, 5, 4,
   by decide, by decide, by decide, rfl, rfl, by decide⟩

theorem witness_OutputTimeStandsThroughServoAndSwitch_7 : ∃ (s : State) (v : State) (u : State) (d : Nat) (o : Int) (r : Int), d < 2 ∧ s.domPps d = false ∧ (s.dom d).sync = 2 ∧ v = s.setDom d { s.dom d with sync := 0 } ∧ u = (v.setSw (.TSU_DOM_OFFS d) (sat32 (2 * o))).steer d r ∧ s.domState d = dLOCKING ∧ (2 * o).natAbs ≤ 1000000 ∧ (2 * o).natAbs < u.cf (.TSU_DOM_THR d) F.TSU_DOM_THR_SYNC_THR ∧ 15 ≤ (u.dom d).good :=
  ⟨(syn (doms 1 2) 1 15), _, _, 1, 5, 4,
   by decide, by decide, by decide, rfl, rfl, by decide⟩

theorem witness_OutputTimeStandsThroughServoAndSwitch_9 : ∃ (s : State) (u : State) (d : Nat), d < 2 ∧ s.domPps d = false ∧ (s.domState d = dLOCKING ∨ s.domState d = dSYNCED) ∧ u = s.elapseTo ((s.dom d).annAt + s.cf (.TSU_DOM_INT d) F.TSU_DOM_INT_ART * s.intervalT d F.TSU_DOM_INT_LOG_ANN) :=
  ⟨(doms 1 3), _, 1,
   by decide, by decide, by decide, rfl⟩

theorem witness_OutputTimeStandsThroughServoAndSwitch_10 : ∃ (s : State) (p : Nat) (m : PtpMsg), s.domState 1 = dDISABLED ∧ s.domState 0 = dLISTENING ∧ s.domNum 0 = m.domNum ∧ bit (s.cf (.TSU_DOM_CFG 0) F.TSU_DOM_CFG_PORTS) p = true ∧ m.kind = .announce ∧ m.best = true ∧ s.domPps 0 = false ∧ s.clk.timeRco = false ∧ p < 3 ∧ s.domUdp 0 = m.udp ∧ s.linkUp p = true ∧ s.portBlocked p = false :=
  ⟨((((doms 1 0).setCf (.TSU_DOM_CFG 0) F.TSU_DOM_CFG_PORTS 3)).setSf (.SWX_PORT_STAT 1) F.SWX_PORT_STAT_LINK 1), 1, ({ udp := (doms 1 0).domUdp 0, domNum := (doms 1 0).domNum 0, kind := .announce, gm := 99, clockClass := 6, prio1 := 1, prio2 := 2, best := true }),
   by decide⟩

theorem witness_OutputTimeStandsThroughServoAndSwitch_11 : ∃ (s : State) (r : Int), s.replaying = false ∧ s.cf .TSU_PPS F.TSU_PPS_IN_EN = 1 ∧ s.cf .TSU_PPS F.TSU_PPS_IN_EDGE = 0 ∧ s.domPps 0 = false ∧ s.domPps 1 = false :=
  ⟨((doms 1 0).setCf .TSU_PPS F.TSU_PPS_IN_EN 1), 0,
   by decide⟩

theorem witness_OutputTimeStandsThroughServoAndSwitch_12 : ∃ (s : State), s.sf .TSU_PPS_STAT F.TSU_PPS_STAT_IN_OK = 1 ∧ s.domPps 0 = false ∧ s.domPps 1 = false ∧ edgesLost s.tsu.ppsAt < 2 ^ 64 :=
  ⟨((doms 3 0).setSf .TSU_PPS_STAT F.TSU_PPS_STAT_IN_OK 1),
   by decide⟩

theorem witness_OutputTimeStandsThroughServoAndSwitch_14 : ∃ (s : State), s.replaying = false ∧ s.cf .TSU_PPS F.TSU_PPS_OUT_EN = 1 ∧ s.sf .TSU_STAT F.TSU_STAT_SYNCED = 1 :=
  ⟨((doms 3 1).setCf .TSU_PPS F.TSU_PPS_OUT_EN 1),
   by decide⟩

theorem witness_OutputTimeStandsThroughServoAndSwitch_8 : ∃ (s : State) (v : State) (u : State) (d : Nat) (o : Int) (r : Int), d < 2 ∧ s.domPps d = false ∧ (s.dom d).sync = 2 ∧ v = s.setDom d { s.dom d with sync := 0 } ∧ u = (v.setSw (.TSU_DOM_OFFS d) (sat32 (2 * o))).steer d r ∧ s.domState d = dSYNCED ∧ u.cf (.TSU_DOM_THR d) F.TSU_DOM_THR_LOCK_THR * 1000 < (2 * o).natAbs :=
  ⟨(syn (doms 3 1) 0 0), _, _, 0, 50000000, 4,
   by decide, by decide, by decide, rfl, rfl, by decide⟩

theorem witness_OutputTimeStandsThroughServoAndSwitch_13 : ∃ (s : State) (d : Nat), d < 2 ∧ s.sf .TSU_PPS_STAT F.TSU_PPS_STAT_IN_OK = 0 ∧ s.domPps d = true ∧ s.domPps (1 - d) = false ∧ (s.domState d = dLOCKING ∨ s.domState d = dSYNCED) ∧ edgesLost (s.dom d).edgeAt < 2 ^ 64 :=
  ⟨((doms 3 0).setCf (.TSU_DOM_CFG 0) F.TSU_DOM_CFG_SOURCE 1), 0,
   by decide⟩

theorem witness_TimeIsReadAndControlled_0 : ∃ (s : State) (l : TimeLatch), l = { timeHi := twos 64 s.outputTime / 2 ^ 32, rawLo := s.tsu.raw % 2 ^ 32, rawHi := s.tsu.raw / 2 ^ 32 % 2 ^ 32, res := twos 32 s.tsu.res } :=
  ⟨(doms 3 1), _,
   rfl⟩

theorem witness_TimeIsReadAndControlled_1 : ∃ (s : State) (d : Desc), s.serves d 0x42 ∧ 64 ≤ d.len :=
  ⟨(fly (doms 3 1) (dsc 0x42 0 0 64)), (dsc 0x42 0 0 64),
   ⟨by decide, by decide, by decide, by decide⟩, by decide⟩

theorem witness_TimeIsReadAndControlled_2 : ∃ (s : State) (d : Desc), s.serves d 0x42 ∧ d.len < 64 :=
  ⟨(fly (doms 3 1) (dsc 0x42 0 0 63)), (dsc 0x42 0 0 63),
   ⟨by decide, by decide, by decide, by decide⟩, by decide⟩

theorem witness_TimeIsReadAndControlled_3 : ∃ (s : State) (d : Desc) (e : Desc) (read : HostRead) (k : Nat), s.serves d 0x43 ∧ d.seen s read = some e ∧ timeCtlOk e = true ∧ k = timeDomain e ∧ timeAction e = 0 ∧ s.compatOn = true :=
  ⟨(fly ((doms 1 1).setCf .TSU_CFG F.TSU_CFG_COMPAT 1) (dsc 0x43 0 0 32)), (dsc 0x43 0 0 32), ((dsc 0x43 0 0 32).filled (tctl 0 0)), (.ok (tctl 0 0)), _,
   ⟨by decide, by decide, by decide, by decide⟩, by decide, by decide, rfl, by decide⟩

theorem witness_TimeIsReadAndControlled_4 : ∃ (s : State) (d : Desc) (e : Desc) (read : HostRead) (k : Nat), s.serves d 0x43 ∧ d.seen s read = some e ∧ timeCtlOk e = true ∧ k = timeDomain e ∧ timeAction e = 0 ∧ s.compatOn = false ∧ k = s.act :=
  ⟨(fly (doms 1 1) (dsc 0x43 0 0 32)), (dsc 0x43 0 0 32), ((dsc 0x43 0 0 32).filled (tctl 0 0)), (.ok (tctl 0 0)), _,
   ⟨by decide, by decide, by decide, by decide⟩, by decide, by decide, rfl, by decide, by decide, rfl⟩

theorem witness_TimeIsReadAndControlled_5 : ∃ (s : State) (d : Desc) (e : Desc) (read : HostRead) (k : Nat), s.serves d 0x43 ∧ d.seen s read = some e ∧ timeCtlOk e = true ∧ k = timeDomain e ∧ timeAction e = 0 ∧ s.compatOn = false ∧ k ≠ s.act ∧ s.domState k = dSYNCED :=
  ⟨(fly (doms 1 3) (dsc 0x43 0 0 32)), (dsc 0x43 0 0 32), ((dsc 0x43 0 0 32).filled (tctl 0 1)), (.ok (tctl 0 1)), _,
   ⟨by decide, by decide, by decide, by decide⟩, by decide, by decide, rfl, by decide⟩

theorem witness_TimeIsReadAndControlled_6 : ∃ (s : State) (d : Desc) (e : Desc) (read : HostRead) (k : Nat), s.serves d 0x43 ∧ d.seen s read = some e ∧ timeCtlOk e = true ∧ k = timeDomain e ∧ timeAction e = 0 ∧ s.compatOn = false ∧ k ≠ s.act ∧ s.domState k ≠ dSYNCED :=
  ⟨(fly (doms 1 2) (dsc 0x43 0 0 32)), (dsc 0x43 0 0 32), ((dsc 0x43 0 0 32).filled (tctl 0 1)), (.ok (tctl 0 1)), _,
   ⟨by decide, by decide, by decide, by decide⟩, by decide, by decide, rfl, by decide⟩

theorem witness_TimeIsReadAndControlled_7 : ∃ (s : State) (d : Desc) (e : Desc) (read : HostRead) (k : Nat), s.serves d 0x43 ∧ d.seen s read = some e ∧ timeCtlOk e = true ∧ k = timeDomain e ∧ timeAction e = 1 ∧ s.servoHolds k = true :=
  ⟨(fly (doms 1 3) (dsc 0x43 0 0 32)), (dsc 0x43 0 0 32), ((dsc 0x43 0 0 32).filled (tctl 1 1)), (.ok (tctl 1 1)), _,
   ⟨by decide, by decide, by decide, by decide⟩, by decide, by decide, rfl, by decide⟩

theorem witness_TimeIsReadAndControlled_9 : ∃ (s : State) (d : Desc) (e : Desc) (read : HostRead) (k : Nat), s.serves d 0x43 ∧ d.seen s read = some e ∧ timeCtlOk e = true ∧ k = timeDomain e ∧ timeAction e = 1 ∧ s.servoHolds k = false ∧ s.compatOn = false :=
  ⟨(fly (doms 1 2) (dsc 0x43 0 0 32)), (dsc 0x43 0 0 32), ((dsc 0x43 0 0 32).filled (tctl 1 1)), (.ok (tctl 1 1)), _,
   ⟨by decide, by decide, by decide, by decide⟩, by decide, by decide, rfl, by decide⟩

theorem witness_TimeIsReadAndControlled_10 : ∃ (s : State) (d : Desc) (e : Desc) (read : HostRead) (k : Nat), s.serves d 0x43 ∧ d.seen s read = some e ∧ timeCtlOk e = true ∧ k = timeDomain e ∧ timeAction e = 2 ∧ s.servoHolds k = false ∧ s.compatOn = false ∧ (wrap64 ((timeRaw e : Int) - e.at_)).natAbs ≤ secT :=
  ⟨(fly (doms 1 2) (dsc 0x43 0 0 32)), (dsc 0x43 0 0 32), ((dsc 0x43 0 0 32).filled (tctl 2 1)), (.ok (tctl 2 1)), _,
   ⟨by decide, by decide, by decide, by decide⟩, by decide, by decide, rfl, by decide⟩

theorem witness_TimeIsReadAndControlled_11 : ∃ (s : State) (d : Desc) (e : Desc) (read : HostRead) (k : Nat), s.serves d 0x43 ∧ d.seen s read = some e ∧ timeCtlOk e = true ∧ k = timeDomain e ∧ timeAction e = 2 ∧ s.servoHolds k = false ∧ s.compatOn = false ∧ secT < (wrap64 ((timeRaw e : Int) - e.at_)).natAbs :=
  ⟨(fly (({ doms 1 2 with tsu := { (doms 1 2).tsu with raw := 600000000 } } : State)) (dsc 0x43 0 0 32)), (dsc 0x43 0 0 32), ((dsc 0x43 0 0 32).filled (oct [2, 1] ++ zeros 14 ++ le 8 600000000 ++ zeros 8)), (.ok (oct [2, 1] ++ zeros 14 ++ le 8 600000000 ++ zeros 8)), _,
   ⟨by decide, by decide, by decide, by decide⟩, by decide, by decide, rfl, by decide⟩

theorem witness_TimeIsReadAndControlled_12 : ∃ (s : State) (d : Desc) (e : Desc) (read : HostRead) (k : Nat), s.serves d 0x43 ∧ d.seen s read = some e ∧ timeCtlOk e = true ∧ k = timeDomain e ∧ timeAction e = 3 ∧ s.domState k ≠ dDISABLED ∧ k = s.act :=
  ⟨(fly (doms 1 2) (dsc 0x43 0 0 32)), (dsc 0x43 0 0 32), ((dsc 0x43 0 0 32).filled (tctl 3 0)), (.ok (tctl 3 0)), _,
   ⟨by decide, by decide, by decide, by decide⟩, by decide, by decide, rfl, by decide, by decide, rfl⟩

theorem witness_TimeIsReadAndControlled_13 : ∃ (s : State) (d : Desc) (e : Desc) (read : HostRead) (k : Nat), s.serves d 0x43 ∧ d.seen s read = some e ∧ timeCtlOk e = true ∧ k = timeDomain e ∧ timeAction e = 3 ∧ s.domState k ≠ dDISABLED ∧ k ≠ s.act :=
  ⟨(fly (doms 1 2) (dsc 0x43 0 0 32)), (dsc 0x43 0 0 32), ((dsc 0x43 0 0 32).filled (tctl 3 1)), (.ok (tctl 3 1)), _,
   ⟨by decide, by decide, by decide, by decide⟩, by decide, by decide, rfl, by decide⟩

theorem witness_TimeIsReadAndControlled_14 : ∃ (s : State) (d : Desc) (e : Desc) (read : HostRead) (k : Nat), s.serves d 0x43 ∧ d.seen s read = some e ∧ timeCtlOk e = true ∧ k = timeDomain e ∧ timeAction e = 4 ∧ s.compatOn = false ∧ s.domState k = dDISABLED :=
  ⟨(fly (doms 1 0) (dsc 0x43 0 0 32)), (dsc 0x43 0 0 32), ((dsc 0x43 0 0 32).filled (tctl 4 1)), (.ok (tctl 4 1)), _,
   ⟨by decide, by decide, by decide, by decide⟩, by decide, by decide, rfl, by decide⟩

theorem witness_TimeIsReadAndControlled_15 : ∃ (s : State) (d : Desc) (p : Nat) (n : Nat), s.serves d 0x41 ∧ d.target = p ∧ p < 3 ∧ d.len ≠ 0 ∧ d.pByte 0 = 0 ∧ (Tbl.get [] s.tsu.tsq p).length ≤ 64 ∧ n = min (Tbl.get [] s.tsu.tsq p).length (d.len / 24) :=
  ⟨(let x0 := ((fly up (dsc 0x41 2 0 24)).tsqAdd 2 5 false false (3, 3)).tsqAdd 2 6 false false (4, 4); x0), (dsc 0x41 2 0 24), 2, _,
   ⟨by decide, by decide, by decide, by decide⟩, by decide, by decide, by decide, by decide, by decide, rfl⟩

theorem witness_TimeIsReadAndControlled_8 : ∃ (s : State) (d : Desc) (e : Desc) (read : HostRead) (k : Nat), s.serves d 0x43 ∧ d.seen s read = some e ∧ timeCtlOk e = true ∧ k = timeDomain e ∧ timeAction e = 1 ∧ s.servoHolds k = false ∧ s.compatOn = true :=
  ⟨(fly ((doms 1 1).setCf .TSU_CFG F.TSU_CFG_COMPAT 1) (dsc 0x43 0 0 32)), (dsc 0x43 0 0 32), ((dsc 0x43 0 0 32).filled (tctl 1 0)), (.ok (tctl 1 0)), _,
   ⟨by decide, by decide, by decide, by decide⟩, by decide, by decide, rfl, by decide⟩

theorem witness_DriveChannelsFollowTheirCommands_1 : ∃ (s : State) (d : Desc) (e : Desc) (read : HostRead) (n : Nat), s.serves d 0x50 ∧ d.seen s read = some e ∧ e.target = 0 ∧ e.pZero 0 32 = true ∧ e.len = 8 ∧ e.buf.length = 8 ∧ e.launch = false ∧ leAt e.buf 0 1 = n ∧ leAt e.buf 1 1 < 2 ∧ leAt e.buf 6 2 = 0 ∧ s.pwmGated = false ∧ n < 48 :=
  ⟨(fly chan (dsc 0x50 0 0 8)), (dsc 0x50 0 0 8), ((dsc 0x50 0 0 8).filled (oct [47, 1, 5, 6, 7, 8, 0, 0])), (.ok (oct [47, 1, 5, 6, 7, 8, 0, 0])), 47,
   ⟨by decide, by decide, by decide, by decide⟩, by decide⟩

theorem witness_DriveChannelsFollowTheirCommands_2 : ∃ (s : State) (d : Desc) (e : Desc) (read : HostRead) (n : Nat), s.serves d 0x50 ∧ d.seen s read = some e ∧ e.target = 0 ∧ e.pZero 0 32 = true ∧ e.len = 8 ∧ e.buf.length = 8 ∧ e.launch = false ∧ leAt e.buf 0 1 = n ∧ leAt e.buf 1 1 < 2 ∧ leAt e.buf 6 2 = 0 ∧ 48 ≤ n ∧ n < 0x40 :=
  ⟨(fly chan (dsc 0x50 0 0 8)), (dsc 0x50 0 0 8), ((dsc 0x50 0 0 8).filled (oct [63, 1, 5, 6, 7, 8, 0, 0])), (.ok (oct [63, 1, 5, 6, 7, 8, 0, 0])), 63,
   ⟨by decide, by decide, by decide, by decide⟩, by decide⟩

theorem witness_DriveChannelsFollowTheirCommands_3 : ∃ (s : State) (d : Desc) (e : Desc) (read : HostRead), s.serves d 0x51 ∧ d.seen s read = some e ∧ e.target = 0 ∧ e.pZero 2 32 = true ∧ driveSectionOk e.buf = false :=
  ⟨(fly chan (dsc 0x51 0 0 9)), (dsc 0x51 0 0 9), ((dsc 0x51 0 0 9).filled (zeros 9)), (.ok (zeros 9)),
   ⟨by decide, by decide, by decide, by decide⟩, by decide⟩

theorem witness_DriveChannelsFollowTheirCommands_4 : ∃ (s : State) (d : Desc) (e : Desc) (read : HostRead), s.serves d 0x51 ∧ d.seen s read = some e ∧ e.target = 0 ∧ e.pZero 2 32 = true ∧ driveSectionOk e.buf = true ∧ s.pwmGated = false ∧ e.launch = false ∧ driveMask e.buf ≠ 0 :=
  ⟨(fly chan (dsc 0x51 0 0 12)), (dsc 0x51 0 0 12), ((dsc 0x51 0 0 12).filled (oct [1, 0, 0, 0, 0, 128, 0, 0, 5, 6, 7, 8])), (.ok (oct [1, 0, 0, 0, 0, 128, 0, 0, 5, 6, 7, 8])),
   ⟨by decide, by decide, by decide, by decide⟩, by decide⟩

theorem witness_DriveChannelsFollowTheirCommands_5 : ∃ (s : State) (n : Nat) (v : Nat), n < 48 ∧ s.chEnabled n = true ∧ s.drv.changes.filter (fun c => c.ch == n) = [] :=
  ⟨chan, 47, 9,
   by decide⟩

theorem witness_DriveChannelsFollowTheirCommands_7 : ∃ (s : State) (n : Nat) (v : Nat) (p : Bool), s.cf (.DRV_CH_DIAG n) F.DRV_CH_DIAG_OPEN_THR ≠ 0 ∧ n < 48 ∧ s.cf (.DRV_CH_DIAG n) F.DRV_CH_DIAG_OPEN_THR ≤ v :=
  ⟨((chan.setCf (.DRV_CH_DIAG 47) F.DRV_CH_DIAG_OPEN_THR 8).modDrvChan 47 (fun x => { x with isOpen := true })), 47, 8, false,
   by decide⟩

theorem witness_DriveChannelsFollowTheirCommands_8 : ∃ (s : State) (n : Nat) (v : Nat) (p : Bool), s.cf (.DRV_CH_DIAG n) F.DRV_CH_DIAG_OPEN_THR ≠ 0 ∧ n < 48 ∧ v < s.cf (.DRV_CH_DIAG n) F.DRV_CH_DIAG_OPEN_THR ∧ 2 ≤ s.sf (.DRV_CH_STAT n) F.DRV_CH_STAT_LOW :=
  ⟨((chan.setCf (.DRV_CH_DIAG 47) F.DRV_CH_DIAG_OPEN_THR 8).setSf (.DRV_CH_STAT 47) F.DRV_CH_STAT_LOW 2), 47, 7, false,
   by decide⟩

theorem witness_DriveChannelsFollowTheirCommands_9 : ∃ (s : State) (n : Nat) (v : Nat) (p : Bool), s.cf (.DRV_CH_DIAG n) F.DRV_CH_DIAG_OPEN_THR ≠ 0 ∧ n < 48 ∧ v < s.cf (.DRV_CH_DIAG n) F.DRV_CH_DIAG_OPEN_THR ∧ s.sf (.DRV_CH_STAT n) F.DRV_CH_STAT_LOW < 2 :=
  ⟨((chan.setCf (.DRV_CH_DIAG 47) F.DRV_CH_DIAG_OPEN_THR 8).setSf (.DRV_CH_STAT 47) F.DRV_CH_STAT_LOW 1), 47, 7, false,
   by decide⟩

theorem witness_DriveChannelsFollowTheirCommands_10 : ∃ (s : State) (u : State) (z : State) (n : Nat) (w : Nat) (x : DrvChan), n < 48 ∧ s.chEnabled n = true ∧ s.gateClosed = false ∧ x = s.drvChan n ∧ w = max (s.drvChan n).window ((s.tsu.raw - s.drv.setupAt) / (100 * msT)) + 1 ∧ u = s.elapseTo (s.drv.setupAt + w * 100 * msT) ∧ z = u.modDrvChan n (fun x => { x with window := w, count := 0, sum := 0 }) ∧ x.count = 0 :=
  ⟨chan, _, _, 47, _, _,
   by decide, by decide, by decide, rfl, rfl, rfl, rfl, by decide⟩

theorem witness_DriveChannelsFollowTheirCommands_12 : ∃ (s : State) (u : State) (n : Nat) (v : Nat), n < 48 ∧ s.probes n = true ∧ s.drv.changes = [] ∧ u = (s.elapseTo ((s.drvChan n).probeAt + s.cf .DRV_CFG F.DRV_CFG_PROBE_PERIOD * secT)).boundary n ∧ u.probes n = true :=
  ⟨((chan.setCf (.DRV_CH_CFG 47) F.DRV_CH_CFG_PROBE_EN 1).setCf (.DRV_CH_CFG 47) F.DRV_CH_CFG_PROBE_OFF 1), _, 47, 7,
   by decide, by decide, by decide, rfl, by decide⟩

theorem witness_DriveChannelsFollowTheirCommands_13 : ∃ (s : State) (g : Nat) (o : Nat), g < 8 ∧ s.done = true ∧ 100 ≤ o ∧ o ≤ 1000000 :=
  ⟨chan, 7, 1000000,
   by decide⟩

theorem witness_DriveChannelsFollowTheirCommands_15 : ∃ (s : State), s.done = true ∧ s.gateShut = true :=
  ⟨(chan.setSf .TWN_STAT F.TWN_STAT_ROLE 2),
   by decide⟩

theorem witness_DriveChannelsFollowTheirCommands_16 : ∃ (s : State) (u : State), s.serving = true ∧ s.twn.lapsed = false ∧ s.gateClosed = true ∧ u = s.elapseTo (max (s.twn.gateUntil.getD 0) ((s.twn.gateHeard.map (fun t => t + 20 * msT)).getD 0)) :=
  ⟨(chan.setSf .DRV_GATE F.DRV_GATE_CLOSED 1), _,
   by decide, by decide, by decide, rfl⟩

theorem witness_DriveChannelsFollowTheirCommands_0 : ∃ (s : State) (d : Desc) (e : Desc) (read : HostRead) (n : Nat), s.serves d 0x50 ∧ d.seen s read = some e ∧ e.target = 0 ∧ e.pZero 0 32 = true ∧ e.len = 8 ∧ e.buf.length = 8 ∧ e.launch = false ∧ leAt e.buf 0 1 = n ∧ leAt e.buf 1 1 < 2 ∧ leAt e.buf 6 2 = 0 ∧ s.pwmGated = true ∧ n < 48 :=
  ⟨(fly (up.setSf .CLK_GATE_STAT ⟨16, 16⟩ 1) (dsc 0x50 0 0 8)), (dsc 0x50 0 0 8), ((dsc 0x50 0 0 8).filled (oct [47, 1, 5, 6, 7, 8, 0, 0])), (.ok (oct [47, 1, 5, 6, 7, 8, 0, 0])), 47,
   ⟨by decide, by decide, by decide, by decide⟩, by decide⟩

theorem witness_DriveChannelsFollowTheirCommands_6 : ∃ (s : State) (n : Nat) (v : Nat) (c : DrvChange), n < 48 ∧ s.chEnabled n = true ∧ s.drv.changes = [c] ∧ c.ch = n ∧ c.did = none ∧ c.scene = none ∧ c.level < 2 ^ 16 :=
  ⟨({ chan with drv := { chan.drv with changes := [{ ch := 47, did := none, scene := none, level := 9, fade := 0, clr := false, due := none }] } }), 47, 9, ({ ch := 47, did := none, scene := none, level := 9, fade := 0, clr := false, due := none }),
   by decide⟩

theorem witness_DriveChannelsFollowTheirCommands_11 : ∃ (s : State) (u : State) (z : State) (n : Nat) (w : Nat) (x : DrvChan), n < 48 ∧ s.chEnabled n = true ∧ s.gateClosed = false ∧ x = s.drvChan n ∧ w = max (s.drvChan n).window ((s.tsu.raw - s.drv.setupAt) / (100 * msT)) + 1 ∧ u = s.elapseTo (s.drv.setupAt + w * 100 * msT) ∧ z = u.modDrvChan n (fun x => { x with window := w, count := 0, sum := 0 }) ∧ x.count ≠ 0 :=
  ⟨(chan.modDrvChan 47 (fun x => { x with count := 2, sum := 9 })), _, _, 47, _, _,
   by decide, by decide, by decide, rfl, rfl, rfl, rfl, by decide⟩

theorem witness_DriveChannelsFollowTheirCommands_14 : ∃ (s : State) (n : Nat), s.done = true ∧ s.gateShut = true ∧ s.gateClosed = false ∧ n < 48 :=
  ⟨(chan.setSf .TWN_STAT F.TWN_STAT_ROLE 2), 47,
   by decide⟩

theorem witness_EnergyNeverWrapsOrFalls_0 : ∃ (s : State) (t : State) (c : Instr) (i : Nat), (∀ i, s.acc i ≤ accMax) ∧ ((∃ m, c = .meterSample m) ∨ (∃ i, c = .pulseCount i) ∨ (∃ i, c = .pulseRejected i) ∨ (∃ b, c = .meterSave b) ∨ c = .reconIntervalEnd ∨ (∃ k, c = .meterSnapshot k) ∨ (∃ k r, c = .meterCtlClearEvt k r) ∨ (∃ k r b, c = .meterCtlSaveNow k r b) ∨ (∃ k r, c = .meterCtlSavePeriod k r) ∨ (∃ k r, c = .meterCtlRevHold k r)) ∧ exec c s = .next t :=
  ⟨metr, _, (.pulseCount 7), 25,
   (fun i => (Nat.zero_le _ : Tbl.get 0 ([] : Tbl Nat) i ≤ accMax)), (Or.inr (Or.inl ⟨_, rfl⟩)), rfl⟩

theorem witness_EnergyNeverWrapsOrFalls_1 : ∃ (s : State) (i : Nat) (w : Nat), s.pulseOn i = true ∧ w = s.cf (.MTR_PI_WT i) F.MTR_PI_WT_VALUE ∧ s.mtr.sat.contains (18 + i) = false ∧ Tbl.get 0 s.mtr.pulseAt i < 2 ^ 64 :=
  ⟨({ metr with mtr := { metr.mtr with acc := [(25, 2 ^ 96 - 2)] } }), 7, _,
   by decide, rfl, by decide⟩

theorem witness_EnergyNeverWrapsOrFalls_2 : ∃ (s : State) (i : Nat), s.pulseOn i = true :=
  ⟨metr, 7,
   by decide⟩

theorem witness_EnergyNeverWrapsOrFalls_3 : ∃ (s : State) (m : MeterIn), s.metering = true ∧ s.mtr.sampleAt < 2 ^ 64 ∧ (∀ n, n < 6 → s.measured n = false) :=
  ⟨metr, ({ amps := [], volts := [] }),
   by decide⟩

theorem witness_EnergyNeverWrapsOrFalls_4 : ∃ (s : State) (m : MeterIn) (x : MtrI), s.metering = true ∧ s.measured 0 = true ∧ (∀ n, 0 < n → n < 6 → s.measured n = false) ∧ s.cf (.MTR_I_CFG 0) F.MTR_I_CFG_VSEL = 3 ∧ s.cf (.MTR_I_CFG 0) F.MTR_I_CFG_AUTO = 0 ∧ s.mtrI 0 = x ∧ x.n < 160 :=
  ⟨(((((metr.setCf (.MTR_I_CFG 0) F.MTR_I_CFG_ENABLE 1).setCf (.MTR_I_FS 0) F.MTR_I_FS_VALUE 20).setCf (.MTR_I_CFG 0) F.MTR_I_CFG_VSEL 3).setCf (.MTR_I_CFG 0) F.MTR_I_CFG_AUTO 0).setMtrI 0 { MtrI.reset with n := 159 }), ({ amps := [], volts := [] }), ({ MtrI.reset with n := 159 }),
   by decide, by decide, (by intro n h1 h2; rcases n with _ | _ | _ | _ | _ | _ | n <;> first | decide | omega), by decide⟩

theorem witness_MeterCommandsAnswerAndSave_0 : ∃ (s : State) (d : Desc), s.serves d 0x52 ∧ 448 ≤ d.len ∧ s.metering = true :=
  ⟨(fly metr (dsc 0x52 0 0 448)), (dsc 0x52 0 0 448),
   ⟨by decide, by decide, by decide, by decide⟩, by decide⟩

theorem witness_MeterCommandsAnswerAndSave_2 : ∃ (s : State) (d : Desc), s.serves d 0x52 ∧ d.len < 448 :=
  ⟨(fly metr (dsc 0x52 0 0 447)), (dsc 0x52 0 0 447),
   ⟨by decide, by decide, by decide, by decide⟩, by decide⟩

theorem witness_MeterCommandsAnswerAndSave_5 : ∃ (s : State) (b : Bool), s.clk.phase = Phase.run ∧ s.mtr.saveAt < 2 ^ 64 :=
  ⟨metr, true,
   by decide⟩

theorem witness_MeterCommandsAnswerAndSave_6 : ∃ (s : State) (d : Desc) (e : Desc) (read : HostRead) (b : Bool), s.serves d 0x53 ∧ d.seen s read = some e ∧ meterForm e = true ∧ meterAction e = 0 :=
  ⟨(fly (metr.setSf (.MTR_I_EVT 5) F.MTR_I_EVT_CLIP 1) (dsc 0x53 0 0 8)), (dsc 0x53 0 0 8), ((dsc 0x53 0 0 8).filled (mctl 0 0)), (.ok (mctl 0 0)), true,
   ⟨by decide, by decide, by decide, by decide⟩, by decide⟩

theorem witness_MeterCommandsAnswerAndSave_7 : ∃ (s : State) (d : Desc) (e : Desc) (read : HostRead) (b : Bool), s.serves d 0x53 ∧ d.seen s read = some e ∧ meterForm e = true ∧ meterAction e = 1 :=
  ⟨(fly metr (dsc 0x53 0 0 8)), (dsc 0x53 0 0 8), ((dsc 0x53 0 0 8).filled (mctl 1 0)), (.ok (mctl 1 0)), true,
   ⟨by decide, by decide, by decide, by decide⟩, by decide⟩

theorem witness_MeterCommandsAnswerAndSave_8 : ∃ (s : State) (d : Desc) (e : Desc) (read : HostRead) (b : Bool), s.serves d 0x53 ∧ d.seen s read = some e ∧ meterForm e = true ∧ meterAction e = 2 ∧ 100 ≤ meterValue e ∧ meterValue e ≤ 10000 ∧ meterValue e % 100 = 0 :=
  ⟨(fly metr (dsc 0x53 0 0 8)), (dsc 0x53 0 0 8), ((dsc 0x53 0 0 8).filled (mctl 2 10000)), (.ok (mctl 2 10000)), true,
   ⟨by decide, by decide, by decide, by decide⟩, by decide⟩

theorem witness_MeterCommandsAnswerAndSave_9 : ∃ (s : State) (d : Desc) (e : Desc) (read : HostRead) (b : Bool), s.serves d 0x53 ∧ d.seen s read = some e ∧ meterForm e = true ∧ meterAction e = 3 ∧ 1 ≤ meterValue e ∧ meterValue e ≤ 255 :=
  ⟨(fly metr (dsc 0x53 0 0 8)), (dsc 0x53 0 0 8), ((dsc 0x53 0 0 8).filled (mctl 3 255)), (.ok (mctl 3 255)), true,
   ⟨by decide, by decide, by decide, by decide⟩, by decide⟩

theorem witness_MeterCommandsAnswerAndSave_10 : ∃ (s : State) (d : Desc) (e : Desc) (read : HostRead) (b : Bool), s.serves d 0x53 ∧ d.seen s read = some e ∧ meterForm e = true ∧ meterAction e = 4 ∧ (∃ n, e.src = .ring n) :=
  ⟨(fly metr (dsc 0x53 0 0 8)), (dsc 0x53 0 0 8), ((dsc 0x53 0 0 8).filled (mctl 4 1)), (.ok (mctl 4 1)), true,
   ⟨by decide, by decide, by decide, by decide⟩, by decide, by decide, by decide, ⟨0, rfl⟩⟩

theorem witness_MeterCommandsAnswerAndSave_11 : ∃ (s : State) (d : Desc) (e : Desc) (read : HostRead) (b : Bool), s.serves d 0x53 ∧ d.seen s read = some e ∧ meterForm e = true ∧ meterAction e = 4 ∧ (∀ n, e.src ≠ .ring n) ∧ meterValue e ≠ 0 ∧ meterValue e < 2 ^ 26 :=
  ⟨(fly ({ metr with mtr := { metr.mtr with acc := [(25, 6)] } }) ({ dsc 0x53 0 0 8 with src := .sealedUdp 1 2, buf := mctl 4 67108863 })), ({ dsc 0x53 0 0 8 with src := .sealedUdp 1 2, buf := mctl 4 67108863 }), (({ dsc 0x53 0 0 8 with src := .sealedUdp 1 2, buf := mctl 4 67108863 }).taken), (.ok (mctl 4 67108863)), true,
   ⟨by decide, by decide, by decide, by decide⟩, by decide, by decide, by decide, (fun n h => by cases h), by decide⟩

theorem witness_MeterCommandsAnswerAndSave_12 : ∃ (s : State), s.newt.cal.secondOfDay % s.reconParam 0x0502 ≠ 0 :=
  ⟨({ up with newt := { up.newt with cal := { up.newt.cal with sec := 1 } } }),
   by decide⟩

theorem witness_MeterCommandsAnswerAndSave_13 : ∃ (s : State), s.ready = true ∧ s.newt.cal.secondOfDay % s.reconParam 0x0502 = 0 ∧ s.newt.tick / 32768 ≠ s.seg.reconAt / 32768 :=
  ⟨({ metr with newt := { metr.newt with tick := 900000 }, seg := { metr.seg with reconPar := [(0x0510, 2 ^ 31 + 1)] } }),
   by decide⟩

theorem witness_MeterCommandsAnswerAndSave_1 : ∃ (s : State) (d : Desc), s.serves d 0x52 ∧ 448 ≤ d.len ∧ s.metering = false :=
  ⟨(fly up (dsc 0x52 0 0 448)), (dsc 0x52 0 0 448),
   ⟨by decide, by decide, by decide, by decide⟩, by decide⟩

theorem witness_MeterCommandsAnswerAndSave_3 : ∃ (s : State) (m : MeterIn), s.metering = true :=
  ⟨metr, ({ amps := [], volts := [] }),
   by decide⟩

theorem witness_MeterCommandsAnswerAndSave_4 : ∃ (s : State) (d : Desc), s.mtr.snaps = [d.did] ∧ s.desc? d.did = some d :=
  ⟨(fly { metr with mtr := { metr.mtr with snaps := [1] } } ({ dsc 0x52 0 0 448 with stage := .queued })), ({ dsc 0x52 0 0 448 with stage := .queued }),
   by decide⟩

theorem witness_OneUnitOfATwinPairActs_0 : ∃ (s : State) (path : Nat) (claim : Nat), s.twinRole = 3 ∧ s.ownClaim < claim ∧ claim < 2 ^ 32 ∧ s.twn.epoch < 2 ^ 28 :=
  ⟨(let x0 := twin 3; { x0 with air := { x0.air with carriers := [crr] }, tsu := { x0.tsu with slots := [{ cls := .port 0, did := 3, time := 100, scene := none, yards := 0, late := false }] } }), 1, (2 ^ 28 + 9),
   by decide⟩

theorem witness_OneUnitOfATwinPairActs_1 : ∃ (s : State) (bad : Option Nat) (symBad : Bool), s.mayEmit = false :=
  ⟨(twin 2), none, false,
   by decide⟩

theorem witness_OneUnitOfATwinPairActs_2 : ∃ (s : State), s.twinOn = true ∧ s.twn.lapsed = false ∧ s.leaseHeld = false :=
  ⟨(let x0 := twin 3; { x0 with air := { x0.air with carriers := [crr] } }),
   by decide⟩

theorem witness_OneUnitOfATwinPairActs_3 : ∃ (s : State) (cause : Nat), s.held = false ∧ s.topEpoch < 0x0FFFFFFF ∧ s.ownPref < 16 :=
  ⟨(twin 2), 0,
   by decide⟩

theorem witness_OneUnitOfATwinPairActs_4 : ∃ (s : State) (cause : Nat), s.held = true :=
  ⟨((((twin 2).setTw F.TWN_STAT_PEER_PRESENT true).setCf .TWN_CFG F.TWN_CFG_UNIT 1).modTwn (fun w => { w with samePref := true })), 0,
   by decide⟩

theorem witness_OneUnitOfATwinPairActs_5 : ∃ (s : State), s.twinOn = true ∧ s.twinRole = 2 ∧ s.topEpoch < 0x0FFFFFFF ∧ s.ownPref < 16 ∧ max s.twn.busHeard s.twn.laneHeard + s.lossT < 2 ^ 64 :=
  ⟨((twin 2).setTw F.TWN_STAT_PEER_PRESENT true),
   by decide⟩

theorem witness_OneUnitOfATwinPairActs_6 : ∃ (s : State), s.twinOn = true ∧ s.twinRole = 1 ∧ s.tw F.TWN_STAT_PEER_PRESENT = true ∧ s.sf .TWN_STAT F.TWN_STAT_PEER_ROLE = 3 :=
  ⟨(((twin 1).setTw F.TWN_STAT_PEER_PRESENT true).setSf .TWN_STAT F.TWN_STAT_PEER_ROLE 3),
   by decide⟩

theorem witness_OneUnitOfATwinPairActs_7 : ∃ (s : State) (u : State), s.twinOn = true ∧ s.twinRole = 1 ∧ s.tw F.TWN_STAT_PEER_PRESENT = false ∧ u = s.elapseTo s.twn.listenEnd ∧ u.topEpoch < 0x0FFFFFFF :=
  ⟨(twin 1), _,
   by decide, by decide, by decide, rfl, by decide⟩

theorem witness_OneUnitOfATwinPairActs_8 : ∃ (s : State) (u : State), s.twinOn = true ∧ s.twinRole = 1 ∧ s.tw F.TWN_STAT_PEER_PRESENT = false ∧ u = s.elapseTo s.twn.listenEnd ∧ 0x0FFFFFFF ≤ u.topEpoch :=
  ⟨((twin 1).modTwn (fun w => { w with epoch := 0x0FFFFFFF })), _,
   by decide, by decide, by decide, rfl, by decide⟩

theorem witness_OneUnitOfATwinPairActs_9 : ∃ (s : State) (u : State) (r : Nat), u = s.refreshTwin ∧ u.twn.revSince = some r :=
  ⟨(let x0 := ((twin 2).setCf .TWN_CFG F.TWN_CFG_REVERT 1).setSf (.TSU_DOM_STAT 0) F.TSU_DOM_STAT_STATE 3; ((((x0.setCf .TWN_CFG F.TWN_CFG_PREF 2).setTw F.TWN_STAT_VERSION_OK true).setTw F.TWN_STAT_CONFIG_OK true).setTw F.TWN_STAT_BUS_OK true).modTwn (fun w => { w with swept := true, revSince := some 5 })), _, 5,
   rfl, by decide⟩

theorem witness_OneUnitOfATwinPairActs_10 : ∃ (s : State) (u : State) (r : Nat), u = s.refreshTwin ∧ u.twn.revSince = none :=
  ⟨(twin 2), _, 5,
   rfl, by decide⟩

theorem witness_OneUnitOfATwinPairActs_11 : ∃ (s : State) (u : State) (r : Nat) (v : State), u = s.refreshTwin ∧ u.twn.sickSince = some r ∧ v = u.elapseTo (r + u.cf .TWN_TIMERS F.TWN_TIMERS_YIELD_AFTER * secT) ∧ v.reportFresh = true ∧ bit v.twn.peerFlags 0 = true ∧ bit v.twn.peerFlags 1 = true :=
  ⟨((twin 3).modTwn (fun w => { w with sickSince := some 5, reportAt := some (60 * secT), peerFlags := 3 })), _, 5, _,
   rfl, by decide, rfl, by decide⟩

theorem witness_OneUnitOfATwinPairActs_12 : ∃ (s : State) (d : Desc), s.serves d 0x60 ∧ d.pByte 0 = 1 ∧ (∃ n, d.src = .ring n) :=
  ⟨(fly (twin 3) (dsc 0x60 0 (pb [1]))), (dsc 0x60 0 (pb [1])),
   ⟨by decide, by decide, by decide, by decide⟩, by decide, ⟨0, rfl⟩⟩

theorem witness_OneUnitOfATwinPairActs_13 : ∃ (s : State) (d : Desc) (v : Bool) (u : State), s.serves d 0x60 ∧ d.pByte 0 = 1 ∧ (∀ n, d.src ≠ .ring n) ∧ twinArgsOk d = true ∧ d.len = 0 ∧ s.tw F.TWN_STAT_PEER_PRESENT = true ∧ v = !s.tw F.TWN_STAT_INHIBIT ∧ u = (((s.holding d.taken).setTw F.TWN_STAT_INHIBIT v).laneSend (.inhibit v)).ok d.taken ∧ s.twinRole = 3 :=
  ⟨(fly ((twin 3).setTw F.TWN_STAT_PEER_PRESENT true) ({ dsc 0x60 0 (pb [1]) with src := .sealedUdp 1 2 })), ({ dsc 0x60 0 (pb [1]) with src := .sealedUdp 1 2 }), _, _,
   ⟨by decide, by decide, by decide, by decide⟩, by decide, (fun n h => by cases h), by decide, by decide, by decide, rfl, rfl, by decide⟩

theorem witness_OneUnitOfATwinPairActs_14 : ∃ (s : State) (d : Desc) (v : Bool) (u : State), s.serves d 0x60 ∧ d.pByte 0 = 1 ∧ (∀ n, d.src ≠ .ring n) ∧ twinArgsOk d = true ∧ d.len = 0 ∧ s.tw F.TWN_STAT_PEER_PRESENT = true ∧ v = !s.tw F.TWN_STAT_INHIBIT ∧ u = (((s.holding d.taken).setTw F.TWN_STAT_INHIBIT v).laneSend (.inhibit v)).ok d.taken ∧ s.twinRole = 2 :=
  ⟨(fly ((twin 2).setTw F.TWN_STAT_PEER_PRESENT true) ({ dsc 0x60 0 (pb [1]) with src := .sealedUdp 1 2 })), ({ dsc 0x60 0 (pb [1]) with src := .sealedUdp 1 2 }), _, _,
   ⟨by decide, by decide, by decide, by decide⟩, by decide, (fun n h => by cases h), by decide, by decide, by decide, rfl, rfl, by decide⟩

theorem witness_TwinUnitsTalkAndMirror_0 : ∃ (s : State) (u : State), s.twinOn = true ∧ s.twn.lapsed = false ∧ u = s.elapseTo s.twn.busAt :=
  ⟨(twin 3), _,
   by decide, by decide, rfl⟩

theorem witness_TwinUnitsTalkAndMirror_1 : ∃ (s : State) (v : State) (u : State) (f : ClaimFrame), s.twinOn = true ∧ v = (s.setTw F.TWN_STAT_BUS_OK true).peerRole f.role ∧ u = v.modTwn (fun w => { w with busQuiet := false, busHeard := v.tsu.raw, peerHealthy := f.healthy, busRx := v.tsu.raw - 48 * usT, busAt := if s.unit = 1 then v.tsu.raw + 452 * usT else w.busAt }) :=
  ⟨(twin 3), _, _, ({ claim := 2 ^ 28 * 9, pref := 9, role := 3, healthy := true }),
   by decide, rfl, rfl⟩

theorem witness_TwinUnitsTalkAndMirror_2 : ∃ (s : State) (u : State) (f : TwinFrame), s.twinOn = true ∧ s.tw F.TWN_STAT_LANE_OK = true ∧ claimPref f.claim = 0 ∧ u = (s.modTwn (fun w => { w with laneHeard := s.tsu.raw })).peerRole f.role :=
  ⟨(twin 2), _, ({ claim := 77, role := 2, body := .sweepEnd 4 }),
   by decide, by decide, by decide, rfl⟩

theorem witness_TwinUnitsTalkAndMirror_3 : ∃ (s : State) (u : State) (r : Rx) (l : List Rx), s.air.beacons = r :: l ∧ u = { s with air := { s.air with beacons := l } } ∧ (u.seq (r.stall / 16384)).fcSeen < r.frame.fc + 1 :=
  ⟨(let x0 := twin 2; { x0 with air := { x0.air with beacons := [rx 0 8 [0, 1, 9, 0, 0, 16]] } }), _, (rx 0 8 [0, 1, 9, 0, 0, 16]), [],
   by decide, rfl, by decide⟩

theorem witness_TwinUnitsTalkAndMirror_4 : ∃ (s : State) (u : State) (r : Rx) (l : List Rx), s.air.beacons = r :: l ∧ u = { s with air := { s.air with beacons := l } } ∧ r.frame.fc + 1 ≤ (u.seq (r.stall / 16384)).fcSeen :=
  ⟨(let x0 := (twin 2).setSeq 0 { SeqY.reset with fcSeen := 9 }; { x0 with air := { x0.air with beacons := [rx 0 8 [0, 1, 9, 0, 0, 16]] } }), _, (rx 0 8 [0, 1, 9, 0, 0, 16]), [],
   by decide, rfl, by decide⟩

theorem witness_TwinUnitsTalkAndMirror_5 : ∃ (s : State), s.twinOn = true ∧ s.twn.busQuiet = false ∧ s.tw F.TWN_STAT_LANE_OK = true ∧ s.twn.busHeard + s.lossT < 2 ^ 64 :=
  ⟨((twin 2).setTw F.TWN_STAT_BUS_OK true),
   by decide⟩

theorem witness_TwinUnitsTalkAndMirror_6 : ∃ (s : State) (first : Nat) (l : List MirrorRec), s.twinRole = 2 ∧ s.tw F.TWN_STAT_VERSION_OK = true ∧ s.twn.fresh = true ∧ first ≠ s.twn.seq + 1 :=
  ⟨(((twin 2).setTw F.TWN_STAT_VERSION_OK true).modTwn (fun w => { w with fresh := true, seq := 4 })), 6, ([.admits []]),
   by decide⟩

theorem witness_TwinUnitsTalkAndMirror_7 : ∃ (s : State) (first : Nat) (l : List MirrorRec), s.twinRole = 2 ∧ s.tw F.TWN_STAT_VERSION_OK = true ∧ first = s.twn.seq + 1 :=
  ⟨(((twin 2).setTw F.TWN_STAT_VERSION_OK true).modTwn (fun w => { w with fresh := true, seq := 4 })), 5, ([.admits []]),
   by decide⟩

theorem witness_TwinUnitsTalkAndMirror_8 : ∃ (s : State), s.tw F.TWN_STAT_LANE_OK = true :=
  ⟨(twin 2),
   by decide⟩

theorem witness_TwinUnitsTalkAndMirror_9 : ∃ (s : State), s.tw F.TWN_STAT_LANE_OK = false ∧ s.ready = true ∧ s.serdesOk = true :=
  ⟨((twin 2).setTw F.TWN_STAT_LANE_OK false),
   by decide⟩

theorem witness_TwinUnitsTalkAndMirror_10 : ∃ (s : State) (u : State) (v : Nat) (c : Int), s.twinOn = true ∧ u = (s.elapseTo s.twn.reportNext).refreshTwin :=
  ⟨(twin 2), _, 2400, -5,
   by decide, rfl⟩

theorem witness_TwinUnitsTalkAndMirror_11 : ∃ (s : State), s.twinOn = true ∧ s.twinRole = 2 ∧ s.twn.bist < 70 ∧ s.twn.bistAt + (bistStep s.twn.bist).2.2 * msT < 2 ^ 64 :=
  ⟨((twin 2).modTwn (fun w => { w with bist := 69 })),
   by decide⟩

theorem witness_TwinUnitsTalkAndMirror_12 : ∃ (s : State) (d : Desc), s.serves d 0x60 ∧ twinArgsOk d = true ∧ d.pByte 0 = 0 ∧ 128 ≤ d.len :=
  ⟨(fly (twin 2) (dsc 0x60 0 0 128)), (dsc 0x60 0 0 128),
   ⟨by decide, by decide, by decide, by decide⟩, by decide⟩

theorem witness_TwinUnitsTalkAndMirror_13 : ∃ (s : State) (d : Desc) (u : State), s.serves d 0x60 ∧ twinArgsOk d = true ∧ d.pByte 0 = 2 ∧ d.len = 0 ∧ u = (s.holding d.taken).mirrorRestart 3 ∧ (u.twinRole = 2 ∧ u.tw F.TWN_STAT_LANE_OK = true ∧ u.tw F.TWN_STAT_VERSION_OK = true) :=
  ⟨(fly ((twin 2).setTw F.TWN_STAT_VERSION_OK true) (dsc 0x60 0 (pb [2]))), (dsc 0x60 0 (pb [2])), _,
   ⟨by decide, by decide, by decide, by decide⟩, by decide, by decide, by decide, rfl, by decide⟩

theorem witness_TwinUnitsTalkAndMirror_14 : ∃ (s : State) (d : Desc) (u : State), s.serves d 0x60 ∧ twinArgsOk d = true ∧ d.pByte 0 = 2 ∧ d.len = 0 ∧ u = (s.holding d.taken).mirrorRestart 3 ∧ u.twinRole ≠ 2 :=
  ⟨(fly (twin 3) (dsc 0x60 0 (pb [2]))), (dsc 0x60 0 (pb [2])), _,
   ⟨by decide, by decide, by decide, by decide⟩, by decide, by decide, by decide, rfl, by decide⟩

theorem witness_MailboxesKeepTheirFour_0 : ∃ (s : State) (t : State) (c : Instr) (n : Nat) (m : List Byte × Bool), (∀ n, (s.mbx_ n).msgs.length ≤ 4 ∧ ∀ m ∈ (s.mbx_ n).msgs, m.1.length = 64) ∧ ((∃ n b, c = .mbxPost n b) ∨ (∃ n, c = .mbxAck n) ∨ (∃ n, c = .mbxClear n) ∨ (∃ n, c = .mbxSreset n) ∨ (∃ n, c = .mbxReopen n) ∨ (∃ v, c = .mbxHdbMaskWrite v) ∨ (∃ n, c = .ping n) ∨ c = .hostState) ∧ exec c s = .next t ∧ m ∈ (t.mbx_ n).msgs :=
  ⟨mbox, _, (.mbxPost 3 (zeros 64)), 3, ((zeros 64, false)),
   (mbox_four), (Or.inl ⟨_, _, rfl⟩), rfl, by decide⟩

theorem witness_MailboxesKeepTheirFour_1 : ∃ (s : State) (t : State) (c : Instr) (n : Nat), (∀ n, (s.mbx_ n).msgs.length ≤ 4 ∧ ∀ m ∈ (s.mbx_ n).msgs, m.1.length = 64) ∧ ((∃ n b, c = .mbxPost n b) ∨ (∃ n, c = .mbxAck n) ∨ (∃ n, c = .mbxClear n) ∨ (∃ n, c = .mbxSreset n) ∨ (∃ n, c = .mbxReopen n) ∨ (∃ v, c = .mbxHdbMaskWrite v) ∨ (∃ n, c = .ping n) ∨ c = .hostState) ∧ exec c s = .next t :=
  ⟨mbox, _, (.mbxPost 3 (zeros 64)), 3,
   (mbox_four), (Or.inl ⟨_, _, rfl⟩), rfl⟩

theorem witness_MailboxesKeepTheirFour_2 : ∃ (s : State) (n : Nat) (b : List Byte), n < 6 ∧ s.chanState n = 0 ∧ (s.mbx_ n).msgs.length < 4 ∧ (s.mbx_ n).rd < 4 :=
  ⟨mbox, 5, (oct [1, 2]),
   by decide⟩

theorem witness_MailboxesKeepTheirFour_3 : ∃ (s : State) (n : Nat) (b : List Byte), n < 6 ∧ (s.chanState n ≠ 0 ∨ 4 ≤ (s.mbx_ n).msgs.length) :=
  ⟨(mbox.setMbx 5 { MbxCh.reset with msgs := List.replicate 4 (zeros 64, false) }), 5, (oct [1, 2]),
   by decide⟩

theorem witness_MailboxesKeepTheirFour_4 : ∃ (s : State) (n : Nat) (m : List Byte × Bool) (l : List (List Byte × Bool)), n < 6 ∧ (s.mbx_ n).msgs = m :: l :=
  ⟨(mbox.setMbx 5 { MbxCh.reset with msgs := List.replicate 4 (zeros 64, false) }), 5, ((zeros 64, false)), (List.replicate 3 (zeros 64, false)),
   by decide⟩

theorem witness_MailboxesKeepTheirFour_5 : ∃ (s : State) (n : Nat), n < 16 :=
  ⟨(mbox.setMbx 15 { MbxCh.reset with msgs := List.replicate 4 (zeros 64, false) }), 15,
   by decide⟩

theorem witness_MailboxesKeepTheirFour_6 : ∃ (s : State) (n : Nat), n < 16 ∧ s.endRuns (mbxReceiver n) = false :=
  ⟨mbox, 12,
   by decide⟩

theorem witness_MailboxesKeepTheirFour_7 : ∃ (s : State) (n : Nat), n < 16 ∧ s.endRuns (mbxReceiver n) = true :=
  ⟨(mbox.setMbx 0 { MbxCh.reset with aborted := true }), 0,
   by decide⟩

theorem witness_MailboxesKeepTheirFour_8 : ∃ (s : State) (v : Nat) (k : Nat), k < 32 ∧ bit s.mbx.mask k = true ∧ bit v k = false ∧ bit s.mbx.hdb k = true :=
  ⟨({ mbox with mbx := { mbox.mbx with hdb := 2 ^ 31, mask := 2 ^ 32 - 1 } }), (2 ^ 31 - 1), 31,
   by decide⟩

theorem witness_MailboxesKeepTheirFour_9 : ∃ (s : State) (n : Nat) (m : List Byte), s.mbxHead n = some m ∧ n < 6 ∧ s.servesMbx n = true ∧ nakReason n m = none ∧ msgBroken m = false ∧ msgKind m = 0x0001 :=
  ⟨(mbox.setMbx 5 { MbxCh.reset with msgs := [(oct [1, 0, 9, 0, 0, 0, 2, 0, 7, 8] ++ zeros 54, false)] }), 5, (oct [1, 0, 9, 0, 0, 0, 2, 0, 7, 8] ++ zeros 54),
   by decide⟩

theorem witness_MailboxesKeepTheirFour_10 : ∃ (s : State) (n : Nat) (m : List Byte) (r : Nat), s.mbxHead n = some m ∧ n < 6 ∧ s.servesMbx n = true ∧ nakReason n m = some r :=
  ⟨(mbox.setMbx 5 { MbxCh.reset with msgs := [(oct [5, 0, 9, 0, 0, 0, 57, 0, 7, 8] ++ zeros 54, false)] }), 5, (oct [5, 0, 9, 0, 0, 0, 57, 0, 7, 8] ++ zeros 54), 2,
   by decide⟩

theorem witness_MailboxesKeepTheirFour_11 : ∃ (s : State) (m : List Byte), s.mbxHead 0 = some m ∧ s.servesMbx 0 = true ∧ msgKind m = 0x0003 ∧ msgLen m ≤ 56 ∧ msgBroken m = false :=
  ⟨(mbox.setMbx 0 { MbxCh.reset with msgs := [(oct [3, 0, 9, 0, 0, 0, 1, 0, 1, 8] ++ zeros 54, false)] }), (oct [3, 0, 9, 0, 0, 0, 1, 0, 1, 8] ++ zeros 54),
   by decide⟩

theorem witness_RefusedPostTakesNoSlot_0 : ∃ (s : State) (w : State) (n : Nat) (b : List Byte), n < 16 ∧ (s.mbx.stopping = true → n < 6 ∨ 9 < n) ∧ ((s.mbx_ n).msgs.length = 4 ∨ s.chanState n ≠ 0) ∧ w = s.setMbx n ((s.mbx_ n).fill (64 * (s.mbx_ n).wr) (fitBytes 64 b)) ∧ (s.mbx_ n).msgs.length = 4 :=
  ⟨(mbox.setMbx 5 { MbxCh.reset with msgs := List.replicate 4 (zeros 64, false) }), _, 5, (oct [1, 2]),
   by decide, by decide, by decide, rfl, by decide⟩

theorem witness_RefusedPostTakesNoSlot_1 : ∃ (s : State) (w : State) (n : Nat) (b : List Byte), n < 16 ∧ (s.mbx.stopping = true → n < 6 ∨ 9 < n) ∧ ((s.mbx_ n).msgs.length = 4 ∨ s.chanState n ≠ 0) ∧ w = s.setMbx n ((s.mbx_ n).fill (64 * (s.mbx_ n).wr) (fitBytes 64 b)) :=
  ⟨(mbox.setMbx 13 { MbxCh.reset with msgs := [(zeros 64, false)] }), _, 13, (oct [1, 2]),
   by decide, by decide, by decide, rfl⟩

theorem witness_RefusedPostTakesNoSlot_2 : ∃ (s : State) (n : Nat), n < 16 ∧ (s.mbx_ n).msgs ≠ [] :=
  ⟨mbox, 3,
   by decide⟩

theorem witness_BundlesAreStagedVerifiedAndConfirmed_0 : ∃ (s : State) (d : Desc) (e : Desc) (read : HostRead) (h : Holder) (x : Session), s.serves d 0x70 ∧ d.seen s read = some e ∧ updCancel e = false ∧ e.target = 0 ∧ e.pByte 8 / 8 = 0 ∧ e.pZero 9 32 = true ∧ e.len ≠ 0 ∧ e.len ≤ 65536 ∧ updFirst e = false ∧ h = s.updHolder d ∧ s.onTrial = false ∧ (s.upd.verified = false ∨ s.upd.armed = none) ∧ s.upd.session = some x ∧ s.tsu.raw < x.idleEnd ∧ x.source ≠ h :=
  ⟨(fly (({ stag 512 false false with upd := { (stag 512 false false).upd with session := some { ses 512 false with source := { kind := 3, ring := 255, ip := 9 } } } } : State)) (dsc 0x70 0 (pb [0, 2, 0, 0, 0, 16, 0, 0, 0]) 4)), (dsc 0x70 0 (pb [0, 2, 0, 0, 0, 16, 0, 0, 0]) 4), ((dsc 0x70 0 (pb [0, 2, 0, 0, 0, 16, 0, 0, 0]) 4).filled (zeros 4)), (.ok (zeros 4)), _, ({ ses 512 false with source := { kind := 3, ring := 255, ip := 9 } }),
   ⟨by decide, by decide, by decide, by decide⟩, by decide, by decide, by decide, by decide, by decide, of_decide_eq_true rfl, by decide, by decide, rfl, by decide⟩

theorem witness_BundlesAreStagedVerifiedAndConfirmed_1 : ∃ (s : State) (d : Desc) (e : Desc) (read : HostRead) (h : Holder) (x : Session), s.serves d 0x70 ∧ d.seen s read = some e ∧ updCancel e = false ∧ e.target = 0 ∧ e.pByte 8 / 8 = 0 ∧ e.pZero 9 32 = true ∧ e.len ≠ 0 ∧ e.len ≤ 65536 ∧ updFirst e = false ∧ h = s.updHolder d ∧ s.onTrial = false ∧ (s.upd.verified = false ∨ s.upd.armed = none) ∧ s.upd.session = some x ∧ s.tsu.raw < x.idleEnd ∧ x.source = h ∧ e.pNum 4 4 = x.total ∧ (e.pNum 0 4 ≠ x.next ∨ x.last = true) :=
  ⟨(fly (stag 512 false false) (dsc 0x70 0 (pb [1, 2, 0, 0, 0, 16, 0, 0, 0]) 4)), (dsc 0x70 0 (pb [1, 2, 0, 0, 0, 16, 0, 0, 0]) 4), ((dsc 0x70 0 (pb [1, 2, 0, 0, 0, 16, 0, 0, 0]) 4).filled (zeros 4)), (.ok (zeros 4)), _, (ses 512 false),
   ⟨by decide, by decide, by decide, by decide⟩, by decide, by decide, by decide, by decide, by decide, of_decide_eq_true rfl, by decide, by decide, rfl, by decide, by decide, by decide, by decide, rfl, by decide⟩

theorem witness_BundlesAreStagedVerifiedAndConfirmed_2 : ∃ (s : State) (d : Desc) (e : Desc) (read : HostRead) (h : Holder) (x : Session), s.serves d 0x70 ∧ d.seen s read = some e ∧ updCancel e = false ∧ e.target = 0 ∧ e.pByte 8 / 8 = 0 ∧ e.pZero 9 32 = true ∧ e.len ≠ 0 ∧ e.len ≤ 65536 ∧ updFirst e = false ∧ h = s.updHolder d ∧ s.onTrial = false ∧ (s.upd.verified = false ∨ s.upd.armed = none) ∧ s.upd.session = some x ∧ s.tsu.raw < x.idleEnd ∧ x.source = h ∧ e.pNum 4 4 = x.total ∧ e.pNum 0 4 = x.next ∧ x.last = false ∧ x.next + e.len < x.total ∧ updLast e = false :=
  ⟨(fly (stag 512 false false) (dsc 0x70 0 (pb [0, 2, 0, 0, 0, 16, 0, 0, 0]) 4)), (dsc 0x70 0 (pb [0, 2, 0, 0, 0, 16, 0, 0, 0]) 4), ((dsc 0x70 0 (pb [0, 2, 0, 0, 0, 16, 0, 0, 0]) 4).filled (zeros 4)), (.ok (zeros 4)), _, (ses 512 false),
   ⟨by decide, by decide, by decide, by decide⟩, by decide, by decide, by decide, by decide, by decide, of_decide_eq_true rfl, by decide, by decide, rfl, by decide, by decide, by decide, by decide, rfl, by decide⟩

theorem witness_BundlesAreStagedVerifiedAndConfirmed_3 : ∃ (s : State) (d : Desc) (e : Desc) (read : HostRead), s.serves d 0x70 ∧ d.seen s read = some e ∧ updCancel e = false ∧ e.target = 0 ∧ e.pByte 8 / 8 = 0 ∧ e.pZero 9 32 = true ∧ 512 ≤ e.len ∧ e.len ≤ 65536 ∧ updFirst e = true ∧ updLast e = false ∧ s.onTrial = false ∧ (s.upd.verified = false ∨ s.upd.armed = none) ∧ s.upd.session = none ∧ s.upd.journal = none ∧ headerFormed e.buf = true ∧ e.pNum 4 4 = leAt e.buf 12 4 ∧ e.pNum 4 4 ≤ bundleMax ∧ e.pNum 0 4 = 0 ∧ e.len ≤ e.pNum 4 4 :=
  ⟨(fly (up) (dsc 0x70 0 (pb [0, 0, 0, 0, 0, 16, 0, 0, 1]) 512)), (dsc 0x70 0 (pb [0, 0, 0, 0, 0, 16, 0, 0, 1]) 512), ((dsc 0x70 0 (pb [0, 0, 0, 0, 0, 16, 0, 0, 1]) 512).filled (hdr)), (.ok (hdr)),
   ⟨by decide, by decide, by decide, by decide⟩, by decide⟩

theorem witness_BundlesAreStagedVerifiedAndConfirmed_4 : ∃ (s : State) (d : Desc) (x : Session), s.serves d 0x70 ∧ updCancel d = true ∧ d.target = 0 ∧ d.pByte 8 / 8 = 0 ∧ d.pZero 9 32 = true ∧ d.len = 0 ∧ s.onTrial = false ∧ s.upd.verified = false ∧ s.upd.session = some x ∧ s.tsu.raw < x.idleEnd ∧ x.source = s.updHolder d :=
  ⟨(fly (stag 512 false false) (dsc 0x70 0 (pb [0, 0, 0, 0, 0, 0, 0, 0, 4]))), (dsc 0x70 0 (pb [0, 0, 0, 0, 0, 0, 0, 0, 4])), (ses 512 false),
   ⟨by decide, by decide, by decide, by decide⟩, by decide⟩

theorem witness_BundlesAreStagedVerifiedAndConfirmed_5 : ∃ (s : State) (x : Session), s.upd.session = some x ∧ s.upd.armed = none :=
  ⟨(stag 512 false false), (ses 512 false),
   by decide⟩

theorem witness_BundlesAreStagedVerifiedAndConfirmed_9 : ∃ (s : State) (d : Desc) (k : BundleCheck), s.serves d 0x71 ∧ d.target = 0 ∧ d.param = 0#256 ∧ s.sessionDue = s ∧ s.shed.down = false ∧ s.upd.session = none :=
  ⟨(fly up (dsc 0x71 0)), (dsc 0x71 0), okAll,
   ⟨by decide, by decide, by decide, by decide⟩, by decide, by decide, (rfl), by decide⟩

theorem witness_BundlesAreStagedVerifiedAndConfirmed_10 : ∃ (s : State) (d : Desc) (k : BundleCheck) (x : Session), s.serves d 0x71 ∧ d.target = 0 ∧ d.param = 0#256 ∧ s.sessionDue = s ∧ s.shed.down = false ∧ s.upd.session = some x ∧ x.last = true ∧ s.bundleFails x.header (digestOk s.upd.staged) k = none :=
  ⟨(fly { stag 4096 true false with upd := { (stag 4096 true false).upd with staged := bun } } (dsc 0x71 0)), (dsc 0x71 0), okAll, (ses 4096 true),
   ⟨by decide, by decide, by decide, by decide⟩, by decide, by decide, (rfl), by decide, by decide, by decide, (Eq.trans (congrArg (fun g => State.bundleFails _ _ g _) bun_ok) (by decide))⟩

theorem witness_BundlesAreStagedVerifiedAndConfirmed_11 : ∃ (s : State) (d : Desc) (k : BundleCheck) (x : Session) (q : Nat × Nat), s.serves d 0x71 ∧ d.target = 0 ∧ d.param = 0#256 ∧ s.sessionDue = s ∧ s.shed.down = false ∧ s.upd.session = some x ∧ x.last = true ∧ s.bundleFails x.header (digestOk s.upd.staged) k = some q :=
  ⟨(fly { stag 4096 true false with upd := { (stag 4096 true false).upd with staged := bun } } (dsc 0x71 0)), (dsc 0x71 0), ({ okAll with vsigOk := false }), (ses 4096 true), ((stDENIED, 4)),
   ⟨by decide, by decide, by decide, by decide⟩, by decide, by decide, (rfl), by decide, by decide, by decide, (Eq.trans (congrArg (fun g => State.bundleFails _ _ g _) bun_ok) (by decide))⟩

theorem witness_BundlesAreStagedVerifiedAndConfirmed_12 : ∃ (s : State) (d : Desc), s.serves d 0x72 ∧ d.target = 0 ∧ d.pZero 2 32 = true ∧ s.sessionDue = s ∧ s.upd.verified = false :=
  ⟨(fly (stag 4096 true false) (dsc 0x72 0)), (dsc 0x72 0),
   ⟨by decide, by decide, by decide, by decide⟩, by decide, by decide, (rfl), by decide⟩

theorem witness_BundlesAreStagedVerifiedAndConfirmed_13 : ∃ (s : State) (d : Desc), s.serves d 0x72 ∧ d.target = 0 ∧ d.pZero 2 32 = true ∧ s.sessionDue = s ∧ s.activateFails d = none ∧ d.launch = false ∧ s.upd.armed = none :=
  ⟨(fly (stag 4096 true true) (dsc 0x72 0 (pb [60]))), (dsc 0x72 0 (pb [60])),
   ⟨by decide, by decide, by decide, by decide⟩, by decide, by decide, (rfl), by decide⟩

theorem witness_BundlesAreStagedVerifiedAndConfirmed_14 : ∃ (s : State) (p : Pause) (r : Nat), s.upd.pause = some p ∧ p.radioAt = some r ∧ p.radioMs = none :=
  ⟨({ up with upd := { up.upd with pause := some { did := 9, start := 0, radioAt := some 0, radioMs := none, oldVersion := 0 } } }), ({ did := 9, start := 0, radioAt := some 0, radioMs := none, oldVersion := 0 }), 0,
   by decide⟩

theorem witness_BundlesAreStagedVerifiedAndConfirmed_16 : ∃ (s : State) (p : Pause) (r : Nat), s.upd.pause = some p ∧ p.radioMs = some r ∧ s.upd.boot.active < 2 :=
  ⟨(({ up with upd := { up.upd with boot := { up.upd.boot with active := 1, confirm := 60 }, pause := some { did := 9, start := 0, radioAt := some 0, radioMs := some 4, oldVersion := 0 } } } : State).setSf .HIF_STATUS F.HIF_STATUS_PAUSE 1), ({ did := 9, start := 0, radioAt := some 0, radioMs := some 4, oldVersion := 0 }), 4,
   by decide⟩

theorem witness_BundlesAreStagedVerifiedAndConfirmed_17 : ∃ (s : State) (d : Desc), s.serves d 0x73 ∧ d.target = 0 ∧ d.param = 0#256 ∧ s.onTrial = true :=
  ⟨(fly (up.setSf .HIF_STATUS F.HIF_STATUS_TRIAL 1) (dsc 0x73 0)), (dsc 0x73 0),
   ⟨by decide, by decide, by decide, by decide⟩, by decide⟩

theorem witness_BundlesAreStagedVerifiedAndConfirmed_18 : ∃ (s : State) (d : Desc), s.serves d 0x73 ∧ d.target = 0 ∧ d.param = 0#256 ∧ s.onTrial = false :=
  ⟨(fly up (dsc 0x73 0)), (dsc 0x73 0),
   ⟨by decide, by decide, by decide, by decide⟩, by decide⟩

theorem witness_BundlesAreStagedVerifiedAndConfirmed_19 : ∃ (s : State) (e : Nat), s.upd.windowEnd = some e :=
  ⟨({ up with upd := { up.upd with windowEnd := some 9 } }), 9,
   by decide⟩

theorem witness_BundlesAreStagedVerifiedAndConfirmed_6 : ∃ (s : State) (x : Session), s.upd.session = some x ∧ s.upd.armed = none ∧ x.idleEnd ≤ s.tsu.raw :=
  ⟨(let x0 := stag 512 false false; { x0 with tsu := { x0.tsu with raw := 99 } }), (ses 512 false),
   by decide⟩

theorem witness_BundlesAreStagedVerifiedAndConfirmed_7 : ∃ (s : State) (x : Session), s.upd.session = some x ∧ s.upd.armed = none ∧ s.tsu.raw < x.idleEnd :=
  ⟨(stag 512 false false), (ses 512 false),
   by decide⟩

theorem witness_BundlesAreStagedVerifiedAndConfirmed_8 : ∃ (s : State) (d : Desc) (k : BundleCheck), s.serves d 0x71 ∧ d.target = 0 ∧ d.param = 0#256 ∧ s.sessionDue = s ∧ s.shed.down = true :=
  ⟨(fly { up with shed := { up.shed with down := true } } (dsc 0x71 0)), (dsc 0x71 0), okAll,
   ⟨by decide, by decide, by decide, by decide⟩, by decide, by decide, (rfl), by decide⟩

theorem witness_BundlesAreStagedVerifiedAndConfirmed_15 : ∃ (s : State) (p : Pause) (r : Nat) (g : Bool), s.upd.pause = some p ∧ p.radioAt = some r ∧ p.radioMs = none :=
  ⟨({ up with upd := { up.upd with pause := some { did := 9, start := 0, radioAt := some 0, radioMs := none, oldVersion := 0 } } }), ({ did := 9, start := 0, radioAt := some 0, radioMs := none, oldVersion := 0 }), 0, true,
   by decide⟩

theorem witness_LizardLoaderAnswersItsPort_0 : ∃ (s : State) (o : Nat) (b : List Byte), s.usbServes = false :=
  ⟨up, 3, [1],
   by decide⟩

theorem witness_LizardLoaderAnswersItsPort_1 : ∃ (s : State) (k : BundleCheck), s.usbServes = false :=
  ⟨up, okAll,
   by decide⟩

theorem witness_LizardLoaderAnswersItsPort_2 : ∃ (s : State) (b : List Byte) (k : BundleCheck), s.usbServes = false :=
  ⟨up, hdr, okAll,
   by decide⟩

theorem witness_LizardLoaderAnswersItsPort_3 : ∃ (s : State) (e : Envelope) (g : Bool), s.usbServes = false :=
  ⟨up, (envl 0xCB 3), true,
   by decide⟩

theorem witness_LizardLoaderAnswersItsPort_4 : ∃ (s : State), s.usbServes = false :=
  ⟨up,
   by decide⟩

theorem witness_LizardLoaderAnswersItsPort_5 : ∃ (s : State), s.usbServes = true :=
  ⟨lizd,
   by decide⟩

theorem witness_LizardLoaderAnswersItsPort_6 : ∃ (s : State) (b : List Byte) (k : BundleCheck), s.usbServes = true ∧ b.length ≠ 512 :=
  ⟨lizd, (zeros 511), okAll,
   by decide⟩

theorem witness_LizardLoaderAnswersItsPort_7 : ∃ (s : State) (b : List Byte) (k : BundleCheck) (q : Nat × Nat), s.usbServes = true ∧ b.length = 512 ∧ s.bundleFails b true k = some q :=
  ⟨lizd, hdr, ({ okAll with vsigOk := false }), ((stDENIED, 4)),
   by decide⟩

theorem witness_LizardLoaderAnswersItsPort_8 : ∃ (s : State) (b : List Byte) (k : BundleCheck), s.usbServes = true ∧ b.length = 512 ∧ s.bundleFails b true k = none ∧ s.creditOpen = false :=
  ⟨lizd, hdr, okAll,
   by decide⟩

theorem witness_LizardLoaderAnswersItsPort_9 : ∃ (s : State) (b : List Byte) (k : BundleCheck), s.usbServes = true ∧ b.length = 512 ∧ s.bundleFails b true k = none ∧ s.creditOpen = true :=
  ⟨(cred lizd), hdr, okAll,
   by decide⟩

theorem witness_LizardLoaderAnswersItsPort_10 : ∃ (s : State) (b : List Byte) (h : List Byte) (o : Nat), s.usbServes = true ∧ s.upd.lizOpen = true ∧ s.upd.lizHeader = some h ∧ b ≠ [] ∧ b.length ≤ 65536 ∧ s.upd.staged.length + b.length ≤ leAt h 12 4 ∧ o ≠ s.upd.staged.length :=
  ⟨({ lizd with upd := { lizd.upd with lizOpen := true, lizHeader := some hdr } }), (zeros 4), hdr, 1,
   by decide⟩

theorem witness_LizardLoaderAnswersItsPort_11 : ∃ (s : State) (b : List Byte) (h : List Byte), s.usbServes = true ∧ s.upd.lizOpen = true ∧ s.upd.lizHeader = some h ∧ b ≠ [] ∧ b.length ≤ 65536 ∧ s.upd.staged.length + b.length ≤ leAt h 12 4 :=
  ⟨({ lizd with upd := { lizd.upd with lizOpen := true, lizHeader := some hdr } }), (zeros 4), hdr,
   by decide⟩

theorem witness_LizardLoaderAnswersItsPort_12 : ∃ (s : State) (k : BundleCheck) (q : Nat × Nat), s.usbServes = true ∧ s.upd.lizOpen = true ∧ s.upd.staged.length = leAt s.upd.staged 12 4 ∧ s.bundleFails (s.upd.staged.take 512) (digestOk s.upd.staged) k = some q :=
  ⟨({ lizd with upd := { lizd.upd with lizOpen := true, staged := oct [49, 76, 68, 66] ++ zeros 8 ++ le 4 16 } }), okAll, ((stERR_ARG, 2)),
   by decide⟩

theorem witness_LizardLoaderAnswersItsPort_13 : ∃ (s : State) (k : BundleCheck), s.usbServes = true ∧ s.upd.lizOpen = true ∧ s.upd.staged.length = leAt s.upd.staged 12 4 ∧ s.bundleFails (s.upd.staged.take 512) (digestOk s.upd.staged) k = none :=
  ⟨({ lizd with upd := { lizd.upd with lizOpen := true, staged := bun } }), okAll,
   by decide, by decide, by decide, (Eq.trans (congrArg (fun g => State.bundleFails _ _ g _) bun_ok) (by decide))⟩

theorem witness_LizardLoaderAnswersItsPort_14 : ∃ (s : State) (e : Envelope) (g : Bool) (k : Nat), s.usbServes = true ∧ s.envCheck e g = some k :=
  ⟨lizd, (envl 0xCB 3), true, 3,
   by decide⟩

theorem witness_LizardLoaderAnswersItsPort_15 : ∃ (s : State) (e : Envelope) (g : Bool), s.usbServes = true ∧ s.envCheck e g = none ∧ e.op = 0xCB ∧ e.target = 1 ∧ s.creditOpen = false :=
  ⟨(owned lizd), ({ envl 0xCB 3 with target := 1, dest := .device Config.devId.toNat }), true,
   by decide, (liz_env), by decide⟩

theorem witness_RecorderKeepsHigherSeverities_0 : ∃ (s : State) (bad : Option (Nat × Nat)) (e : Ev) (rest : List Ev), s.clk.phase = Phase.run ∧ nextEv s.evq = some (e, rest) ∧ s.evr.store.map (fun p => p.1) = List.range s.evr.store.length :=
  ⟨({ up with evq := [{ sev := 2, src := 0, code := 0x0F02, args := [4, 5], at_ := 0 }], evr := { up.evr with store := [(0, rcd 0 4)] } }), none, ({ sev := 2, src := 0, code := 0x0F02, args := [4, 5], at_ := 0 }), [],
   by decide⟩

theorem witness_RecorderKeepsHigherSeverities_1 : ∃ (s : State), s.evr.page ≠ [] ∧ s.sf .EVR_STAT F.EVR_STAT_RAM_ONLY = 0 :=
  ⟨({ up with evr := { up.evr with page := [rcd 5 4] } }),
   by decide⟩

theorem witness_RecorderKeepsHigherSeverities_2 : ∃ (s : State) (d : Desc) (n : Nat), s.serves d 0x80 ∧ d.len ≠ 0 ∧ n = d.pNum 8 4 ∧ d.pByte 0 = 0 ∧ 1 ≤ n ∧ n ≤ 65536 :=
  ⟨(fly ({ up with evr := { up.evr with store := [(0, rcd 0 4), (1, rcd (2 ^ 32 - 1) 4), (2, rcd 1 4)] } }) (dsc 0x80 0 (pb [0, 0, 0, 0, 255, 255, 255, 255, 2]) 64)), (dsc 0x80 0 (pb [0, 0, 0, 0, 255, 255, 255, 255, 2]) 64), _,
   ⟨by decide, by decide, by decide, by decide⟩, by decide, rfl, by decide⟩

theorem witness_RecorderKeepsHigherSeverities_4 : ∃ (s : State) (d : Desc) (n : Nat), s.serves d 0x80 ∧ d.len ≠ 0 ∧ n = d.pNum 8 4 ∧ d.pByte 0 = 1 ∧ (∀ p ∈ s.evr.store, p.1 < 65536) :=
  ⟨(fly ({ up with evr := { up.evr with store := [(0, rcd 0 4)] } }) (dsc 0x80 0 (pb [1]) 64)), (dsc 0x80 0 (pb [1]) 64), _,
   ⟨by decide, by decide, by decide, by decide⟩, by decide, rfl, by decide⟩

theorem witness_RecorderKeepsHigherSeverities_5 : ∃ (s : State) (d : Desc) (n : Nat), s.serves d 0x80 ∧ d.len ≠ 0 ∧ n = d.pNum 8 4 ∧ d.pByte 0 = 2 ∧ 1 ≤ n ∧ n ≤ 4096 :=
  ⟨(fly up (dsc 0x80 0 (pb [2, 0, 0, 0, 0, 0, 0, 0, 2]) 64)), (dsc 0x80 0 (pb [2, 0, 0, 0, 0, 0, 0, 0, 2]) 64), _,
   ⟨by decide, by decide, by decide, by decide⟩, by decide, rfl, by decide⟩

theorem witness_RecorderKeepsHigherSeverities_6 : ∃ (s : State) (g : GateInput) (e : List Byte), s.replaying = false ∧ s.sf .EVR_STAT F.EVR_STAT_CAPTURING = 1 ∧ g.core < 4 ∧ g.kind < 256 ∧ g.source < 2 ^ 32 ∧ g.payload.length ≤ 2048 ∧ s.evr.sinceDigest < 65535 ∧ e = capEntry s.evr.gseq g.core g.kind (Tbl.get 0 s.evr.points g.core + 1) g.source g.payload :=
  ⟨capt, ({ core := 3, kind := 255, source := 9, payload := [1], digestOk := true }), _,
   by decide, by decide, by decide, by decide, by decide, of_decide_eq_true rfl, by decide, rfl⟩

theorem witness_RecorderKeepsHigherSeverities_7 : ∃ (s : State) (g : GateInput) (e : List Byte) (rest : List (List Byte)), s.replaying = true ∧ s.evr.replay = some (e :: rest) :=
  ⟨(({ up with evr := { up.evr with replay := some [capEntry 5 0 0x0D 0 0 (zeros 32)] } } : State).setSf .EVR_STAT F.EVR_STAT_REPLAYING 1), ({ core := 3, kind := 255, source := 9, payload := [1], digestOk := false }), (capEntry 5 0 0x0D 0 0 (zeros 32)), [],
   by decide⟩

theorem witness_RecorderKeepsHigherSeverities_8 : ∃ (s : State) (at_ : Nat), s.evr.trigAt = some at_ ∧ at_ < 2 ^ 64 ∧ s.sf .EVR_STAT F.EVR_STAT_CAPTURING = 1 :=
  ⟨({ capt with evr := { capt.evr with trigAt := some 50 } }), 50,
   by decide⟩

theorem witness_RecorderKeepsHigherSeverities_9 : ∃ (s : State) (d : Desc), s.serves d 0x81 ∧ d.pByte 0 = 0 ∧ d.len ≠ 0 :=
  ⟨(fly capt (dsc 0x81 0 0 32)), (dsc 0x81 0 0 32),
   ⟨by decide, by decide, by decide, by decide⟩, by decide⟩

theorem witness_RecorderKeepsHigherSeverities_10 : ∃ (s : State) (d : Desc), s.serves d 0x81 ∧ d.pByte 0 = 1 ∧ s.capState = 1 :=
  ⟨(fly capt (dsc 0x81 0 (pb [1]))), (dsc 0x81 0 (pb [1])),
   ⟨by decide, by decide, by decide, by decide⟩, by decide⟩

theorem witness_RecorderKeepsHigherSeverities_11 : ∃ (s : State) (d : Desc), s.serves d 0x81 ∧ d.pByte 0 = 1 ∧ s.capState ≠ 1 :=
  ⟨(fly up (dsc 0x81 0 (pb [1]))), (dsc 0x81 0 (pb [1])),
   ⟨by decide, by decide, by decide, by decide⟩, by decide⟩

theorem witness_RecorderKeepsHigherSeverities_12 : ∃ (s : State) (d : Desc), s.serves d 0x81 ∧ d.pByte 0 = 2 :=
  ⟨(fly (up.setAnchorFlag 1 true) (dsc 0x81 0 (pb [2]))), (dsc 0x81 0 (pb [2])),
   ⟨by decide, by decide, by decide, by decide⟩, by decide⟩

theorem witness_RecorderKeepsHigherSeverities_13 : ∃ (s : State) (d : Desc), s.serves d 0x81 ∧ d.pByte 0 = 3 ∧ s.sf .EVR_STAT F.EVR_STAT_CAPTURING = 1 :=
  ⟨(fly capt (dsc 0x81 0 (pb [3]))), (dsc 0x81 0 (pb [3])),
   ⟨by decide, by decide, by decide, by decide⟩, by decide⟩

theorem witness_RecorderKeepsHigherSeverities_14 : ∃ (s : State) (d : Desc), s.serves d 0x81 ∧ d.pByte 0 = 4 ∧ s.evr.capStopped = false :=
  ⟨(fly capt (dsc 0x81 0 (pb [4]))), (dsc 0x81 0 (pb [4])),
   ⟨by decide, by decide, by decide, by decide⟩, by decide⟩

theorem witness_RecorderKeepsHigherSeverities_16 : ∃ (s : State) (d : Desc), s.serves d 0x81 ∧ d.pByte 0 = 4 ∧ s.evr.capStopped = true ∧ s.shed.down = false :=
  ⟨(fly ({ up with evr := { up.evr with capStopped := true, cap := [zeros 16] } }) (dsc 0x81 0 (pb [4]))), (dsc 0x81 0 (pb [4])),
   ⟨by decide, by decide, by decide, by decide⟩, by decide⟩

theorem witness_RecorderKeepsHigherSeverities_17 : ∃ (s : State) (d : Desc) (x : List Byte), s.serves d 0x81 ∧ d.pByte 0 = 5 ∧ d.len ≠ 0 ∧ x = ((s.nvlog.exportData.getD []).drop (d.pNum 4 4)).take d.len :=
  ⟨(fly ({ up with nvlog := { up.nvlog with exportData := some (oct [1, 2, 3, 4]) } }) (dsc 0x81 0 (pb [5, 0, 0, 0, 1]) 2)), (dsc 0x81 0 (pb [5, 0, 0, 0, 1]) 2), _,
   ⟨by decide, by decide, by decide, by decide⟩, by decide, by decide, rfl⟩

theorem witness_RecorderKeepsHigherSeverities_18 : ∃ (s : State) (d : Desc) (b : List Byte) (c : ExportCheck), s.serves d 0x81 ∧ d.pByte 0 = 6 ∧ s.hostUp = true ∧ d.pNum 16 8 % 8 = 0 :=
  ⟨(fly (wired up) (dsc 0x81 0 (pb [6, 0, 0, 0, 0, 0, 0, 0, 0, 0, 0, 0, 4]))), (dsc 0x81 0 (pb [6, 0, 0, 0, 0, 0, 0, 0, 0, 0, 0, 0, 4])), (oct [1, 2, 3, 4]), ({ sigOk := true, measOk := true, entries := [oct [1]] }),
   ⟨by decide, by decide, by decide, by decide⟩, by decide⟩

theorem witness_RecorderKeepsHigherSeverities_3 : ∃ (s : State) (d : Desc) (n : Nat) (during : List Nat), s.serves d 0x80 ∧ d.len ≠ 0 ∧ n = d.pNum 8 4 ∧ d.pByte 0 = 0 ∧ 1 ≤ n ∧ n ≤ 65536 :=
  ⟨(fly ({ up with evr := { up.evr with store := [(0, rcd 0 4), (1, rcd (2 ^ 32 - 1) 4), (2, rcd 1 4)] } }) (dsc 0x80 0 (pb [0, 0, 0, 0, 255, 255, 255, 255, 2]) 64)), (dsc 0x80 0 (pb [0, 0, 0, 0, 255, 255, 255, 255, 2]) 64), _, [1],
   ⟨by decide, by decide, by decide, by decide⟩, by decide, rfl, by decide⟩

theorem witness_RecorderKeepsHigherSeverities_15 : ∃ (s : State) (d : Desc), s.serves d 0x81 ∧ d.pByte 0 = 4 ∧ s.evr.capStopped = true ∧ s.shed.down = true :=
  ⟨(fly ({ up with shed := { up.shed with down := true }, evr := { up.evr with capStopped := true, cap := [zeros 16] } }) (dsc 0x81 0 (pb [4]))), (dsc 0x81 0 (pb [4])),
   ⟨by decide, by decide, by decide, by decide⟩, by decide⟩

theorem witness_ClockSourcesFailAndReturn_0 : ∃ (s : State) (k : Nat) (cause : Nat), s.clk.phase ≠ Phase.off ∧ s.srcState k = 1 ∧ (cause = 0 ∧ (k = 0 ∨ k = 1 ∨ k = 3 ∨ k = 4) ∨ cause = 2 ∧ 5 ≤ k ∧ k ≤ 10) ∧ k ≠ 5 ∧ (k = 0 → s.srcState 2 = 1) :=
  ⟨clkd, 7, 2,
   by decide, by decide, by decide, (by decide), by decide⟩

theorem witness_ClockSourcesFailAndReturn_1 : ∃ (s : State) (k : Nat) (cause : Nat), s.clk.phase ≠ Phase.off ∧ s.srcState k = 1 ∧ (cause = 0 ∧ (k = 0 ∨ k = 1 ∨ k = 3 ∨ k = 4) ∨ cause = 2 ∧ 5 ≤ k ∧ k ≤ 10) ∧ (k = 5 ∨ (k = 0 ∧ s.srcState 2 ≠ 1)) :=
  ⟨clkd, 5, 2,
   by decide⟩

theorem witness_ClockSourcesFailAndReturn_2 : ∃ (s : State), s.clk.relock = true :=
  ⟨({ clkd with clk := { clkd.clk with relock := true } }),
   by decide⟩

theorem witness_ClockSourcesFailAndReturn_3 : ∃ (s : State) (k : Nat), s.clk.phase ≠ Phase.off ∧ k ≤ 10 :=
  ⟨(clkd.setSrc 3 2), 3,
   by decide⟩

theorem witness_ClockSourcesFailAndReturn_5 : ∃ (s : State) (k : Nat) (lf : Bool), s.clk.phase ≠ Phase.off ∧ windowT k ≠ 0 ∧ s.srcState k = 1 ∧ s.srcState (windowRef k) = 1 ∧ (max (Tbl.get 0 s.clk.winAt k) (s.tsu.raw / windowT k) + 1) * windowT k < 2 ^ 64 :=
  ⟨({ clkd with clk := { clkd.clk with outWin := [(1, 1)] } }), 1, false,
   by decide⟩

theorem witness_ClockSourcesFailAndReturn_6 : ∃ (s : State) (k : Nat) (lf : Bool), s.clk.phase ≠ Phase.off ∧ windowT k ≠ 0 ∧ s.srcState k = 1 ∧ s.srcState (windowRef k) = 1 ∧ Tbl.get 0 s.clk.outWin k = 0 :=
  ⟨clkd, 4, false,
   by decide⟩

theorem witness_ClockSourcesFailAndReturn_7 : ∃ (s : State) (k : Nat) (lf : Bool), s.clk.phase ≠ Phase.off ∧ windowT k ≠ 0 ∧ s.srcState k = 1 ∧ (k = 1 ∨ k = 3) ∧ s.srcState (windowRef k) = 1 ∧ 1 ≤ Tbl.get 0 s.clk.outWin k :=
  ⟨({ clkd with clk := { clkd.clk with outWin := [(1, 1)] } }), 1, true,
   by decide⟩

theorem witness_ClockSourcesFailAndReturn_8 : ∃ (s : State) (k : Nat) (lf : Bool), s.clk.phase ≠ Phase.off ∧ windowT k ≠ 0 ∧ s.srcState k = 1 ∧ (k = 0 ∨ k = 2) ∧ s.srcState 1 ≠ 1 ∧ s.srcState 2 = 1 ∧ s.srcState 0 = 1 ∧ 1 ≤ Tbl.get 0 s.clk.outWin k :=
  ⟨(({ clkd with clk := { clkd.clk with outWin := [(0, 1)] } } : State).setSrc 1 2), 0, true,
   by decide⟩

theorem witness_ClockSourcesFailAndReturn_9 : ∃ (s : State) (k : Nat) (lf : Bool), s.clk.phase ≠ Phase.off ∧ windowT k ≠ 0 ∧ s.srcState k = 3 ∧ s.srcState (windowRef k) = 1 ∧ s.clk.counted.contains k = true ∧ s.cf .CLK_CFG F.CLK_CFG_RETURN_WIN ≤ Tbl.get 0 s.clk.inWin k + 1 :=
  ⟨(({ clkd with clk := { clkd.clk with counted := [3], inWin := [(3, 9999)] } } : State).setSrc 3 3), 3, true,
   by decide⟩

theorem witness_ClockSourcesFailAndReturn_10 : ∃ (s : State) (d : Nat), Tbl.get 0 s.clk.stopped d ≠ 0 ∧ Tbl.get 0 s.clk.stopped d < 2 ^ 64 :=
  ⟨(clkd.stopDomains [2, 10] true false), 10,
   by decide⟩

theorem witness_ClockSourcesFailAndReturn_11 : ∃ (s : State), s.clk.phase = Phase.starting ∧ s.srcState 0 ≠ 1 :=
  ⟨((strt 0).setSrc 0 0),
   by decide⟩

theorem witness_ClockSourcesFailAndReturn_12 : ∃ (s : State) (k : Nat), (s.clk.phase = Phase.run ∨ s.clk.phase = Phase.lizard) ∧ gateUnit k = true :=
  ⟨clkd, 607,
   by decide⟩

theorem witness_ClockSourcesFailAndReturn_13 : ∃ (s : State) (k : Nat) (a : GateAccess), (s.clk.phase = Phase.run ∨ s.clk.phase = Phase.lizard) ∧ gateUnit k = true ∧ s.gateWanted k = true ∧ s.isGated k = false ∧ s.tsu.raw + 2 ^ 32 < 2 ^ 64 :=
  ⟨clkd, 26, .none,
   by decide⟩

theorem witness_ClockSourcesFailAndReturn_14 : ∃ (s : State) (r : Int) (d : Int) (m : Int), s.clk.phase = Phase.run :=
  ⟨clkd, 301, 200, -4,
   by decide⟩

theorem witness_ClockSourcesFailAndReturn_4 : ∃ (s : State) (k : Nat) (lf : Bool) (b : Bool), s.clk.phase ≠ Phase.off ∧ windowT k ≠ 0 ∧ s.srcState (windowRef k) ≠ 1 :=
  ⟨(clkd.setSrc 2 2), 1, false, true,
   by decide⟩

theorem witness_ResetsLeaveWhatTheyName_0 : ∃ (s : State) (j : JournalTear), s.clk.phase ≠ Phase.off :=
  ⟨(fly ringUp (dsc 7 0)), .none,
   by decide⟩

theorem witness_ResetsLeaveWhatTheyName_2 : ∃ (s : State), s.clk.phase = Phase.off :=
  ⟨dark,
   by decide⟩

theorem witness_ResetsLeaveWhatTheyName_3 : ∃ (s : State) (ns : Nat), s.clk.phase ≠ Phase.off ∧ ns < 1000 :=
  ⟨up, 999,
   by decide⟩

theorem witness_ResetsLeaveWhatTheyName_4 : ∃ (s : State) (ns : Nat), s.clk.phase ≠ Phase.off ∧ 1000 ≤ ns :=
  ⟨ringUp, 10000,
   by decide⟩

theorem witness_ResetsLeaveWhatTheyName_5 : ∃ (s : State) (p : Option Nat), s.clk.phase ≠ Phase.off :=
  ⟨ringUp, (some 1),
   by decide⟩

theorem witness_ResetsLeaveWhatTheyName_6 : ∃ (s : State) (inp : StartInput), s.clk.phase = Phase.starting ∧ s.srcState 0 ≠ 2 :=
  ⟨(strt 3), sinp,
   by decide⟩

theorem witness_ResetsLeaveWhatTheyName_7 : ∃ (s : State) (kind : PcieReset), s.clk.phase ≠ Phase.off :=
  ⟨(fly ringUp (dsc 7 0)), .flr,
   by decide⟩

theorem witness_ResetsLeaveWhatTheyName_1 : ∃ (s : State), s.clk.phase ≠ Phase.off :=
  ⟨up,
   by decide⟩

theorem witness_ResetsLeaveWhatTheyName_8 : ∃ (s : State) (p : Pad), s.clk.phase = Phase.off :=
  ⟨dark, (.drvPwm 47),
   by decide⟩

theorem witness_ResetsLeaveWhatTheyName_9 : ∃ (s : State) (p : Pad), s.clk.phase = Phase.starting :=
  ⟨(strt 3), (.drvPwm 47),
   by decide⟩

theorem witness_ResetsLeaveWhatTheyName_10 : ∃ (s : State) (p : Pad), s.clk.phase = Phase.run :=
  ⟨up, (.drvPwm 47),
   by decide⟩

theorem witness_ResetsLeaveWhatTheyName_11 : ∃ (s : State) (p : Pad) (n : Nat), (s.clk.phase ≠ Phase.run ∨ (s.drvChan n).pad = none) :=
  ⟨(strt 3), (.drvPwm 47), 47,
   by decide⟩

theorem witness_NewtDomainKeepsTheTime_1 : ∃ (s : State) (temp : Int) (mv : Nat), s.newt.halted = false ∧ s.newt.tick / 524288 ≠ s.newt.win :=
  ⟨({ ((up.setSf .NEWT_TC_OFF F.NEWT_TC_OFF_VALID 1).setSf .NEWT_TC_CURVE F.NEWT_TC_CURVE_K 34) with newt := { up.newt with tick := 524288 } }), -100, 2199,
   by decide⟩

theorem witness_NewtDomainKeepsTheTime_2 : ∃ (s : State), s.newt.halted = false ∧ s.newt.stCal = none ∧ s.newt.stAlm0 = none ∧ s.newt.stAlm1 = none :=
  ⟨({ up with newt := { up.newt with cal := ⟨0x99, 0x12, 0x31, 0x23, 0x59, 0x59⟩ } }),
   by decide⟩

theorem witness_NewtDomainKeepsTheTime_3 : ∃ (v : Nat) (low : Nat) (high : Nat), v % 16 ≤ 9 ∧ v ≤ high ∧ high % 16 ≤ 9 ∧ low % 16 ≤ 9 ∧ low ≤ high :=
  ⟨0x59, 0, 0x59,
   by decide⟩

theorem witness_NewtDomainKeepsTheTime_4 : ∃ (s : State) (l : RtcLatch), s.clk.phase ≠ Phase.off ∧ l = { tickHi := s.newt.tick / 2 ^ 32, cal := s.newt.cal } ∧ s.lizardHides .host (Reg.RTC_TICK_LO).offset = false :=
  ⟨up, _,
   by decide, rfl, by decide⟩

theorem witness_NewtDomainKeepsTheTime_5 : ∃ (s : State) (l : RtcLatch), s.clk.phase ≠ Phase.off ∧ l = { tickHi := s.newt.tick / 2 ^ 32, cal := s.newt.cal } ∧ s.lizardHides .firmware (Reg.RTC_TICK_LO).offset = false :=
  ⟨up, _,
   by decide, rfl, by decide⟩

theorem witness_NewtDomainKeepsTheTime_6 : ∃ (s : State) (w : BitVec 32), s.clk.phase = Phase.run :=
  ⟨up, 0xFFFFFFFF,
   by decide⟩

theorem witness_NewtDomainKeepsTheTime_7 : ∃ (s : State) (lo : Nat) (hi : Nat), s.newt.halted = false ∧ s.newt.stCal = some (lo, hi) :=
  ⟨({ up with newt := { up.newt with stCal := some (0x235959, 0x991231) } }), 0x235959, 0x991231,
   by decide⟩

theorem witness_NewtDomainKeepsTheTime_8 : ∃ (s : State) (lo : Nat) (hi : Nat), s.newt.halted = false ∧ s.newt.stAlm0 = some (lo, hi) :=
  ⟨({ up with newt := { up.newt with stAlm0 := some (0x80235959, 0x991231) } }), 0x80235959, 0x991231,
   by decide⟩

theorem witness_NewtDomainKeepsTheTime_9 : ∃ (s : State), s.clk.phase = Phase.off :=
  ⟨dark,
   by decide⟩

theorem witness_NewtDomainKeepsTheTime_0 : ∃ (s : State) (temp : Int) (mv : Nat), s.newt.tick / 524288 = s.newt.win :=
  ⟨up, -100, 2199,
   by decide⟩

theorem witness_NewtDomainKeepsTheTime_10 : ∃ (s : State) (r : Rec) (a : Anchor), s.nvlog.anchors.find? (fun p => p.1 == r.gen) = some (r.gen, a) ∧ a.firstSeq = r.seq ∧ r.rtc / 32768 = a.rtc / 32768 :=
  ⟨(anchored 5 0), (rcd 5 4), (anc 5 0),
   by decide⟩

theorem witness_NewtDomainKeepsTheTime_11 : ∃ (s : State) (r : Rec) (a : Anchor), s.nvlog.anchors.find? (fun p => p.1 == r.gen) = some (r.gen, a) ∧ a.firstSeq = r.seq ∧ r.rtc / 32768 = a.rtc / 32768 + 1 :=
  ⟨(anchored 5 0), ({ rcd 5 4 with rtc := 32768 }), (anc 5 0),
   by decide⟩

theorem witness_NewtDomainKeepsTheTime_12 : ∃ (s : State) (r : Rec) (a : Anchor), s.nvlog.anchors.find? (fun p => p.1 == r.gen) = some (r.gen, a) ∧ a.firstSeq ≠ r.seq ∧ seqLater r.seq a.firstSeq = false :=
  ⟨(anchored 9 0), (rcd 5 4), (anc 9 0),
   by decide⟩

end Sys2Proof.Tests
end

section
/-! PROOFS. Register writes by access type (R7, R19, R392): a 32-bit write takes each field of its register on its own. -/
namespace Sys2Proof.Machine

/-! ## Spans of a register word -/

/-- The span is one of a 32-bit word. -/
abbrev Fld.inWord (f : Fld) : Prop := f.lo ≤ f.hi ∧ f.hi < 32
/-- Two spans share no bit. -/
abbrev Fld.apart (f g : Fld) : Prop := f.hi < g.lo ∨ g.hi < f.lo

theorem Fld.mask_getLsbD {f : Fld} (h : f.inWord) (i : Nat) : f.mask.getLsbD i = decide (f.lo ≤ i ∧ i ≤ f.hi) := by
  obtain ⟨h1, h2⟩ := h
  simp only [Fld.mask, BitVec.getLsbD_shiftLeft, BitVec.getLsbD_ushiftRight, BitVec.getLsbD_allOnes]
  by_cases hi : f.lo ≤ i ∧ i ≤ f.hi
  · simp only [hi, and_self, decide_true, Bool.and_eq_true, decide_eq_true_eq, Bool.not_eq_true', decide_eq_false_iff_not]
    omega
  · simp only [hi, decide_false, Bool.and_eq_false_iff, decide_eq_false_iff_not, Bool.not_eq_false', decide_eq_true_eq]
    omega

theorem Fld.get_testBit (f : Fld) (w : BitVec 32) (i : Nat) :
    (f.get w).testBit i = (decide (i < f.hi - f.lo + 1) && w.getLsbD (f.lo + i)) := by
  simp only [Fld.get, Nat.testBit_mod_two_pow, Nat.testBit_shiftRight, BitVec.getLsbD]

/-- A span's value is fixed by the bits of the span. -/
theorem Fld.get_congr {f : Fld} (h : f.inWord) {w v : BitVec 32}
    (hb : ∀ i, f.lo ≤ i → i ≤ f.hi → w.getLsbD i = v.getLsbD i) : f.get w = f.get v := by
  obtain ⟨h1, h2⟩ := h
  refine Nat.eq_of_testBit_eq fun i => ?_
  rw [Fld.get_testBit, Fld.get_testBit]
  by_cases hi : i < f.hi - f.lo + 1
  · rw [hb (f.lo + i) (by omega) (by omega)]
  · simp [hi]

theorem Fld.set_getLsbD {f : Fld} (h : f.inWord) (w : BitVec 32) (v i : Nat) :
    (f.set w v).getLsbD i = if f.lo ≤ i ∧ i ≤ f.hi then v.testBit (i - f.lo) else w.getLsbD i := by
  by_cases hi : i < 32
  · simp only [Fld.set, BitVec.getLsbD_or, BitVec.getLsbD_and, BitVec.getLsbD_not, Fld.mask_getLsbD h,
      BitVec.getLsbD_ofNat, Nat.testBit_shiftLeft, Nat.testBit_mod_two_pow, hi, decide_true, Bool.true_and]
    obtain ⟨h1, h2⟩ := h
    split
    · rename_i hs
      have : i - f.lo < f.hi - f.lo + 1 := by omega
      simp [hs, this]
    · rename_i hs
      by_cases hl : f.lo ≤ i
      · have : ¬ i - f.lo < f.hi - f.lo + 1 := by omega
        simp [hs, this]
      · simp [hl]
  · have hn : ¬ (f.lo ≤ i ∧ i ≤ f.hi) := by have := h.2; omega
    rw [if_neg hn, BitVec.getLsbD_of_ge _ _ (by omega), BitVec.getLsbD_of_ge _ _ (by omega)]

/-- A span reads as the value written to it, modulo its width. -/
theorem Fld.get_set_same {f : Fld} (h : f.inWord) (w : BitVec 32) (v : Nat) :
    f.get (f.set w v) = v % 2 ^ (f.hi - f.lo + 1) := by
  refine Nat.eq_of_testBit_eq fun i => ?_
  rw [Fld.get_testBit, Fld.set_getLsbD h, Nat.testBit_mod_two_pow]
  by_cases hi : i < f.hi - f.lo + 1
  · rw [if_pos ⟨by omega, by have := h.1; omega⟩, Nat.add_sub_cancel_left]
  · simp [hi]

/-- A write to one span leaves a span apart from it. -/
theorem Fld.get_set_apart {f g : Fld} (hf : f.inWord) (hg : g.inWord) (h : f.apart g) (w : BitVec 32) (v : Nat) :
    f.get (g.set w v) = f.get w := by
  refine Fld.get_congr hf fun i hl hh => ?_
  rw [Fld.set_getLsbD hg, if_neg (by unfold Fld.apart at h; omega)]

theorem Fld.get_and (f : Fld) (w v : BitVec 32) : f.get (w &&& v) = f.get w &&& f.get v := by
  refine Nat.eq_of_testBit_eq fun i => ?_
  rw [Nat.testBit_and, Fld.get_testBit, Fld.get_testBit, Fld.get_testBit, BitVec.getLsbD_and]
  by_cases hi : i < f.hi - f.lo + 1 <;> simp only [hi, decide_true, decide_false, Bool.true_and, Bool.false_and]

theorem Fld.get_or (f : Fld) (w v : BitVec 32) : f.get (w ||| v) = f.get w ||| f.get v := by
  refine Nat.eq_of_testBit_eq fun i => ?_
  simp only [Nat.testBit_or, Fld.get_testBit, BitVec.getLsbD_or, Bool.and_or_distrib_left]

theorem Fld.get_lt (f : Fld) (w : BitVec 32) : f.get w < 2 ^ (f.hi - f.lo + 1) := Nat.mod_lt _ (Nat.two_pow_pos _)

/-! ## The fields of one register share no bit -/

theorem Reg.fields_inWord (r : Reg) : ∀ f ∈ r.fields, f.span.inWord := by
  cases r with
  | BC_MASK f _ w =>
    intro g hg
    obtain rfl := List.mem_singleton.1 hg
    simp only [Fld.inWord]
    split <;> omega
  | _ => exact of_decide_eq_true rfl

theorem Reg.fields_apart (r : Reg) : r.fields.Pairwise (fun f g => f.span.apart g.span) := by
  cases r <;> exact of_decide_eq_true rfl

/-! ## The register map: offsets -/

/-- The windows of a family and their control areas lie on 32-bit boundaries. -/
theorem Fam.places_aligned (f : Fam) : 4 ∣ f.allBase ∧ 4 ∣ f.groupBase ∧ 4 ∣ f.size ∧ 4 ∣ f.ctlOff := by
  cases f <;> decide

/-- Every register lies on a 32-bit boundary. -/
theorem Reg.offset_aligned (r : Reg) : r.offset % 4 = 0 := by
  cases r with
  | BC_STAT_ALL f =>
    obtain ⟨ha, -, -, hc⟩ := f.places_aligned
    exact Nat.mod_eq_zero_of_dvd (Nat.dvd_add ha hc)
  | BC_STAT_G f g =>
    obtain ⟨-, hg, hs, hc⟩ := f.places_aligned
    exact Nat.mod_eq_zero_of_dvd (Nat.dvd_add (Nat.dvd_add hg (hs.mul_right g)) hc)
  | BC_MASK f g w =>
    obtain ⟨-, hg, hs, hc⟩ := f.places_aligned
    exact Nat.mod_eq_zero_of_dvd (Nat.dvd_add (Nat.dvd_add (Nat.dvd_add (Nat.dvd_add hg (hs.mul_right g)) hc) (by decide))
      (Nat.dvd_mul_right 4 w))
  | _ => simp only [Reg.offset] <;> omega

theorem RegRow.index_le (n s d : Nat) : RegRow.index n s d ≤ n := by
  unfold RegRow.index
  split
  · omega
  · split <;> omega

/-- A row holds no register above its last place. -/
theorem RegRow.at_le {row : RegRow} {off : Nat} {q : Reg} (h : row.at off = some q) :
    off ≤ row.base + row.n1 * row.s1 + row.n2 * row.s2 := by
  simp only [RegRow.at] at h
  split at h
  · simp at h
  · split at h
    · rename_i hj
      have h1 := Nat.mul_le_mul_right row.s1 (RegRow.index_le row.n1 row.s1 (off - row.base))
      have h2 := Nat.mul_le_mul_right row.s2 (RegRow.index_le row.n2 row.s2
        (off - row.base - RegRow.index row.n1 row.s1 (off - row.base) * row.s1))
      omega
    · simp at h

/-- The rows of the last windows end below BAR4's numbers. -/
theorem rowsRest_below_bar4 : ∀ row ∈ rowsRest, row.base + row.n1 * row.s1 + row.n2 * row.s2 < bar4 :=
  of_decide_eq_true rfl

/-- Every register of the map is one of BAR0's. -/
theorem Reg.mapped_lt_bar4 {r : Reg} (h : r.mapped) : r.offset < bar4 := by
  by_cases hlow : r.offset < 0x320000
  · exact Nat.lt_trans hlow (by decide)
  · have hrows : rowsFor r.offset = rowsRest := by
      unfold rowsFor
      simp (disch := omega) only [if_neg]
    unfold Reg.mapped Reg.ofOffset at h
    rw [hrows] at h
    obtain ⟨row, hrow, hat⟩ := List.exists_of_findSome?_eq_some h
    exact Nat.lt_of_le_of_lt (RegRow.at_le hat) (rowsRest_below_bar4 row hrow)

/-- Two registers of the map at one offset are one register. -/
theorem Reg.mapped_inj {r q : Reg} (hr : r.mapped) (hq : q.mapped) (h : r.offset = q.offset) : r = q := by
  unfold Reg.mapped at hr hq
  rw [h] at hr
  exact Option.some.inj (hr.symm.trans hq)

/-! ## One field takes a written word -/

/-- The word that the module holds of a register, after a write to one field: bits written as 1 are lost (W1C) or gained (W1S). -/
def Field.wordAfter (f : Field) (w x : BitVec 32) : BitVec 32 :=
  match f.acc with
  | .W1C => x &&& ~~~ (w &&& f.span.mask)
  | .W1S => x ||| (w &&& f.span.mask)
  | _ => x

section
variable (s : State) (side : Side) (r : Reg) (w : BitVec 32) (f : Field)

/-- All that a write to a field can change: the host-written fields where the field may be written, the module's bits where
it is W1C or W1S, and the events on their way (R7, R66). -/
theorem State.writeField_eq : ∃ q, s.writeField side r w f = { s with
    cfg := if s.writable side f.acc then
        s.cfg.put r (f.span.set (s.cfg.get r) (f.clamp.apply f.span.width (s.cf r f.span) (f.span.get w)))
      else s.cfg
    sts := if f.acc = .W1C ∨ f.acc = .W1S then s.sts.put r (f.wordAfter w (s.sts.get r)) else s.sts
    evq := q } := by
  unfold State.writeField
  cases hacc : f.acc with
  | RO | WO | W1C | W1S => exact ⟨s.evq, by simp [State.writable, Field.wordAfter, hacc]⟩
  | RW | RWL | RWP =>
    dsimp only
    split
    · split
      · split <;> exact ⟨_, by simp; rfl⟩
      · exact ⟨_, by simp; rfl⟩
    · exact ⟨s.evq, by simp⟩

theorem State.writeField_cfg : (s.writeField side r w f).cfg =
    if s.writable side f.acc then
      s.cfg.put r (f.span.set (s.cfg.get r) (f.clamp.apply f.span.width (s.cf r f.span) (f.span.get w)))
    else s.cfg := by
  obtain ⟨q, h⟩ := s.writeField_eq side r w f
  rw [h]

theorem State.writeField_sts : (s.writeField side r w f).sts =
    if f.acc = .W1C ∨ f.acc = .W1S then s.sts.put r (f.wordAfter w (s.sts.get r)) else s.sts := by
  obtain ⟨q, h⟩ := s.writeField_eq side r w f
  rw [h]

/-- A write to a field leaves the time and the shed as they are. -/
theorem State.writeField_tsu_shed :
    (s.writeField side r w f).tsu = s.tsu ∧ (s.writeField side r w f).shed = s.shed := by
  obtain ⟨q, h⟩ := s.writeField_eq side r w f
  rw [h]
  exact ⟨rfl, rfl⟩

theorem State.writeField_sts_get : (s.writeField side r w f).sts.get r = f.wordAfter w (s.sts.get r) := by
  rw [State.writeField_sts]
  split
  · exact RegFile.get_put_same _ _ _
  · unfold Field.wordAfter
    cases hacc : f.acc <;> simp_all

theorem State.writeField_sts_other {q : Reg} (h : q.offset ≠ r.offset) :
    (s.writeField side r w f).sts.get q = s.sts.get q := by
  rw [State.writeField_sts]
  split
  · exact RegFile.get_put_other _ _ h
  · rfl

/-! ### What a field of the register reads after the write -/

theorem State.writeField_cf_self (h : f.span.inWord) : (s.writeField side r w f).cf r f.span =
    if s.writable side f.acc then
      f.clamp.apply f.span.width (s.cf r f.span) (f.span.get w) % 2 ^ (f.span.hi - f.span.lo + 1)
    else s.cf r f.span := by
  unfold State.cf
  rw [State.writeField_cfg]
  split
  · rw [RegFile.get_put_same, Fld.get_set_same h]; rfl
  · rfl

/-- What a field reads after its own write does not depend on the bits outside it. -/
theorem Field.wordAfter_congr {x y : BitVec 32} (h : f.span.get x = f.span.get y) :
    f.span.get (f.wordAfter w x) = f.span.get (f.wordAfter w y) := by
  unfold Field.wordAfter
  split
  · rw [Fld.get_and, Fld.get_and, h]
  · rw [Fld.get_or, Fld.get_or, h]
  · exact h
end

section
variable {s t : State} {side : Side} {r : Reg} {w : BitVec 32} {f g : Field}

/-- A W1C or W1S field is cleared or set by its own bits of the written word. -/
theorem Field.wordAfter_get (h : f.span.inWord) (x : BitVec 32) : f.span.get (f.wordAfter w x) =
    match f.acc with
    | .W1C => f.span.get (x &&& ~~~ w)
    | .W1S => f.span.get (x ||| w)
    | _ => f.span.get x := by
  have hm : ∀ i, f.span.lo ≤ i → i ≤ f.span.hi → f.span.mask.getLsbD i = true := fun i hl hh => by
    rw [Fld.mask_getLsbD h, decide_eq_true (And.intro hl hh)]
  unfold Field.wordAfter
  cases f.acc with
  | W1C =>
    refine Fld.get_congr h fun i hl hh => ?_
    simp only [BitVec.getLsbD_and, BitVec.getLsbD_not, hm i hl hh, Bool.and_true]
  | W1S =>
    refine Fld.get_congr h fun i hl hh => ?_
    simp only [BitVec.getLsbD_or, BitVec.getLsbD_and, hm i hl hh, Bool.and_true]
  | _ => rfl

/-! ### What the other fields of the register read after the write -/

theorem State.writeField_cf_apart (hf : f.span.inWord) (hg : g.span.inWord) (h : f.span.apart g.span) :
    (s.writeField side r w g).cf r f.span = s.cf r f.span := by
  unfold State.cf
  rw [State.writeField_cfg]
  split
  · rw [RegFile.get_put_same, Fld.get_set_apart hf hg h]
  · rfl

theorem Field.wordAfter_apart (hf : f.span.inWord) (hg : g.span.inWord) (h : f.span.apart g.span) (x : BitVec 32) :
    f.span.get (g.wordAfter w x) = f.span.get x := by
  refine Fld.get_congr hf fun i hl hh => ?_
  have hm : g.span.mask.getLsbD i = false := by
    rw [Fld.mask_getLsbD hg]; unfold Fld.apart at h; simp only [decide_eq_false_iff_not]; omega
  have hi : i < 32 := by have := hf.2; omega
  unfold Field.wordAfter
  split
  · simp only [BitVec.getLsbD_and, BitVec.getLsbD_not, hm, hi, Bool.and_false, Bool.not_false, decide_true, Bool.and_true]
  · simp only [BitVec.getLsbD_or, BitVec.getLsbD_and, hm, Bool.and_false, Bool.or_false]
  · rfl

theorem State.writeField_sf_apart (hf : f.span.inWord) (hg : g.span.inWord) (h : f.span.apart g.span) :
    (s.writeField side r w g).sf r f.span = s.sf r f.span := by
  unfold State.sf
  rw [State.writeField_sts_get, Field.wordAfter_apart hf hg h]

/-- What decides whether a field may be written does not stand in bits of the register that a write clears or sets. -/
def Reg.keepsPermission (r : Reg) : Prop :=
  ∀ g ∈ r.fields, g.acc = .W1C ∨ g.acc = .W1S →
    Reg.HIF_SETUP_DONE.offset ≠ r.offset ∧ Reg.SEC_STAT.offset ≠ r.offset

theorem Reg.keepsPermission_of_mapped (h : r.mapped) (hd : r ≠ .HIF_SETUP_DONE) : r.keepsPermission := by
  intro g hg hacc
  refine ⟨fun he => hd (Reg.mapped_inj h rfl he.symm), fun he => ?_⟩
  obtain rfl := Reg.mapped_inj h (q := .SEC_STAT) (by unfold Reg.mapped; decide) he.symm
  have hro : ∀ g ∈ Reg.SEC_STAT.fields, g.acc = .RO := by decide
  simp [hro g hg] at hacc

/-- A write to a field leaves what may be written as it is. -/
theorem State.writeField_writable (hr : r.keepsPermission) (hg : g ∈ r.fields) (a : Access) :
    (s.writeField side r w g).writable side a = s.writable side a := by
  obtain ⟨htsu, hshed⟩ := State.writeField_tsu_shed s side r w g
  obtain ⟨hdone, hwin⟩ : (s.writeField side r w g).sts.get .HIF_SETUP_DONE = s.sts.get .HIF_SETUP_DONE
      ∧ (s.writeField side r w g).sts.get .SEC_STAT = s.sts.get .SEC_STAT := by
    by_cases hacc : g.acc = .W1C ∨ g.acc = .W1S
    · obtain ⟨h1, h2⟩ := hr g hg hacc
      exact ⟨State.writeField_sts_other s side r w g h1, State.writeField_sts_other s side r w g h2⟩
    · rw [State.writeField_sts, if_neg hacc]
      exact ⟨rfl, rfl⟩
  unfold State.writable State.done State.winOpen State.sf
  rw [hdone, hwin, htsu, hshed]

/-! ## All fields of a register take their part of a written word -/

/-- What a write to field `f` of `r` looks at and what it changes: the field's values, and whether it may be written. -/
def State.fieldView (s : State) (side : Side) (r : Reg) (f : Field) : Nat × Nat × Bool :=
  (s.cf r f.span, s.sf r f.span, s.writable side f.acc)

theorem State.fieldView_writeField_apart (hr : r.keepsPermission) (hf : f ∈ r.fields) (hg : g ∈ r.fields)
    (h : f.span.apart g.span) : (s.writeField side r w g).fieldView side r f = s.fieldView side r f := by
  have hf := r.fields_inWord f hf
  have hg' := r.fields_inWord g hg
  unfold State.fieldView
  rw [State.writeField_cf_apart hf hg' h, State.writeField_sf_apart hf hg' h, State.writeField_writable hr hg]

theorem State.fieldView_writeField_congr (hr : r.keepsPermission) (hf : f ∈ r.fields)
    (h : s.fieldView side r f = t.fieldView side r f) :
    (s.writeField side r w f).fieldView side r f = (t.writeField side r w f).fieldView side r f := by
  have hin := r.fields_inWord f hf
  unfold State.fieldView at h ⊢
  obtain ⟨hcf, hsf, hwr⟩ : s.cf r f.span = t.cf r f.span ∧ s.sf r f.span = t.sf r f.span
      ∧ s.writable side f.acc = t.writable side f.acc := by simpa only [Prod.mk.injEq] using h
  have hsf' : (s.writeField side r w f).sf r f.span = (t.writeField side r w f).sf r f.span := by
    unfold State.sf at hsf ⊢
    rw [State.writeField_sts_get, State.writeField_sts_get]
    exact Field.wordAfter_congr w f hsf
  rw [State.writeField_cf_self _ _ _ _ _ hin, State.writeField_cf_self _ _ _ _ _ hin, hsf',
    State.writeField_writable hr hf, State.writeField_writable hr hf, hcf, hwr]

/-- Writes to fields apart from `f` leave what `f` shows. -/
theorem State.fieldView_foldl_apart (hr : r.keepsPermission) (hf : f ∈ r.fields) (l : List Field)
    (hl : ∀ g ∈ l, g ∈ r.fields ∧ f.span.apart g.span) (s : State) :
    (l.foldl (fun t g => t.writeField side r w g) s).fieldView side r f = s.fieldView side r f := by
  induction l generalizing s with
  | nil => rfl
  | cons g l ih =>
    obtain ⟨hg, hapart⟩ := hl g List.mem_cons_self
    rw [List.foldl_cons, ih (fun x hx => hl x (List.mem_cons_of_mem g hx)),
      State.fieldView_writeField_apart hr hf hg hapart]

/-- A register's write acts on each of its fields as a write to that field alone. -/
theorem State.fieldView_foldl (hr : r.keepsPermission) (hf : f ∈ r.fields) (s : State) :
    (r.fields.foldl (fun t g => t.writeField side r w g) s).fieldView side r f
      = (s.writeField side r w f).fieldView side r f := by
  obtain ⟨l, m, hlm⟩ := List.append_of_mem hf
  have hpw := hlm ▸ r.fields_apart
  obtain ⟨-, hcons, hl⟩ := List.pairwise_append.1 hpw
  have hbefore : ∀ g ∈ l, g ∈ r.fields ∧ f.span.apart g.span := fun g hg =>
    ⟨hlm ▸ List.mem_append_left _ hg, (hl g hg f List.mem_cons_self).symm⟩
  have hafter : ∀ g ∈ m, g ∈ r.fields ∧ f.span.apart g.span := fun g hg =>
    ⟨hlm ▸ List.mem_append_right _ (List.mem_cons_of_mem f hg), (List.pairwise_cons.1 hcons).1 g hg⟩
  rw [hlm, List.foldl_append, List.foldl_cons, State.fieldView_foldl_apart hr hf m hafter]
  exact State.fieldView_writeField_congr hr hf (State.fieldView_foldl_apart hr hf l hbefore s)

end

/-! ## A 32-bit register write -/

@[simp] theorem State.msix_cfg (s : State) (v : Nat) : (s.msix v).cfg = s.cfg := by
  unfold State.msix
  split <;> rfl

/-- What follows a write to any register but SEC_TAMPER_CFG leaves the host-written fields. -/
theorem State.afterWrite_cfg (s t : State) {r : Reg} (h : r ≠ .SEC_TAMPER_CFG) :
    (s.afterWrite t r).cfg = t.cfg := by
  unfold State.afterWrite
  split
  · split
    · rw [State.msix_cfg]; rfl
    · rfl
  · exact absurd rfl h
  · rfl

/-- Nothing follows a write to a register that has a field of another type than RW. -/
theorem State.afterWrite_of_not_RW (s t : State) {r : Reg} {f : Field} (h : r ≠ .SEC_TAMPER_CFG) (hf : f ∈ r.fields)
    (hacc : f.acc ≠ .RW) : s.afterWrite t r = t := by
  unfold State.afterWrite
  split
  · exact absurd (List.mem_singleton.1 hf ▸ rfl) hacc
  · exact absurd rfl h
  · rfl

section
variable {s : State} {side : Side} {r : Reg} {w : BitVec 32} {f : Field}

theorem State.writeReg_cf (hr : r.keepsPermission) (ht : r ≠ .SEC_TAMPER_CFG) (hf : f ∈ r.fields) :
    (s.writeReg side r w).cf r f.span = (s.writeField side r w f).cf r f.span := by
  have hview := congrArg Prod.fst (State.fieldView_foldl (side := side) (w := w) hr hf s)
  unfold State.writeReg
  unfold State.cf
  rw [State.afterWrite_cfg _ _ ht]
  exact hview

theorem State.writeReg_sf (hr : r.keepsPermission) (ht : r ≠ .SEC_TAMPER_CFG) (hf : f ∈ r.fields) (hacc : f.acc ≠ .RW) :
    (s.writeReg side r w).sf r f.span = (s.writeField side r w f).sf r f.span := by
  unfold State.writeReg
  rw [State.afterWrite_of_not_RW _ _ ht hf hacc]
  exact congrArg (fun v => v.2.1) (State.fieldView_foldl hr hf s)

/-- A register whose write is its fields' writes and what `afterWrite` adds, and nothing more (log 12, R98, R524). -/
def Reg.plain (r : Reg) : Prop :=
  r.ownRow = false ∧ r ≠ .YRD_REGION ∧ r ≠ .RTC_CAL_LO ∧ ∀ n, r ≠ .RTC_ALM_LO n

theorem State.poke_plain (hm : r.mapped) (hp : r.plain) (hl : s.lizardHides side r.offset = false) :
    s.poke side r.offset w = s.writeReg side r w := by
  obtain ⟨hrow, hreg, hcal, halm⟩ := hp
  unfold Reg.mapped at hm
  unfold State.poke
  rw [hm]
  simp only [hrow, hl, Bool.or_self, Bool.false_eq_true, if_false]

theorem State.busWrite_plain (hm : r.mapped) (hp : r.plain) (hl : s.lizardHides side r.offset = false) :
    s.busWrite side r.offset w = s.writeReg side r w := by
  rw [← State.poke_plain hm hp hl]
  obtain ⟨hrow, hreg, -, -⟩ := hp
  have hm' := hm
  unfold Reg.mapped at hm'
  unfold State.busWrite
  rw [hm']
  split <;> rename_i heq
  · cases heq; exact absurd hrow (by decide)
  · cases heq; exact absurd hrow (by decide)
  · cases heq; exact absurd hrow (by decide)
  · cases heq; exact absurd hrow (by simp [Reg.ownRow])
  · cases heq; exact absurd rfl hreg
  · rfl

/-- A 32-bit write to a plain register of the map completes as the write of that register (R7, R29). -/
theorem exec_registerWrite_plain (hm : r.mapped) (hp : r.plain) (hl : s.lizardHides side r.offset = false) :
    exec (.registerWrite side 32 r.offset w.toNat) s = .next { s.writeReg side r w with pending := s.pending } := by
  have hsplit : splitWrite 32 r.offset w.toNat = [(r.offset, w)] := by
    unfold splitWrite
    rw [if_pos ⟨rfl, r.offset_aligned⟩, BitVec.ofNat_toNat, BitVec.setWidth_eq]
  show execRegisterWrite side 32 r.offset w.toNat s = _
  unfold execRegisterWrite
  rw [loud_eq]
  simp only [if_neg (Nat.not_le.2 (Reg.mapped_lt_bar4 hm)), hsplit, List.foldl_cons, List.foldl_nil,
    State.busWrite_plain hm hp hl]

/-- A field without a range that may be written takes the written bits. -/
theorem State.writeField_cf_taken (hf : f ∈ r.fields) (hc : f.clamp = .none) (hw : s.writable side f.acc = true) :
    (s.writeField side r w f).cf r f.span = f.span.get w := by
  rw [State.writeField_cf_self _ _ _ _ _ (r.fields_inWord f hf), if_pos hw, hc]
  exact Nat.mod_eq_of_lt (f.span.get_lt w)

/-- A field that may not be written stands. -/
theorem State.writeField_cf_stands (hw : s.writable side f.acc = false) :
    (s.writeField side r w f).cf r f.span = s.cf r f.span := by
  unfold State.cf
  rw [State.writeField_cfg, hw]
  rfl

end

/-- Settles O10: the write is that of the register's fields one by one, and no field's write reaches another field or
changes what may be written. -/
theorem registerWriteFollowsAccessTypes : Obligations.RegisterWriteFollowsAccessTypes := by
  unfold Obligations.RegisterWriteFollowsAccessTypes
  intro s side r f w hm hf hrow hreg htamper hcal halm hl
  have hr : r.keepsPermission := Reg.keepsPermission_of_mapped hm (fun h => by rw [h] at hrow; exact absurd hrow (by decide))
  have hcf := State.writeReg_cf (s := s) (side := side) (w := w) hr htamper hf
  have hsf : f.acc ≠ .RW → (s.writeReg side r w).sf r f.span = f.span.get (f.wordAfter w (s.sts.get r)) := fun hacc =>
    (State.writeReg_sf hr htamper hf hacc).trans (congrArg f.span.get (State.writeField_sts_get s side r w f))
  have hbits := f.wordAfter_get (w := w) (r.fields_inWord f hf) (s.sts.get r)
  refine ⟨_, exec_registerWrite_plain hm ⟨hrow, hreg, hcal, halm⟩ hl, ?rw, ?rwl, ?locked, ?rwp, ?shut, ?ro, ?w1c, ?w1s⟩
  case rw => exact fun ha hc => hcf.trans (State.writeField_cf_taken hf hc (by rw [ha]; rfl))
  case rwl =>
    rintro ha hc ⟨rfl, hdone⟩
    exact hcf.trans (State.writeField_cf_taken hf hc (by simp [ha, State.writable, hdone]))
  case locked =>
    intro ha hno
    refine hcf.trans (State.writeField_cf_stands ?_)
    rcases hno with hside | hdone <;> simp_all [State.writable]
  case rwp => exact fun ha hc hwin => hcf.trans (State.writeField_cf_taken hf hc (by rw [ha]; exact hwin))
  case shut => exact fun ha hwin => hcf.trans (State.writeField_cf_stands (by rw [ha]; exact hwin))
  case ro => exact fun ha => (hsf (by simp [ha])).trans (by rw [hbits, ha]; rfl)
  case w1c => exact fun ha => (hsf (by simp [ha])).trans (by rw [hbits, ha])
  case w1s => exact fun ha => (hsf (by simp [ha])).trans (by rw [hbits, ha])

end Sys2Proof.Machine
end

section
/-! PROOFS. Operations that the module turns away, whose buffer cannot be read, or whose operands it refuses (R9, R59, R62, R357,
R467). -/
namespace Sys2Proof.Machine

section
variable {s t : State} {d : Desc}

/-- A replay turns away the operations that it does not serve (R467). -/
theorem State.turnsAway_of_replaying (hr : s.replaying = true) (hd : replayServes d = false) :
    s.turnsAway d = some (stDENIED, 0) := if_pos ⟨hr, hd⟩

/-- A standby unit turns away the operations that need the active unit (R357). -/
theorem State.turnsAway_of_standby (hr : s.replaying = false) (hs : s.standby = true) (hd : standbyDenies d = true) :
    s.turnsAway d = some (stDENIED, 0xFE) := by
  unfold State.turnsAway
  rw [if_neg (by simp [hr]), if_pos ⟨hs, hd⟩]

variable {c : Instr} {op st det n : Nat} {sel : Desc → Bool} {body : State → Desc → State}

/-- A command that starts a descriptor's operation completes it with the failure for which the module turns it away. -/
theorem Does.of_turned (hc : Does c s (s.operation d.did op sel body)) (hd : s.desc? d.did = some d) (hop : d.op = op)
    (hs : s.starts d = true) (haway : s.turnsAway d = some (st, det)) (hsel : sel d = true) : Does c s (s.fail d st det) :=
  operation_turned (body := body) hd hop hs haway hsel ▸ hc

/-- A command whose operation cannot read its ring's buffer completes it with POISON (R62). -/
theorem Does.of_failed_read (hc : Does c s (s.operationIn d.did op .failed sel body)) (h : s.serves d op)
    (hn : d.src = .ring n) (hlen : d.len ≠ 0) (hup : s.hostUp = true) : Does c s (s.hostMemFail.fail d stPOISON) :=
  operationIn_failed (sel := sel) (body := body) h hn hlen hup ▸ hc

/-- A command whose operation is served does what its body does. -/
theorem Does.of_served (hc : Does c s (s.operation d.did op sel body)) (h : s.serves d op) (hsel : sel d = true)
    (hbody : body (s.holding d.taken) d.taken = t) : Does c s t :=
  hbody ▸ operation_serves (body := body) h hsel ▸ hc

end

/-- Settles O17: a failure decided at the start of an operation ends it there, and one decided by its operands is the
operation's whole body. -/
theorem refusedOperationsComplete : Obligations.RefusedOperationsComplete := by
  unfold Obligations.RefusedOperationsComplete
  refine ⟨?replay, ?standby, ?poison, ?abort, ?noBuffer, ?faulted⟩
  case replay =>
    intro s d hd hs hr
    have haway : d.op = 0x00 ∨ d.op = 0x01 → s.turnsAway d = some (stDENIED, 0) := fun hop =>
      State.turnsAway_of_replaying hr (by rcases hop with h | h <;> simp [replayServes, h])
    exact ⟨fun hop => Does.of_turned rfl hd hop hs (haway (Or.inl hop)) rfl,
      fun hop => Does.of_turned rfl hd hop hs (haway (Or.inr hop)) rfl⟩
  case standby =>
    intro s d hd hs hr hstandby
    have haway : d.op = 0x12 ∨ d.op = 0x13 → s.turnsAway d = some (stDENIED, 0xFE) := fun hop =>
      State.turnsAway_of_standby hr hstandby (by rcases hop with h | h <;> simp [standbyDenies, h])
    exact ⟨fun hop hact => Does.of_turned rfl hd hop hs (haway (Or.inl hop)) (by simp [hact]),
      fun hop hfree => Does.of_turned rfl hd hop hs (haway (Or.inr hop)) (by simp [hfree, bit])⟩
  case poison =>
    intro s d n hn hlen hup
    exact ⟨fun h => Does.of_failed_read rfl h hn hlen hup, fun h => Does.of_failed_read rfl h hn hlen hup⟩
  case abort =>
    intro s d h hbits
    refine Does.of_served rfl h rfl (if_pos ?_)
    exact Nat.pos_iff_ne_zero.1 (Nat.div_pos hbits (by decide))
  case noBuffer =>
    intro s d h hlen
    exact Does.of_served rfl h rfl (if_pos hlen)
  case faulted =>
    intro s d h hpause hstate
    exact Does.of_served rfl h (by simp [hpause]) (if_pos (Or.inr (Or.inr (Or.inr hstate))))

end Sys2Proof.Machine
end

section
/-! PROOFS. What a command may do to the host-written fields (R19, R21). -/
namespace Sys2Proof.Machine

/-- A command that writes no host-written field is a command of the module's own: its arm frames what it does (R21). -/
theorem exec_quiet_of_not_writesFields {c : Instr} (s : State) (h : writesFields c = false) : ∃ f, exec c s = quiet f s := by
  cases c <;> cases h <;> unfold exec <;> exact ⟨_, rfl⟩

/-- Settles O4: every other command is framed by the host-written fields that it found. -/
theorem onlyNamedCommandsWriteHostFields : Obligations.OnlyNamedCommandsWriteHostFields := by
  unfold Obligations.OnlyNamedCommandsWriteHostFields
  intro c s t hc h
  obtain ⟨f, hf⟩ := exec_quiet_of_not_writesFields s hc
  rw [hf] at h
  have hcfg : t.cfg = s.cfg := by rw [quiet_next h, State.framed_cfg]
  exact ⟨hcfg, fun r f => by unfold State.cf; rw [hcfg]⟩

/-- A function reset clears the host receive head and the MSI-X table, and no other host-written field (R63). -/
theorem State.pcieReset_cfg (s : State) (down : Bool) : (s.pcieReset down).cfg =
    (s.cfg.put .SWX_HRX_HEAD (F.SWX_HRX_HEAD_HEAD.set (s.cfg.get .SWX_HRX_HEAD) 0)).filter (fun q => !q.1.isMsix) := by
  unfold State.pcieReset
  simp only [State.hold_cfg, State.setSf_cfg, State.setCf_cfg]

/-- A reset of the PCIe function acts on the host-written fields through `pcieReset` alone. -/
theorem exec_pcieFunctionReset_cfg {kind : PcieReset} {s : State} (hon : s.clk.phase ≠ .off) :
    ∃ t, exec (.pcieFunctionReset kind) s = .next t ∧ t.cfg = (s.pcieReset (kind != .flr)).cfg := by
  unfold exec execPcieFunctionReset
  refine ⟨_, loud_eq _ _, ?_⟩
  simp only [if_neg hon]
  split <;> rfl

/-- A module past HIF_SETUP_DONE whose register file lists an address that no MSI-X register of the map has: its offset is that of
YRD_CFG of yard 0. -/
def strayVector : State :=
  { State.reset with
    cfg := [(.MSIX_ADDR_LO 0x7900, 1#32), (.YRD_PHY 0, 5#32)], sts := [(.HIF_SETUP_DONE, 1#32)]
    clk := { State.reset.clk with phase := .run } }

/-- Refutes O5: the claim ranges over every register file, and a Function Level Reset clears what the file lists as an MSI-X
register. Where that entry has the offset of YRD_CFG, the RWL field TXPWR of YRD_CFG changes, and YRD_PHY keeps a value that no
reset of the module leaves. -/
theorem not_lockedFieldsHoldUntilReset : ¬ Obligations.LockedFieldsHoldUntilReset := by
  unfold Obligations.LockedFieldsHoldUntilReset
  rintro ⟨hlocked, -⟩
  obtain ⟨t, ht, hcfg⟩ := exec_pcieFunctionReset_cfg (kind := .flr) (s := strayVector) (by decide)
  replace hcfg : t.cfg = [(.YRD_PHY 0, 5#32)] := by rw [hcfg, State.pcieReset_cfg]; decide
  rcases hlocked _ strayVector t (by decide) ht with h | ⟨pcie, h⟩
  · have hkept := h (.YRD_CFG 0) (by unfold Reg.mapped; decide) ⟨F.YRD_CFG_TXPWR, .RWL, .none⟩ (by decide) rfl
    unfold State.cf at hkept
    rw [hcfg] at hkept
    revert hkept
    decide
  · rw [hcfg] at h
    revert h
    cases pcie <;> decide

end Sys2Proof.Machine
end

section
/-! PROOFS. What a read of a field the module writes gives after a write of the module's, and what a framed command completes
with. -/
namespace Sys2Proof.Machine

/-- A framed command completes with what its function answers. -/
theorem quiet_does {f : State → State} {s t : State} (h : f s = t) : quiet f s = .next (s.framed t) := h ▸ rfl

section
variable (s : State)

/-- A read of a register at another offset gives what it gave. -/
theorem State.sf_setSf_other {r q : Reg} (h : q.offset ≠ r.offset) (f g : Fld) (v : Nat) : (s.setSf r f v).sf q g = s.sf q g := by
  unfold State.sf State.setSf
  rw [RegFile.get_put_other _ _ h]

/-- A read of the span written gives the value written, modulo the span's width. -/
theorem State.sf_setSf_same (r : Reg) {f : Fld} (hf : f.inWord) (v : Nat) :
    (s.setSf r f v).sf r f = v % 2 ^ (f.hi - f.lo + 1) := by
  unfold State.sf State.setSf
  rw [RegFile.get_put_same, Fld.get_set_same hf]

theorem State.sf_bumpSat_other {r q : Reg} (h : q.offset ≠ r.offset) (f g : Fld) (n : Nat) : (s.bumpSat r f n).sf q g = s.sf q g :=
  s.sf_setSf_other h _ _ _
end

end Sys2Proof.Machine
end

section
/-! PROOFS. O21: the retiring of a stall that the table lists twice. -/
namespace Sys2Proof.Machine

/-- A STALL_RETIRE of stall 5 with FREE = 0. -/
def retireOfTwice : Desc :=
  { did := 1, src := .sealedRing 0, op := 0x13, noComp := false, fence := false, launch := false, tag := 0, target := 5
    launchTime := 0, addr := 0, len := 0, deadline := 0, param := 0, buf := [], stage := .waiting, at_ := 0, atOut := 0, atNs := 0
    interim := false, late := false, actTime := none, discard := false, postBad := none, work := 0 }

/-- An ACTIVE stall that the stall table lists twice, in an open rollover, with the descriptor that retires it. -/
def twiceListed : State :=
  { State.reset with
    sts := State.reset.sts.put .HIF_STATUS 1#32
    hif := { State.reset.hif with inflight := [retireOfTwice] }
    roll := { State.reset.roll with phase := 1 }
    seg := { State.reset.seg with
      stalls := [(5, { Stall.none with state := sACTIVE, key := 7 }), (5, { Stall.none with state := sACTIVE, key := 7 })] } }

theorem twiceListed_serves : twiceListed.serves retireOfTwice 0x13 :=
  ⟨rfl, rfl, rfl, rfl⟩

/-- The entry that stays behind counts as a live stall, and the rollover takes a fresh key for its number. -/
theorem twiceListed_retire_keyNext :
    (((twiceListed.holding retireOfTwice.taken).retireStall 5).stall 5).keyNext
      = max 1 (Config.freeValue twiceListed.free).toNat := rfl

/-- A sealed descriptor whose outer descriptor is gone ends without a completion. -/
theorem State.ok_of_sealed {s : State} {d : Desc} {outer : Nat} (hsrc : d.src = .sealedRing outer)
    (hgone : (s.dropDesc d.did).desc? outer = none) (result : Nat) : s.ok d result = s.dropDesc d.did := by
  unfold State.ok State.finish
  simp only [hsrc, hgone]

/-- Refutes O21: where the stall table lists a live stall twice, retiring it changes the first entry, and an open rollover still finds
the number among the live stalls and takes a KEY_NEXT for it. -/
theorem not_retiringEndsAStall : ¬ Obligations.RetiringEndsAStall := by
  unfold Obligations.RetiringEndsAStall
  rintro ⟨hretire, -⟩
  obtain ⟨t, ht, -, -, hnext, -⟩ := hretire twiceListed retireOfTwice twiceListed_serves (by decide) (by decide) (by decide) (by decide)
  have hdoes : Does (.stallRetire retireOfTwice.did) twiceListed
      (((twiceListed.holding retireOfTwice.taken).retireStall 5).ok retireOfTwice.taken) :=
    Does.of_served rfl twiceListed_serves rfl (if_neg (by decide))
  obtain rfl : _ = t := Host.Outcome.next.inj (hdoes.symm.trans ht)
  rw [State.ok_of_sealed (outer := 0) rfl rfl] at hnext
  have hfresh : max 1 (Config.freeValue twiceListed.free).toNat = 0 := twiceListed_retire_keyNext.symm.trans hnext
  omega

end Sys2Proof.Machine
end

section
/-! PROOFS. O33: from a frame at a lane to link security (R14, R69, R71, R72, R111, R120, R130, R162). -/
namespace Sys2Proof.Machine

section
variable {s : State} {a : LaneLeave} {f : AirRx}

/-- The lane's yard is one of 16: its front end is one of 4, whose register of counts lies below the lanes' own registers. -/
theorem State.feOf_laneYard_lt (s : State) (n : Nat) : feOf (s.laneYard n) < 4 := by
  have : s.laneYard n < 2 ^ 4 := Fld.get_lt F.LNE_ASSIGN_YARD _
  unfold feOf
  omega

/-- The overloads of a front end are counted in a register of their own: what a lane does with a frame does not read it. -/
theorem State.laneServes_overload {fe : Nat} (hfe : fe < 4) (n ovld : Nat) :
    (s.bumpSat (.YRD_FE_STAT fe) F.YRD_FE_STAT_OVLD ovld).laneServes n = s.laneServes n := by
  have hlane : ∀ g, (s.bumpSat (.YRD_FE_STAT fe) F.YRD_FE_STAT_OVLD ovld).sf (.LNE_ASSIGN n) g = s.sf (.LNE_ASSIGN n) g := fun g =>
    s.sf_bumpSat_other (by simp only [Reg.offset]; omega) _ _ _
  have hyard : ∀ y g, (s.bumpSat (.YRD_FE_STAT fe) F.YRD_FE_STAT_OVLD ovld).sf (.YRD_STATE y) g = s.sf (.YRD_STATE y) g := fun y g =>
    s.sf_bumpSat_other (by simp only [Reg.offset]; omega) _ _ _
  unfold State.laneServes State.role State.laneYard State.yardLive State.yardState
  simp only [hlane, hyard]
  rfl

theorem State.outputTime_overload {fe : Nat} (hfe : fe < 4) (ovld : Nat) :
    (s.bumpSat (.YRD_FE_STAT fe) F.YRD_FE_STAT_OVLD ovld).outputTime = s.outputTime := by
  have hact : (s.bumpSat (.YRD_FE_STAT fe) F.YRD_FE_STAT_OVLD ovld).act = s.act :=
    s.sf_bumpSat_other (by simp only [Reg.offset]; omega) _ _ _
  unfold State.outputTime
  rw [hact]
  rfl

/-- A frame that is acquired and not blanked is demodulated (R69, R71). -/
theorem State.receive_single (hclear : s.blanked a f = false) (hacq : s.acquires a f = true) :
    s.receive a [f] = ((s.demodulate a f false).1, (s.demodulate a f false).2.toList) := by
  unfold State.receive
  simp [hclear, hacq, byPower, isort, kinsert]

theorem State.acquires_of (hpre : 4 ≤ f.preamble) (hsfd : f.sfdSet = s.cf (.YRD_PHY a.yard) F.YRD_PHY_SFDSET)
    (hcoded : f.coded = true → a.mode < 3) : s.acquires a f = true := by
  unfold State.acquires
  cases hc : f.coded <;> simp_all

/-- A frame with a readable header and a wrong FCS is an error that is counted (R72). -/
theorem State.demodulate_wrong (sic : Bool) (hms : f.ms = false) (hpar : f.parityOk = true) (hlen : f.fcsLen + 1 ≤ f.len)
    (hfcs : f.fcsOk = false) :
    s.demodulate a f sic = ((s.bump (.LNE_CRCERR a.lane) F.word).bump (.YRD_CRCERR a.yard) F.word, none) := by
  unfold State.demodulate
  simp [hms, hpar, hfcs, Nat.not_lt.2 hlen]

/-- A frame with a readable header and a right FCS counts as received with its power and SNR, and passes upward (R72, R122). -/
theorem State.demodulate_right (hms : f.ms = false) (hpar : f.parityOk = true) (hlen : f.fcsLen + 1 ≤ f.len)
    (hfcs : f.fcsOk = true) :
    s.demodulate a f false = ((((s.bump (.LNE_RXOK a.lane) F.word).bump (.YRD_RXOK a.yard) F.word).setSf (.LNE_RSSI a.lane)
        F.LNE_RSSI_RSSI (twos 16 f.rssi)).setSf (.LNE_RSSI a.lane) F.LNE_RSSI_SNR f.snr,
      some { lane := a.lane, yard := a.yard, chan := a.chan, mode := a.mode, frame := f, sic := false, via := none
             out := s.outputTime - (s.tsu.raw - f.sfd : Nat), words := 0 }) := by
  unfold State.demodulate
  simp [hms, hpar, hfcs, Nat.not_lt.2 hlen]

/-- The state in which a lane receives: the front end's overloads are counted. -/
def State.overload (u : State) (n ovld : Nat) : State :=
  if ovld = 0 then u else u.bumpSat (.YRD_FE_STAT (feOf (u.laneYard n))) F.YRD_FE_STAT_OVLD ovld

theorem State.overload_keeps (u : State) (n ovld : Nat) : (u.overload n ovld).laneServes n = u.laneServes n
    ∧ (u.overload n ovld).outputTime = u.outputTime ∧ (u.overload n ovld).cfg = u.cfg ∧ (u.overload n ovld).air = u.air
    ∧ (u.overload n ovld).tsu = u.tsu ∧ (u.overload n ovld).lanes = u.lanes := by
  unfold State.overload
  split
  · exact ⟨rfl, rfl, rfl, rfl, rfl, rfl⟩
  · exact ⟨State.laneServes_overload (u.feOf_laneYard_lt n) _ _, State.outputTime_overload (u.feOf_laneYard_lt n) _, rfl, rfl, rfl, rfl⟩

/-- A lane without a move in progress keeps its list of moves. -/
theorem State.leaving_filter_nil {t : State} (h : t.lanes.leaving = []) (p : LaneLeave → Bool) :
    ({ t with lanes := { t.lanes with leaving := t.lanes.leaving.filter p } } : State) = t := by
  rw [h, List.filter_nil, ← h]

/-- A single frame at a serving lane that acquires it is demodulated, and goes on upward if it is recovered. -/
theorem exec_frameRx_single {u : State} {n ovld : Nat} (hu : u = s.elapseTo f.last) (hleaving : u.lanes.leaving = [])
    (hserves : u.laneServes n = true) (hclear : u.blanked (u.laneNow n) f = false) (hacq : u.acquires (u.laneNow n) f = true) :
    Does (.frameRx n [f] ovld) s ((((u.overload n ovld).demodulate (u.laneNow n) f false).2.toList).foldl State.arriveRx
      ((u.overload n ovld).demodulate (u.laneNow n) f false).1) := by
  subst hu
  obtain ⟨hlane, -, hcfg, hair, -, hlanes⟩ := (s.elapseTo f.last).overload_keeps n ovld
  have hn : n < 544 := by
    unfold State.laneServes at hserves
    simp only [Bool.and_eq_true, decide_eq_true_eq] at hserves
    exact hserves.1.1
  have hclear : ((s.elapseTo f.last).overload n ovld).blanked ((s.elapseTo f.last).laneNow n) f = false := by
    unfold State.blanked at hclear ⊢
    rw [hair]
    exact hclear
  have hacq : ((s.elapseTo f.last).overload n ovld).acquires ((s.elapseTo f.last).laneNow n) f = true := by
    unfold State.acquires State.cf at hacq ⊢
    rw [hcfg]
    exact hacq
  have hover : (if ovld = 0 ∨ 544 ≤ n then s.elapseTo f.last else (s.elapseTo f.last).bumpSat
      (.YRD_FE_STAT (feOf ((s.elapseTo f.last).laneNow n).yard)) F.YRD_FE_STAT_OVLD ovld) = (s.elapseTo f.last).overload n ovld := by
    unfold State.overload
    simp only [Nat.not_le.2 hn, or_false]
    rfl
  unfold Does exec execFrameRx
  refine quiet_does ?_
  simp only [List.map_singleton, List.foldl_cons, List.foldl_nil, Nat.zero_max, hleaving, List.find?_nil, Option.getD_none, hover,
    State.leaving_filter_nil (hlanes ▸ hleaving), hlane, hserves, Bool.true_eq_false, and_false, if_false,
    State.receive_single hclear hacq]

end

/-! ## Link security and the RELAY message -/

/-- A row of the uplink table that a frame meets acts on its live stall (R162). -/
theorem State.upRow_of_takes {s u : State} {p : Rx → Bool} {r : Rx} (h : s.takes p r u) (act : State → Rx → Nat → State) :
    s.upRow p act = act u r r.stall := by
  obtain ⟨hpaused, hnext, hgood, hlive, rfl⟩ := h
  have htake : s.takeUp r = ({ s with air := { s.air with accepted := s.air.accepted.erase r } }, false) := by
    unfold State.takeUp
    rcases hgood with hbad | hvia
    · simp [hbad]
    · cases r.frame.upBad <;> simp [hvia]
  unfold State.upRow State.handleUp
  simp only [hnext, hpaused, htake, Bool.false_eq_true, if_false]
  exact if_pos ⟨trivial, hlive⟩

/-- A frame discarded by link security is counted where it was counted as received (R111). -/
theorem State.authFail_eq (s : State) (r : Rx) : s.authFail r = if r.via = none then s.bump (.LNE_AUTHFAIL r.lane) F.word else s := by
  unfold State.authFail
  cases r.via <;> rfl

/-- Settles O33: the lane's part by `exec_frameRx_single` and the two outcomes of a demodulation, the rest by the functions of link
security and of the uplink table. -/
theorem receivedFramesPassTheirLane : Obligations.ReceivedFramesPassTheirLane := by
  unfold Obligations.ReceivedFramesPassTheirLane
  refine ⟨?lane, ?buffer, ?discarded, ?keyed, ?relay⟩
  case lane =>
    rintro s u w n ovld f hu hleaving hserves hclear hpre hsfd hcoded hms hpar hlen hw
    have hrun := exec_frameRx_single (ovld := ovld) hu hleaving hserves hclear (State.acquires_of hpre hsfd hcoded)
    obtain ⟨-, hout, -, -, htsu, -⟩ := u.overload_keeps n ovld
    obtain rfl : w = u.overload n ovld := hw
    refine ⟨fun hfcs => ⟨_, ?_, rfl⟩, fun hfcs => ?_⟩
    · rw [State.demodulate_right hms hpar hlen hfcs, hout, htsu] at hrun
      exact hrun
    · rw [State.demodulate_wrong false hms hpar hlen hfcs] at hrun
      exact hrun
  case buffer =>
    intro s r l hwait
    unfold Does exec execKeyCacheFill
    refine ⟨fun hup => quiet_does ?_, fun hdown => quiet_does ?_⟩
    · simp [hwait, hup]
    · simp [hwait, hdown]
  case discarded =>
    intro s r h
    rw [← State.authFail_eq]
    unfold State.secure
    rcases h with hform | hkey
    · rw [if_pos hform]
    · rw [hkey]
      exact ite_self _
  case keyed =>
    intro s r k hform hkey
    rw [← State.authFail_eq]
    unfold State.secure
    simp only [hform, hkey, Bool.true_eq_false, if_false]
    exact ⟨fun hauth => if_pos hauth, fun hauth => if_neg (by simp [hauth])⟩
  case relay =>
    intro s u r c h
    unfold Does exec execRelay
    exact quiet_does (State.upRow_of_takes h _)

end Sys2Proof.Machine
end

section
/-! PROOFS. What the model's shared operations leave: the carriers, the clock unit and the host-written fields (`State.steady`),
from one register write up to a descriptor's end. -/
namespace Sys2Proof.Machine

theorem foldl_keeps {σ α β : Type} {v : σ → β} {g : σ → α → σ} (h : ∀ t a, v (g t a) = v t) (l : List α) (s : σ) :
    v (l.foldl g s) = v s := by
  induction l generalizing s with
  | nil => rfl
  | cons a l ih => exact (ih (g s a)).trans (h s a)

/-- The carriers, the clock unit and the host-written fields. -/
def State.steady (s : State) : List Carrier × Clk × RegFile := (s.air.carriers, s.clk, s.cfg)

@[simp] theorem State.steady_mk (pending cfg sts bcFw out evq free hif evr tsu newt clk nvlog lanes seg nvseg roll rollOld air flt
    swx drv mtr nvmtr mbx twn tack shed upd) :
    State.steady ⟨pending, cfg, sts, bcFw, out, evq, free, hif, evr, tsu, newt, clk, nvlog, lanes, seg, nvseg, roll, rollOld, air,
      flt, swx, drv, mtr, nvmtr, mbx, twn, tack, shed, upd⟩ = (air.carriers, clk, cfg) := rfl
@[simp] theorem State.steady_eta (s : State) : (s.air.carriers, s.clk, s.cfg) = s.steady := rfl

section
variable (s : State)

@[simp] theorem State.emit_steady (o) : (s.emit o).steady = s.steady := rfl
@[simp] theorem State.event_steady (f i c v a) : (s.event f i c v a).steady = s.steady := rfl
@[simp] theorem State.setSf_steady (r f v) : (s.setSf r f v).steady = s.steady := rfl
@[simp] theorem State.setSw_steady (r v) : (s.setSw r v).steady = s.steady := rfl
@[simp] theorem State.bump_steady (r f n) : (s.bump r f n).steady = s.steady := rfl
@[simp] theorem State.bumpSat_steady (r f n) : (s.bumpSat r f n).steady = s.steady := rfl
@[simp] theorem State.fresh_steady : s.fresh.2.steady = s.steady := rfl
@[simp] theorem State.freshBytes_steady (n) : (s.freshBytes n).2.steady = s.steady := rfl
@[simp] theorem State.updDesc_steady (k f) : (s.updDesc k f).steady = s.steady := rfl
@[simp] theorem State.dropDesc_steady (k) : (s.dropDesc k).steady = s.steady := rfl
@[simp] theorem State.noteDiscard_steady (e) : (s.noteDiscard e).steady = s.steady := rfl
@[simp] theorem State.cqRefresh_steady (n) : (s.cqRefresh n).steady = s.steady := rfl

@[simp] theorem State.msix_steady (v : Nat) : (s.msix v).steady = s.steady := by
  unfold State.msix; split <;> simp
@[simp] theorem State.poisonQueue_steady (q off : Nat) : (s.poisonQueue q off).steady = s.steady := by
  unfold State.poisonQueue; dsimp only; split <;> simp
@[simp] theorem State.postRead_steady (n : Nat) (e : CEnt) : (s.postRead n e).2.steady = s.steady := by
  unfold State.postRead; split <;> simp
@[simp] theorem State.cqSignal_steady (n : Nat) : (s.cqSignal n).steady = s.steady := by
  unfold State.cqSignal; dsimp only; split <;> simp
@[simp] theorem State.cqData_steady (e : CEnt) : (s.cqData e).steady = s.steady := by
  unfold State.cqData; split <;> simp
@[simp] theorem State.cqWrite_steady (n : Nat) (e : CEnt) : (s.cqWrite n e).steady = s.steady := by
  unfold State.cqWrite; dsimp only; split <;> simp
@[simp] theorem State.postC_steady (e : CEnt) : (s.postC e).steady = s.steady := by
  unfold State.postC; split
  · split <;> simp
  · simp
@[simp] theorem State.finishRing_steady (n : Nat) (d : Desc) (a : Answer) : (s.finishRing n d a).steady = s.steady := by
  unfold State.finishRing; dsimp only; split <;> split <;> simp

@[simp] theorem State.setQueue_steady (q l) : (s.setQueue q l).steady = s.steady := rfl
@[simp] theorem State.hostFrame_steady (f : EgFrame) (tc : Nat) : (s.hostFrame f tc).steady = s.steady := by
  unfold State.hostFrame; cases f.bad <;> (dsimp only; split <;> simp)
@[simp] theorem State.hostDrain_steady : s.hostDrain.steady = s.steady := by
  unfold State.hostDrain
  refine foldl_keeps (fun t tc => ?_) _ _
  split
  · rfl
  · exact (foldl_keeps (fun u f => u.hostFrame_steady f tc) _ _).trans (by simp)
@[simp] theorem State.sendCopy_steady (fid vid tc untag dest f) : (s.sendCopy fid vid tc untag dest f).1.steady = s.steady := by
  unfold State.sendCopy; dsimp only; split <;> simp
@[simp] theorem State.forward_steady (p vid tc : Nat) (f : InFrame) : (s.forward p vid tc f).1.steady = s.steady := by
  unfold State.forward
  split
  · rfl
  · simp only [State.hostDrain_steady]
    refine (foldl_keeps (v := fun a : State × Nat => a.1.steady) (fun a d => ?_) _ _).trans (by simp)
    simp
@[simp] theorem State.mgmtSend_steady (vid tc : Nat) (data) : (s.mgmtSend vid tc data).steady = s.steady := by
  unfold State.mgmtSend; split
  · rfl
  · dsimp only; split <;> simp
@[simp] theorem State.mgmtOctets_steady (dst vid ty) : (s.mgmtOctets dst vid ty).2.steady = s.steady := rfl
@[simp] theorem State.sealedReply_steady (ip : Nat) : (s.sealedReply ip).steady = s.steady := by
  unfold State.sealedReply; simp

/-- A descriptor's end reaches neither a carrier, nor the clock unit, nor a host-written field. -/
@[simp] theorem State.finish_steady (d : Desc) (a : Answer) : (s.finish d a).steady = s.steady := by
  unfold State.finish
  split
  · simp
  · dsimp only; split
    · split <;> simp
    · simp
  · simp
@[simp] theorem State.ok_steady (d r) : (s.ok d r).steady = s.steady := s.finish_steady _ _
@[simp] theorem State.fail_steady (d st det) : (s.fail d st det).steady = s.steady := s.finish_steady _ _
end

end Sys2Proof.Machine
end

section
/-! PROOFS. The tables, queues, items, runs, scenes, campaigns and offers leave the carriers, the clock unit and the host-written
fields too (`State.steady`). -/
namespace Sys2Proof.Machine

section
variable (s : State)

/-! ## The tables and the queues -/

@[simp] theorem State.setStall_steady (i x) : (s.setStall i x).steady = s.steady := rfl
@[simp] theorem State.modStall_steady (i f) : (s.modStall i f).steady = s.steady := rfl
@[simp] theorem State.setPad_steady (p x) : (s.setPad p x).steady = s.steady := rfl
@[simp] theorem State.modPad_steady (p f) : (s.modPad p f).steady = s.steady := rfl
@[simp] theorem State.modItem_steady (i f) : (s.modItem i f).steady = s.steady := rfl
@[simp] theorem State.modJob_steady (i f) : (s.modJob i f).steady = s.steady := rfl
@[simp] theorem State.modScene_steady (i f) : (s.modScene i f).steady = s.steady := rfl
@[simp] theorem State.modCamp_steady (i f) : (s.modCamp i f).steady = s.steady := rfl
@[simp] theorem State.modReq_steady (i f) : (s.modReq i f).steady = s.steady := rfl
@[simp] theorem State.setSeq_steady (y q) : (s.setSeq y q).steady = s.steady := rfl
@[simp] theorem State.beginDesc_steady (d) : (s.beginDesc d).steady = s.steady := rfl
@[simp] theorem State.addItem_steady (it) : (s.addItem it).steady = s.steady := rfl
@[simp] theorem State.dropJob_steady (i) : (s.dropJob i).steady = s.steady := rfl
@[simp] theorem State.dropScene_steady (i) : (s.dropScene i).steady = s.steady := rfl
@[simp] theorem State.evict_steady (h) : (s.evict h).steady = s.steady := rfl
@[simp] theorem State.touchKey_steady (k) : (s.touchKey k).steady = s.steady := rfl
@[simp] theorem State.freshHandle_steady : s.freshHandle.2.steady = s.steady := rfl
@[simp] theorem State.takeForce_steady (l) : (s.takeForce l).steady = s.steady := rfl
@[simp] theorem State.journal_steady (f) : (s.journal f).steady = s.steady := rfl
@[simp] theorem State.persistTables_steady : s.persistTables.steady = s.steady := rfl
@[simp] theorem State.campMark_steady (f) : (s.campMark f).steady = s.steady := rfl
@[simp] theorem State.campLeave_steady (i) : (s.campLeave i).steady = s.steady := rfl
@[simp] theorem State.unask_steady (i) : (s.unask i).steady = s.steady := rfl
@[simp] theorem State.ask_steady (r) : (s.ask r).steady = s.steady := rfl

/-! ## Ends of items, jobs, runs and scenes -/

@[simp] theorem State.checkRun_steady (r : Nat) : (s.checkRun r).steady = s.steady := by
  unfold State.checkRun
  split
  · rfl
  · split
    · rfl
    · dsimp only
      split
      · rfl
      · split <;> simp

@[simp] theorem State.endItem_steady (it : Item) (st det : Nat) : (s.endItem it st det).steady = s.steady := by
  unfold State.endItem
  cases it.did <;> cases it.run <;> dsimp only
  · rfl
  · split <;> simp
  · split <;> simp
  · split <;> split <;> simp

@[simp] theorem State.endItems_steady (i st det : Nat) : (s.endItems i st det).steady = s.steady := by
  unfold State.endItems
  refine foldl_keeps (fun u t => ?_) _ _
  split <;> simp

@[simp] theorem State.endDid_steady (d : Option Nat) (st det r : Nat) : (s.endDid d st det r).steady = s.steady := by
  unfold State.endDid
  split
  · rfl
  · split <;> simp

@[simp] theorem State.endDelivery_steady (i : Nat) : (s.endDelivery i).steady = s.steady := by
  unfold State.endDelivery
  split
  · dsimp only; split <;> simp
  · rfl

@[simp] theorem State.checkScene_steady (i : Nat) : (s.checkScene i).steady = s.steady := by
  unfold State.checkScene
  split
  · rfl
  · split
    · dsimp only; split <;> simp
    · rfl

/-! ## Keys and the rollover -/

@[simp] theorem State.addKey_steady (i : Nat) (k : ItemKind) : (s.addKey i k).steady = s.steady := by
  unfold State.addKey; split <;> simp

@[simp] theorem State.renewKey_steady (i : Nat) : (s.renewKey i).steady = s.steady := by
  unfold State.renewKey; simp

@[simp] theorem State.queueKeys_steady (i : Nat) : (s.queueKeys i).steady = s.steady := by
  unfold State.queueKeys
  dsimp only
  split
  · rfl
  · refine foldl_keeps (fun t p => ?_) _ _
    split <;> split <;> simp

@[simp] theorem State.unbind_steady (i : Nat) : (s.unbind i).steady = s.steady := by
  unfold State.unbind; simp

@[simp] theorem State.closeStall_steady (i e : Nat) : (s.closeStall i e).steady = s.steady := by
  unfold State.closeStall
  dsimp only
  split
  · simp
  · split <;> split <;> simp

@[simp] theorem State.rollFinish_steady : s.rollFinish.steady = s.steady := by
  unfold State.rollFinish
  simp only [State.persistTables_steady, State.journal_steady, State.event_steady, State.steady_mk, State.steady_eta]
  rw [foldl_keeps (v := State.steady) (fun t i => t.closeStall_steady i _)]
  simp only [State.journal_steady, State.steady_mk, State.steady_eta]
  exact foldl_keeps (v := State.steady) (fun t q => by simp) _ _

@[simp] theorem State.rollClose_steady : s.rollClose.steady = s.steady := by
  unfold State.rollClose; dsimp only; split <;> simp

@[simp] theorem State.rollStall_steady (i : Nat) : (s.rollStall i).steady = s.steady := by
  unfold State.rollStall; dsimp only; split <;> simp

@[simp] theorem State.rollYard_steady (y : Nat) : (s.rollYard y).steady = s.steady := by
  unfold State.rollYard
  refine foldl_keeps (fun t i => ?_) _ _
  split <;> simp

@[simp] theorem State.rollFill_steady : s.rollFill.steady = s.steady := foldl_keeps (fun t y => t.rollYard_steady y) _ _

@[simp] theorem State.rollPass_steady : s.rollPass.steady = s.steady := by
  unfold State.rollPass
  split
  · rfl
  · split
    · simp
    · split
      · rfl
      · split <;> simp

@[simp] theorem State.rollOn_steady : s.rollOn.steady = s.steady := by
  unfold State.rollOn; split <;> simp

@[simp] theorem State.rollLeave_steady (i : Nat) : (s.rollLeave i).steady = s.steady := by
  unfold State.rollLeave; simp

@[simp] theorem State.rollOpen_steady : s.rollOpen.steady = s.steady := by
  unfold State.rollOpen
  simp only [State.rollOn_steady, State.event_steady, State.persistTables_steady]
  rw [foldl_keeps (v := State.steady) (fun t p => by simp)]
  simp

/-! ## Counters and frames -/

@[simp] theorem State.limitStall_steady (i : Nat) : (s.limitStall i).steady = s.steady := by
  unfold State.limitStall; simp

@[simp] theorem State.saveStall_steady (i : Nat) : (s.saveStall i).steady = s.steady := by
  unfold State.saveStall; dsimp only; split <;> simp

@[simp] theorem State.useFc_steady (i : Nat) : (s.useFc i).2.steady = s.steady := by
  unfold State.useFc; dsimp only; split <;> simp

@[simp] theorem State.usePadFc_steady (p : Nat) : (s.usePadFc p).2.steady = s.steady := by
  unfold State.usePadFc
  dsimp only
  split
  · split <;> split <;> simp
  · split <;> simp

@[simp] theorem State.useKey_steady (k i h : Nat) : (s.useKey k i h).steady = s.steady := by
  unfold State.useKey; split <;> simp

@[simp] theorem State.stallFrame_steady (i typ ar pend msg) : (s.stallFrame i typ ar pend msg).2.2.steady = s.steady := by
  unfold State.stallFrame; simp

@[simp] theorem State.wrapHops_steady (i : Nat) (ar : Bool) (msg : List Byte) (l : List Nat) :
    (s.wrapHops i ar msg l).2.steady = s.steady := by
  induction l generalizing s i ar msg with
  | nil => rfl
  | cons p t ih => unfold State.wrapHops; simp [ih]

@[simp] theorem State.hopMsg_steady (it : Item) : (s.hopMsg it).2.2.steady = s.steady := by
  unfold State.hopMsg; simp

@[simp] theorem State.itemSent_steady (it : Item) (fc psdu) : (s.itemSent it fc psdu).steady = s.steady := by
  unfold State.itemSent
  cases it.did <;> dsimp only
  · simp
  · split <;> simp

@[simp] theorem State.jobFrame_steady (j : Job) (y : Nat) : (s.jobFrame j y).2.steady = s.steady := by
  unfold State.jobFrame; cases j.fc <;> simp

@[simp] theorem State.ansFrame_steady (a ar pend msg) : (s.ansFrame a ar pend msg).2.2.steady = s.steady := by
  unfold State.ansFrame; simp

@[simp] theorem State.keepAnswer_steady (a p) : (s.keepAnswer a p).steady = s.steady := rfl

@[simp] theorem State.joinFrame_steady (e fc r) : (s.joinFrame e fc r).2.steady = s.steady := by
  unfold State.joinFrame; simp

@[simp] theorem State.keepJoin_steady (e fc a p) : (s.keepJoin e fc a p).steady = s.steady := rfl

/-! ## Held frames, and requests that end -/

@[simp] theorem State.deferRing_steady (n : Nat) (d : Desc) : (s.deferRing n d).steady = s.steady := by
  unfold State.deferRing
  dsimp only
  split
  · simp
  · split <;> simp

@[simp] theorem State.deferDesc_steady (d : Nat) : (s.deferDesc d).steady = s.steady := by
  unfold State.deferDesc
  split
  · rfl
  · split
    · simp
    · split
      · split <;> simp
      · rfl
    · rfl

@[simp] theorem State.noteHeld_steady (y : Nat) (d : Option Nat) : (s.noteHeld y d).steady = s.steady := by
  unfold State.noteHeld; dsimp only; split <;> simp

@[simp] theorem State.holdItem_steady (it : Item) (a : Nat) (f : Bool) : (s.holdItem it a f).steady = s.steady := by
  unfold State.holdItem
  dsimp only
  split
  · split <;> simp
  · simp

@[simp] theorem State.holdJob_steady (j : Job) (y a : Nat) : (s.holdJob j y a).steady = s.steady := by
  unfold State.holdJob; split <;> simp

@[simp] theorem State.skipBeacon_steady (y sb : Nat) : (s.skipBeacon y sb).steady = s.steady := by
  unfold State.skipBeacon; simp

@[simp] theorem State.missAnswer_steady (a : Ans) (k : Option Nat) : (s.missAnswer a k).steady = s.steady := by
  unfold State.missAnswer
  dsimp only
  split
  · split <;> simp
  · simp

@[simp] theorem State.giveUpReq_steady (r : TxReq) : (s.giveUpReq r).steady = s.steady := by
  unfold State.giveUpReq
  dsimp only
  split
  · simp
  · split <;> simp
  · simp
  · simp
  · simp

@[simp] theorem State.giveUpItem_steady (it : Item) (st det : Nat) : (s.giveUpItem it st det).steady = s.steady := by
  unfold State.giveUpItem
  dsimp only
  split
  · simp
  · simp
  · split <;> simp
  · simp

@[simp] theorem State.settle_steady : s.settle.steady = s.steady := by
  unfold State.settle
  refine foldl_keeps (fun t r => ?_) _ _
  split <;> simp

@[simp] theorem State.requeue_steady : s.requeue.steady = s.steady := by
  unfold State.requeue
  simp only [State.steady_mk, State.steady_eta]
  exact foldl_keeps (v := State.steady) (fun t y => by simp) _ _

@[simp] theorem State.refuseReq_steady (r : TxReq) : (s.refuseReq r).steady = s.steady := by
  unfold State.refuseReq; split <;> simp

@[simp] theorem State.poisonReq_steady (r : TxReq) (off : Nat) : (s.poisonReq r off).steady = s.steady := by
  unfold State.poisonReq
  dsimp only
  split
  · simp
  · split <;> simp
  · split <;> simp
  · simp
  · simp
  · split
    · split <;> simp
    · simp

/-! ## Campaigns -/

@[simp] theorem State.fltRefresh_steady : s.fltRefresh.steady = s.steady := by
  unfold State.fltRefresh; dsimp only; split <;> simp

@[simp] theorem State.setCamp_steady (i st : Nat) : (s.setCamp i st).steady = s.steady := by
  unfold State.setCamp; simp

@[simp] theorem State.dropImages_steady (i : Nat) : (s.dropImages i).steady = s.steady := rfl
@[simp] theorem State.persistCamps_steady : s.persistCamps.steady = s.steady := rfl
@[simp] theorem State.campEvent_steady (c code sev a) : (s.campEvent c code sev a).steady = s.steady := rfl
@[simp] theorem State.campSkip_steady (c y b e) : (s.campSkip c y b e).steady = s.steady := rfl
@[simp] theorem State.campDesc_steady (c f) : (s.campDesc c f).2.steady = s.steady := rfl

@[simp] theorem State.nightEnd_steady (i : Nat) (closed : Bool) : (s.nightEnd i closed).steady = s.steady := by
  unfold State.nightEnd
  split
  · rfl
  · dsimp only
    split <;> split <;> split <;> simp

@[simp] theorem State.campIdle_steady (i : Nat) : (s.campIdle i).steady = s.steady := by
  unfold State.campIdle
  split
  · split <;> simp
  · rfl

@[simp] theorem State.campPayload_steady (c f) : (s.campPayload c f).2.steady = s.steady := by
  unfold State.campPayload; split <;> simp

@[simp] theorem State.campSent_steady (c y n f) : (s.campSent c y n f).steady = s.steady := by
  unfold State.campSent; split <;> simp

/-! ## A run goes on -/

@[simp] theorem State.offerJobs_steady (y : Nat) (stop : Int) (o : Bool) (l : List Job) :
    (s.offerJobs y stop o l).1.steady = s.steady := by
  induction l generalizing s with
  | nil => rfl
  | cons j t ih =>
    unfold State.offerJobs
    extract_lets q dur endBy
    split
    · exact ih s
    · split
      · rfl
      · split
        · simp
        · split <;> simp [ih]
        · exact ih s

@[simp] theorem State.offerImage_steady (y : Nat) (stop : Int) : (s.offerImage y stop).steady = s.steady := by
  unfold State.offerImage
  extract_lets q
  split
  · rfl
  · extract_lets len dur endBy
    split
    · rfl
    · split <;> simp

@[simp] theorem State.offer_steady (y : Nat) : (s.offer y).steady = s.steady := by
  unfold State.offer
  dsimp only
  split
  · rfl
  · split
    · split
      · simp
      · split <;> simp
    · rfl
end
end Sys2Proof.Machine
end

section
/-! PROOFS. The transmit arbiter: a grant starts one carrier that has room, or none (R13, R94). -/
namespace Sys2Proof.Machine

/-! ## A carrier starts -/

/-- One carrier starts, as request `r` asks for it, beside those on the air. -/
def State.Sends (s : State) (r : TxReq) (t : State) : Prop :=
  t.clk = s.clk ∧ ∃ c : Carrier, t.onAir = s.onAir ++ [c] ∧ c.chain = r.chain ∧ c.yard = r.yard ∧ c.chan = r.chan ∧ c.mode = r.mode

section
variable {s t u : State} {r : TxReq}

theorem State.onAir_of_steady (h : t.steady = s.steady) : t.onAir = s.onAir :=
  congrArg (fun v => v.1.filter (fun c => c.on)) h
theorem State.clk_of_steady (h : t.steady = s.steady) : t.clk = s.clk := congrArg (fun v => v.2.1) h
theorem State.cfg_of_steady (h : t.steady = s.steady) : t.cfg = s.cfg := congrArg (fun v => v.2.2) h

/-- What happens before and after beside the carriers does not matter. -/
theorem State.Sends.around {v : State} (h : u.Sends r v) (hu : u.steady = s.steady) (ht : t.steady = v.steady) : s.Sends r t := by
  unfold State.Sends at h ⊢
  rw [State.onAir_of_steady ht, State.clk_of_steady ht, ← State.onAir_of_steady hu, ← State.clk_of_steady hu]
  exact h

@[simp] theorem State.charge_steady (s : State) (ch k m d i cls) : (s.charge ch k m d i cls).steady = s.steady := by
  unfold State.charge
  split
  · rfl
  · extract_lets a old new _ s1 emit
    have hs1 : s1.steady = s.steady := by unfold s1; split <;> rfl
    split
    · exact (foldl_keeps (g := emit) (fun t c => rfl) _ _).trans hs1
    · exact hs1

theorem State.startCarrier_sends (s : State) (r : TxReq) (cls it psdu) : s.Sends r (s.startCarrier r cls it psdu) := by
  unfold State.startCarrier
  extract_lets dur power s1 old c
  have hs1 : s1.steady = s.steady := by simp [s1]
  have hold : old.filter (fun c => c.on) = s.onAir := by
    rw [← State.onAir_of_steady hs1]
    unfold old State.onAir
    rw [List.filter_filter]
    exact List.filter_congr (fun c _ => by cases c.on <;> rfl)
  refine ⟨show s1.clk = s.clk from State.clk_of_steady hs1, c, ?_, rfl, rfl, rfl, rfl⟩
  show (old ++ [c]).filter (fun c => c.on) = _
  rw [List.filter_append, hold]
  rfl

/-- A frame starts on a state that has changed beside the carriers alone. -/
theorem State.startCarrier_sends_of_steady (h : u.steady = s.steady) (cls it psdu) : s.Sends r (u.startCarrier r cls it psdu) :=
  (u.startCarrier_sends r cls it psdu).around h rfl

theorem State.sendAnswer_sends (s : State) (a : Ans) (r : TxReq) : s.Sends r (s.sendAnswer a r) := by
  unfold State.sendAnswer
  extract_lets _ t go
  have ht : t.steady = s.steady := rfl
  have hgo : ∀ u item b, u.steady = s.steady → s.Sends r (go u item b) := fun u item b hu =>
    State.startCarrier_sends_of_steady hu _ _ _
  split
  · exact hgo _ _ _ ht
  · exact hgo _ _ _ (by simp [ht])
  · exact hgo _ _ _ (by simp [ht])
  · split
    · exact hgo _ _ _ ((t.ansFrame_steady _ _ _ _).trans ht)
    · split <;> exact hgo _ _ _ (by simp [ht])

theorem State.sendItem_sends (s : State) (it : Item) (r : TxReq) : s.Sends r (s.sendItem it r) := by
  unfold State.sendItem
  split <;> exact State.startCarrier_sends_of_steady (by simp) _ _ _

theorem State.sendScene_sends (s : State) (c : Scene) (r : TxReq) : s.Sends r (s.sendScene c r) :=
  State.startCarrier_sends_of_steady (by simp) _ _ _

/-- A granted request starts one carrier, or none. -/
theorem State.startReq_sends (s : State) (bad : Option Nat) (symBad : Bool) (r : TxReq) :
    (s.startReq bad symBad r).steady = s.steady ∨ s.Sends r (s.startReq bad symBad r) := by
  unfold State.startReq
  extract_lets dur t cls share
  have ht : t.steady = s.steady := s.unask_steady _
  split
  · exact Or.inl (s.giveUpReq_steady r)
  · left
    split
    · simp [ht]
    · split <;> simp [ht]
    · split <;> simp [ht]
    · split <;> simp [ht]
    · exact ht
    · dsimp only; split <;> simp
  · split
    · exact Or.inl (s.poisonReq_steady r _)
    · split
      · exact Or.inr (State.startCarrier_sends_of_steady (by simp [ht]) _ _ _)
      · split
        · exact Or.inr ((t.sendAnswer_sends _ r).around ht rfl)
        · exact Or.inl ht
      · split
        · exact Or.inr ((t.sendItem_sends _ r).around ht rfl)
        · exact Or.inl ht
      · split
        · refine Or.inr (State.startCarrier_sends_of_steady ?_ _ _ _)
          split <;> simp [ht]
        · exact Or.inl ht
      · split
        · split
          · exact Or.inl (by simp [ht])
          · exact Or.inr ((State.startCarrier_sends_of_steady (by simp [ht]) _ _ _).around rfl (State.campSent_steady _ _ _ _ _))
        · exact Or.inl ht
      · split
        · exact Or.inr ((t.sendScene_sends _ r).around ht rfl)
        · exact Or.inl ht

/-- A scene-now frame that is held starts no carrier: its duty account has not changed its mind. -/
theorem State.startReq_of_sceneHeld (h : s.sceneHeld r = true) : (s.startReq none false r).steady = s.steady := by
  unfold State.sceneHeld at h
  split at h
  case h_2 => cases h
  case h_1 id a byDuty hkind hheld =>
    unfold State.startReq
    simp only [hkind, TxKind.cls, hheld]
    split <;> simp

/-! ## The grant -/

/-- What the arbiter asks of a request before it grants it: its channel is free, its yard has no carrier on the chain, and the chain
takes one more (R13, R94). -/
def State.Room (s : State) (r : TxReq) : Prop :=
  s.chanBusy r.chain r.chan r.mode = false ∧ s.carrierOf r.chain r.yard = false ∧ s.chainTakes r.chain = true

theorem State.Room.of_steady (h : u.Room r) (hu : u.steady = s.steady) : s.Room r := by
  unfold State.Room State.chanBusy State.carrierOf State.chainTakes State.chainsOn State.chainLimit State.chainLoad at h ⊢
  rw [← State.onAir_of_steady hu, ← State.clk_of_steady hu]
  exact h

/-- The arbiter grants one request that has room, or none. -/
theorem State.grant_sends (bad : Option Nat) (symBad : Bool) (l : List TxReq) (s : State) :
    (s.grant bad symBad l).steady = s.steady ∨ ∃ r, s.Room r ∧ s.Sends r (s.grant bad symBad l) := by
  induction l generalizing s with
  | nil => exact Or.inl rfl
  | cons r l ih =>
    have onward : ∀ u : State, u.steady = s.steady → (u.grant bad symBad l).steady = s.steady
        ∨ ∃ r, s.Room r ∧ s.Sends r (u.grant bad symBad l) := fun u hu =>
      (ih u).imp (fun h => h.trans hu) (fun ⟨r, hroom, hsends⟩ => ⟨r, hroom.of_steady hu, hsends.around hu rfl⟩)
    unfold State.grant
    split
    · rename_i hheld
      exact onward _ (State.startReq_of_sceneHeld hheld)
    · split
      · exact onward s rfl
      · rename_i hfree
        rw [not_or, Bool.not_eq_true, Bool.not_eq_true] at hfree
        split
        · rename_i htakes
          exact (s.startReq_sends bad symBad r).imp id (fun h => ⟨r, ⟨hfree.1, hfree.2, htakes⟩, h⟩)
        · split
          · exact onward s rfl
          · exact onward _ (s.refuseReq_steady r)

/-- A grant leaves the carriers on the air as they are, or adds one that has room. -/
theorem exec_chainGrant_sends {bad : Option Nat} {symBad : Bool} (h : exec (.chainGrant bad symBad) s = .next t) :
    (t.onAir = s.onAir ∧ t.clk = s.clk) ∨ ∃ r, s.Room r ∧ s.Sends r t := by
  have hrun : execChainGrant bad symBad s = .next t := h
  unfold execChainGrant at hrun
  obtain rfl := quiet_next hrun
  have hu : s.requeue.settle.steady = s.steady := by simp
  generalize s.requeue.settle = u at hu
  dsimp only
  split
  · exact Or.inl ⟨(State.onAir_of_steady hu :), (State.clk_of_steady hu :)⟩
  · rcases State.grant_sends bad symBad _ u with h | ⟨r, hroom, hsends⟩
    · exact Or.inl ⟨(State.onAir_of_steady (h.trans hu) :), (State.clk_of_steady (h.trans hu) :)⟩
    · exact Or.inr ⟨r, hroom.of_steady hu, (hsends.around hu rfl :)⟩

/-! ## The limits of the chains (R13, R94) -/

/-- A carrier that starts adds one to the load of its chain. -/
theorem State.Sends.chainLoad (h : s.Sends r t) (c : Nat) : t.chainLoad c = s.chainLoad c + if c = r.chain then 1 else 0 := by
  obtain ⟨-, c', hair, hchain, -⟩ := h
  unfold State.chainLoad
  rw [hair, List.filter_append, List.length_append, List.filter_singleton, hchain]
  by_cases hc : c = r.chain
  · simp [hc]
  · simp [hc, beq_false_of_ne (Ne.symm hc)]

theorem State.Sends.chainLoad_le (h : s.Sends r t) (hroom : s.Room r) (hload : ∀ c, s.chainLoad c ≤ 4) (c : Nat) : t.chainLoad c ≤ 4 := by
  obtain ⟨-, -, htakes⟩ := hroom
  have hc := hload c
  rw [h.chainLoad]
  unfold State.chainTakes at htakes
  split at htakes
  · have := of_decide_eq_true htakes
    split <;> simp_all
  · split <;> simp_all

theorem State.Sends.chainsOn_le (h : s.Sends r t) (hroom : s.Room r) (hon : s.chainsOn ≤ s.chainLimit) : t.chainsOn ≤ t.chainLimit := by
  have hlimit : t.chainLimit = s.chainLimit := by unfold State.chainLimit; rw [h.1]
  obtain ⟨-, -, htakes⟩ := hroom
  unfold State.chainTakes at htakes
  rw [hlimit]
  split at htakes
  · rename_i hbusy
    refine le_trans (le_of_eq ?_) hon
    unfold State.chainsOn
    refine congrArg _ (List.filter_congr (fun c _ => ?_))
    rw [h.chainLoad]
    split
    · simp_all
    · rfl
  · refine le_trans ?_ (of_decide_eq_true htakes)
    have hsub : (List.range 8).filter (fun c => decide (0 < t.chainLoad c)) ⊆
        r.chain :: (List.range 8).filter (fun c => decide (0 < s.chainLoad c)) := fun c hc => by
      rw [List.mem_filter, h.chainLoad] at hc
      by_cases hrc : c = r.chain <;> simp_all
    exact ((List.nodup_range.filter _).subperm hsub).length_le

/-- Two carriers of one chain are of two yards. -/
theorem State.Sends.yards_apart (h : s.Sends r t) (hroom : s.Room r)
    (hpair : s.onAir.Pairwise (fun a b => a.chain = b.chain → a.yard ≠ b.yard)) :
    t.onAir.Pairwise (fun a b => a.chain = b.chain → a.yard ≠ b.yard) := by
  obtain ⟨-, c, hair, hchain, hyard, -⟩ := h
  obtain ⟨-, hfree, -⟩ := hroom
  rw [hair, List.pairwise_append]
  refine ⟨hpair, List.pairwise_singleton _ _, fun a ha b hb hab hy => ?_⟩
  rw [List.mem_singleton.1 hb, hchain] at hab
  rw [List.mem_singleton.1 hb, hyard] at hy
  unfold State.carrierOf at hfree
  simpa [hab, hy] using List.any_eq_false.1 hfree a ha

/-- Two carriers of one front end do not meet on a channel. -/
theorem State.Sends.channels_apart (h : s.Sends r t) (hroom : s.Room r)
    (hpair : s.onAir.Pairwise (fun a b => a.chain / 2 = b.chain / 2 → chansMeet a.chan a.mode b.chan b.mode = false)) :
    t.onAir.Pairwise (fun a b => a.chain / 2 = b.chain / 2 → chansMeet a.chan a.mode b.chan b.mode = false) := by
  obtain ⟨-, c, hair, hchain, -, hchan, hmode⟩ := h
  obtain ⟨hbusy, -, -⟩ := hroom
  rw [hair, List.pairwise_append]
  refine ⟨hpair, List.pairwise_singleton _ _, fun a ha b hb hab => ?_⟩
  rw [List.mem_singleton.1 hb, hchain] at hab
  rw [List.mem_singleton.1 hb, hchan, hmode]
  unfold State.chanBusy at hbusy
  simpa [hab] using List.any_eq_false.1 hbusy a ha

end
end Sys2Proof.Machine
end

section
/-! PROOFS. O30: the transmit arbiter and the ends of frames (R13, R94, R127, R143, R144, R163). -/
namespace Sys2Proof.Machine

/-- Time passes to an instant, and not past it. -/
theorem State.elapseTo_raw_le {s : State} {r : Nat} (h : s.tsu.raw ≤ r) : (s.elapseTo r).tsu.raw ≤ r := by
  unfold State.elapseTo
  split
  · exact h
  · show (s.tsu.raw + (r - s.tsu.raw)) % _ ≤ r
    exact le_trans (Nat.mod_le _ _) (by omega)

@[simp] theorem State.elapseTo_air (s : State) (r : Nat) : (s.elapseTo r).air = s.air := by
  unfold State.elapseTo; split <;> rfl

@[simp] theorem State.fresh_air (s : State) : s.fresh.2.air = s.air := rfl

section
variable {s : State} {r : TxReq}

theorem State.requeue_of_queued (hreqs : s.air.reqs = [r]) (hq : r.queued = true) : s.requeue = s := by
  have hr : { r with queued := true } = r := by rw [← hq]
  unfold State.requeue
  simp only [hreqs, List.filter_singleton, hq, Bool.not_true, cond_false, List.map_nil, List.eraseDups_nil, List.foldl_nil,
    List.map_singleton, hr]
  rw [← hreqs]

theorem State.settle_of_kept (hreqs : s.air.reqs = [r]) (hkept : s.reqLapsed r = false) : s.settle = s := by
  unfold State.settle
  simp [hreqs, hkept]

/-- A grant has the one request before it that waits and may go. -/
theorem exec_chainGrant_single (bad : Option Nat) (symBad : Bool) (hreqs : s.air.reqs = [r]) (hq : r.queued = true)
    (hkept : s.reqLapsed r = false) (hemit : s.mayEmit = true) (hkeyed : s.keyed = true) (htx : s.yardTx r.yard = true)
    (hwait : (s.seq r.yard).wait = false) (hgo : s.reqStopped r = false) :
    Does (.chainGrant bad symBad) s (s.grant bad symBad [r]) := by
  unfold Does exec execChainGrant
  refine quiet_does ?_
  simp [State.requeue_of_queued hreqs hq, State.settle_of_kept hreqs hkept, hemit, hkeyed, hreqs, isort, kinsert, htx, hwait, hgo]

end

/-- An answer that is due asks for its chain (R143): what ANS_SEND leaves of a state in which it may be sent. -/
def State.askAnswer (u : State) (a : Ans) : State :=
  { u with air := { u.air with answers := u.air.answers.map (fun b : Ans => if b.id = a.id then { b with asked := true } else b) } }.ask
    { id := 0, kind := .answer a.id, yard := a.yard, yards := 2 ^ a.yard, chain := u.yardChain a.yard, chan := a.chan, mode := a.mode
      len := u.psduLen a.yard (u.ansLen a), latest := some (a.due + 10000), endBy := none, waited := false, heldBy := none, words := 0, queued := true }

/-- Settles O30: clause by clause, each by the command's own function; the limits of a grant hold because a grant starts one
carrier that has room, or none (`exec_chainGrant_sends`). -/
theorem framesLeaveInTheirTurn : Obligations.FramesLeaveInTheirTurn := by
  unfold Obligations.FramesLeaveInTheirTurn
  refine ⟨?single, ?limits, ?run, ?frameEnd, ?late, ?answer, ?ack⟩
  case single =>
    intro s bad symBad r hreqs hq hkept hemit hkeyed htx hwait hgo hscene hchan hyard
    have hgrant := exec_chainGrant_single bad symBad hreqs hq hkept hemit hkeyed htx hwait hgo
    refine ⟨fun htakes => ?_, fun htakes hload => ?_⟩ <;> simpa [State.grant, *] using hgrant
  case limits =>
    intro s t bad symBad h
    rcases exec_chainGrant_sends h with ⟨hair, hclk⟩ | ⟨r, hroom, hsends⟩
    · unfold State.chainsOn State.chainLimit State.chainLoad
      rw [hair, hclk]
      exact ⟨id, id, id, id⟩
    · exact ⟨hsends.chainsOn_le hroom, hsends.chainLoad_le hroom, hsends.yards_apart hroom, hsends.channels_apart hroom⟩
  case run =>
    rintro s u y a n stop hstarted hlive hserving hruns rfl hopen hrun rfl
    unfold Does exec execDownlinkRun
    refine quiet_does ?_
    dsimp only
    rw [if_neg (by simp [hstarted, hlive, hserving]), hruns, List.find?_cons_of_pos]
    exact decide_eq_true ⟨hopen, hrun⟩
  case frameEnd =>
    rintro s u chain y c hc rfl hpause
    unfold Does exec execTxFrameEnd
    refine quiet_does ?_
    simp [hc, hpause]
  case late =>
    intro s a hans hasked hlate
    unfold Does exec execAnsSend
    refine quiet_does ?_
    have hnow : s.elapseTo a.due = s := if_pos (by omega)
    simp [hans, hasked, isort, kinsert, hnow, hlate]
  case answer =>
    rintro s u a len hans hasked hdue rfl hsends rfl hyes
    have hnot : ¬ a.due + 10000 < (s.elapseTo a.due).tsu.raw := by have := State.elapseTo_raw_le hdue; omega
    have hrun : Does .ansSend s ((s.elapseTo a.due).askAnswer a) := by
      unfold Does exec execAnsSend
      refine quiet_does ?_
      simp only [hans, hasked, isort, kinsert, List.filter_singleton, Bool.not_false, cond_true, List.head?_cons, hsends, hnot, hyes,
        reduceCtorEq, or_self, if_false]
      rfl
    refine ⟨_, hrun, ?_, ?_, rfl⟩ <;> simp [State.askAnswer, State.ask, State.framed, hans]
  case ack =>
    rintro s u i it hit rfl hlive hstate
    unfold Does exec execAckWindowEnd
    refine ⟨fun hagain => quiet_does ?_, fun hspent hkind => quiet_does ?_⟩
    · simp [hit, hlive, hstate, hagain]
    · simp [hit, hlive, hstate, Nat.not_le.2 hspent, State.giveUpItem, hkind]

end Sys2Proof.Machine
end

section
/-! PROOFS. O26: YARD_CTL, its list and its six actions (R20, R54, R75, R105, R106). -/
namespace Sys2Proof.Machine

/-! ## The list -/

section
variable {s : State} {d e : Desc} {read : HostRead} {mine : Nat → Bool} {y : Nat}

theorem Desc.seen_did (h : d.seen s read = some e) : e.did = d.did := by
  unfold Desc.seen at h
  split at h
  · cases h
  · split at h <;> cases h
    rfl
  · cases h
    rfl

/-- The descriptor of a YARD_CTL whose action has begun. -/
def Desc.begunAt (d : Desc) (at_ : Int) : Desc := { d with stage := .begun, actTime := some at_ }

/-- A YARD_CTL with no launch time is judged and carried out at once (R54). -/
theorem State.yardCtl_eq_run (h : s.serves d 0x22) (he : d.seen s read = some e) (hmine : mine (leAt e.buf 0 1) = true)
    (hnow : e.launch = false) :
    s.yardCtl d.did read mine = ((s.holding e).beginDesc d.did).yardCtlRun (e.begunAt s.outputTime) := by
  have hsel : StageFree (fun d => mine (leAt d.buf 0 1)) := fun _ _ => rfl
  unfold State.yardCtl State.acceptLaunch
  rw [operationIn_serves h he hsel hmine, if_neg (by simp [hnow]), ← Desc.seen_did he]
  rfl

/-- A list of a right length for a yard in service is run on the yard that TARGET names. -/
theorem State.yardCtlRun_eq (htarget : e.target = y) (hy : y < 16) (hmul : e.len % 8 = 0) (hmin : 8 ≤ e.len) (hmax : e.len ≤ 128)
    (hlive : s.yardLive y = true) :
    s.yardCtlRun e = match s.yardList y 0 (yardActs e.buf) with
      | .error (st, i) => s.fail e st i
      | .ok t => if s.yardOnAir y && (yardActs e.buf).any (fun a => a.action == 1 || a.action == 2 || a.action == 5) then s
        else t.ok e (t.regValue .host (.YRD_STATE y)).toNat := by
  have hbits : bits e.target 3 0 = y := by unfold bits; omega
  unfold State.yardCtlRun State.yardCtlApply
  rw [hbits]
  simp only [hlive, Bool.true_eq_false, if_false]
  exact if_neg (by omega)

/-- What YARD_CTL does with a list whose records all may act. -/
theorem State.yardCtl_of_ok {t : State} (h : s.serves d 0x22) (he : d.seen s read = some e) (hmine : mine (leAt e.buf 0 1) = true)
    (hnow : e.launch = false) (htarget : e.target = y) (hy : y < 16) (hmul : e.len % 8 = 0) (hmin : 8 ≤ e.len) (hmax : e.len ≤ 128)
    (hlive : s.yardLive y = true) (hlist : ((s.holding e).beginDesc d.did).yardList y 0 (yardActs e.buf) = .ok t) :
    s.yardCtl d.did read mine =
      if s.yardOnAir y && (yardActs e.buf).any (fun a => a.action == 1 || a.action == 2 || a.action == 5)
      then (s.holding e).beginDesc d.did
      else t.ok (e.begunAt s.outputTime) (t.regValue .host (.YRD_STATE y)).toNat := by
  have hrun := State.yardCtlRun_eq (s := (s.holding e).beginDesc d.did) (e := e.begunAt s.outputTime) htarget hy hmul hmin hmax hlive
  rw [show (e.begunAt s.outputTime).buf = e.buf from rfl, hlist] at hrun
  exact (State.yardCtl_eq_run h he hmine hnow).trans hrun

/-- What YARD_CTL does with a list that has a record that may not act. -/
theorem State.yardCtl_of_error {st i : Nat} (h : s.serves d 0x22) (he : d.seen s read = some e)
    (hmine : mine (leAt e.buf 0 1) = true)
    (hnow : e.launch = false) (htarget : e.target = y) (hy : y < 16) (hmul : e.len % 8 = 0) (hmin : 8 ≤ e.len) (hmax : e.len ≤ 128)
    (hlive : s.yardLive y = true) (hlist : ((s.holding e).beginDesc d.did).yardList y 0 (yardActs e.buf) = .error (st, i)) :
    s.yardCtl d.did read mine = ((s.holding e).beginDesc d.did).fail (e.begunAt s.outputTime) st i := by
  have hrun := State.yardCtlRun_eq (s := (s.holding e).beginDesc d.did) (e := e.begunAt s.outputTime) htarget hy hmul hmin hmax hlive
  rw [show (e.begunAt s.outputTime).buf = e.buf from rfl, hlist] at hrun
  exact (State.yardCtl_eq_run h he hmine hnow).trans hrun

end

/-! ## What the actions write -/

section
variable (s : State)

theorem State.sf_of_sts {s t : State} (h : t.sts = s.sts) (r : Reg) (f : Fld) : t.sf r f = s.sf r f := by
  unfold State.sf
  rw [h]

theorem State.checkSpares_sts : s.checkSpares.sts = s.sts := by
  unfold State.checkSpares
  dsimp only
  split
  · rfl
  · split <;> rfl

theorem State.checkSuspend_sts : s.checkSuspend.sts = s.sts := by
  have hrearm : s.rearmSpares.sts = s.sts := by unfold State.rearmSpares; split <;> rfl
  unfold State.checkSuspend
  dsimp only
  split
  · split <;> exact hrearm
  · exact hrearm

theorem State.withdrawn_checkSpares (y k : Nat) : s.checkSpares.withdrawn y k = s.withdrawn y k := by
  unfold State.withdrawn
  rw [State.sf_of_sts s.checkSpares_sts]

theorem State.withdrawn_checkSuspend (y k : Nat) : s.checkSuspend.withdrawn y k = s.withdrawn y k := by
  unfold State.withdrawn
  rw [State.sf_of_sts s.checkSuspend_sts]

theorem State.role_checkSuspend (n : Nat) : s.checkSuspend.role n = s.role n := State.sf_of_sts s.checkSuspend_sts _ _

theorem State.laneEntry_checkSuspend (n : Nat) : s.checkSuspend.laneEntry n = s.laneEntry n := State.sf_of_sts s.checkSuspend_sts _ _

theorem State.sf_recap_other {q : Reg} {y : Nat} (hcap : q.offset ≠ (Reg.YRD_CAP y).offset) (hevt : q.offset ≠ (Reg.YRD_EVT y).offset)
    (g : Fld) : (s.recap y).sf q g = s.sf q g := by
  unfold State.recap
  dsimp only
  split
  · rfl
  · rw [State.sf_setSf_other _ hevt, State.sf_setSf_other _ hcap]

/-- An entry withdrawn reads as withdrawn. -/
theorem State.withdrawEntry_withdrawn {y k : Nat} (hk : k < 128) : (s.withdrawEntry y k).withdrawn y k = true := by
  have hbit : (⟨k % 32, k % 32⟩ : Fld).inWord := by unfold Fld.inWord; dsimp only; omega
  unfold State.withdrawEntry State.withdrawn
  rw [State.sf_recap_other _ (by simp only [Reg.offset]; omega) (by simp only [Reg.offset]; omega)]
  have hstate : (Reg.YRD_WDRAW y (k / 32)).offset ≠ (Reg.YRD_STATE y).offset := by simp only [Reg.offset]; omega
  split
  · rw [State.sf_setSf_other _ hstate, State.sf_setSf_other _ hstate, State.sf_setSf_same _ _ hbit]
    simp
  · rw [State.sf_setSf_other _ hstate, State.sf_setSf_same _ _ hbit]
    simp

/-- An entry restored does not read as withdrawn. -/
theorem State.restoreEntry_withdrawn {y k : Nat} (hk : k < 128) : (s.restoreEntry y k).withdrawn y k = false := by
  have hbit : (⟨k % 32, k % 32⟩ : Fld).inWord := by unfold Fld.inWord; dsimp only; omega
  unfold State.restoreEntry State.withdrawn
  rw [State.sf_recap_other _ (by simp only [Reg.offset]; omega) (by simp only [Reg.offset]; omega)]
  have hstate : (Reg.YRD_WDRAW y (k / 32)).offset ≠ (Reg.YRD_STATE y).offset := by simp only [Reg.offset]; omega
  split
  · rw [State.sf_setSf_other _ hstate, State.sf_setSf_other _ hstate, State.sf_setSf_same _ _ hbit]
    simp
  · rw [State.sf_setSf_other _ hstate, State.sf_setSf_same _ _ hbit]
    simp

/-- Restoring an entry writes no lane's assignment. -/
theorem State.sf_restoreEntry_lane {y k : Nat} (_ : y < 16) (hk : k < 128) (n : Nat) (g : Fld) :
    (s.restoreEntry y k).sf (.LNE_ASSIGN n) g = s.sf (.LNE_ASSIGN n) g := by
  have hstate : (Reg.LNE_ASSIGN n).offset ≠ (Reg.YRD_STATE y).offset := by simp only [Reg.offset]; omega
  have hwdraw : (Reg.LNE_ASSIGN n).offset ≠ (Reg.YRD_WDRAW y (k / 32)).offset := by simp only [Reg.offset]; omega
  unfold State.restoreEntry
  rw [State.sf_recap_other _ (by simp only [Reg.offset]; omega) (by simp only [Reg.offset]; omega)]
  split
  · rw [State.sf_setSf_other _ hstate, State.sf_setSf_other _ hstate, State.sf_setSf_other _ hwdraw]
  · rw [State.sf_setSf_other _ hstate, State.sf_setSf_other _ hwdraw]

theorem laneWord_role {role low word : Nat} (hrole : role < 8) (hlow : low < 2 ^ 29) (h : word = role * 2 ^ 29 + low) :
    word / 2 ^ 29 % 2 ^ 3 = role := by
  subst h
  rw [Nat.mul_comm, Nat.mul_add_div (by decide), Nat.div_eq_of_lt hlow]
  omega

theorem laneWord_entry {high idx chan word : Nat} (hidx : idx < 128) (hchan : chan < 128)
    (h : word = high * 2 ^ 19 + idx * 2 ^ 12 + chan) : word / 2 ^ 12 % 2 ^ 7 = idx := by
  omega

/-- A lane's assignment reads as it was written (R75). -/
theorem State.assignLane_reads {n role y : Nat} {p : PlanEntry} (hrole : role < 8) (hy : y < 16) (hmode : p.mode < 8)
    (hidx : p.idx < 128) (hchan : p.chan < 128) :
    (s.assignLane n role y p).role n = role ∧ (s.assignLane n role y p).laneEntry n = p.idx := by
  have hfe : y / 4 < 4 := by omega
  have hlow : y / 4 * 2 ^ 27 + p.mode * 2 ^ 24 + y * 2 ^ 20 + p.idx * 2 ^ 12 + p.chan < 2 ^ 29 := by linarith
  have hword : role * 2 ^ 29 + y / 4 * 2 ^ 27 + p.mode * 2 ^ 24 + y * 2 ^ 20 + p.idx * 2 ^ 12 + p.chan < 2 ^ 32 := by linarith
  unfold State.assignLane State.role State.laneEntry State.sf State.setSw
  dsimp only
  rw [RegFile.get_put_same]
  unfold Fld.get F.LNE_ASSIGN_ROLE F.LNE_ASSIGN_ENTRY
  dsimp only
  rw [BitVec.toNat_ofNat, Nat.mod_eq_of_lt hword, Nat.shiftRight_eq_div_pow, Nat.shiftRight_eq_div_pow]
  exact ⟨laneWord_role hrole hlow (by ac_rfl),
    laneWord_entry (high := role * 2 ^ 10 + y / 4 * 2 ^ 8 + p.mode * 2 ^ 5 + y * 2) hidx hchan (by omega)⟩

end

theorem State.planEntry_fits {s : State} {y k : Nat} {p : PlanEntry} (h : s.planEntry y k = some p) :
    p.idx = k ∧ p.mode < 8 ∧ p.chan < 128 := by
  unfold State.planEntry at h
  dsimp only at h
  split at h
  · cases h
    exact ⟨rfl, Fld.get_lt F.YRD_PLAN_MODE _, Fld.get_lt F.YRD_PLAN_CHAN _⟩
  · cases h

/-- A lane taken for an entry that is restored is ACTIVE on that entry (R105). -/
theorem State.restored_reads (s : State) {sp y k : Nat} {p : PlanEntry} (hy : y < 16) (hk : k < 128) (hidx : p.idx = k)
    (hmode : p.mode < 8) (hchan : p.chan < 128) :
    ((s.takeSpare sp y p).restoreEntry y p.idx).role sp = rACTIVE
      ∧ ((s.takeSpare sp y p).restoreEntry y p.idx).laneEntry sp = k := by
  obtain ⟨hrole, hentry⟩ := (s.endTest sp).assignLane_reads (n := sp) (role := rACTIVE) (by decide) hy hmode (hidx ▸ hk) hchan
  unfold State.role State.laneEntry at *
  rw [State.sf_restoreEntry_lane _ hy (hidx ▸ hk), State.sf_restoreEntry_lane _ hy (hidx ▸ hk)]
  exact ⟨hrole, hentry.trans hidx⟩

/-- The entry of a lane under test, as its shadow takes it (R84). -/
def State.shadowEntry (s : State) (n : Nat) : PlanEntry :=
  { idx := s.laneEntry n, beacon := false, tx := false, rx := true, prio := 0
    mode := s.sf (.LNE_ASSIGN n) F.LNE_ASSIGN_MODE, chan := s.sf (.LNE_ASSIGN n) F.LNE_ASSIGN_CHAN }

theorem State.shadowTest_sts (s : State) (n sh : Nat) :
    (s.shadowTest n sh).sts = (s.assignLane sh rSHADOW (s.laneYard n) (s.shadowEntry n)).sts := rfl

theorem State.shadowTest_role (s : State) (n sh : Nat) : (s.shadowTest n sh).role sh = rSHADOW := by
  have hyard : s.laneYard n < 16 := Fld.get_lt F.LNE_ASSIGN_YARD _
  have hmode : (s.shadowEntry n).mode < 8 := Fld.get_lt F.LNE_ASSIGN_MODE _
  have hidx : (s.shadowEntry n).idx < 128 := Fld.get_lt F.LNE_ASSIGN_ENTRY _
  have hchan : (s.shadowEntry n).chan < 128 := Fld.get_lt F.LNE_ASSIGN_CHAN _
  exact (State.sf_of_sts (s.shadowTest_sts n sh) _ _).trans (s.assignLane_reads (by decide) hyard hmode hidx hchan).1

theorem State.setRole_lanes (s : State) (n role : Nat) : (s.setRole n role).lanes = s.lanes := by
  unfold State.setRole
  rw [State.setSf_lanes, State.setSf_lanes, State.setSf_lanes]

theorem State.setRole_tsu (s : State) (n role : Nat) : (s.setRole n role).tsu = s.tsu := by
  unfold State.setRole
  rw [State.setSf_tsu, State.setSf_tsu, State.setSf_tsu]

theorem State.assignLane_lanes (s : State) (n role y : Nat) (p : PlanEntry) : (s.assignLane n role y p).lanes = s.lanes := by
  unfold State.assignLane
  rw [State.setSw_lanes, State.setRole_lanes]

theorem State.assignLane_tsu (s : State) (n role y : Nat) (p : PlanEntry) : (s.assignLane n role y p).tsu = s.tsu := by
  unfold State.assignLane
  rw [State.setSw_tsu, State.setRole_tsu]

theorem State.shadowTest_tests (s : State) (n sh : Nat) :
    (s.shadowTest n sh).lanes.tests = s.lanes.tests ++ [⟨n, some sh, false, s.tsu.raw⟩] := by
  unfold State.shadowTest
  dsimp only
  rw [State.assignLane_lanes, State.assignLane_tsu]

theorem State.yardState_setRun {s : State} {y : Nat} (f : Fld) (v : Nat) :
    (s.setSf (.YRD_RUN y) f v).yardState y = s.yardState y :=
  s.sf_setSf_other (by simp only [Reg.offset]; omega) _ _ _

/-! ## The six commands: each takes the lists that begin with its action -/

section
variable (did : Nat) (read : HostRead) (s : State)

theorem exec_yardCtlHalt : exec (.yardCtlHalt did read) s = quiet (fun s => s.yardCtl did read (fun a => a == 1 || a == 0 || decide (6 < a))) s := rfl
theorem exec_yardCtlResume : exec (.yardCtlResume did read) s = quiet (fun s => s.yardCtl did read (fun a => a == 2)) s := rfl
theorem exec_yardCtlWithdraw : exec (.yardCtlWithdraw did read) s = quiet (fun s => s.yardCtl did read (fun a => a == 3)) s := rfl
theorem exec_yardCtlRestore : exec (.yardCtlRestore did read) s = quiet (fun s => s.yardCtl did read (fun a => a == 4)) s := rfl
theorem exec_yardCtlTxpwr : exec (.yardCtlTxpwr did read) s = quiet (fun s => s.yardCtl did read (fun a => a == 5)) s := rfl
theorem exec_yardCtlTest : exec (.yardCtlTest did read) s = quiet (fun s => s.yardCtl did read (fun a => a == 6)) s := rfl

end

/-! ## The six actions -/

section
variable {s : State} {y k v : Nat}

theorem State.yardAct_halt : ∃ t, s.yardAct y ⟨1, k, v, 0⟩ = .ok t ∧ t.yardState y = yHALTED := by
  refine ⟨_, rfl, ?_⟩
  rw [State.yardState_setRun]
  exact s.sf_setSf_same _ (by decide) _

theorem State.yardAct_resume (hhalted : s.yardState y = yHALTED) :
    ∃ t, s.yardAct y ⟨2, k, v, 0⟩ = .ok t ∧ t.yardState y = if s.anyWithdrawn y then yDEGRADED else yRUNNING := by
  refine ⟨_, if_pos hhalted, ?_⟩
  refine (State.yardState_setRun (s := s.setSf (.YRD_STATE y) F.YRD_STATE_STATE _) _ _).trans ?_
  refine (s.sf_setSf_same _ (by decide) _).trans ?_
  split <;> rfl

theorem State.yardAct_withdraw {p : PlanEntry} (hk : k < 128) (hplan : s.planEntry y k = some p) (hrx : p.rx = true)
    (hbeacon : p.beacon = false) (hin : s.withdrawn y k = false) :
    ∃ t, s.yardAct y ⟨3, k, v, 0⟩ = .ok t ∧ t.withdrawn y k = true := by
  obtain ⟨hidx, -, -⟩ := State.planEntry_fits hplan
  refine ⟨(((s.freeEntry y p.idx).withdrawEntry y p.idx).checkSpares).checkSuspend, ?_, ?_⟩
  · simp [State.yardAct, hk, hplan, hrx, hbeacon, hidx, hin]
  · rw [State.withdrawn_checkSuspend, State.withdrawn_checkSpares, hidx]
    exact State.withdrawEntry_withdrawn _ hk

theorem State.yardAct_restore {p : PlanEntry} {sp : Nat} (hy : y < 16) (hk : k < 128) (hplan : s.planEntry y k = some p)
    (hout : s.withdrawn y k = true) (hspare : s.lowestSpare = some sp) :
    ∃ t, s.yardAct y ⟨4, k, v, 0⟩ = .ok t ∧ t.withdrawn y k = false ∧ t.role sp = rACTIVE ∧ t.laneEntry sp = k := by
  obtain ⟨hidx, hmode, hchan⟩ := State.planEntry_fits hplan
  obtain ⟨hrole, hentry⟩ := s.restored_reads (sp := sp) hy hk hidx hmode hchan
  refine ⟨((s.takeSpare sp y p).restoreEntry y p.idx).checkSuspend, ?_, ?_, ?_, ?_⟩
  · simp [State.yardAct, hk, hplan, hidx, hout, hspare]
  · rw [State.withdrawn_checkSuspend, hidx]
    exact State.restoreEntry_withdrawn _ hk
  · rw [State.role_checkSuspend, hrole]
  · rw [State.laneEntry_checkSuspend, hentry]

theorem State.yardAct_txpwr (hv : v ≤ s.cf (.YRD_CFG y) F.YRD_CFG_TXPWR) :
    ∃ t, s.yardAct y ⟨5, k, v, 0⟩ = .ok t ∧ t.sf (.YRD_RUN y) F.YRD_RUN_TXPWR_RUN = v := by
  refine ⟨_, if_pos hv, ?_⟩
  rw [State.sf_setSf_same _ _ (by decide)]
  have hfits : s.cf (.YRD_CFG y) F.YRD_CFG_TXPWR < 2 ^ 8 := Fld.get_lt F.YRD_CFG_TXPWR _
  exact Nat.mod_eq_of_lt (lt_of_le_of_lt hv hfits)

theorem State.yardAct_test {p : PlanEntry} {n sh : Nat} (hk : k < 128) (hplan : s.planEntry y k = some p) (hrx : p.rx = true)
    (hin : s.withdrawn y k = false) (hlane : s.laneOf y k = some n) (htest : s.testOf n = none) (hspare : s.idleSpare = some sh) :
    ∃ t, s.yardAct y ⟨6, k, v, 0⟩ = .ok t ∧ t.role sh = rSHADOW
      ∧ t.lanes.tests = s.lanes.tests ++ [⟨n, some sh, false, s.tsu.raw⟩] := by
  obtain ⟨hidx, -, -⟩ := State.planEntry_fits hplan
  refine ⟨s.shadowTest n sh, ?_, s.shadowTest_role n sh, s.shadowTest_tests n sh⟩
  simp [State.yardAct, hk, hplan, hrx, hidx, hin, hlane, htest, hspare]

end

/-- Settles O26: the list by `State.yardCtl_of_ok` and `State.yardCtl_of_error`, each action by what its writes read as. -/
theorem yardControlActsOnItsYard : Obligations.YardControlActsOnItsYard := by
  unfold Obligations.YardControlActsOnItsYard
  refine ⟨?list, ?refused, ?actions⟩
  case list =>
    rintro s t d e read y held h he hnow htarget hy hmul hmin hmax hlive hlist rfl c h1 h2 h3 h4 h5 h6 hlo hhi
    have hdoes : ∀ mine : Nat → Bool, exec c s = quiet (fun s => s.yardCtl d.did read mine) s → mine (leAt e.buf 0 1) = true →
        Does c s _ := fun mine hc hmine =>
      hc.trans (quiet_does (State.yardCtl_of_ok h he hmine hnow htarget hy hmul hmin hmax hlive hlist))
    have hact : leAt e.buf 0 1 = 1 ∨ leAt e.buf 0 1 = 2 ∨ leAt e.buf 0 1 = 3 ∨ leAt e.buf 0 1 = 4 ∨ leAt e.buf 0 1 = 5
      ∨ leAt e.buf 0 1 = 6 := by omega
    rcases hact with ha | ha | ha | ha | ha | ha
    · exact hdoes _ (h1 ha ▸ exec_yardCtlHalt _ _ _) (by rw [ha]; rfl)
    · exact hdoes _ (h2 ha ▸ exec_yardCtlResume _ _ _) (by rw [ha]; rfl)
    · exact hdoes _ (h3 ha ▸ exec_yardCtlWithdraw _ _ _) (by rw [ha]; rfl)
    · exact hdoes _ (h4 ha ▸ exec_yardCtlRestore _ _ _) (by rw [ha]; rfl)
    · exact hdoes _ (h5 ha ▸ exec_yardCtlTxpwr _ _ _) (by rw [ha]; rfl)
    · exact hdoes _ (h6 ha ▸ exec_yardCtlTest _ _ _) (by rw [ha]; rfl)
  case refused =>
    intro s d e read y st i h he hnow htarget hy hmul hmin hmax hlive hact hlist
    exact (exec_yardCtlHalt _ _ _).trans
      (quiet_does (State.yardCtl_of_error h he (by rw [hact]; rfl) hnow htarget hy hmul hmin hmax hlive hlist))
  case actions =>
    intro s y k v hy
    exact ⟨State.yardAct_halt, State.yardAct_resume, fun p => State.yardAct_withdraw, fun p sp => State.yardAct_restore hy,
      State.yardAct_txpwr, fun p n sh => State.yardAct_test⟩

end Sys2Proof.Machine
end

section
/-! PROOFS. O7: what a command may make of the file of host-written fields: a register write puts one entry, a reset takes entries
out, and nothing else touches it (R21, R25, R63, R497, R510). -/
namespace Sys2Proof.Machine

/-! ## What the resets leave of the file -/

/-- The file of host-written fields `l` stands, or a reset of the module, of the PCIe function or of the newt domain has taken out of
it what that reset clears. -/
inductive Refiled (l : RegFile) : RegFile → Prop
  | kept : Refiled l l
  | moduleReset (pcie : Bool) : Refiled l (l.afterReset pcie)
  | functionReset : Refiled l
      ((l.put .SWX_HRX_HEAD (F.SWX_HRX_HEAD_HEAD.set (l.get .SWX_HRX_HEAD) 0)).filter (fun q => !q.1.isMsix))
  | newtReset : Refiled l (l.filter (fun q => !q.1.inNewt))

theorem RegFile.filter_canon {l : RegFile} (h : l.canon) (p : Reg × BitVec 32 → Bool) : RegFile.canon (l.filter p) :=
  ⟨h.1.filter _, fun q hq => h.2 q (List.mem_of_mem_filter hq)⟩

theorem Refiled.canon {l m : RegFile} (h : Refiled l m) (hl : l.canon) : m.canon := by
  cases h with
  | kept => exact hl
  | moduleReset => exact RegFile.filter_canon hl _
  | functionReset => exact RegFile.filter_canon (RegFile.put_canon _ _ hl) _
  | newtReset => exact RegFile.filter_canon hl _

theorem Refiled.of_eq {l m : RegFile} (h : m = l) : Refiled l m := h ▸ .kept

/-- The same of two states' files. -/
def State.Refiles (s t : State) : Prop := Refiled s.cfg t.cfg

theorem State.Refiles.of_eq {s t : State} (h : t.cfg = s.cfg) : s.Refiles t := Refiled.of_eq h
theorem State.Refiles.kept {s : State} : s.Refiles s := Refiled.kept

theorem State.Refiles.canon {s t : State} (h : s.Refiles t) (hs : s.cfg.canon) : t.cfg.canon := Refiled.canon h hs

section
variable (s : State)

/-! ## The resets -/

@[simp] theorem State.elapseTo_cfg (r : Nat) : (s.elapseTo r).cfg = s.cfg := by
  unfold State.elapseTo
  split
  · rfl
  · exact s.elapse_cfg _
@[simp] theorem State.elapseRtc_cfg (r : Nat) : (s.elapseRtc r).cfg = s.cfg := by
  unfold State.elapseRtc
  split
  · rfl
  · exact s.elapse_cfg _
@[simp] theorem State.fresh_cfg : s.fresh.2.cfg = s.cfg := rfl
@[simp] theorem State.fail_cfg (d : Desc) (st det : Nat) : (s.fail d st det).cfg = s.cfg :=
  State.cfg_of_steady (s.fail_steady d st det)

theorem State.clear_cfg (phase : Phase) (pcie : Bool) : (s.clear phase pcie).cfg = s.cfg.afterReset pcie := rfl

theorem State.moduleReset_cfg (src detail : Nat) (pcie : Bool) : (s.moduleReset src detail pcie).cfg = s.cfg.afterReset pcie := by
  unfold State.moduleReset
  simp only [State.setSf_cfg, State.clear_cfg, State.hold_cfg]

variable {s}

/-- A state that has the file of `s` is reset. -/
theorem State.moduleReset_refiled {u : State} (h : u.cfg = s.cfg) (src detail : Nat) (pcie : Bool) :
    s.Refiles (u.moduleReset src detail pcie) := by
  unfold State.Refiles
  rw [State.moduleReset_cfg, h]
  exact .moduleReset pcie

theorem State.pcieReset_refiled {u : State} (h : u.cfg = s.cfg) (down : Bool) : s.Refiles (u.pcieReset down) := by
  unfold State.Refiles
  rw [State.pcieReset_cfg, h]
  exact .functionReset

/-- An operation turned away keeps the file; one that is served does to it what its body does. -/
theorem State.operation_refiled {did op : Nat} {sel : Desc → Bool} {body : State → Desc → State}
    (h : ∀ u d, u.cfg = s.cfg → s.Refiles (body u d)) : s.Refiles (s.operation did op sel body) := by
  unfold State.operation
  split
  · exact .kept
  · split
    · split
      · exact .of_eq (s.fail_cfg _ _ _)
      · exact h _ _ rfl
    · exact .kept

/-! ## What leads to a reset -/

theorem State.srcConsequence_refiled {u : State} (h : u.cfg = s.cfg) (k : Nat) (refin : Bool) :
    s.Refiles (u.srcConsequence k refin) := by
  have hheld : ∀ f, s.Refiles (u.hold f) := fun f => .of_eq ((u.hold_cfg f).trans h)
  unfold State.srcConsequence
  split
  case h_4 => exact State.pcieReset_refiled h _
  case h_7 => exact .of_eq h
  all_goals exact hheld _

theorem State.srcFail_refiled {u : State} (h : u.cfg = s.cfg) (k cause : Nat) : s.Refiles (u.srcFail k cause) := by
  unfold State.srcFail
  extract_lets v
  have hv : v.cfg = s.cfg := (u.hold_cfg _).trans h
  clear_value v
  split
  · exact State.moduleReset_refiled hv _ _ _
  · exact State.srcConsequence_refiled hv _ _

theorem State.lizEraseNow_refiled {u : State} (h : u.cfg = s.cfg) : s.Refiles u.lizEraseNow := by
  unfold State.lizEraseNow
  exact State.moduleReset_refiled (by simp [State.usbAnswer, h]) _ _ _

theorem State.lizPresence_refiled {u : State} (h : u.cfg = s.cfg) : s.Refiles u.lizPresence := by
  unfold State.lizPresence
  split
  · exact .of_eq ((u.hold_cfg _).trans h)
  · split
    · exact State.lizEraseNow_refiled h
    · exact .of_eq h

theorem State.lizAsk_refiled {u : State} (h : u.cfg = s.cfg) (k : Nat) : s.Refiles (u.lizAsk k) := by
  unfold State.lizAsk
  extract_lets _ v
  have hv : v.cfg = s.cfg := h
  clear_value v
  split
  · exact State.lizPresence_refiled ((v.hold_cfg _).trans hv)
  · exact .of_eq hv

theorem State.presence_refiled {u : State} (h : u.cfg = s.cfg) (procedure : Nat) : s.Refiles (u.presence procedure) := by
  unfold State.presence
  extract_lets v
  have hv : v.cfg = s.cfg := (u.hold_cfg _).trans h
  clear_value v
  split
  · exact State.lizPresence_refiled ((v.event_cfg _ _ _ _ _).trans hv)
  · exact .of_eq ((v.hold_cfg _).trans hv)

theorem State.sealCloses_refiled {u : State} (h : u.cfg = s.cfg) : s.Refiles u.sealCloses := by
  unfold State.sealCloses
  extract_lets v
  have hv : v.cfg = s.cfg := (u.setSf_cfg _ _ _).trans h
  clear_value v
  split
  · exact .of_eq hv
  · split
    · exact State.presence_refiled (by exact hv) _
    · exact .of_eq ((v.hold_cfg _).trans hv)

theorem State.sampleSeal_refiled {u : State} (h : u.cfg = s.cfg) (closed : Bool) : s.Refiles (u.sampleSeal closed) := by
  have hheld : ∀ f, s.Refiles (u.hold f) := fun f => .of_eq ((u.hold_cfg f).trans h)
  unfold State.sampleSeal
  split
  · split
    · exact .of_eq h
    · exact hheld _
  · split
    · exact State.sealCloses_refiled h
    · split
      · split
        · exact hheld _
        · exact .of_eq h
      · exact .of_eq h

end

/-! ## The commands that may reset -/

section
variable {s t : State}

/-- A command that may write host-written fields does to the file what its function does. -/
theorem loud_refiled {f : State → State} (h : loud f s = .next t) (hf : s.Refiles (f s)) : s.Refiles t := by
  rw [loud_next h]
  exact hf

theorem exec_resetModule_refiled {did : Nat} (h : exec (.resetModule did) s = .next t) : s.Refiles t := by
  replace h : execResetModule did s = .next t := h
  unfold execResetModule at h
  refine loud_refiled h ?_
  refine State.operation_refiled (s := s) (fun u d hu => ?_)
  split
  · exact .of_eq ((u.fail_cfg _ _ _).trans hu)
  · exact State.moduleReset_refiled (by simp [hu]) _ _ _

theorem exec_resetN_refiled {ns : Nat} (h : exec (.resetN ns) s = .next t) : s.Refiles t := by
  replace h : execResetN ns s = .next t := h
  unfold execResetN at h
  refine loud_refiled h ?_
  split
  · exact .kept
  · dsimp only
    split
    · exact State.moduleReset_refiled (by simp) _ _ _
    · split
      · exact State.moduleReset_refiled (by simp) _ _ _
      · exact .kept

theorem exec_watchdogTimeout_refiled {silent : Option Nat} (h : exec (.watchdogTimeout silent) s = .next t) : s.Refiles t := by
  replace h : execWatchdogTimeout silent s = .next t := h
  unfold execWatchdogTimeout at h
  refine loud_refiled h ?_
  split
  · exact .kept
  · refine State.moduleReset_refiled ?_ _ _ _
    rw [State.elapse_cfg]
    split
    · split <;> rfl
    · rfl

theorem exec_pllRelockTimeout_refiled (h : exec .pllRelockTimeout s = .next t) : s.Refiles t := by
  replace h : execPllRelockTimeout s = .next t := h
  unfold execPllRelockTimeout at h
  refine loud_refiled h ?_
  split
  · exact State.moduleReset_refiled (s.elapse_cfg _) _ _ _
  · exact .kept

theorem exec_powerLoss_refiled {form : PowerForm} (h : exec (.powerLoss form) s = .next t) : s.Refiles t := by
  replace h : execPowerLoss form s = .next t := h
  unfold execPowerLoss at h
  cases form with
  | loss tear =>
    refine loud_refiled h ?_
    dsimp only
    split
    · exact .kept
    · cases tear <;> exact .moduleReset false
  | sagRidden => obtain rfl := quiet_next h; exact .kept
  | sagDisturbs =>
    dsimp only at h
    split at h
    · obtain rfl := quiet_next h; exact .kept
    · cases h

theorem exec_powerOn_refiled (h : exec .powerOn s = .next t) : s.Refiles t := by
  replace h : execPowerOn s = .next t := h
  unfold execPowerOn at h
  refine loud_refiled h ?_
  split
  · exact .kept
  · dsimp only
    rw [State.clear_cfg, State.elapse_cfg]
    exact .moduleReset false

theorem exec_pcieFunctionReset_refiled {kind : PcieReset} (h : exec (.pcieFunctionReset kind) s = .next t) : s.Refiles t := by
  replace h : execPcieFunctionReset kind s = .next t := h
  unfold execPcieFunctionReset at h
  refine loud_refiled h ?_
  have hreset := State.pcieReset_refiled (s := s) (u := s) rfl (kind != .flr)
  split
  · exact .kept
  · dsimp only
    split <;> exact hreset

theorem exec_clkSourceFail_refiled {src cause : Nat} (h : exec (.clkSourceFail src cause) s = .next t) : s.Refiles t := by
  replace h : execClkSourceFail src cause s = .next t := h
  unfold execClkSourceFail at h
  refine loud_refiled h ?_
  extract_lets edge pll again
  split
  · exact .kept
  · split
    · split
      · exact State.srcFail_refiled (u := s) rfl _ _
      · split <;> exact .kept
    · split
      · exact State.srcFail_refiled (s.hold_cfg _) _ _
      · exact .kept

/-- Finding the source to charge takes the time of a window at most. -/
theorem State.charged_cfg (s : State) (k : Nat) (lf : Bool) : (s.charged k lf).1.cfg = s.cfg := by
  unfold State.charged
  split
  · split
    · rfl
    · exact s.elapse_cfg _
  · rfl

theorem exec_clkMonitorWindow_refiled {src : Nat} {inTol lfCharges : Bool}
    (h : exec (.clkMonitorWindow src inTol lfCharges) s = .next t) : s.Refiles t := by
  replace h : execClkMonitorWindow src inTol lfCharges s = .next t := h
  unfold execClkMonitorWindow at h
  refine loud_refiled h ?_
  extract_lets w n t0 _ t1 out _ t2 c _ _ u good t3
  have ht1 : t1.cfg = s.cfg := s.elapseTo_cfg _
  have ht2 : t2.cfg = s.cfg := ht1
  have hu : u.cfg = s.cfg := (t2.charged_cfg _ _).trans ht2
  have ht3 : t3.cfg = s.cfg := ht1
  clear_value t1 t2 u t3
  split
  · exact .kept
  · split
    · split
      · exact .of_eq ht2
      · split
        · exact State.srcFail_refiled hu _ _
        · exact .of_eq hu
    · split
      · exact .of_eq ((t3.hold_cfg _).trans ht3)
      · exact .of_eq ht3

theorem exec_newtPor_refiled (h : exec .newtPor s = .next t) : s.Refiles t := by
  replace h : execNewtPor s = .next t := h
  unfold execNewtPor at h
  refine loud_refiled h ?_
  split <;> exact .newtReset

theorem exec_presenceButton_refiled {ms : Nat} (h : exec (.presenceButton ms) s = .next t) : s.Refiles t := by
  replace h : execPresenceButton ms s = .next t := h
  unfold execPresenceButton at h
  refine loud_refiled h ?_
  split
  · exact State.presence_refiled (by simp) _
  · exact .kept

/-- A seal loop that is closed opens first. -/
theorem State.sealBegun_cfg (s : State) :
    State.cfg (if s.sf .SEC_TAMPER_IN F.SEC_TAMPER_IN_SEAL = 1 then s.hold State.sealOpens else s) = s.cfg := by
  split
  · exact s.hold_cfg _
  · rfl

theorem exec_presenceSeal_refiled {openMs : Nat} (h : exec (.presenceSeal openMs) s = .next t) : s.Refiles t := by
  replace h : execPresenceSeal openMs s = .next t := h
  unfold execPresenceSeal at h
  exact loud_refiled h (State.sealCloses_refiled ((State.elapseTo_cfg _ _).trans s.sealBegun_cfg))

theorem exec_tamperSample_refiled {door sealLoop btn : Bool} {mesh : Mesh} (h : exec (.tamperSample door sealLoop btn mesh) s = .next t) :
    s.Refiles t := by
  replace h : execTamperSample door sealLoop btn mesh s = .next t := h
  unfold execTamperSample at h
  refine loud_refiled h ?_
  split
  · exact .kept
  · dsimp only
    refine State.sampleSeal_refiled ?_ _
    rw [State.hold_cfg, State.setSf_cfg, State.elapseRtc_cfg]

theorem exec_lizardEnter_refiled {did : Nat} (h : exec (.lizardEnter did) s = .next t) : s.Refiles t := by
  replace h : execLizardEnter did s = .next t := h
  unfold execLizardEnter at h
  refine loud_refiled h ?_
  refine State.operation_refiled (s := s) (fun u d hu => ?_)
  split
  · exact .of_eq ((u.fail_cfg _ _ _).trans hu)
  · exact State.moduleReset_refiled (by simp [hu]) _ _ _

theorem exec_radioPauseEnd_refiled {ok shedSig : Bool} (h : exec (.radioPauseEnd ok shedSig) s = .next t) : s.Refiles t := by
  replace h : execRadioPauseEnd ok shedSig s = .next t := h
  unfold execRadioPauseEnd at h
  refine loud_refiled h ?_
  split
  · exact .kept
  · split
    · split
      · exact .kept
      · exact State.moduleReset_refiled (by simp) _ _ _
    · exact .kept

theorem exec_activationPauseEnd_refiled {ok : Bool} (h : exec (.activationPauseEnd ok) s = .next t) : s.Refiles t := by
  replace h : execActivationPauseEnd ok s = .next t := h
  unfold execActivationPauseEnd at h
  refine loud_refiled h ?_
  split
  · exact .kept
  · split
    · exact State.moduleReset_refiled (by simp) _ _ _
    · exact .kept

theorem exec_confirmWindowExpiry_refiled (h : exec .confirmWindowExpiry s = .next t) : s.Refiles t := by
  replace h : execConfirmWindowExpiry s = .next t := h
  unfold execConfirmWindowExpiry at h
  refine loud_refiled h ?_
  split
  · exact .kept
  · exact State.moduleReset_refiled (by simp) _ _ _

theorem exec_lizBegin_refiled {read : List Byte} {check : BundleCheck} (h : exec (.lizBegin read check) s = .next t) :
    s.Refiles t := by
  replace h : execLizBegin read check s = .next t := h
  unfold execLizBegin at h
  refine loud_refiled h ?_
  split
  · exact .kept
  · split
    · exact .kept
    · split
      · exact .kept
      · exact State.lizAsk_refiled (by simp) _

theorem exec_lizErase_refiled {env : Envelope} {sigOk : Bool} (h : exec (.lizErase env sigOk) s = .next t) : s.Refiles t := by
  replace h : execLizErase env sigOk s = .next t := h
  unfold execLizErase at h
  refine loud_refiled h ?_
  split
  · exact .kept
  · split
    · exact .kept
    · split
      · exact .kept
      · exact State.lizAsk_refiled (by simp) _

theorem exec_lizReset_refiled (h : exec .lizReset s = .next t) : s.Refiles t := by
  replace h : execLizReset s = .next t := h
  unfold execLizReset at h
  refine loud_refiled h ?_
  split
  · exact State.moduleReset_refiled (by simp [State.usbAnswer]) _ _ _
  · exact .kept

end

end Sys2Proof.Machine
end

section
/-! PROOFS. O7: the register writes, and every step (R19, R21, R29, R497). -/
namespace Sys2Proof.Machine

/-! ## The register writes -/

section
variable {s : State}

theorem State.setCf_canon (h : s.cfg.canon) (r : Reg) (f : Fld) (v : Nat) : (s.setCf r f v).cfg.canon :=
  RegFile.put_canon _ _ h

/-- A run of writes keeps the form that each of them keeps. -/
theorem foldl_canon {α : Type} {g : State → α → State} (hg : ∀ t a, t.cfg.canon → (g t a).cfg.canon) (l : List α) (h : s.cfg.canon) :
    (l.foldl g s).cfg.canon := by
  induction l generalizing s with
  | nil => exact h
  | cons a l ih => exact ih (hg s a h)

theorem State.writeField_canon (h : s.cfg.canon) (side : Side) (r : Reg) (w : BitVec 32) (f : Field) :
    (s.writeField side r w f).cfg.canon := by
  rw [State.writeField_cfg]
  split
  · exact RegFile.put_canon _ _ h
  · exact h

theorem State.afterWrite_canon (before : State) (h : s.cfg.canon) (r : Reg) : (before.afterWrite s r).cfg.canon := by
  by_cases hr : r = .SEC_TAMPER_CFG
  · subst hr
    unfold State.afterWrite
    dsimp only
    split
    · exact State.setCf_canon (State.setCf_canon h _ _ _) _ _ _
    · exact h
  · rw [State.afterWrite_cfg _ _ hr]
    exact h

theorem State.writeReg_canon (h : s.cfg.canon) (side : Side) (r : Reg) (w : BitVec 32) : (s.writeReg side r w).cfg.canon :=
  State.afterWrite_canon s (foldl_canon (fun _ _ ht => State.writeField_canon ht _ _ _ _) _ h) r

theorem State.holdLo_cfg (s : State) (r : Reg) (w : BitVec 32) : (s.holdLo r w).cfg = s.cfg := by
  unfold State.holdLo
  split
  · rfl
  · split <;> rfl
  · rfl

theorem State.poke_canon (h : s.cfg.canon) (side : Side) (off : Nat) (w : BitVec 32) : (s.poke side off w).cfg.canon := by
  have hlo : ∀ r, (s.holdLo r w).cfg.canon := fun r => by rw [State.holdLo_cfg]; exact h
  unfold State.poke
  split
  · exact h
  · split
    · exact h
    · split
      · split
        · exact hlo _
        · exact h
      · split
        · exact hlo _
        · exact h
      · exact State.writeReg_canon h _ _ _
      · exact State.writeReg_canon h _ _ _

theorem State.customWrite_canon (h : s.cfg.canon) (val : Nat) : (s.customWrite val).cfg.canon := by
  unfold State.customWrite
  extract_lets on old
  split
  · exact h
  · rw [State.hold_cfg]
    exact State.setCf_canon h _ _ _

theorem State.hrxHeadWrite_canon (h : s.cfg.canon) (val : Nat) : (s.hrxHeadWrite val).cfg.canon := by
  unfold State.hrxHeadWrite
  extract_lets v size
  split
  · exact h
  · split
    · rw [State.hold_cfg]
      exact h
    · split
      · exact State.setCf_canon h _ _ _
      · exact h

theorem State.setupThr_canon (h : s.cfg.canon) (d : Nat) : (s.setupThr d).cfg.canon := by
  unfold State.setupThr
  extract_lets bound
  split
  · exact State.setCf_canon h _ _ _
  · exact h

theorem State.setupBlocks_canon (h : s.cfg.canon) : s.setupBlocks.cfg.canon := by
  unfold State.setupBlocks
  rw [State.hold_cfg]
  exact State.setupThr_canon (State.setupThr_canon h 0) 1

theorem State.setupDone_canon (h : s.cfg.canon) (val : Nat) : (s.setupDone val).cfg.canon := by
  unfold State.setupDone
  split
  · exact h
  · dsimp only
    rw [State.hold_cfg]
    split
    · exact h
    · exact State.setupBlocks_canon h

theorem State.stageCal_cfg (s : State) (val : Nat) : (s.stageCal val).cfg = s.cfg := by
  unfold State.stageCal
  split <;> rfl

theorem State.stageAlarm_cfg (s : State) (n val : Nat) : (s.stageAlarm n val).cfg = s.cfg := by
  unfold State.stageAlarm
  split
  · rfl
  · dsimp only
    split <;> rfl

theorem State.busWrite_canon (h : s.cfg.canon) (side : Side) (off : Nat) (w : BitVec 32) : (s.busWrite side off w).cfg.canon := by
  unfold State.busWrite
  split
  · exact State.setupDone_canon h _
  · exact State.hrxHeadWrite_canon h _
  · rw [State.stageCal_cfg]
    exact h
  · rw [State.stageAlarm_cfg]
    exact h
  · split
    · exact h
    · exact State.customWrite_canon (State.poke_canon h _ _ _) _
  · exact State.poke_canon h _ _ _

theorem State.bcWrite_canon (h : s.cfg.canon) (side : Side) (off : Nat) (w : BitVec 32) : (s.bcWrite side off w).cfg.canon := by
  unfold State.bcWrite
  split
  · exact h
  · exact foldl_canon (fun _ _ ht => State.poke_canon ht _ _ _) _ h

end

/-! ## Every step -/

section
variable {s t : State}

/-- A command that may write host-written fields keeps the form that its function keeps. -/
theorem loud_canon {f : State → State} (h : loud f s = .next t) (hf : (f s).cfg.canon) : t.cfg.canon := by
  rw [loud_next h]
  exact hf

theorem exec_registerWrite_canon {side : Side} {width off val : Nat} (hs : s.cfg.canon)
    (h : exec (.registerWrite side width off val) s = .next t) : t.cfg.canon := by
  replace h : execRegisterWrite side width off val s = .next t := h
  unfold execRegisterWrite at h
  refine loud_canon h ?_
  split
  · split
    · rw [State.hold_cfg]
      exact hs
    · exact hs
  · exact foldl_canon (fun _ _ ht => State.busWrite_canon ht _ _ _) _ hs

theorem exec_broadcastWrite_canon {side : Side} {width off val : Nat} (hs : s.cfg.canon)
    (h : exec (.broadcastWrite side width off val) s = .next t) : t.cfg.canon := by
  replace h : execBroadcastWrite side width off val s = .next t := h
  unfold execBroadcastWrite at h
  exact loud_canon h (foldl_canon (fun _ _ ht => State.bcWrite_canon ht _ _ _) _ hs)

theorem exec_hifSetupDone_canon {val : Nat} (hs : s.cfg.canon) (h : exec (.hifSetupDone val) s = .next t) : t.cfg.canon := by
  replace h : execHifSetupDone val s = .next t := h
  unfold execHifSetupDone at h
  exact loud_canon h (State.setupDone_canon hs val)

theorem exec_hostRxHeadWrite_canon {val : Nat} (hs : s.cfg.canon) (h : exec (.hostRxHeadWrite val) s = .next t) : t.cfg.canon := by
  replace h : execHostRxHeadWrite val s = .next t := h
  unfold execHostRxHeadWrite at h
  exact loud_canon h (State.hrxHeadWrite_canon hs val)

theorem exec_yrdRegionCustomWrite_canon {val : Nat} (hs : s.cfg.canon) (h : exec (.yrdRegionCustomWrite val) s = .next t) :
    t.cfg.canon := by
  replace h : execYrdRegionCustomWrite val s = .next t := h
  unfold execYrdRegionCustomWrite at h
  exact loud_canon h (State.customWrite_canon hs val)

/-- Every command keeps the form: a register write puts entries, a reset takes entries out, and no other command touches the file. -/
theorem exec_canon {c : Instr} (hs : s.cfg.canon) (h : exec c s = .next t) : t.cfg.canon := by
  cases hc : writesFields c with
  | false =>
    obtain ⟨f, hf⟩ := exec_quiet_of_not_writesFields s hc
    rw [hf] at h
    rw [quiet_next h, State.framed_cfg]
    exact hs
  | true =>
    cases c with
    | registerWrite => exact exec_registerWrite_canon hs h
    | broadcastWrite => exact exec_broadcastWrite_canon hs h
    | hifSetupDone => exact exec_hifSetupDone_canon hs h
    | hostRxHeadWrite => exact exec_hostRxHeadWrite_canon hs h
    | yrdRegionCustomWrite => exact exec_yrdRegionCustomWrite_canon hs h
    | pcieFunctionReset => exact (exec_pcieFunctionReset_refiled h).canon hs
    | newtPor => exact (exec_newtPor_refiled h).canon hs
    | resetModule => exact (exec_resetModule_refiled h).canon hs
    | resetN => exact (exec_resetN_refiled h).canon hs
    | watchdogTimeout => exact (exec_watchdogTimeout_refiled h).canon hs
    | pllRelockTimeout => exact (exec_pllRelockTimeout_refiled h).canon hs
    | powerLoss => exact (exec_powerLoss_refiled h).canon hs
    | powerOn => exact (exec_powerOn_refiled h).canon hs
    | clkSourceFail => exact (exec_clkSourceFail_refiled h).canon hs
    | clkMonitorWindow => exact (exec_clkMonitorWindow_refiled h).canon hs
    | presenceButton => exact (exec_presenceButton_refiled h).canon hs
    | presenceSeal => exact (exec_presenceSeal_refiled h).canon hs
    | tamperSample => exact (exec_tamperSample_refiled h).canon hs
    | lizardEnter => exact (exec_lizardEnter_refiled h).canon hs
    | radioPauseEnd => exact (exec_radioPauseEnd_refiled h).canon hs
    | activationPauseEnd => exact (exec_activationPauseEnd_refiled h).canon hs
    | confirmWindowExpiry => exact (exec_confirmWindowExpiry_refiled h).canon hs
    | lizBegin => exact (exec_lizBegin_refiled h).canon hs
    | lizErase => exact (exec_lizErase_refiled h).canon hs
    | lizReset => exact (exec_lizReset_refiled h).canon hs
    | _ => cases hc

end

/-- Settles O7: with no command waiting the step frames the file it found; a command keeps its form (`exec_canon`). -/
theorem configurationStaysCanonical : Obligations.ConfigurationStaysCanonical := by
  unfold Obligations.ConfigurationStaysCanonical
  intro s t hs h
  unfold step at h
  split at h
  · have ht : s.idle = t := by injection h
    have hcfg : s.idle.cfg = s.cfg := by unfold State.idle; rfl
    rw [← ht, hcfg]
    exact hs
  · refine exec_canon ?_ h
    exact hs

end Sys2Proof.Machine
end

section
/-! PROOFS. Reads of the fields that the module writes, after the writes that ring operations make (R33, R34, R61). -/
namespace Sys2Proof.Machine

section
variable (s : State)

/-- A read of a span apart from the one written gives what it gave. -/
theorem State.sf_setSf_apart (r : Reg) {f g : Fld} (hf : f.inWord) (hg : g.inWord) (h : f.apart g) (v : Nat) :
    (s.setSf r g v).sf r f = s.sf r f := by
  unfold State.sf State.setSf
  rw [RegFile.get_put_same, Fld.get_set_apart hf hg h]

theorem State.sf_setSw_other {r q : Reg} (h : q.offset ≠ r.offset) (g : Fld) (v : Nat) : (s.setSw r v).sf q g = s.sf q g := by
  unfold State.sf State.setSw
  rw [RegFile.get_put_other _ _ h]

/-- A message or its pending bit reaches no register but the pending bits. -/
theorem State.sf_msix_other {q : Reg} {v : Nat} (h : q.offset ≠ (Reg.MSIX_PBA (v / 32)).offset) (g : Fld) :
    (s.msix v).sf q g = s.sf q g := by
  unfold State.msix
  split
  · exact s.sf_setSf_other h _ _ _
  · rfl

/-- A cause raised reaches its bit, and through vector 0 a pending bit. -/
theorem State.sf_raiseCause_other {q : Reg} (hcause : q.offset ≠ (Reg.HIF_INT_CAUSE).offset)
    (hpba : q.offset ≠ (Reg.MSIX_PBA 0).offset) (b : Nat) (g : Fld) : (s.raiseCause b).sf q g = s.sf q g := by
  unfold State.raiseCause
  split
  · rfl
  · dsimp only
    split
    · rw [State.sf_msix_other _ hpba, State.sf_setSf_other _ hcause]
    · exact s.sf_setSf_other hcause _ _ _

/-- What is read of a register other than those that a ring's fault writes. -/
theorem State.sf_sqFault_other {q : Reg} {n : Nat} (hstat : q.offset ≠ (Reg.HIF_SQ_STAT n).offset)
    (hcause : q.offset ≠ (Reg.HIF_INT_CAUSE).offset) (hpba : q.offset ≠ (Reg.MSIX_PBA 0).offset) (code : Nat) (g : Fld) :
    (s.sqFault n code).sf q g = s.sf q g := by
  unfold State.sqFault
  rw [State.sf_raiseCause_other _ hcause hpba, State.sf_setSf_other _ hstat, State.sf_setSf_other _ hstat]

/-- The status of a ring lies apart from the interrupt registers. -/
theorem Reg.sqStat_apart {n : Nat} (hn : n < 64) :
    (Reg.HIF_SQ_STAT n).offset ≠ (Reg.HIF_INT_CAUSE).offset ∧ (Reg.HIF_SQ_STAT n).offset ≠ (Reg.MSIX_PBA 0).offset := by
  simp only [Reg.offset]
  omega

/-- A ring that faults is FAULTED with the cause, and HEAD stands (R34). -/
theorem State.sqFault_reads {n code : Nat} (hn : n < 64) (hcode : code < 256) :
    (s.sqFault n code).sqState n = 3 ∧ (s.sqFault n code).sf (.HIF_SQ_STAT n) F.HIF_SQ_STAT_FAULT = code
      ∧ (s.sqFault n code).sqHead n = s.sqHead n := by
  obtain ⟨hcause, hpba⟩ := Reg.sqStat_apart hn
  unfold State.sqState State.sqHead State.sqFault
  simp only [State.sf_raiseCause_other _ hcause hpba]
  refine ⟨?state, ?fault, ?head⟩
  case state =>
    rw [State.sf_setSf_apart _ _ (by decide) (by decide) (by decide), State.sf_setSf_same _ _ (by decide)]
    rfl
  case fault => rw [State.sf_setSf_same _ _ (by decide)]; exact Nat.mod_eq_of_lt hcode
  case head =>
    rw [State.sf_setSf_apart _ _ (by decide) (by decide) (by decide), State.sf_setSf_apart _ _ (by decide) (by decide) (by decide)]

end

end Sys2Proof.Machine
end

section
/-! PROOFS. What the end of a descriptor leaves: all of the state but what goes out to a host, a port or the recorder
(`State.behindHost`). -/
namespace Sys2Proof.Machine

/-- The state but for what posting writes: the module's register fields, outputs, events on their way, free values, the fabric, and the
rings. The descriptors in flight stand in it. -/
def State.behindHost (s : State) : State :=
  { s with sts := [], out := [], evq := [], free := 0, swx := Swx.reset, hif := { Hif.reset with inflight := s.hif.inflight } }

section
variable (s : State)

@[simp] theorem State.emit_behindHost (o) : (s.emit o).behindHost = s.behindHost := rfl
@[simp] theorem State.event_behindHost (f i c v a) : (s.event f i c v a).behindHost = s.behindHost := rfl
@[simp] theorem State.setSf_behindHost (r f v) : (s.setSf r f v).behindHost = s.behindHost := rfl
@[simp] theorem State.bump_behindHost (r f n) : (s.bump r f n).behindHost = s.behindHost := rfl
@[simp] theorem State.bumpSat_behindHost (r f n) : (s.bumpSat r f n).behindHost = s.behindHost := rfl
@[simp] theorem State.fresh_behindHost : s.fresh.2.behindHost = s.behindHost := rfl
@[simp] theorem State.noteDiscard_behindHost (e) : (s.noteDiscard e).behindHost = s.behindHost := rfl
@[simp] theorem State.cqRefresh_behindHost (n) : (s.cqRefresh n).behindHost = s.behindHost := rfl
@[simp] theorem State.setQueue_behindHost (q l) : (s.setQueue q l).behindHost = s.behindHost := rfl

@[simp] theorem State.msix_behindHost (v : Nat) : (s.msix v).behindHost = s.behindHost := by
  unfold State.msix; split <;> rfl

@[simp] theorem State.raiseCause_behindHost (b : Nat) : (s.raiseCause b).behindHost = s.behindHost := by
  unfold State.raiseCause
  split
  · rfl
  · dsimp only; split <;> simp

@[simp] theorem State.poisonQueue_behindHost (q off : Nat) : (s.poisonQueue q off).behindHost = s.behindHost := by
  unfold State.poisonQueue; dsimp only; split <;> rfl

@[simp] theorem State.postRead_behindHost (n : Nat) (e : CEnt) : (s.postRead n e).2.behindHost = s.behindHost := by
  unfold State.postRead; split <;> simp

@[simp] theorem State.cqSignal_behindHost (n : Nat) : (s.cqSignal n).behindHost = s.behindHost := by
  unfold State.cqSignal
  extract_lets _ t v
  have ht : t.behindHost = s.behindHost := rfl
  split <;> simp [ht]

@[simp] theorem State.cqData_behindHost (e : CEnt) : (s.cqData e).behindHost = s.behindHost := by
  unfold State.cqData; split <;> rfl

@[simp] theorem State.cqWrite_behindHost (n : Nat) (e : CEnt) : (s.cqWrite n e).behindHost = s.behindHost := by
  unfold State.cqWrite
  extract_lets tail phase w u s1 next s2 unsig _ s3 s4
  have hs4 : s4.behindHost = s.behindHost := s.postRead_behindHost n e
  split <;> simp [hs4]

@[simp] theorem State.postC_behindHost (e : CEnt) : (s.postC e).behindHost = s.behindHost := by
  unfold State.postC
  split
  · split <;> simp
  · rfl

/-- A ring's descriptor that ends leaves the descriptors in flight, and reaches nothing else behind the host interface. -/
theorem State.finishRing_behindHost (n : Nat) (d : Desc) (a : Answer) :
    (s.finishRing n d a).behindHost = (s.dropDesc d.did).behindHost := by
  unfold State.finishRing
  dsimp only
  split <;> split <;> simp

@[simp] theorem State.hostFrame_behindHost (f : EgFrame) (tc : Nat) : (s.hostFrame f tc).behindHost = s.behindHost := by
  unfold State.hostFrame
  extract_lets t
  have ht : t.behindHost = s.behindHost := by
    unfold t
    split
    · exact s.poisonQueue_behindHost _ _
    · rfl
  split <;> exact ht

@[simp] theorem State.hostDrain_behindHost : s.hostDrain.behindHost = s.behindHost := by
  unfold State.hostDrain
  refine foldl_keeps (fun t tc => ?_) _ _
  split
  · rfl
  · exact foldl_keeps (fun u f => u.hostFrame_behindHost f tc) _ _

@[simp] theorem State.sendCopy_behindHost (fid vid tc untag dest f) :
    (s.sendCopy fid vid tc untag dest f).1.behindHost = s.behindHost := by
  unfold State.sendCopy; dsimp only; split <;> simp

@[simp] theorem State.forward_behindHost (p vid tc : Nat) (f : InFrame) : (s.forward p vid tc f).1.behindHost = s.behindHost := by
  unfold State.forward
  split
  · rfl
  · simp only [State.hostDrain_behindHost]
    exact foldl_keeps (v := fun a : State × Nat => a.1.behindHost) (fun a d => by simp) _ _

@[simp] theorem State.mgmtSend_behindHost (vid tc : Nat) (data) : (s.mgmtSend vid tc data).behindHost = s.behindHost := by
  unfold State.mgmtSend
  split
  · rfl
  · dsimp only; split <;> simp

@[simp] theorem State.sealedReply_behindHost (ip : Nat) : (s.sealedReply ip).behindHost = s.behindHost := by
  unfold State.sealedReply
  exact State.mgmtSend_behindHost _ _ _ _

/-! ## What stands behind the host interface -/

variable {s t : State}

theorem State.tack_of_behindHost (h : t.behindHost = s.behindHost) : t.tack = s.tack := congrArg (fun u => u.tack) h
theorem State.tsu_of_behindHost (h : t.behindHost = s.behindHost) : t.tsu = s.tsu := congrArg (fun u => u.tsu) h
theorem State.seg_of_behindHost (h : t.behindHost = s.behindHost) : t.seg = s.seg := congrArg (fun u => u.seg) h
theorem State.cfg_of_behindHost (h : t.behindHost = s.behindHost) : t.cfg = s.cfg := congrArg (fun u => u.cfg) h
theorem State.inflight_of_behindHost (h : t.behindHost = s.behindHost) : t.hif.inflight = s.hif.inflight :=
  congrArg (fun u => u.hif.inflight) h

theorem State.finishRing_tack (s : State) (n : Nat) (d : Desc) (a : Answer) : (s.finishRing n d a).tack = s.tack :=
  (State.tack_of_behindHost (s.finishRing_behindHost n d a)).trans rfl

/-- No end of a descriptor reaches the tack store. -/
@[simp] theorem State.finish_tack (s : State) (d : Desc) (a : Answer) : (s.finish d a).tack = s.tack := by
  unfold State.finish
  split
  · exact s.finishRing_tack _ _ _
  · dsimp only
    split
    · split
      · exact State.finishRing_tack _ _ _ _
      · rfl
    · rfl
  · exact (State.tack_of_behindHost (State.sealedReply_behindHost _ _)).trans rfl

@[simp] theorem State.fail_tack (s : State) (d : Desc) (st det : Nat) : (s.fail d st det).tack = s.tack := s.finish_tack _ _

end

end Sys2Proof.Machine
end
section
/-! PROOFS. O43: the counter of a sealed command and its window, the envelopes that wait, and the checks of the shed (R57, R384 to R387,
R391). -/
namespace Sys2Proof.Machine

/-! ## Bits of the window -/

theorem bit_eq_testBit (v i : Nat) : bit v i = v.testBit i := by
  rw [Nat.testBit_eq_decide_div_mod_eq]
  rfl

/-- A power of two added to a number whose bit there is clear sets that bit and no other. -/
theorem testBit_add_two_pow {w k : Nat} (h : w.testBit k = false) (i : Nat) :
    (w + 2 ^ k).testBit i = (decide (i = k) || w.testBit i) := by
  rcases Nat.lt_trichotomy i k with hlt | rfl | hgt
  · rw [Nat.add_comm, Nat.testBit_two_pow_add_gt hlt]
    simp [Nat.ne_of_lt hlt]
  · rw [Nat.add_comm, Nat.testBit_two_pow_add_eq, h]
    simp
  · have hlow : w % 2 ^ (k + 1) < 2 ^ k := by
      refine Nat.lt_pow_two_of_testBit _ fun j hj => ?_
      rw [Nat.testBit_mod_two_pow]
      rcases Nat.eq_or_lt_of_le hj with rfl | hj
      · simp [h]
      · simp; omega
    have hsum : w % 2 ^ (k + 1) + 2 ^ k < 2 ^ (k + 1) := by have := Nat.pow_succ 2 k; omega
    have hw : w + 2 ^ k = 2 ^ (k + 1) * (w / 2 ^ (k + 1)) + (w % 2 ^ (k + 1) + 2 ^ k) := by
      have := Nat.div_add_mod w (2 ^ (k + 1)); omega
    rw [hw, Nat.testBit_two_pow_mul_add _ hsum, if_neg (by omega), Nat.testBit_div_two_pow]
    simp [Nat.ne_of_gt hgt, show i - (k + 1) + (k + 1) = i by omega]

/-- The window that a higher counter leaves: it slides by `d`, and the old HIGH is its entry `d - 1` (R385). -/
def slidWindow (w d : Nat) : Nat := if 63 < d then 0 else (w * 2 ^ d + 2 ^ (d - 1)) % 2 ^ 63

theorem slidWindow_testBit {w d i : Nat} (hd : 0 < d) (hdi : d ≤ i + 1) (hi : i < 63) :
    (slidWindow w d).testBit i = (decide (i + 1 = d) || w.testBit (i - d)) := by
  unfold slidWindow
  have hlow : 2 ^ (d - 1) < 2 ^ d := Nat.pow_lt_pow_right (by decide) (by omega)
  rw [if_neg (by omega), Nat.testBit_mod_two_pow, Nat.mul_comm, Nat.testBit_two_pow_mul_add _ hlow, Nat.testBit_two_pow]
  by_cases h : i + 1 = d
  · rw [if_pos (by omega)]
    simp [hi, h, show d - 1 = i by omega]
  · rw [if_neg (by omega)]
    simp [hi, h]

/-! ## A counter is taken (R385) -/

section
variable {s : State} {a b c : Nat}

/-- A fresh counter lies above HIGH, or in the window with its entry clear. -/
theorem State.ctrFresh_iff : s.ctrFresh c = true ↔ s.tack.high < c
    ∨ (c < s.tack.high ∧ s.tack.high ≤ c + 63 ∧ s.tack.window.testBit (s.tack.high - 1 - c) = false) := by
  unfold State.ctrFresh
  rw [bit_eq_testBit]
  simp [and_assoc]

/-- A counter that is not fresh is HIGH itself, lies below the window, or has its entry in the window set. -/
theorem State.ctrFresh_eq_false_iff : s.ctrFresh c = false ↔ c ≤ s.tack.high
    ∧ (c < s.tack.high → s.tack.high ≤ c + 63 → s.tack.window.testBit (s.tack.high - 1 - c) = true) := by
  rw [← Bool.not_eq_true, State.ctrFresh_iff]
  simp

theorem State.takeCtr_of_above (h : s.tack.high < b) : (s.takeCtr b).tack =
    { s.tack with high := b, window := slidWindow s.tack.window (b - s.tack.high) } := by
  unfold State.takeCtr
  simp only [if_pos h]
  rfl

theorem State.takeCtr_of_below (h : b < s.tack.high) : (s.takeCtr b).tack =
    { s.tack with window := s.tack.window + 2 ^ (s.tack.high - 1 - b) } := by
  unfold State.takeCtr
  simp only [if_neg (Nat.lt_asymm h), if_pos h]

/-- A counter once taken is not fresh. -/
theorem State.takeCtr_not_fresh (h : s.ctrFresh b = true) : (s.takeCtr b).ctrFresh b = false := by
  rw [State.ctrFresh_eq_false_iff]
  rcases State.ctrFresh_iff.1 h with hb | ⟨hb, -, hclear⟩
  · rw [State.takeCtr_of_above hb]
    exact ⟨Nat.le_refl _, fun hlt => absurd hlt (Nat.lt_irrefl _)⟩
  · rw [State.takeCtr_of_below hb]
    exact ⟨Nat.le_of_lt hb, fun _ _ => by simp [testBit_add_two_pow hclear]⟩

/-- A counter that was not fresh stays so when another is taken. -/
theorem State.takeCtr_keeps_taken (h : s.ctrFresh b = true) (ha : s.ctrFresh a = false) : (s.takeCtr b).ctrFresh a = false := by
  rw [State.ctrFresh_eq_false_iff] at ha ⊢
  obtain ⟨hle, hset⟩ := ha
  rcases State.ctrFresh_iff.1 h with hb | ⟨hb, -, hclear⟩
  · rw [State.takeCtr_of_above hb]
    dsimp only
    refine ⟨by omega, fun hlt hwin => ?_⟩
    rw [slidWindow_testBit (by omega) (by omega) (by omega)]
    rcases Nat.eq_or_lt_of_le hle with rfl | hbelow
    · simp; omega
    · have hentry := hset hbelow (by omega)
      rw [show b - 1 - a - (b - s.tack.high) = s.tack.high - 1 - a by omega, hentry, Bool.or_true]
  · rw [State.takeCtr_of_below hb]
    exact ⟨hle, fun hlt hwin => by rw [testBit_add_two_pow hclear, hset hlt hwin, Bool.or_true]⟩

/-- HIGH is the highest counter taken. -/
theorem State.takeCtr_high (h : s.ctrFresh b = true) : (s.takeCtr b).tack.high = max s.tack.high b := by
  rcases State.ctrFresh_iff.1 h with hb | ⟨hb, -, -⟩
  · rw [State.takeCtr_of_above hb]
    exact (max_eq_right (Nat.le_of_lt hb)).symm
  · rw [State.takeCtr_of_below hb]
    exact (max_eq_left (Nat.le_of_lt hb)).symm

/-- Taking a counter writes the tack store alone. -/
theorem State.takeCtr_eq (s : State) (b : Nat) : s.takeCtr b = { s with tack := (s.takeCtr b).tack } := by
  unfold State.takeCtr
  dsimp only
  split
  · rfl
  · split <;> rfl

end

/-! ## The notice that a command waits for presence (R417) -/

section
variable (s : State)

theorem State.raiseCause_tack (b : Nat) : (s.raiseCause b).tack = s.tack :=
  State.tack_of_behindHost (s.raiseCause_behindHost b)

theorem State.ring_tack (e : MbxEnd) (b : Nat) : (s.ring e b).tack = s.tack := by
  unfold State.ring
  split
  · dsimp only
    split
    · exact State.raiseCause_tack _ _
    · rfl
  · rfl
  · split <;> rfl

theorem State.mbxPostSlot_tack (n : Nat) : (s.mbxPostSlot n).tack = s.tack := by
  unfold State.mbxPostSlot
  dsimp only
  split
  · rfl
  · split <;> exact State.ring_tack _ _ _

theorem State.mbxPut_tack (n : Nat) (msg : List Byte) : (s.mbxPut n msg).tack = s.tack := State.mbxPostSlot_tack _ _

theorem State.flushReplies_tack (n : Nat) (l : List (Nat × Nat × List Byte)) : (s.flushReplies n l).tack = s.tack := by
  induction l generalizing s with
  | nil => rfl
  | cons r rest ih =>
    unfold State.flushReplies
    split
    · exact (ih _).trans (s.mbxPut_tack _ _)
    · rfl

theorem State.presenceWait_tack (op : Nat) : (s.presenceWait op).tack = s.tack := by
  unfold State.presenceWait State.answerMbx
  dsimp only
  split
  · rfl
  · exact s.flushReplies_tack _ _

end

/-! ## An envelope that is denied, and one that passes (R384, R387, R391) -/

section
variable {s : State}

/-- An envelope that is denied reaches nothing of the tack store. -/
theorem State.deny_tack (s : State) (w : EnvWait) (k : Nat) : (s.deny w k).tack = s.tack := by
  unfold State.deny
  dsimp only
  split
  · split
    · exact State.fail_tack _ _ _ _
    · rfl
  · split
    · rfl
    · exact State.tack_of_behindHost (State.sealedReply_behindHost _ _)
  · rfl

/-- What an envelope that passes all checks has (R384). -/
theorem State.envCheck_eq_none {e : Envelope} {sigOk : Bool} (h : s.envCheck e sigOk = none) :
    sigOk = true ∧ s.ctrFresh e.ctr = true ∧ e.wellFormed = true ∧ envMayEnclose e = true ∧ s.destOk e = true
      ∧ ∀ o, s.tack.owner = some o → e.kid = o.id := by
  unfold State.envCheck at h
  simp only [ite_eq_iff, reduceCtorEq, and_false, false_or] at h
  obtain ⟨hform, -, howner, hsig, hdest, hctr, -, hop, -⟩ := h
  simp only [not_or, Bool.not_eq_false] at hform hsig hdest hctr hop
  refine ⟨hsig.1, hctr, hform.1, hop, hdest, fun o ho => ?_⟩
  simpa [ho] using howner

/-- What the shed shows of the tack store leaves a credit, open or not. -/
theorem State.secRefresh_creditOpen (s : State) : s.secRefresh.creditOpen = s.creditOpen := by
  have hsf : s.secRefresh.sf .SEC_STAT F.SEC_STAT_CREDIT = s.sf .SEC_STAT F.SEC_STAT_CREDIT := by
    unfold State.secRefresh
    dsimp only
    rw [State.sf_setSw_other _ (by decide), State.sf_setSw_other _ (by decide), State.sf_setSw_other _ (by decide),
      State.sf_setSw_other _ (by decide), State.sf_setSw_other _ (by decide), State.sf_setSw_other _ (by decide),
      State.sf_setSf_apart _ _ (by decide) (by decide) (by decide)]
  unfold State.creditOpen
  rw [hsf]
  rfl

theorem State.takeCtr_creditOpen (s : State) (b : Nat) : (s.takeCtr b).creditOpen = s.creditOpen := by
  rw [State.takeCtr_eq]
  rfl

/-- The state in which an envelope that passes is carried on: its counter is taken, and its operation stands in flight. -/
def State.admitted (s : State) (w : EnvWait) : State :=
  let t := (s.takeCtr w.env.ctr).secRefresh
  { t with hif := { t.hif with nextDid := t.hif.nextDid + 1, inflight := t.hif.inflight ++ [t.envDesc w] } }

theorem State.secRefresh_tack (s : State) : s.secRefresh.tack = s.tack := by
  unfold State.secRefresh
  rfl

theorem State.admitted_tack (s : State) (w : EnvWait) : (s.admitted w).tack = (s.takeCtr w.env.ctr).tack :=
  State.secRefresh_tack _

theorem State.admitted_creditOpen (s : State) (w : EnvWait) : (s.admitted w).creditOpen = s.creditOpen :=
  (State.secRefresh_creditOpen _).trans (s.takeCtr_creditOpen _)

theorem State.admitted_shed (s : State) (w : EnvWait) : (s.admitted w).shed = s.shed := by
  unfold State.admitted
  rw [State.takeCtr_eq]
  rfl

theorem State.admitted_raw (s : State) (w : EnvWait) : (s.admitted w).tsu.raw = s.tsu.raw := by
  unfold State.admitted
  rw [State.takeCtr_eq]
  rfl

/-- What an envelope that passes does (R385, R391). -/
theorem State.acceptEnv_eq (s : State) (w : EnvWait) : ∃ d : Desc, d.op = w.env.op ∧ s.acceptEnv w =
    if isTrustOp d.op = false ∧ descInvalid 0 (s.admitted w).outputTime d = true then (s.admitted w).fail d stERR_ARG
    else if envPresence w.env = false then (s.admitted w).envReady d.did
    else if (s.admitted w).creditOpen then (s.admitted w).dropCredit.envReady d.did
    else if (s.admitted w).shed.pend.isSome then (s.admitted w).fail d stBUSY
    else { (s.admitted w).presenceWait d.op with
      shed := { (s.admitted w).shed with pend := some (d.did, (s.admitted w).tsu.raw + 60 * secT) } } :=
  ⟨(s.takeCtr w.env.ctr).secRefresh.envDesc w, rfl, rfl⟩

/-- An envelope that passes changes the tack store by its counter alone. -/
theorem State.acceptEnv_tack (s : State) (w : EnvWait) : (s.acceptEnv w).tack = (s.takeCtr w.env.ctr).tack := by
  obtain ⟨d, -, h⟩ := s.acceptEnv_eq w
  rw [h, ← State.admitted_tack]
  split
  · exact State.fail_tack _ _ _ _
  · split
    · rfl
    · split
      · rfl
      · split
        · exact State.fail_tack _ _ _ _
        · exact State.presenceWait_tack _ _

section
variable {w : EnvWait}

/-- An operation that needs presence waits 60 s for it where no credit is open and nothing else waits (R391). -/
theorem State.acceptEnv_waits (htrust : isTrustOp w.env.op = true) (hpres : envPresence w.env = true) (hcredit : s.creditOpen = false)
    (hpend : s.shed.pend = none) : ∃ k, (s.acceptEnv w).shed.pend = some (k, s.tsu.raw + 60 * secT) := by
  obtain ⟨d, hop, h⟩ := s.acceptEnv_eq w
  rw [h, hop, if_neg (by simp [htrust]), if_neg (by simp [hpres]), if_neg (by simp [s.admitted_creditOpen w, hcredit]),
    if_neg (by simp [s.admitted_shed w, hpend])]
  exact ⟨d.did, by simp only [State.admitted_raw]⟩

/-- An open credit is consumed by the operation that needs presence (R391). -/
theorem State.acceptEnv_consumes (htrust : isTrustOp w.env.op = true) (hpres : envPresence w.env = true)
    (hcredit : s.creditOpen = true) :
    (s.acceptEnv w).sec F.SEC_STAT_CREDIT = false ∧ (s.acceptEnv w).shed.pend = s.shed.pend := by
  obtain ⟨d, hop, h⟩ := s.acceptEnv_eq w
  rw [h, hop, if_neg (by simp [htrust]), if_neg (by simp [hpres]), if_pos (by rw [s.admitted_creditOpen w, hcredit])]
  refine ⟨?_, by rw [← s.admitted_shed w]; rfl⟩
  have hread : (s.admitted w).dropCredit.sf .SEC_STAT F.SEC_STAT_CREDIT = 0 := State.sf_setSf_same _ _ (by decide) _
  show ((s.admitted w).dropCredit.sf .SEC_STAT F.SEC_STAT_CREDIT == 1) = false
  rw [hread]
  rfl

end
end

/-! ## The commands -/

section
variable {s t : State} {d e : Desc} {c : Instr} {op : Nat} {read : HostRead} {sel : Desc → Bool} {body : State → Desc → State}

/-- A command whose operation reads its buffer and is served does what its body does. -/
theorem Does.of_served_in (hc : Does c s (s.operationIn d.did op read sel body)) (h : s.serves d op) (he : d.seen s read = some e)
    (hf : StageFree sel) (hsel : sel e = true) (hbody : body (s.holding e) e = t) : Does c s t :=
  hbody ▸ operationIn_serves (body := body) h he hf hsel ▸ hc

/-- The shed denies or accepts the envelope at the head of its queue, as its checks say (R384, R386). -/
theorem exec_envelopeVerified {w : EnvWait} {l : List EnvWait} (sigOk : Bool) (hq : s.shed.queue = w :: l) (hready : s.ready = true)
    (hruns : s.shedRuns = true) (hid : s.shed.identity = true) (hpause : s.radioPaused = false)
    (ht : t = { s with shed := { s.shed with queue := l } }) :
    Does (.envelopeVerified sigOk) s ((t.envCheck w.env sigOk).elim (t.acceptEnv w) (t.deny w)) := by
  unfold Does exec execEnvelopeVerified
  refine quiet_does ?_
  have hserved : ¬ (s.ready = false ∨ s.shedRuns = false ∨ s.shed.identity = false ∨ s.radioPaused = true) := by
    simp [hready, hruns, hid, hpause]
  rw [hq]
  dsimp only
  rw [if_neg hserved, ← ht]
  cases t.envCheck w.env sigOk <;> rfl

end

/-- Settles O43: the window's entries slide with HIGH and are only ever set (`takeCtr_keeps_taken`), the queue's limits are the
commands' own, and of the tack store an envelope reaches its counter alone. -/
theorem sealedCountersAreTakenOnce : Obligations.SealedCountersAreTakenOnce := by
  unfold Obligations.SealedCountersAreTakenOnce
  refine ⟨?taken, ?sealed, ?long, ?datagram, ?head, ?checks, ?presence⟩
  case taken => exact fun s a b hb => ⟨State.takeCtr_not_fresh hb, State.takeCtr_keeps_taken hb⟩
  case sealed =>
    intro s d e read env h he htarget hparam hlen
    have hbody : ∀ t, (if (s.holding e).shed.down then (s.holding e).fail e stERR_ABSENT
        else if 9 ≤ (s.holding e).shed.queue.length then (s.holding e).fail e stBUSY
        else { s.holding e with shed := { s.shed with queue := s.shed.queue ++ [{ src := .sealedRing e.did, env := env }] } }) = t →
        Does (.sealed d.did read env) s t := fun t ht =>
      Does.of_served_in rfl h he (fun _ _ => rfl) rfl ((if_neg (by simp [htarget, hparam, hlen])).trans ht)
    refine ⟨fun hdown => hbody _ ?_, fun hup hfull => hbody _ ?_, fun hup hroom => hbody _ ?_⟩
    · exact if_pos hdown
    · exact (if_neg (ne_true_of_eq_false hup)).trans (if_pos hfull)
    · rw [Desc.seen_did he]
      exact (if_neg (ne_true_of_eq_false hup)).trans (if_neg (Nat.not_le.2 hroom))
  case long =>
    intro s ip port len env hlen
    unfold Does exec execUdpEnvelopeRx
    exact quiet_does (if_pos (by simp [hlen]))
  case datagram =>
    intro s ip port len env hdone hready hlive hlen
    have hserved : ¬ (s.done = false ∨ s.ready = false ∨ s.replaying = true ∨ false = true ∨ 1400 < len) := by
      simp [hdone, hready, hlive, hlen]
    unfold Does exec execUdpEnvelopeRx
    refine ⟨fun hfull => quiet_does ?_, fun hup hroom => quiet_does ?_⟩ <;> rw [if_neg hserved]
    · exact if_pos hfull
    · exact if_neg (by simp [hup, hroom])
  case head =>
    intro s t w l sigOk hq hready hruns hid hpause ht
    have hdoes := exec_envelopeVerified sigOk hq hready hruns hid hpause ht
    have htack : t.tack = s.tack := by rw [ht]
    refine ⟨fun k hk => ?_, fun hk => ?_⟩ <;> rw [hk] at hdoes
    · exact ⟨hdoes, (t.deny_tack w k).trans htack⟩
    · obtain ⟨-, hfresh, -⟩ := State.envCheck_eq_none hk
      exact ⟨hdoes, by rw [State.acceptEnv_tack, State.takeCtr_high hfresh, htack]⟩
  case checks => exact fun s e sigOk h => State.envCheck_eq_none h
  case presence =>
    exact fun s w htrust hpres => ⟨State.acceptEnv_waits htrust hpres, State.acceptEnv_consumes htrust hpres⟩

end Sys2Proof.Machine
end

section
/-! PROOFS. O12: HIF_SETUP_DONE and the judgement of the rings (R32, R36, R41). -/
namespace Sys2Proof.Machine

theorem foldl_keeps_of_mem {σ α β : Type} {v : σ → β} {g : σ → α → σ} {l : List α} (h : ∀ t, ∀ a ∈ l, v (g t a) = v t) (s : σ) :
    v (l.foldl g s) = v s := by
  induction l generalizing s with
  | nil => rfl
  | cons a l ih => exact (ih (fun t b hb => h t b (List.mem_cons_of_mem _ hb)) (g s a)).trans (h s a List.mem_cons_self)

/-- A command that may write host-written fields completes with what its function answers. -/
theorem loud_turns {f : State → State} {s t : State} (h : f s = t) : loud f s = .next { t with pending := s.pending } := h ▸ rfl

section
variable {s t : State} {n : Nat}

/-! ## What the judgement of a ring rests on -/

theorem State.done_of_sf (h : t.sf .HIF_SETUP_DONE F.HIF_SETUP_DONE_DONE = s.sf .HIF_SETUP_DONE F.HIF_SETUP_DONE_DONE) :
    t.done = s.done := by
  unfold State.done
  rw [h]

theorem State.cqUp_congr (hcfg : t.cfg = s.cfg) (hdone : t.done = s.done) : t.cqUp = s.cqUp := by
  unfold State.cqUp State.cf
  rw [hcfg, hdone]

theorem State.sqValid_congr (hcfg : t.cfg = s.cfg) (hdone : t.done = s.done) (n : Nat) : t.sqValid n = s.sqValid n := by
  unfold State.sqValid State.cqOf
  rw [State.cqUp_congr hcfg hdone]
  unfold State.cf
  rw [hcfg]

/-! ## One ring is judged -/

theorem State.sqFault_cfg (s : State) (n code : Nat) : (s.sqFault n code).cfg = s.cfg :=
  State.cfg_of_behindHost (State.raiseCause_behindHost _ _)

theorem State.sqJudge_cfg (s : State) (n : Nat) : (s.sqJudge n).cfg = s.cfg := by
  unfold State.sqJudge
  split
  · rfl
  · split
    · rfl
    · exact s.sqFault_cfg _ _

theorem State.sf_sqJudge_other (s : State) {q : Reg} {n : Nat} (hstat : q.offset ≠ (Reg.HIF_SQ_STAT n).offset)
    (hcause : q.offset ≠ (Reg.HIF_INT_CAUSE).offset) (hpba : q.offset ≠ (Reg.MSIX_PBA 0).offset) (g : Fld) :
    (s.sqJudge n).sf q g = s.sf q g := by
  unfold State.sqJudge
  split
  · rfl
  · split
    · exact s.sf_setSf_other hstat _ _ _
    · exact s.sf_sqFault_other hstat hcause hpba _ _

theorem State.sqJudge_done (s : State) (n : Nat) : (s.sqJudge n).done = s.done :=
  State.done_of_sf (s.sf_sqJudge_other (by simp only [Reg.offset]; omega) (by decide) (by decide) _)

/-- An enabled ring with a valid configuration enters RUNNING. -/
theorem State.sqJudge_of_valid (hen : s.cf (.HIF_SQ_CFG n) F.HIF_SQ_CFG_ENABLE = 1) (hvalid : s.sqValid n = true) :
    (s.sqJudge n).sqState n = 1 := by
  unfold State.sqJudge
  rw [if_neg (by omega), if_pos hvalid]
  exact s.sf_setSf_same _ (by decide) _

/-- An enabled ring with an invalid configuration is FAULTED for it. -/
theorem State.sqJudge_of_invalid (hn : n < 64) (hen : s.cf (.HIF_SQ_CFG n) F.HIF_SQ_CFG_ENABLE = 1) (hbad : s.sqValid n = false) :
    (s.sqJudge n).sqState n = 3 ∧ (s.sqJudge n).sf (.HIF_SQ_STAT n) F.HIF_SQ_STAT_FAULT = 3 := by
  unfold State.sqJudge
  rw [if_neg (by omega), if_neg (by simp [hbad])]
  obtain ⟨hstate, hfault, -⟩ := s.sqFault_reads hn (code := 3) (by decide)
  exact ⟨hstate, hfault⟩

/-! ## All rings are judged -/

/-- A completion or event ring of a wrong size is recorded, and no register of the module changes. -/
theorem State.sizeJudge_regs (s : State) (r : Reg) (en size : Fld) :
    ((s.sizeJudge r en size).cfg, (s.sizeJudge r en size).sts) = (s.cfg, s.sts) := by
  unfold State.sizeJudge
  dsimp only
  split <;> rfl

/-- The submission rings are judged in a state with the registers that HIF_SETUP_DONE found. -/
theorem State.setupRings_eq (s : State) : ∃ u : State, (u.cfg, u.sts) = (s.cfg, s.sts)
    ∧ s.setupRings = (List.range 64).foldl State.sqJudge u := by
  unfold State.setupRings
  extract_lets u v
  refine ⟨v, ?_, rfl⟩
  have hu : (u.cfg, u.sts) = (s.cfg, s.sts) :=
    foldl_keeps (v := fun u : State => (u.cfg, u.sts)) (fun u n => u.sizeJudge_regs _ _ _) _ _
  exact (foldl_keeps (v := fun u : State => (u.cfg, u.sts)) (fun u n => u.sizeJudge_regs _ _ _) _ _).trans hu

/-- The judgement reaches the rings' status and the interrupt registers. -/
theorem State.sf_setupRings_other {q : Reg} (hstat : ∀ n, q.offset ≠ (Reg.HIF_SQ_STAT n).offset)
    (hcause : q.offset ≠ (Reg.HIF_INT_CAUSE).offset) (hpba : q.offset ≠ (Reg.MSIX_PBA 0).offset) (g : Fld) :
    s.setupRings.sf q g = s.sf q g := by
  obtain ⟨u, hu, h⟩ := s.setupRings_eq
  obtain ⟨-, hsts⟩ := Prod.mk.inj hu
  rw [h, foldl_keeps (v := fun u : State => u.sf q g) (fun u n => u.sf_sqJudge_other (hstat n) hcause hpba g),
    State.sf_of_sts hsts]

/-- What the judgement leaves of a ring's status is what its own judgement leaves of it. -/
theorem State.setupRings_ring (hn : n < 64) : ∃ w : State, w.cfg = s.cfg ∧ w.done = s.done
    ∧ ∀ g, s.setupRings.sf (.HIF_SQ_STAT n) g = (w.sqJudge n).sf (.HIF_SQ_STAT n) g := by
  obtain ⟨u, hu, h⟩ := s.setupRings_eq
  obtain ⟨hcfg, hsts⟩ := Prod.mk.inj hu
  obtain ⟨before, after, hsplit⟩ := List.append_of_mem (List.mem_range.2 hn)
  have hnodup : (before ++ n :: after).Nodup := hsplit ▸ List.nodup_range
  have hafter : ∀ k ∈ after, k ≠ n := fun k hk hkn =>
    (List.nodup_cons.1 (List.nodup_append.1 hnodup).2.1).1 (hkn ▸ hk)
  refine ⟨before.foldl State.sqJudge u, ?_, ?_, fun g => ?_⟩
  · exact (foldl_keeps (v := State.cfg) State.sqJudge_cfg _ _).trans hcfg
  · exact (foldl_keeps (v := State.done) State.sqJudge_done _ _).trans (State.done_of_sf (State.sf_of_sts hsts _ _))
  · rw [h, hsplit, List.foldl_append, List.foldl_cons]
    obtain ⟨hcause, hpba⟩ := Reg.sqStat_apart hn
    refine foldl_keeps_of_mem (v := fun t : State => t.sf (.HIF_SQ_STAT n) g) (fun t k hk => ?_) _
    have hne := hafter k hk
    exact t.sf_sqJudge_other (by simp only [Reg.offset]; omega) hcause hpba g

theorem State.setupRings_cfg (s : State) : s.setupRings.cfg = s.cfg := by
  obtain ⟨u, hu, h⟩ := s.setupRings_eq
  rw [h]
  exact (foldl_keeps (v := State.cfg) State.sqJudge_cfg _ _).trans (Prod.mk.inj hu).1

theorem State.setupRings_done (s : State) : s.setupRings.done = s.done :=
  State.done_of_sf (State.sf_setupRings_other (by simp only [Reg.offset]; omega) (by decide) (by decide) _)

/-! ## Doorbells -/

/-- A doorbell that comes before HIF_SETUP_DONE is latched (R41). -/
theorem State.ringDb_of_setup (hdone : s.done = false) (off v : Nat) : s.ringDb off v =
    { s with hif := { s.hif with
      db := Tbl.put 0 s.hif.db off (v % 2 ^ 32)
      latched := if off ∈ s.hif.latched then s.hif.latched else s.hif.latched ++ [off] } } := if_pos (Or.inl hdone)

theorem exec_sqTailDoorbell (hn : n < 64) (v : Nat) : Does (.sqTailDoorbell 32 n v) s (s.ringDb (dbSq n) v) := by
  unfold Does exec execSqTailDoorbell
  exact quiet_does (if_pos ⟨rfl, hn⟩)

/-- The write of DONE that sets the module up. -/
theorem exec_hifSetupDone {v : Nat} (hv : bit v 0 = true) (hready : s.ready = true) (hdone : s.done = false)
    (ht : t = s.hold (fun s =>
      ((s.setSf .HIF_SETUP_DONE F.HIF_SETUP_DONE_DONE 1).setSf .HIF_STATUS F.HIF_STATUS_LOCKED 1).setupRings)) :
    Turns (.hifSetupDone v) s ((if t.replaying then t else t.setupBlocks).hold State.actLatched) := by
  subst ht
  unfold Turns exec execHifSetupDone
  refine loud_turns ?_
  have hgoes : ¬ (bit v 0 = false ∨ s.ready = false ∨ s.done = true) := by simp [hv, hready, hdone]
  unfold State.setupDone
  simp only [if_neg hgoes]

end

/-- Settles O12: the judgement of one ring reaches that ring's status and the interrupt registers alone, so each ring's status is
what its own judgement leaves. -/
theorem setupJudgesTheRings : Obligations.SetupJudgesTheRings := by
  unfold Obligations.SetupJudgesTheRings
  refine ⟨?setup, ?judged, ?latched⟩
  case setup =>
    intro s v hv hready hdone
    refine ⟨_, rfl, ?_, ?_, exec_hifSetupDone hv hready hdone rfl⟩
    · have hset : ((s.setSf .HIF_SETUP_DONE F.HIF_SETUP_DONE_DONE 1).setSf .HIF_STATUS F.HIF_STATUS_LOCKED 1).sf
          .HIF_SETUP_DONE F.HIF_SETUP_DONE_DONE = 1 := by
        rw [State.sf_setSf_other _ (by decide)]
        exact State.sf_setSf_same _ _ (by decide) _
      exact (State.setupRings_done _).trans (by unfold State.done; rw [hset]; rfl)
    · exact (State.sf_setupRings_other (by simp only [Reg.offset]; omega) (by decide) (by decide) _).trans
        (State.sf_setSf_same _ _ (by decide) _)
  case judged =>
    intro s n hn hen
    obtain ⟨w, hcfg, hdone, hring⟩ := State.setupRings_ring (s := s) hn
    have hen' : w.cf (.HIF_SQ_CFG n) F.HIF_SQ_CFG_ENABLE = 1 := by rw [← hen]; unfold State.cf; rw [hcfg]
    have hvalid := State.sqValid_congr hcfg hdone n
    refine ⟨State.cqUp_congr s.setupRings_cfg s.setupRings_done, fun h => ?_, fun h => ?_⟩
    · exact (hring _).trans (State.sqJudge_of_valid hen' (hvalid.trans h))
    · obtain ⟨hstate, hfault⟩ := State.sqJudge_of_invalid hn hen' (hvalid.trans h)
      exact ⟨(hring _).trans hstate, (hring _).trans hfault⟩
  case latched =>
    intro s n v hn hdone hv
    refine ⟨_, exec_sqTailDoorbell hn v, ?_⟩
    rw [State.ringDb_of_setup hdone, Nat.mod_eq_of_lt hv]
    refine ⟨Tbl.get_put_same _ _ _ _, ?_, rfl⟩
    show _ ∈ (if _ then _ else _)
    split
    · assumption
    · simp

end Sys2Proof.Machine
end

section
/-! PROOFS. O13: the doorbells of rings in service (R29, R41, R42, R49). -/
namespace Sys2Proof.Machine

section
variable {s : State} {n v : Nat}

theorem exec_cqHeadDoorbell (hn : n < 64) (v : Nat) : Does (.cqHeadDoorbell 32 n v) s (s.ringDb (dbCq n) v) := by
  unfold Does exec execCqHeadDoorbell
  exact quiet_does (if_pos ⟨rfl, hn⟩)

theorem exec_eqHeadDoorbell (hn : n < 8) (v : Nat) : Does (.eqHeadDoorbell 32 n v) s (s.ringDb (dbEq n) v) := by
  unfold Does exec execEqHeadDoorbell
  exact quiet_does (if_pos ⟨rfl, hn⟩)

/-! ## Which ring a doorbell is of (R41) -/

theorem State.actDb_sq (hn : n < 64) (s : State) : s.actDb (dbSq n) = s.actTail n := by
  unfold State.actDb dbSq
  rw [if_pos (by omega), Nat.mul_div_cancel_left n (by decide)]

theorem State.actDb_cq (hn : n < 64) (s : State) : s.actDb (dbCq n) = s.actCqHead n := by
  unfold State.actDb dbCq
  rw [if_neg (by omega), if_pos (by omega), Nat.add_sub_cancel_left, Nat.mul_div_cancel_left n (by decide)]

theorem State.actDb_eq (s : State) (n : Nat) : s.actDb (dbEq n) = s.actEqHead n := by
  unfold State.actDb dbEq
  rw [if_neg (by omega), if_neg (by omega), Nat.add_sub_cancel_left, Nat.mul_div_cancel_left n (by decide)]

/-! ## A doorbell acts at once after set-up and outside a pause (R36, R42, R65) -/

/-- An index out of its ring, or past its bound, is not within both. -/
theorem not_both_of_out {v size dist bound : Nat} (h : size ≤ v ∨ bound < dist) (hsize : v < size) (hto : dist ≤ bound) : False := by
  omega

/-- The state with a doorbell's value in BAR2. -/
def State.dbPut (s : State) (off v : Nat) : State := { s with hif := { s.hif with db := Tbl.put 0 s.hif.db off v } }

/-- The value that the module acts on is the one written. -/
theorem State.dbPut_value (s : State) (off : Nat) (hv : v < 65536) : Tbl.get 0 (s.dbPut off v).hif.db off % 65536 = v :=
  (congrArg (· % 65536) (Tbl.get_put_same _ _ _ _)).trans (Nat.mod_eq_of_lt hv)

theorem State.ringDb_acts (hdone : s.done = true) (hpause : s.paused = false) (off : Nat) (hv : v < 65536) :
    s.ringDb off v = (s.dbPut off v).actDb off := by
  unfold State.ringDb
  rw [Nat.mod_eq_of_lt (by omega)]
  exact if_neg (by simp [hdone, hpause])

/-- A ring in service takes a tail that leaves its entries below its size. -/
theorem State.actTail_moves (hstate : s.sqState n = 1) (hv : v < 65536) (hsize : v < s.sqSize n)
    (hroom : s.sqAvail n + (v + s.sqSize n - s.sqTail n) % s.sqSize n ≤ s.sqSize n - 1) :
    (s.dbPut (dbSq n) v).actTail n =
      { s with hif := { s.hif with db := Tbl.put 0 s.hif.db (dbSq n) v, sqTail := Tbl.put 0 s.hif.sqTail n v } } := by
  unfold State.actTail
  rw [s.dbPut_value _ hv]
  exact (if_pos (Or.inl hstate)).trans (if_pos ⟨hsize, hroom⟩)

/-- Any other tail faults the ring. -/
theorem State.actTail_faults (hstate : s.sqState n = 1) (hv : v < 65536)
    (hbad : s.sqSize n ≤ v ∨ s.sqSize n - 1 < s.sqAvail n + (v + s.sqSize n - s.sqTail n) % s.sqSize n) :
    (s.dbPut (dbSq n) v).actTail n = (s.dbPut (dbSq n) v).sqFault n 2 := by
  unfold State.actTail
  rw [s.dbPut_value _ hv]
  exact (if_pos (Or.inl hstate)).trans (if_neg (fun h => not_both_of_out hbad h.1 h.2))

/-- A completion head up to TAIL frees its entries, and what is held is posted. -/
theorem State.actCqHead_moves (hv : v < 65536) (hsize : v < s.cqSize n)
    (hto : (v + s.cqSize n - Tbl.get 0 s.hif.cqHead n) % s.cqSize n
      ≤ (s.sf (.HIF_CQ_STAT n) F.HIF_CQ_STAT_TAIL + s.cqSize n - Tbl.get 0 s.hif.cqHead n) % s.cqSize n) :
    (s.dbPut (dbCq n) v).actCqHead n =
      (({ s with hif := { s.hif with db := Tbl.put 0 s.hif.db (dbCq n) v, cqHead := Tbl.put 0 s.hif.cqHead n v } }.cqRefresh
        n).cqDrain) := by
  unfold State.actCqHead
  rw [s.dbPut_value _ hv]
  exact if_pos ⟨hsize, hto⟩

theorem State.actCqHead_ignores (hv : v < 65536)
    (hbad : s.cqSize n ≤ v ∨ (s.sf (.HIF_CQ_STAT n) F.HIF_CQ_STAT_TAIL + s.cqSize n - Tbl.get 0 s.hif.cqHead n) % s.cqSize n
      < (v + s.cqSize n - Tbl.get 0 s.hif.cqHead n) % s.cqSize n) :
    (s.dbPut (dbCq n) v).actCqHead n =
      (s.dbPut (dbCq n) v).event 0 n 0x0201 2 [1, n, v, s.sf (.HIF_CQ_STAT n) F.HIF_CQ_STAT_TAIL] := by
  unfold State.actCqHead
  rw [s.dbPut_value _ hv]
  exact if_neg (fun h => not_both_of_out hbad h.1 h.2)

/-- An event head up to TAIL frees its entries. -/
theorem State.actEqHead_moves (hv : v < 65536) (hsize : v < s.eqSize n)
    (hto : (v + s.eqSize n - Tbl.get 0 s.hif.eqHead n) % s.eqSize n
      ≤ (s.sf (.HIF_EQ_STAT n) F.HIF_EQ_STAT_TAIL + s.eqSize n - Tbl.get 0 s.hif.eqHead n) % s.eqSize n) :
    (s.dbPut (dbEq n) v).actEqHead n =
      { s with hif := { s.hif with db := Tbl.put 0 s.hif.db (dbEq n) v, eqHead := Tbl.put 0 s.hif.eqHead n v } } := by
  unfold State.actEqHead
  rw [s.dbPut_value _ hv]
  exact if_pos ⟨hsize, hto⟩

theorem State.actEqHead_ignores (hv : v < 65536)
    (hbad : s.eqSize n ≤ v ∨ (s.sf (.HIF_EQ_STAT n) F.HIF_EQ_STAT_TAIL + s.eqSize n - Tbl.get 0 s.hif.eqHead n) % s.eqSize n
      < (v + s.eqSize n - Tbl.get 0 s.hif.eqHead n) % s.eqSize n) :
    (s.dbPut (dbEq n) v).actEqHead n =
      (s.dbPut (dbEq n) v).event 0 n 0x0201 2 [2, n, v, s.sf (.HIF_EQ_STAT n) F.HIF_EQ_STAT_TAIL] := by
  unfold State.actEqHead
  rw [s.dbPut_value _ hv]
  exact if_neg (fun h => not_both_of_out hbad h.1 h.2)

/-- A doorbell write of another width than 32 bits is ignored (R29). -/
theorem exec_doorbells_of_width {w : Nat} (hw : w ≠ 32) (s : State) (n v : Nat) :
    Does (.sqTailDoorbell w n v) s s ∧ Does (.cqHeadDoorbell w n v) s s ∧ Does (.eqHeadDoorbell w n v) s s := by
  unfold Does exec execSqTailDoorbell execCqHeadDoorbell execEqHeadDoorbell
  have hno : ∀ m, ¬ (w = 32 ∧ n < m) := fun m h => hw h.1
  exact ⟨quiet_does (if_neg (hno _)), quiet_does (if_neg (hno _)), quiet_does (if_neg (hno _))⟩

end

/-- Settles O13: a doorbell of a module that is set up acts at once, and each of its ring's two outcomes is a lemma of its own. -/
theorem doorbellsMoveTheirRings : Obligations.DoorbellsMoveTheirRings := by
  unfold Obligations.DoorbellsMoveTheirRings
  refine ⟨?tail, ?badTail, ?cqHead, ?eqHead, ?badCqHead, ?badEqHead, ?width⟩
  case tail =>
    intro s n v hn hdone hpause hstate hv hsize hroom
    have h := exec_sqTailDoorbell (s := s) hn v
    rwa [State.ringDb_acts hdone hpause _ hv, State.actDb_sq hn, State.actTail_moves hstate hv hsize hroom] at h
  case badTail =>
    intro s n v hn hdone hpause hstate hv hbad
    have h := exec_sqTailDoorbell (s := s) hn v
    rwa [State.ringDb_acts hdone hpause _ hv, State.actDb_sq hn, State.actTail_faults hstate hv hbad] at h
  case cqHead =>
    intro s n v hn hdone hpause hv hsize hto
    have h := exec_cqHeadDoorbell (s := s) hn v
    rwa [State.ringDb_acts hdone hpause _ hv, State.actDb_cq hn, State.actCqHead_moves hv hsize hto] at h
  case eqHead =>
    intro s n v hn hdone hpause hv hsize hto
    have h := exec_eqHeadDoorbell (s := s) hn v
    rwa [State.ringDb_acts hdone hpause _ hv, State.actDb_eq, State.actEqHead_moves hv hsize hto] at h
  case badCqHead =>
    intro s n v hn hdone hpause hv hbad
    have h := exec_cqHeadDoorbell (s := s) hn v
    rwa [State.ringDb_acts hdone hpause _ hv, State.actDb_cq hn, State.actCqHead_ignores hv hbad] at h
  case badEqHead =>
    intro s n v hn hdone hpause hv hbad
    have h := exec_eqHeadDoorbell (s := s) hn v
    rwa [State.ringDb_acts hdone hpause _ hv, State.actDb_eq, State.actEqHead_ignores hv hbad] at h
  case width => exact fun s w n v hw => exec_doorbells_of_width hw s n v

end Sys2Proof.Machine
end

section
/-! PROOFS. O14: the fetch of one descriptor (R38, R40, R43, R44, R53, R62). -/
namespace Sys2Proof.Machine

section
variable {s : State} {n most : Nat} {c : Bool} {b : List Byte}

theorem fitBytes_of_length {k : Nat} (h : b.length = k) : fitBytes k b = b := by
  unfold fitBytes
  rw [← h, List.take_left]

/-- The ring that the next read falls to is one of the 64. -/
theorem State.nextRead_lt (h : s.nextRead = some (n, most, c)) : n < 64 := by
  have hrobin : ∀ (p : Nat) (l : List Nat) (k : Nat), (∀ m ∈ l, m < 64) → s.robin p l = some k → k < 64 := by
    intro p l k hl hk
    have hq : ∀ m ∈ l.filter (fun n => s.sqPrio n == p), m < 64 := fun m hm => hl m (List.mem_of_mem_filter hm)
    unfold State.robin at hk
    dsimp only at hk
    split at hk
    · cases hk
      exact hq _ (List.mem_of_find?_eq_some ‹_›)
    · exact hq _ (List.mem_of_head? hk)
  have hwaiting : ∀ m ∈ s.waiting, m < 64 := fun m hm => List.mem_range.1 (List.mem_of_mem_filter hm)
  unfold State.nextRead at h
  dsimp only at h
  split at h
  · obtain ⟨k, hk, heq⟩ := Option.map_eq_some_iff.1 h
    cases heq
    exact hrobin _ _ _ (fun m hm => hwaiting m (List.mem_of_mem_filter hm)) hk
  · obtain ⟨k, hk, heq⟩ := Option.map_eq_some_iff.1 h
    cases heq
    exact hrobin _ _ _ hwaiting hk

/-- The state in which a read of `k` descriptors of ring `n` takes them: the rings' turns are noted (R53). -/
def State.turned (s : State) (n : Nat) (c : Bool) (k : Nat) : State :=
  { s with hif := { s.hif with rr := Tbl.put 64 s.hif.rr (s.sqPrio n) n, consec := if c then s.hif.consec + k else 0 } }

/-- A read that brings one descriptor takes it. -/
theorem exec_descriptorFetch_one (h : s.nextRead = some (n, most, c)) (hmost : 1 ≤ most) (havail : 1 ≤ s.sqAvail n)
    (p : FetchDesc) : Does (.descriptorFetch (.ok [p])) s (State.takeDesc n (s.turned n c 1, true) p).1 := by
  have hk : min (min most (s.sqAvail n)) [p].length = 1 := by simp only [List.length_singleton]; omega
  unfold Does exec execDescriptorFetch
  refine quiet_does ?_
  unfold State.fetch
  simp only [h, hk]
  rfl

/-- A failed read faults the ring (R62). -/
theorem exec_descriptorFetch_failed (h : s.nextRead = some (n, most, c)) :
    Does (.descriptorFetch .failed) s ((s.sqFault n 4).hostMemFail) := by
  unfold Does exec execDescriptorFetch
  refine quiet_does ?_
  unfold State.fetch
  simp only [h]

/-- A descriptor of the other phase faults the ring, and is not taken (R40). -/
theorem State.takeDesc_of_phase (hlen : b.length = 64) (hphase : bit (leAt b 1 1) 0 ≠ Tbl.get true s.hif.sqPhase n)
    (bad post : Option Nat) : (State.takeDesc n (s, true) ⟨b, bad, post⟩).1 = s.sqFault n 1 := by
  unfold State.takeDesc
  simp only [fitBytes_of_length hlen, if_pos hphase, Bool.true_eq_false, if_false]

/-- The state in which ring `n` has given descriptor `d` of its expected phase (R38, R40). -/
def State.tookDesc (s : State) (n : Nat) (d : Desc) : State :=
  let next := (s.sqHead n + 1) % s.sqSize n
  { s.setSf (.HIF_SQ_STAT n) F.HIF_SQ_STAT_HEAD next with hif := { s.hif with
    sqPhase := if next = 0 then Tbl.put true s.hif.sqPhase n (!Tbl.get true s.hif.sqPhase n) else s.hif.sqPhase
    nextDid := s.hif.nextDid + 1
    inflight := s.hif.inflight ++ [d] } }

/-- A descriptor of the expected phase that passes the checks is taken (R43, R44). -/
theorem State.takeDesc_of_valid {k : Option Nat} {d : Desc} (hlen : b.length = 64)
    (hphase : bit (leAt b 1 1) 0 = Tbl.get true s.hif.sqPhase n)
    (hd : d = parseDesc s.hif.nextDid (.ring n) s.tsu.raw s.outputTime s.nsNow k b)
    (hvalid : descInvalid (leAt b 1 1) s.outputTime d = false) :
    (State.takeDesc n (s, true) ⟨b, none, k⟩).1 = s.tookDesc n d := by
  unfold State.takeDesc
  simp only [fitBytes_of_length hlen, ← hd, hphase, hvalid, ne_eq, not_true_eq_false, Bool.true_eq_false, Bool.false_eq_true,
    Option.isSome_none, if_false]
  rfl

/-- HEAD advances by one, and the ring's state stands. -/
theorem State.tookDesc_reads (s : State) (n : Nat) (d : Desc) :
    (s.tookDesc n d).sqHead n = (s.sqHead n + 1) % s.sqSize n ∧ (s.tookDesc n d).sqState n = s.sqState n := by
  constructor
  · have hsize : s.sqSize n ≤ 2 ^ 15 := Nat.pow_le_pow_right (by decide) (Nat.le_of_lt_succ (Fld.get_lt F.HIF_SQ_CFG_SIZE _))
    have hpos : 0 < s.sqSize n := Nat.two_pow_pos _
    have hlt := Nat.mod_lt (s.sqHead n + 1) hpos
    refine (s.sf_setSf_same _ (by decide) _).trans (Nat.mod_eq_of_lt ?_)
    exact Nat.lt_of_lt_of_le hlt (Nat.le_trans hsize (by decide))
  · exact s.sf_setSf_apart _ (by decide) (by decide) (by decide) _

end

/-- Settles O14: a read of one descriptor is one `takeDesc`, in a state that differs from the one before in the rings' turns alone. -/
theorem descriptorFetchTakesTheEntry : Obligations.DescriptorFetchTakesTheEntry := by
  unfold Obligations.DescriptorFetchTakesTheEntry
  refine ⟨?taken, ?phase, ?failed⟩
  case taken =>
    intro s n most c b k d h hmost havail hlen hphase hd hvalid
    have hfetch := exec_descriptorFetch_one h hmost havail ⟨b, none, k⟩
    rw [State.takeDesc_of_valid (s := s.turned n c 1) hlen hphase hd hvalid] at hfetch
    obtain ⟨hhead, hstate⟩ := (s.turned n c 1).tookDesc_reads n d
    exact ⟨_, hfetch, rfl, rfl, hhead, hstate, rfl, rfl, rfl⟩
  case phase =>
    intro s n most c b h hmost havail hlen hphase
    have hfetch := exec_descriptorFetch_one h hmost havail ⟨b, none, none⟩
    rw [State.takeDesc_of_phase (s := s.turned n c 1) hlen hphase] at hfetch
    obtain ⟨hstate, hfault, hhead⟩ := (s.turned n c 1).sqFault_reads (State.nextRead_lt h) (code := 1) (by decide)
    have hinflight : ((s.turned n c 1).sqFault n 1).hif.inflight = s.hif.inflight :=
      (State.inflight_of_behindHost (State.raiseCause_behindHost _ _)).trans rfl
    exact ⟨_, hfetch, hinflight, hhead, hstate, hfault⟩
  case failed => exact fun s n most c h => exec_descriptorFetch_failed h

end Sys2Proof.Machine
end

section
/-! PROOFS. O15: the final completion of a ring's descriptor, and its entry (R46, R47, R49, R54). -/
namespace Sys2Proof.Machine

/-! ## The end of a ring's descriptor -/

section
variable {s : State} {d : Desc} {n : Nat}

theorem State.finish_of_ring (hsrc : d.src = .ring n) (a : Answer) : s.finish d a = s.finishRing n d a := by
  unfold State.finish
  rw [hsrc]

/-- A descriptor that has ended is not in flight. -/
theorem State.desc?_finishRing (s : State) (n : Nat) (d : Desc) (a : Answer) : (s.finishRing n d a).desc? d.did = none := by
  unfold State.desc?
  rw [State.inflight_of_behindHost (s.finishRing_behindHost n d a)]
  exact List.find?_eq_none.2 (fun e he => by simpa [State.dropDesc] using (List.mem_filter.1 he).2)

/-- A completion that is wanted is posted (R46). -/
theorem State.finishRing_posts {a : Answer} {e : CEnt} (hdiscard : d.discard = false) (he : s.finalEnt n d a = e)
    (hwanted : e.silent = false) : s.finishRing n d a = (s.dropDesc d.did).postC e := by
  unfold State.finishRing
  simp only [he, hdiscard, hwanted, Bool.false_eq_true, false_and, if_false]

/-- A descriptor that asks for no completion of an OK leaves without one (R47). -/
theorem State.ok_of_noComp (hsrc : d.src = .ring n) (hdiscard : d.discard = false) (hno : d.noComp = true) (hlate : d.late = false)
    (r : Nat) : s.ok d r = s.dropDesc d.did := by
  unfold State.ok
  rw [State.finish_of_ring hsrc]
  unfold State.finishRing State.finalEnt
  simp [hdiscard, hno, hlate]

/-- A failure is posted with its status. -/
theorem State.fail_of_ring {st : Nat} (hsrc : d.src = .ring n) (hdiscard : d.discard = false) (hcomp : d.noComp = false)
    (hlate : d.late = false) : s.fail d st = (s.dropDesc d.did).postC
      { sq := n, tag := d.tag, status := st, detail := 0, trunc := false, data := false, interim := false, xfer := 0
        actTime := d.actTime.getD s.outputTime, result := 0, octets := [], addr := d.addr, silent := false, bad := d.postBad } := by
  unfold State.fail
  rw [State.finish_of_ring hsrc]
  refine State.finishRing_posts hdiscard ?_ rfl
  unfold State.finalEnt
  simp [hdiscard, hcomp, hlate]

/-- An OK is posted with its RESULT, as LATE where the action was late (R54). -/
theorem State.ok_of_ring (hsrc : d.src = .ring n) (hdiscard : d.discard = false) (hcomp : d.noComp = false) (r : Nat) :
    s.ok d r = (s.dropDesc d.did).postC
      { sq := n, tag := d.tag, status := if d.late then 5 else 0, detail := 0, trunc := false, data := false
        interim := false, xfer := 0, actTime := d.actTime.getD s.outputTime, result := r, octets := [], addr := d.addr
        silent := false, bad := d.postBad } := by
  unfold State.ok
  rw [State.finish_of_ring hsrc]
  refine State.finishRing_posts hdiscard ?_ rfl
  unfold State.finalEnt
  simp [hdiscard, hcomp, stOK, stLATE]

/-- A result is posted with its octets, cut to the buffer (R46). -/
theorem State.okData_of_ring {b : List Byte} (hsrc : d.src = .ring n) (hdiscard : d.discard = false) (hcomp : d.noComp = false)
    (hlate : d.late = false) (hb : b ≠ []) (hlen : d.len ≠ 0) (r : Nat) : s.okData d b r = (s.dropDesc d.did).postC
      { sq := n, tag := d.tag, status := 0, detail := 0, trunc := decide (d.len < b.length), data := true, interim := false
        xfer := min d.len b.length, actTime := d.actTime.getD s.outputTime, result := r, octets := b.take d.len, addr := d.addr
        silent := false, bad := d.postBad } := by
  unfold State.okData
  rw [State.finish_of_ring hsrc]
  refine State.finishRing_posts hdiscard ?_ rfl
  unfold State.finalEnt
  simp [hdiscard, hcomp, hlate, stOK, hb, hlen]

end

/-! ## An entry is held, or written (R46, R48, R49, R61) -/

section
variable {s : State} {e : CEnt}

theorem State.cqTakes_of_entry (hsilent : e.silent = false) :
    s.cqTakes e = (s.cqWritable (s.cqOf e.sq) && s.cqClearOf (s.cqOf e.sq)) := by
  unfold State.cqTakes
  rw [hsilent]
  rfl

theorem State.postC_held (hsilent : e.silent = false) (hfull : s.cqWritable (s.cqOf e.sq) = false) :
    s.postC e = { s with hif := { s.hif with cqHeld := s.hif.cqHeld ++ [e] } } := by
  unfold State.postC
  rw [State.cqTakes_of_entry hsilent, hfull]
  rfl

theorem State.postC_written (hsilent : e.silent = false) (hroom : s.cqWritable (s.cqOf e.sq) = true)
    (hclear : s.cqClearOf (s.cqOf e.sq) = true) : s.postC e = (s.cqData e).cqWrite (s.cqOf e.sq) e := by
  unfold State.postC
  rw [State.cqTakes_of_entry hsilent, hroom, hclear, hsilent]
  rfl

/-- The octets of a result go out ahead of the entry (R48). -/
theorem State.cqData_eq (s : State) (e : CEnt) :
    s.cqData e = { s with out := if e.octets = [] then s.out else .hostWrite e.addr e.octets :: s.out } := by
  unfold State.cqData
  split <;> rfl

/-- The status of a completion ring lies below the MSI-X table. -/
theorem Reg.cqStat_apart {n : Nat} (hn : n < 64) (w : Nat) : (Reg.HIF_CQ_STAT n).offset ≠ (Reg.MSIX_PBA w).offset := by
  simp only [Reg.offset]
  omega

theorem State.msix_out (s : State) (v : Nat) : ∃ l, (s.msix v).out = l ++ s.out := by
  unfold State.msix
  split
  · exact ⟨[], rfl⟩
  · exact ⟨[_], rfl⟩

/-- A completion ring's signal reaches no register but the pending bits, and at most sends a message. -/
theorem State.cqSignal_reads (s : State) {n : Nat} (hn : n < 64) :
    (s.cqSignal n).sf (.HIF_CQ_STAT n) F.HIF_CQ_STAT_TAIL = s.sf (.HIF_CQ_STAT n) F.HIF_CQ_STAT_TAIL
      ∧ ∃ l, (s.cqSignal n).out = l ++ s.out := by
  unfold State.cqSignal
  extract_lets _ t v
  split
  · exact ⟨rfl, [], rfl⟩
  · exact ⟨t.sf_msix_other (Reg.cqStat_apart hn _) _, t.msix_out v⟩

theorem State.cqRefresh_tail (s : State) (n : Nat) :
    (s.cqRefresh n).sf (.HIF_CQ_STAT n) F.HIF_CQ_STAT_TAIL = s.sf (.HIF_CQ_STAT n) F.HIF_CQ_STAT_TAIL :=
  s.sf_setSf_apart _ (by decide) (by decide) (by decide) _

theorem State.cqSize_le (s : State) (n : Nat) : s.cqSize n ≤ 2 ^ 15 :=
  Nat.pow_le_pow_right (by decide) (Nat.le_of_lt_succ (Fld.get_lt F.HIF_CQ_CFG_SIZE _))

/-- An entry is written at TAIL, and TAIL counts it (R46, R49). -/
theorem State.cqWrite_reads (s : State) {n : Nat} (hn : n < 64) (hgood : e.bad = none) :
    (s.cqWrite n e).sf (.HIF_CQ_STAT n) F.HIF_CQ_STAT_TAIL = (s.sf (.HIF_CQ_STAT n) F.HIF_CQ_STAT_TAIL + 1) % s.cqSize n
      ∧ ∃ l, (s.cqWrite n e).out = l ++ .hostWrite (s.cqBase n + 32 * s.sf (.HIF_CQ_STAT n) F.HIF_CQ_STAT_TAIL)
          (e.bytes (s.sf (.HIF_SQ_STAT e.sq) F.HIF_SQ_STAT_HEAD) (Tbl.get true s.hif.cqPhase n)) :: s.out := by
  have hread : s.postRead n e = (e, s) := by unfold State.postRead; rw [hgood]
  unfold State.cqWrite
  extract_lets tail phase w t s1 next s2 unsig _ s3 s4
  have hw : w.1 = e := congrArg Prod.fst hread
  have ht : t = s := congrArg Prod.snd hread
  have hnext : next < 2 ^ 16 := by
    have hlt : next < t.cqSize n := Nat.mod_lt _ (Nat.two_pow_pos _)
    have := t.cqSize_le n
    omega
  have htail : s4.sf (.HIF_CQ_STAT n) F.HIF_CQ_STAT_TAIL = (tail + 1) % t.cqSize n :=
    (s3.cqRefresh_tail n).trans ((s1.sf_setSf_same _ (by decide) _).trans (Nat.mod_eq_of_lt hnext))
  have hout : s4.out = .hostWrite (t.cqBase n + 32 * tail)
      (w.1.bytes (t.sf (.HIF_SQ_STAT e.sq) F.HIF_SQ_STAT_HEAD) phase) :: t.out := rfl
  rw [ht] at htail
  rw [ht, hw] at hout
  obtain ⟨hsignal, l, hl⟩ := s4.cqSignal_reads hn
  split
  · exact ⟨hsignal.trans htail, l, hl.trans (congrArg (l ++ ·) hout)⟩
  · exact ⟨htail, [], hout⟩

end

/-- Settles O15: behind the host interface a descriptor's end takes it out of flight and no more (`finishRing_behindHost`); its entry
is a function of its answer, and is held or written as its ring stands. -/
theorem finalCompletionIsPosted : Obligations.FinalCompletionIsPosted := by
  unfold Obligations.FinalCompletionIsPosted
  refine ⟨?gone, ?failed, ?ok, ?data, ?silent, ?held, ?written⟩
  case gone =>
    intro s d n a hsrc
    have hkeep := s.finishRing_behindHost n d a
    rw [State.finish_of_ring hsrc]
    exact ⟨s.desc?_finishRing n d a, (State.cfg_of_behindHost hkeep).trans rfl,
      (State.seg_of_behindHost hkeep).trans rfl, (State.tsu_of_behindHost hkeep).trans rfl⟩
  case failed => exact fun s d n st hsrc hdiscard hcomp hlate _ => State.fail_of_ring hsrc hdiscard hcomp hlate
  case ok => exact fun s d n r hsrc hdiscard hcomp => State.ok_of_ring hsrc hdiscard hcomp r
  case data =>
    exact fun s d n b r hsrc hdiscard hcomp hlate hb hlen => State.okData_of_ring hsrc hdiscard hcomp hlate hb hlen r
  case silent => exact fun s d n r hsrc hdiscard hno hlate => State.ok_of_noComp hsrc hdiscard hno hlate r
  case held =>
    intro s e hsilent hfull
    rw [State.postC_held hsilent hfull]
    exact ⟨rfl, rfl⟩
  case written =>
    intro s e hsilent hgood hroom hclear
    have hn : s.cqOf e.sq < 64 := Fld.get_lt F.HIF_SQ_CFG_CQ _
    rw [State.postC_written hsilent hroom hclear, State.cqData_eq]
    obtain ⟨htail, l, hl⟩ := State.cqWrite_reads
      { s with out := if e.octets = [] then s.out else .hostWrite e.addr e.octets :: s.out } hn hgood
    exact ⟨htail, l ++ [_], hl.trans (List.append_cons _ _ _), by simp; exact Or.inr ⟨rfl, rfl⟩⟩

end Sys2Proof.Machine
end

section
/-! PROOFS. O39: launch slots (R54, R187, R281 to R283). -/
namespace Sys2Proof.Machine

section
variable {s u : State} {d : Desc}

/-! ## Arming -/

/-- An accepted action, outside an activation pause, comes to its slot 60 s before its instant (R54, R281). -/
theorem exec_launchSlotArm (hd : s.desc? d.did = some d) (hstage : d.stage = .launchWait) (hop : d.op ≠ 0x18) (hpause : s.paused = false)
    (hu : u = s.elapseOut ((d.launchTime : Int) - 60 * secT)) :
    Does (.launchSlotArm d.did) s
      (if u.slotFree d.slotClass = false then u
       else if u.outputTime ≤ (d.launchTime : Int) - d.slotClass.limit then
        (u.takeSlot { cls := d.slotClass, did := d.did, time := d.launchTime, scene := none, yards := 0, late := false }).updDesc d.did
          (fun x => { x with stage := .armed })
       else u.fireDesc d true) := by
  subst hu
  unfold Does exec execLaunchSlotArm
  refine quiet_does ?_
  rw [hd]
  exact if_neg (by simp [hstage, hop, hpause])

/-! ## Firing -/

/-- The armed slots of a descriptor that nothing holds, where there is one of them (R65, R283). -/
theorem State.freeArmed_single {x : Slot} (h : s.armedSlots.filter (fun k => k.did == x.did) = [x]) :
    s.armedSlots.filter (fun k => k.did == x.did && !s.slotHeld k) = if s.slotHeld x then [] else [x] := by
  have hcomm : (fun k : Slot => k.did == x.did && !s.slotHeld k) = fun k => !s.slotHeld k && k.did == x.did :=
    funext fun k => Bool.and_comm _ _
  rw [hcomm, ← List.filter_filter, h]
  cases hx : s.slotHeld x <;> simp [hx]

/-- A descriptor all of whose armed slots are held waits. -/
theorem exec_launchSlotFire_held {did : Nat} (h : s.armedSlots.filter (fun k => k.did == did && !s.slotHeld k) = []) :
    Does (.launchSlotFire did) s s := by
  unfold Does exec execLaunchSlotFire
  refine quiet_does ?_
  simp only [h, List.filter_nil, if_true]

/-- A descriptor's one slot fires: at once where its action has waited for it, else when its instant comes; and it is free. -/
theorem exec_launchSlotFire_single {x : Slot} (h : s.armedSlots.filter (fun k => k.did == x.did) = [x]) (hfree : s.slotHeld x = false)
    (hu : u = if x.late then s else s.elapseOut x.time) :
    Does (.launchSlotFire x.did) s ((u.putSlots (u.tsu.slots.filter (fun k => k != x))).fireSlot x) := by
  have hmine : s.armedSlots.filter (fun k => k.did == x.did && !s.slotHeld k) = [x] := by
    rw [State.freeArmed_single h, hfree]
    rfl
  subst hu
  unfold Does exec execLaunchSlotFire
  refine quiet_does ?_
  cases hlate : x.late <;> simp [hmine, hlate, bne] <;> rfl

/-- A descriptor's slot that fires lets its action begin, late where the slack of its class has passed (R282). -/
theorem State.fireSlot_desc {x : Slot} (hscene : x.scene = none) (hd : s.desc? x.did = some d) :
    s.fireSlot x = s.fireDesc d (x.late || decide ((x.time : Int) + s.slack x.cls < s.outputTime)) := by
  unfold State.fireSlot
  rw [hscene]
  dsimp only
  rw [hd]

/-- A scene's drive slot that fires begins the scene's drive changes (R187). -/
theorem State.fireSlot_sceneDrive {x : Slot} {id : Nat} {c : Scene} (hscene : x.scene = some id) (hcls : x.cls = .drive)
    (hc : s.scene? id = some c) :
    s.fireSlot x = ((s.modScene id (fun c => { c with late := c.late || x.late })).sceneDrive c).checkScene id := by
  unfold State.fireSlot
  rw [hscene]
  dsimp only
  unfold State.fireSceneSlot
  rw [hc]
  dsimp only
  rw [hcls]

end

/-- Settles O39: a descriptor with one armed slot fires that slot. -/
theorem launchSlotsArmAndFire : Obligations.LaunchSlotsArmAndFire := by
  unfold Obligations.LaunchSlotsArmAndFire
  refine ⟨?arm, ?fire, ?paused, ?scene⟩
  case arm =>
    intro s u d hd hstage hop hpause hu
    have harm := exec_launchSlotArm hd hstage hop hpause hu
    refine ⟨fun hfull => ?_, fun hfree htime => ?_, fun hfree hlate => ?_⟩
    · rwa [if_pos hfull] at harm
    · rwa [if_neg (by simp [hfree]), if_pos htime] at harm
    · rwa [if_neg (by simp [hfree]), if_neg (Int.not_le.2 hlate)] at harm
  case fire =>
    intro s u v x d hone hscene hfree hu hv hd
    have hfire := exec_launchSlotFire_single hone hfree hu
    rw [← hv] at hfire
    have hdv : v.desc? x.did = some d := by rw [hv]; exact hd
    rwa [State.fireSlot_desc hscene hdv] at hfire
  case paused =>
    intro s x hone hcls hpause
    refine exec_launchSlotFire_held ?_
    have hheld : s.slotHeld x = true := by unfold State.slotHeld; rw [hcls]; exact hpause
    rw [State.freeArmed_single hone, hheld]
    rfl
  case scene => exact fun s x id c hscene hcls hc => State.fireSlot_sceneDrive hscene hcls hc

end Sys2Proof.Machine
end
section
/-! PROOFS. O16: NOP, ABORT, RING_CTL, STATUS_READ and RESET_MODULE (R56, R58 to R60, R64). -/
namespace Sys2Proof.Machine

section
variable {s t : State} {d : Desc} {c : Instr} {op : Nat} {sel : Desc → Bool} {body : State → Desc → State}

/-- A command that may reset the module and starts a descriptor's operation does what its body does. -/
theorem Turns.of_served (hc : Turns c s (s.operation d.did op sel body)) (h : s.serves d op) (hsel : sel d = true)
    (hbody : body (s.holding d.taken) d.taken = t) : Turns c s t :=
  hbody ▸ operation_serves (body := body) h hsel ▸ hc

/-- No submission ring that runs posts to a completion ring, where none of the 64 does (R59). -/
theorem State.no_running_ring {m : Nat} (h : ∀ k, k < 64 → s.cqOf k = m → s.sqState k ≠ 1) :
    (List.range 64).any (fun k => s.cqOf k == m && s.sqState k == 1) = false := by
  rw [List.any_eq_false]
  intro k hk
  have hno := h k (List.mem_range.1 hk)
  simpa using hno

end

/-- Settles O16: each operation is served, and each clause's hypotheses choose one branch of its body. -/
theorem ringOperationsComplete : Obligations.RingOperationsComplete := by
  unfold Obligations.RingOperationsComplete
  refine ⟨?nop, ?abort, ?pause, ?resume, ?resetSq, ?resetEq, ?resetCq, ?status, ?module⟩
  case nop => exact fun s d h => Does.of_served rfl h rfl rfl
  case abort =>
    intro s d hit h hbits hhit
    refine Does.of_served rfl h rfl ?_
    subst hhit
    exact if_neg (by rw [not_not]; exact Nat.div_eq_of_lt hbits)
  case pause =>
    intro s d h hact hnamed hkind hstate
    refine Does.of_served rfl h (by simp [hact]) (if_neg ?_)
    rintro (hno | hno | hno | hno)
    · exact hno hact
    · exact absurd (hnamed.symm.trans hno) (by decide)
    · exact hno hkind
    · exact hstate hno
  case resume =>
    intro s d h hact hnamed hkind hstate
    refine Does.of_served rfl h (by simp [hact]) (if_neg ?_)
    rintro (hno | hno | hno)
    · exact absurd (hnamed.symm.trans hno) (by decide)
    · exact hno hkind
    · exact hstate hno
  case resetSq =>
    intro s d h hact hnamed hkind hstate
    refine Does.of_served rfl h (by simp [hact]) ?_
    exact (if_neg (by simp [hnamed])).trans ((if_pos hkind).trans (if_neg (fun hno => hstate hno.1)))
  case resetEq =>
    intro s d h hact hnamed hkind hup
    have hkind' : ringKind d.taken = 2 := hkind
    refine Does.of_served rfl h (by simp [hact]) ?_
    exact (if_neg (by simp [hnamed])).trans ((if_neg (by simp [hkind'])).trans ((if_neg (by simp [hkind'])).trans
      (if_neg (fun hno => absurd (hup.symm.trans hno) (by decide)))))
  case resetCq =>
    intro s d h hact hnamed hkind hup hidle
    have hkind' : ringKind d.taken = 1 := hkind
    refine Does.of_served rfl h (by simp [hact]) ?_
    exact (if_neg (by simp [hnamed])).trans ((if_neg (by simp [hkind'])).trans ((if_pos hkind').trans
      ((if_neg (fun hno => absurd (hup.symm.trans hno) (by decide))).trans
        (if_neg (fun hno => absurd ((State.no_running_ring hidle).symm.trans hno) (by decide))))))
  case status =>
    intro s d b h hlen hdata
    refine Does.of_served rfl h rfl ?_
    have hdata' : (s.holding d.taken).statusData d.taken.target = some b := hdata
    rw [if_neg (show ¬ d.taken.len = 0 from hlen), hdata']
    rfl
  case module =>
    intro s d h htarget hparam hposts
    exact Turns.of_served rfl h hposts (if_neg (by rintro (hno | hno); exacts [hno htarget, hno hparam]))

end Sys2Proof.Machine
end

section
/-! PROOFS. O18: the rings' timers, Bus Master Enable and the link (R51, R55, R61, R62, R67). -/
namespace Sys2Proof.Machine

section
variable {s : State}

/-- Time passes to an instant below the counter's wrap, and never back. -/
theorem State.elapseTo_reaches {r : Nat} (h : r < 2 ^ 64) : r ≤ (s.elapseTo r).tsu.raw ∧ s.tsu.raw ≤ (s.elapseTo r).tsu.raw := by
  unfold State.elapseTo
  split
  · exact ⟨‹_›, Nat.le_refl _⟩
  · have hraw : (s.elapse (r - s.tsu.raw)).tsu.raw = r := by
      rw [State.elapse_raw, Nat.add_sub_cancel' (by omega), Nat.mod_eq_of_lt h]
    rw [hraw]
    exact ⟨Nat.le_refl _, by omega⟩

theorem State.elapseTo_out (s : State) (r : Nat) : (s.elapseTo r).out = s.out := by
  unfold State.elapseTo
  split <;> rfl

theorem State.msix_hif (s : State) (v : Nat) : (s.msix v).hif = s.hif := by
  unfold State.msix
  split <;> rfl

theorem exec_cqCoalesceTimer {n : Nat} (hn : n < 64) (hunsig : Tbl.get 0 s.hif.cqUnsig n ≠ 0)
    (htime : s.cf (.HIF_CQ_COAL n) F.HIF_CQ_COAL_TIME ≠ 0) : Does (.cqCoalesceTimer n) s
      ((s.elapseTo (Tbl.get 0 s.hif.cqFirst n + s.cf (.HIF_CQ_COAL n) F.HIF_CQ_COAL_TIME * usT)).cqSignal n) := by
  unfold Does exec execCqCoalesceTimer
  exact quiet_does (if_pos ⟨hn, hunsig, htime⟩)

/-- The state in which an event ring's interval has ended (R51). -/
def State.eqIvlEnded (s : State) (n : Nat) : State :=
  let t := s.elapseTo (Tbl.get 0 s.hif.eqIvl n)
  { t with hif := { t.hif with eqIvl := Tbl.put 0 t.hif.eqIvl n 0 } }

theorem exec_eqMessageInterval {n : Nat} (hn : n < 8) (hdue : Tbl.get 0 s.hif.eqIvl n ≠ 0) : Does (.eqMessageInterval n) s
    (if s.cf (.HIF_EQ_CFG n) F.HIF_EQ_CFG_VECTOR = 0 then s.eqIvlEnded n
     else (s.eqIvlEnded n).msix (s.cf (.HIF_EQ_CFG n) F.HIF_EQ_CFG_VECTOR)) := by
  have hcf : (s.eqIvlEnded n).cf (.HIF_EQ_CFG n) F.HIF_EQ_CFG_VECTOR = s.cf (.HIF_EQ_CFG n) F.HIF_EQ_CFG_VECTOR := by
    unfold State.cf
    rw [show (s.eqIvlEnded n).cfg = s.cfg from s.elapseTo_cfg _]
  unfold Does exec execEqMessageInterval
  rw [← hcf]
  exact quiet_does (if_pos ⟨hn, hdue⟩)

/-- A deadline whose descriptor has not begun cancels it (R55). -/
theorem exec_deadlineExpiry {d : Desc} (hd : s.desc? d.did = some d) (hdue : d.deadline ≠ 0) (hbegun : s.hasBegun d = false) :
    Does (.deadlineExpiry d.did) s ((s.untilDeadline d).cancel d stEXPIRED (expiryDetail d)) := by
  unfold Does exec execDeadlineExpiry
  refine quiet_does ?_
  rw [hd]
  exact if_neg (by simp [hdue, hbegun])

/-- Training brings the link up where nothing keeps it down (R67). -/
theorem exec_pcieLinkUp {p : PcieSetup} (h : s.hif.perst = true ∧ s.clk.phase ≠ Phase.off ∧ s.sf .CLK_SRC_STAT ⟨9, 8⟩ < 2) :
    Does (.pcieLinkUp p) s { s with hif := { s.hif with linkUp := true, pcie := s.hif.pcie.setUp p } } := by
  unfold Does exec execPcieLinkUp
  exact quiet_does (if_pos h)

end

/-- Settles O18: each command is one function of the state, and only the interval of an event ring has time to reason about. -/
theorem ringTimersAndMessages : Obligations.RingTimersAndMessages := by
  unfold Obligations.RingTimersAndMessages
  refine ⟨?coalesce, ?interval, ?deadline, ?bmeOff, ?bmeOn, ?perst, ?link⟩
  case coalesce => exact fun s n hn hunsig htime => exec_cqCoalesceTimer hn hunsig htime
  case interval =>
    intro s n hn hdue hwrap
    obtain ⟨hreach, hforward⟩ := State.elapseTo_reaches (s := s) hwrap
    have hcleared : Tbl.get 0 (s.eqIvlEnded n).hif.eqIvl n = 0 := by
      unfold State.eqIvlEnded
      exact Tbl.get_put_same (0 : Nat) _ n 0
    have hout : (s.eqIvlEnded n).out = s.out := s.elapseTo_out _
    have hexec := exec_eqMessageInterval hn hdue
    by_cases hv : s.cf (.HIF_EQ_CFG n) F.HIF_EQ_CFG_VECTOR = 0
    · rw [if_pos hv] at hexec
      exact ⟨_, hexec, hcleared, hreach, hforward, fun _ => hout⟩
    · rw [if_neg hv] at hexec
      have htsu := State.tsu_of_behindHost ((s.eqIvlEnded n).msix_behindHost (s.cf (.HIF_EQ_CFG n) F.HIF_EQ_CFG_VECTOR))
      refine ⟨_, hexec, (congrArg (fun h => Tbl.get 0 h.eqIvl n) (State.msix_hif _ _)).trans hcleared, ?_, ?_, fun h => absurd h hv⟩
      · exact hreach.trans_eq (congrArg Tsu.raw htsu).symm
      · exact hforward.trans_eq (congrArg Tsu.raw htsu).symm
  case deadline => exact fun s d hd hdue hbegun => exec_deadlineExpiry hd hdue hbegun
  case bmeOff => exact fun s => rfl
  case bmeOn => exact fun s => rfl
  case perst => exact fun s => rfl
  case link => exact fun s p hperst hphase hclk => exec_pcieLinkUp ⟨hperst, hphase, hclk⟩

end Sys2Proof.Machine
end

section
/-! PROOFS. O25: the parameters, QUE_FLUSH and RECONCILE_READ (R54, R165, R197, R207, R249, R250, R567). -/
namespace Sys2Proof.Machine

section
variable {s : State} {d : Desc}

/-- PARAM bytes are zero where PARAM is. -/
theorem Desc.pZero_of_param (h : d.param = 0#256) (i j : Nat) : d.pZero i j = true := by
  unfold Desc.pZero Desc.pNum
  rw [h]
  simp

/-- An operation with no launch time acts at once, and begins at the output time now (R54). -/
theorem State.acceptLaunch_now {e : Desc} (now : State → Desc → State) (hlaunch : d.launch = false)
    (he : e = { d with stage := .begun, actTime := some s.outputTime }) :
    (s.holding d.taken).acceptLaunch d.taken now = now ((s.holding d.taken).beginDesc d.did) e := by
  subst he
  exact if_neg (ne_true_of_eq_false hlaunch)

end

/-- Settles O25: each operation is served, and its operands choose one branch of its body. -/
theorem parametersFollowTheirCommands : Obligations.ParametersFollowTheirCommands := by
  unfold Obligations.ParametersFollowTheirCommands
  refine ⟨?read, ?flushes, ?write, ?refused, ?flush, ?recon⟩
  case read =>
    intro s d h hparam htarget hdefined
    refine Does.of_served rfl h rfl ?_
    refine (if_neg (by rw [Bool.not_eq_false]; exact Desc.pZero_of_param hparam _ _)).trans ((if_neg htarget).trans (if_neg ?_))
    exact fun hno => Option.isSome_iff_ne_none.1 hdefined hno
  case flushes =>
    intro s d h hparam htarget
    refine Does.of_served rfl h rfl ?_
    exact (if_neg (by rw [Bool.not_eq_false]; exact Desc.pZero_of_param hparam _ _)).trans (if_pos htarget)
  case write =>
    intro s d e h htarget hzero hlaunch hok he
    refine Does.of_served rfl h (by simp [htarget]) ?_
    refine (if_neg ?_).trans ((State.acceptLaunch_now State.paramNow hlaunch he).trans (by subst he; rfl))
    rintro (hno | hno)
    · exact absurd (hzero.symm.trans hno) (by decide)
    · exact absurd (hok.symm.trans hno) (by decide)
  case refused =>
    intro s d h htarget hzero hbad
    exact Does.of_served rfl h (by simp [htarget]) (if_pos (Or.inr hbad))
  case flush =>
    intro s d e h htarget hzero hlaunch hqueue he
    refine Does.of_served rfl h (by simp [htarget]) ?_
    refine (if_neg ?_).trans ((State.acceptLaunch_now State.flushNow hlaunch he).trans (by subst he; rfl))
    rintro (hno | hno)
    · exact absurd (hzero.symm.trans hno) (by decide)
    · exact Nat.not_lt.2 hqueue hno
  case recon =>
    intro s d fs h hlen htarget hcount hzero hfs
    refine Does.of_served rfl h rfl ?_
    subst hfs
    refine if_neg ?_
    have hfew : (if d.pByte 0 = 0 then 1 else d.pByte 0) ≤ 24 := by split <;> omega
    rintro (hno | hno | hno | hno)
    · exact hlen hno
    · have : 5 < d.target ∧ d.target ≠ 15 := hno
      omega
    · exact Nat.not_lt.2 hfew hno
    · exact absurd (hzero.symm.trans hno) (by decide)

end Sys2Proof.Machine
end

section
/-! PROOFS. O59: a reset of the PCIe function, read through register names outside the map. -/
namespace Sys2Proof.Machine

/-- A running module whose host has written YRD_CFG of yard 0. -/
def yardConfigured : State :=
  { State.reset with cfg := [(.YRD_CFG 0, 1#32)], clk := { State.reset.clk with phase := .run } }

/-- The name of an MSI-X table entry far beyond the table, whose offset is that of YRD_CFG of yard 0. -/
theorem Reg.msix_beyond_table : (Reg.MSIX_ADDR_LO 0x7900).isMsix = true
    ∧ (Reg.MSIX_ADDR_LO 0x7900).offset = (Reg.YRD_CFG 0).offset ∧ ¬ (Reg.MSIX_ADDR_LO 0x7900).mapped := by
  unfold Reg.mapped
  decide

/-- Refutes O59: the clause on the PCIe function reset says of every register name of the MSI-X table that it reads its reset value.
The name of entry 0x7900 lies outside the register map, its offset is that of YRD_CFG of yard 0, and a function reset rightly leaves
YRD_CFG as the host has written it. -/
theorem not_resetsLeaveWhatTheyName : ¬ Obligations.ResetsLeaveWhatTheyName := by
  unfold Obligations.ResetsLeaveWhatTheyName
  rintro ⟨-, -, -, -, -, -, -, hfunction, -⟩
  obtain ⟨t, ht, -, -, hmsix, -⟩ := hfunction yardConfigured .flr (by decide)
  obtain ⟨u, hu, hcfg⟩ := exec_pcieFunctionReset_cfg (kind := .flr) (s := yardConfigured) (by decide)
  obtain rfl : u = t := Host.Outcome.next.inj (hu.symm.trans ht)
  replace hcfg : u.cfg = [(.YRD_CFG 0, 1#32)] := by rw [hcfg, State.pcieReset_cfg]; decide
  obtain ⟨hname, -, -⟩ := Reg.msix_beyond_table
  have hread := hmsix (.MSIX_ADDR_LO 0x7900) hname
  rw [hcfg] at hread
  revert hread
  decide

end Sys2Proof.Machine
end

section
/-! PROOFS. What offers, campaigns, reports and judgements leave: the time unit, the duty ledger and the yards' sequencers
(`State.pace`). -/
namespace Sys2Proof.Machine

/-- The time unit, the duty ledger and the yards' sequencers. -/
def State.pace (s : State) : Tsu × Tbl (List Charge) × Tbl SeqY := (s.tsu, s.air.duty, s.air.seqs)

@[simp] theorem State.pace_mk (pending cfg sts bcFw out evq free hif evr tsu newt clk nvlog lanes seg nvseg roll rollOld air flt
    swx drv mtr nvmtr mbx twn tack shed upd) :
    State.pace ⟨pending, cfg, sts, bcFw, out, evq, free, hif, evr, tsu, newt, clk, nvlog, lanes, seg, nvseg, roll, rollOld, air,
      flt, swx, drv, mtr, nvmtr, mbx, twn, tack, shed, upd⟩ = (tsu, air.duty, air.seqs) := rfl
@[simp] theorem State.pace_eta (s : State) : (s.tsu, s.air.duty, s.air.seqs) = s.pace := rfl

section
variable {s t : State}

theorem State.tsu_of_pace (h : t.pace = s.pace) : t.tsu = s.tsu := congrArg (fun v => v.1) h
theorem State.seq_of_pace (h : t.pace = s.pace) (y : Nat) : t.seq y = s.seq y :=
  congrArg (fun v : Tsu × Tbl (List Charge) × Tbl SeqY => Tbl.get SeqY.reset v.2.2 y) h
theorem State.pace_of_behindHost (h : t.behindHost = s.behindHost) : t.pace = s.pace :=
  congrArg (fun u => u.pace) h

end

section
variable (s : State)

@[simp] theorem State.setSf_pace (r f v) : (s.setSf r f v).pace = s.pace := rfl
@[simp] theorem State.setSw_pace (r v) : (s.setSw r v).pace = s.pace := rfl
@[simp] theorem State.bump_pace (r f n) : (s.bump r f n).pace = s.pace := rfl
@[simp] theorem State.updDesc_pace (k f) : (s.updDesc k f).pace = s.pace := rfl
@[simp] theorem State.noteDiscard_pace (e) : (s.noteDiscard e).pace = s.pace := rfl
@[simp] theorem State.modStall_pace (i f) : (s.modStall i f).pace = s.pace := rfl
@[simp] theorem State.modJob_pace (i f) : (s.modJob i f).pace = s.pace := rfl
@[simp] theorem State.modCamp_pace (i f) : (s.modCamp i f).pace = s.pace := rfl
@[simp] theorem State.ask_pace (r) : (s.ask r).pace = s.pace := rfl
@[simp] theorem State.dropImages_pace (i) : (s.dropImages i).pace = s.pace := rfl
@[simp] theorem State.persistCamps_pace : s.persistCamps.pace = s.pace := rfl
@[simp] theorem State.campEvent_pace (c code sev a) : (s.campEvent c code sev a).pace = s.pace := rfl
@[simp] theorem State.postC_pace (e : CEnt) : (s.postC e).pace = s.pace := State.pace_of_behindHost (s.postC_behindHost e)
@[simp] theorem State.poisonQueue_pace (q off : Nat) : (s.poisonQueue q off).pace = s.pace :=
  State.pace_of_behindHost (s.poisonQueue_behindHost q off)

/-! ## A run goes on (R102, R127) -/

@[simp] theorem State.deferRing_pace (n : Nat) (d : Desc) : (s.deferRing n d).pace = s.pace := by
  unfold State.deferRing
  dsimp only
  split
  · simp
  · split <;> simp

@[simp] theorem State.deferDesc_pace (d : Nat) : (s.deferDesc d).pace = s.pace := by
  unfold State.deferDesc
  split
  · rfl
  · split
    · simp
    · split
      · split <;> simp
      · rfl
    · rfl

@[simp] theorem State.noteHeld_pace (y : Nat) (d : Option Nat) : (s.noteHeld y d).pace = s.pace := by
  unfold State.noteHeld; dsimp only; split <;> simp

@[simp] theorem State.holdJob_pace (j : Job) (y a : Nat) : (s.holdJob j y a).pace = s.pace := by
  unfold State.holdJob; split <;> simp

@[simp] theorem State.offerJobs_pace (y : Nat) (stop : Int) (o : Bool) (l : List Job) : (s.offerJobs y stop o l).1.pace = s.pace := by
  induction l generalizing s with
  | nil => rfl
  | cons j t ih =>
    unfold State.offerJobs
    extract_lets q dur endBy
    split
    · exact ih s
    · split
      · rfl
      · split
        · simp
        · split <;> simp [ih]
        · exact ih s

@[simp] theorem State.offerImage_pace (y : Nat) (stop : Int) : (s.offerImage y stop).pace = s.pace := by
  unfold State.offerImage
  extract_lets q
  split
  · rfl
  · extract_lets len dur endBy
    split
    · rfl
    · split <;> simp

@[simp] theorem State.offer_pace (y : Nat) : (s.offer y).pace = s.pace := by
  unfold State.offer
  dsimp only
  split
  · rfl
  · split
    · split
      · simp
      · split <;> simp
    · rfl

/-! ## Campaigns (R217 to R219) -/

@[simp] theorem State.fltRefresh_pace : s.fltRefresh.pace = s.pace := by
  unfold State.fltRefresh; dsimp only; split <;> simp

@[simp] theorem State.setCamp_pace (i st : Nat) : (s.setCamp i st).pace = s.pace := by
  unfold State.setCamp; simp

@[simp] theorem State.nightEnd_pace (i : Nat) (closed : Bool) : (s.nightEnd i closed).pace = s.pace := by
  unfold State.nightEnd
  split
  · rfl
  · dsimp only
    split <;> split <;> split <;> simp

@[simp] theorem State.campIdle_pace (i : Nat) : (s.campIdle i).pace = s.pace := by
  unfold State.campIdle
  split
  · split <;> simp
  · rfl

@[simp] theorem State.campGo_pace (c : Campaign) (close : Int) : (s.campGo c close).pace = s.pace := by
  unfold State.campGo
  dsimp only
  split <;> simp

@[simp] theorem State.campAgain_pace : s.campAgain.pace = s.pace := by
  unfold State.campAgain
  split
  · rfl
  · split <;> simp

@[simp] theorem State.campBoundary_pace (y : Nat) : (s.campBoundary y).pace = s.pace := by
  unfold State.campBoundary
  split
  · rfl
  · dsimp only
    split
    · rfl
    · split <;> simp

/-! ## Reports and boundaries (R156, R219, R220) -/

@[simp] theorem State.uplinked_pace (r : Rx) : (s.uplinked r).pace = s.pace := by
  unfold State.uplinked
  dsimp only
  split
  · split <;> rfl
  · rfl

@[simp] theorem State.takeUp_pace (r : Rx) : (s.takeUp r).1.pace = s.pace := by
  unfold State.takeUp
  dsimp only
  split
  · split <;> simp
  · rfl

@[simp] theorem State.imageReport_pace (r : Rx) (i : Nat) : (s.imageReport r i).pace = s.pace := by
  unfold State.imageReport
  split
  · rfl
  · split
    · rfl
    · dsimp only
      split
      · split <;> simp
      · split <;> simp
      · simp
      · simp
      · simp

@[simp] theorem State.imageReports_pace (y at_ : Nat) : (s.imageReports y at_).pace = s.pace := by
  unfold State.imageReports
  refine foldl_keeps (fun t r => ?_) _ _
  unfold State.handleUp
  dsimp only
  split <;> simp

@[simp] theorem State.enterAdrift_pace (i at_ : Nat) : (s.enterAdrift i at_).pace = s.pace := rfl

@[simp] theorem State.judgeStall_pace (n at_ i : Nat) : (s.judgeStall n at_ i).pace = s.pace := by
  unfold State.judgeStall
  dsimp only
  split
  · split <;> simp
  · split
    · split <;> split <;> simp
    · rfl

/-! ## Judgements reach the sequencers, and neither the time unit nor the duty ledger -/

/-- The time unit and the duty ledger. -/
def State.dutyPace (s : State) : Tsu × Tbl (List Charge) := (s.tsu, s.air.duty)

theorem State.dutyPace_of_pace {s t : State} (h : t.pace = s.pace) : t.dutyPace = s.dutyPace := congrArg (fun v => (v.1, v.2.1)) h

theorem State.judgeYard_dutyPace (y : Nat) : (s.judgeYard y).dutyPace = s.dutyPace := by
  unfold State.judgeYard
  split
  · rfl
  · dsimp only
    refine (State.dutyPace_of_pace (foldl_keeps (v := State.pace) (fun t i => by simp) _ _)).trans ?_
    exact (State.dutyPace_of_pace ((State.campBoundary_pace _ y).trans (State.imageReports_pace _ y _))).trans rfl

theorem State.judge_dutyPace : s.judge.dutyPace = s.dutyPace := foldl_keeps (fun t y => t.judgeYard_dutyPace y) _ _

end

end Sys2Proof.Machine
end

section
/-! PROOFS. O29: superframes, beacons and timed frames (R103, R125, R145, R147, R150). -/
namespace Sys2Proof.Machine

/-! ## A superframe's number, start and run (R125, R127) -/

/-- What SUPERFRAME_START fixes of a yard: its number and the one before, that it has started, when, its run of DOWNLINK slots, and
the time. -/
def State.superframe (s : State) (y : Nat) : Nat × Nat × Bool × Int × Option Int × Nat :=
  ((s.seq y).n, (s.seq y).prev, (s.seq y).started, (s.seq y).start, (s.seq y).runEnd, s.tsu.raw)

section
variable (s : State) (y : Nat)

@[simp] theorem State.seq_setSeq (q : SeqY) : (s.setSeq y q).seq y = q := Tbl.get_put_same _ _ _ _

theorem State.superframe_of_pace {t : State} (h : t.pace = s.pace) : t.superframe y = s.superframe y := by
  unfold State.superframe
  rw [State.seq_of_pace h, State.tsu_of_pace h]

theorem State.campAgain_superframe : s.campAgain.superframe y = s.superframe y := s.superframe_of_pace y s.campAgain_pace
theorem State.ask_superframe (r : TxReq) : (s.ask r).superframe y = s.superframe y := rfl

/-- The beacon's announcements and the downlink channel are set within the superframe under way. -/
theorem State.setSeq_announce_superframe (ann : List Nat) (chan mode : Nat) :
    (s.setSeq y { s.seq y with ann := ann, dlChan := chan, dlMode := mode }).superframe y = s.superframe y := by
  unfold State.superframe
  rw [State.seq_setSeq]
  rfl

theorem State.setSeq_silent_superframe (ann : List Nat) :
    (s.setSeq y { s.seq y with ann := ann }).superframe y = s.superframe y :=
  s.setSeq_announce_superframe y ann (s.seq y).dlChan (s.seq y).dlMode

theorem State.skipBeacon_superframe (b : Nat) : (s.skipBeacon y b).superframe y = s.superframe y :=
  State.setSeq_silent_superframe _ y []

end

/-- The next superframe of a yard in service begins with the number of R125, at its start (R124). -/
theorem exec_superframeStart_superframe {s u : State} {y : Nat} {k : Int} (hlive : s.yardLive y = true) (hserving : s.serving = true)
    (hk : k = if s.sfStart y (s.sfAt y s.outputTime) = s.outputTime ∧ ¬((s.seq y).started = true ∧ (s.seq y).start = s.outputTime)
      then s.sfAt y s.outputTime else s.sfAt y s.outputTime + 1)
    (hu : u = ((s.elapseOut (s.sfStart y k)).judgeYard y).rollBoundary) :
    ∃ t, exec (.superframeStart y) s = .next (s.framed t)
      ∧ t.superframe y = (u.nextN y k, (s.seq y).n, true, u.sfStart y k, none, u.tsu.raw) := by
  unfold exec execSuperframeStart
  refine ⟨_, quiet_eq _ _, ?_⟩
  rw [if_neg (by simp [hlive, hserving])]
  extract_lets q now k0 k' t n begun again jobs camp ann dl old chosen silent len
  have hbegun : begun.superframe y = (u.nextN y k, (s.seq y).n, true, u.sfStart y k, none, u.tsu.raw) := by
    subst hk hu
    unfold begun State.superframe
    rw [State.seq_setSeq]
    rfl
  have hchosen : chosen.superframe y = begun.superframe y :=
    (again.setSeq_announce_superframe y ann _ _).trans (begun.campAgain_superframe y)
  rw [← hbegun, ← hchosen]
  split
  · rfl
  · split
    · exact chosen.setSeq_silent_superframe y []
    · split
      · exact chosen.skipBeacon_superframe y _
      · split
        · exact chosen.ask_superframe y _
        · exact chosen.skipBeacon_superframe y _
        · exact chosen.skipBeacon_superframe y _

/-- The number taken is above the one before, and no less than the superframe's whole number (R125). -/
theorem State.nextN_rises {s : State} {y : Nat} (k : Int) (hstarted : (s.seq y).started = true) (htake : (s.seq y).takeover = false) :
    (s.seq y).n < s.nextN y k ∧ k ≤ s.nextN y k := by
  have hnext : s.nextN y k = (max k ((s.seq y).n + 1)).toNat := by simp [State.nextN, hstarted, htake]
  omega

/-! ## A beacon that is skipped (R103, R150) -/

theorem State.skipBeacon_reads (s : State) (y b : Nat) :
    (s.skipBeacon y b).sf (.YRD_BSKIP y) F.word = (s.sf (.YRD_BSKIP y) F.word + 1) % 2 ^ 32
      ∧ (s.skipBeacon y b).sf (.YRD_EVT y) F.YRD_EVT_BSKIP = 1 ∧ ((s.skipBeacon y b).seq y).ann = [] := by
  have hsts : (s.skipBeacon y b).sts = ((s.bump (.YRD_BSKIP y) F.word).setSf (.YRD_EVT y) F.YRD_EVT_BSKIP 1).sts := rfl
  refine ⟨?count, ?event, ?ann⟩
  case count =>
    rw [State.sf_of_sts hsts, State.sf_setSf_other _ (by simp only [Reg.offset]; omega)]
    exact s.sf_setSf_same _ (by decide) _
  case event =>
    rw [State.sf_of_sts hsts]
    exact State.sf_setSf_same _ _ (by decide) _
  case ann => exact congrArg SeqY.ann (State.seq_setSeq _ y _)

/-! ## Timed frames (R145, R147) -/

/-- A stall's wake lies ahead in the superframe under way, which is one of its own, and `from_` is when the first bit of its frame
would leave (R145). -/
def State.wakesAt (s : State) (i from_ : Nat) : Prop :=
  (s.seq (yardOf i)).started = true ∧ (s.stall i).live = true ∧ (s.stall i).timed = true
    ∧ (s.seq (yardOf i)).n % max (s.stall i).wakeEvery 1 = (s.stall i).wakePhase ∧ s.serving = true
    ∧ (from_ : Int) = (s.seq (yardOf i)).start + (s.stall i).wakeSlot * s.slotT + 32 * msT - s.sfdT (yardOf i) (s.seq (yardOf i)).dlMode
    ∧ s.outputTime ≤ from_

/-- What the window of stall `i` needs beyond BASE_WIN in state `u`, the superframe's mode and the stall's timing being those of `s`, in
10^-6 ticks (R147). -/
def State.windowNeeds (s u : State) (i : Nat) : Int :=
  (s.stall i).drift6 ((u.tsu.raw : Int) + s.sfdT (yardOf i) (s.seq (yardOf i)).dlMode - (s.stall i).syncRaw)

section
variable {s u : State} {i from_ base w6 : Nat}

/-- A timed frame whose stall's window would exceed 64 ms makes its timing stale (R147). -/
theorem exec_timedFrame_stale (h : s.wakesAt i from_) (hu : u = s.elapseOut from_)
    (hbase : base = s.cf .YRD_MAC_CFG F.YRD_MAC_CFG_BASE_WIN * msT) (hw6 : (w6 : Int) = s.windowNeeds u i)
    (hwide : (64 * msT - base) * 1000000 < w6) :
    Does (.timedFrame i) s ((u.modStall i (fun x => { x with stale := true })).event 6 (yardOf i) 0x0407 0
      [i, (base * 1000000 + w6) / 500000000]) := by
  obtain ⟨hstarted, hlive, htimed, hwake, hserving, hfrom, hahead⟩ := h
  have hms : ((base : Int) * 1000000 + w6) / 500000000 = ((base * 1000000 + w6) / 500000000 : Nat) := by push_cast; rfl
  subst hu
  unfold State.windowNeeds at hw6
  unfold Does exec execTimedFrame
  refine quiet_does ?_
  dsimp only
  rw [← hfrom, if_neg (by simp [hstarted, hlive, htimed, hwake, hserving, hahead]), ← hw6, ← hbase, if_pos (by exact_mod_cast hwide),
    hms, Int.toNat_natCast]

/-- A timed frame within its window that fits and is admitted asks for its chain, to leave at its stall's wake (R145). -/
theorem exec_timedFrame_asks {it : Item} (h : s.wakesAt i from_) (hu : u = s.elapseOut from_)
    (hbase : base = s.cf .YRD_MAC_CFG F.YRD_MAC_CFG_BASE_WIN * msT) (hw6 : (w6 : Int) = s.windowNeeds u i)
    (hnarrow : w6 ≤ (64 * msT - base) * 1000000) (hit : u.timedItem i = some it)
    (hclear : u.overtakes (u.yardChain (yardOf i)) (s.seq (yardOf i)).dlChan (s.seq (yardOf i)).dlMode (some it.id) = false)
    (hsends : u.yardSends (yardOf i) = true)
    (hfits : u.outputTime + u.airT (yardOf i) (s.seq (yardOf i)).dlMode (u.psduLen (yardOf i) (u.hopLen it))
      ≤ (s.seq (yardOf i)).start + u.wakeRunEnd i * u.slotT)
    (hyes : u.admission (u.yardChain (yardOf i)) (s.seq (yardOf i)).dlChan (s.seq (yardOf i)).dlMode
      (u.airT (yardOf i) (s.seq (yardOf i)).dlMode (u.psduLen (yardOf i) (u.hopLen it))) .ordinary 0 = .yes) :
    Does (.timedFrame i) s ((u.modItem it.id (fun x => { x with busy := true })).ask
      { u.dlReq (yardOf i) (.item it.id) (u.psduLen (yardOf i) (u.hopLen it))
          ((s.seq (yardOf i)).start + u.wakeRunEnd i * u.slotT) with latest := some u.tsu.raw }) := by
  obtain ⟨hstarted, hlive, htimed, hwake, hserving, hfrom, hahead⟩ := h
  subst hu
  unfold State.windowNeeds at hw6
  unfold Does exec execTimedFrame
  refine quiet_does ?_
  dsimp only
  rw [← hfrom, if_neg (by simp [hstarted, hlive, htimed, hwake, hserving, hahead]), ← hw6, ← hbase,
    if_neg (by exact_mod_cast Nat.not_lt.2 hnarrow), hit]
  dsimp only
  rw [if_neg (by simp [hsends, hclear, hfits]), hyes]

end

/-- Settles O29: the parts of SUPERFRAME_START behind the number's taking leave it (`exec_superframeStart_superframe`); the other
clauses are the commands' own functions. -/
theorem superframesTakeRisingNumbers : Obligations.SuperframesTakeRisingNumbers := by
  unfold Obligations.SuperframesTakeRisingNumbers
  refine ⟨?start, ?rises, ?skip, ?skipped, ?timed⟩
  case start =>
    intro s u y k _ hlive hserving hk hu
    obtain ⟨t, ht, hsf⟩ := exec_superframeStart_superframe hlive hserving hk hu
    simp only [State.superframe, Prod.mk.injEq] at hsf
    obtain ⟨hn, hprev, hstarted, hstart, hrun, hraw⟩ := hsf
    exact ⟨_, ht, hn, hprev, hstarted, hstart, hrun, rfl, hraw⟩
  case rises => exact fun s y k hstarted htake => State.nextN_rises k hstarted htake
  case skip =>
    intro s y r hr
    unfold Does exec execBeaconSkip
    exact quiet_does (by rw [hr])
  case skipped => exact fun s y b _ => s.skipBeacon_reads y b
  case timed =>
    rintro s u i from_ base w6 q x rfl rfl hstarted hlive htimed hwake hserving hfrom hahead rfl rfl hw6
    have hwakes : s.wakesAt i from_ := ⟨hstarted, hlive, htimed, hwake, hserving, hfrom, hahead⟩
    refine ⟨exec_timedFrame_stale hwakes rfl rfl hw6, ?_⟩
    rintro it len dur hnarrow hit rfl hclear rfl hsends hfits hyes
    exact exec_timedFrame_asks hwakes rfl rfl hw6 hnarrow hit hclear hsends hfits hyes

end Sys2Proof.Machine
end

section
/-! PROOFS. O31: the duty ledger (R99, R101, R107). -/
namespace Sys2Proof.Machine

/-- Charges that are older than an hour of slots leave the ledger. -/
def State.forgetCharges (s : State) : State :=
  { s with air := { s.air with duty :=
      (s.air.duty.map (fun (p : Nat × List Charge) =>
        (p.1, p.2.filter (fun c => decide (dutySlot s.outputTime - 3599999 ≤ c.slot))))).filter (fun p => p.2 != []) } }

/-- What stands in the ledger lists charges, none older than an hour of slots (R99). -/
theorem State.forgetCharges_recent (s : State) :
    ∀ p ∈ s.forgetCharges.air.duty, p.2 ≠ [] ∧ ∀ c ∈ p.2, dutySlot s.outputTime - 3599999 ≤ c.slot := by
  intro p hp
  obtain ⟨hmem, hne⟩ := List.mem_filter.1 hp
  obtain ⟨p, -, rfl⟩ := List.mem_map.1 hmem
  exact ⟨bne_iff_ne.1 hne, fun c hc => of_decide_eq_true (List.mem_filter.1 hc).2⟩

/-- At a slot's end the time passes to it and old charges leave the ledger; the judgements and offers behind that charge nothing. -/
theorem exec_dutySlotTick (s : State) : ∃ t, Does .dutySlotTick s t
    ∧ t.dutyPace = (s.elapseOut ((dutySlot s.outputTime + 1) * 500000)).forgetCharges.dutyPace :=
  ⟨_, rfl, (State.dutyPace_of_pace (foldl_keeps (fun t y => t.offer_pace y) _ _)).trans (State.judge_dutyPace _)⟩

/-- A frame that a sub-band with a duty limit admits stays within the budget with the slots it needs, and an ordinary one leaves
the reserve as well (R101). -/
theorem State.admission_yes {s : State} {chain chan mode dur share : Nat} {cls : ChargeClass} {b : SubBand}
    (hb : s.subBandOf (chain / 2) chan mode = some b) (hlim : b.limited = true)
    (h : s.admission chain chan mode dur cls share = .yes) :
    s.usedO (s.account chain b.num) (dutySlot s.outputTime) + s.usedR (s.account chain b.num) (dutySlot s.outputTime)
        + (s.newSlots (s.account chain b.num) s.outputTime dur).length ≤ b.budget
      ∧ (cls = .ordinary → s.usedO (s.account chain b.num) (dutySlot s.outputTime)
        + (s.newSlots (s.account chain b.num) s.outputTime dur).length ≤ b.budget - s.reserve b) := by
  unfold State.admission at h
  rw [hb] at h
  dsimp only at h
  split at h
  · cases h
  · rw [if_neg (by simp [hlim])] at h
    have hok := of_not_not (fun hno => Admission.noConfusion ((if_neg hno).symm.trans h))
    cases cls with
    | reserved => exact ⟨of_decide_eq_true hok, nofun⟩
    | ordinary =>
      obtain ⟨hfits, hroom⟩ := Bool.and_eq_true_iff.1 hok
      exact ⟨of_decide_eq_true hfits, fun _ => of_decide_eq_true hroom⟩
    | campaign id =>
      obtain ⟨hfits, -⟩ := Bool.and_eq_true_iff.1 (Bool.and_eq_true_iff.1 hok).1
      exact ⟨of_decide_eq_true hfits, nofun⟩

/-- Settles O31: a slot's end forgets the old charges, and the judgements and offers behind it charge nothing
(`State.judge_dutyPace`, `State.offer_pace`); the other clauses are the admission's and the operation's own functions. -/
theorem dutyLedgerForgetsAfterAnHour : Obligations.DutyLedgerForgetsAfterAnHour := by
  unfold Obligations.DutyLedgerForgetsAfterAnHour
  refine ⟨?tick, ?admission, ?read, ?target⟩
  case tick =>
    rintro s u rfl
    obtain ⟨t, hrun, hpace⟩ := exec_dutySlotTick s
    generalize s.elapseOut ((dutySlot s.outputTime + 1) * 500000) = u at *
    obtain ⟨htsu, hduty⟩ : t.tsu = u.tsu ∧ t.air.duty = u.forgetCharges.air.duty := Prod.ext_iff.1 hpace
    exact ⟨_, hrun, congrArg Tsu.raw htsu, rfl, fun p hp => u.forgetCharges_recent p (hduty ▸ hp)⟩
  case admission =>
    intro s chain chan mode dur share b hb hlim
    exact ⟨fun h => (State.admission_yes hb hlim h).1,
      fun h => (State.admission_yes hb hlim h).imp_right (fun hroom => hroom rfl)⟩
  case read =>
    rintro s d l hserves hlen htarget hzero hshared rfl
    refine Does.of_served rfl hserves rfl ?_
    have hargs : ¬(d.taken.len = 0 ∨ (7 < d.taken.target ∧ d.taken.target ≠ 15) ∨ d.taken.pZero 0 32 = false) := by
      rintro (h | ⟨h, -⟩ | h)
      · exact hlen h
      · exact absurd htarget (Nat.not_le.2 h)
      · exact absurd (hzero.symm.trans h) (by decide)
    have hown : d.taken.target ≠ 15 := fun h => absurd (h ▸ htarget : 15 ≤ 7) (by decide)
    have hchains : (s.holding d.taken).cf .YRD_REGION F.YRD_REGION_SHARED = 0 := hshared
    dsimp only
    rw [if_neg hargs, hchains, if_neg Nat.zero_ne_one, if_neg hown, List.flatMap_singleton]
    rfl
  case target =>
    intro s d hserves habove hall
    exact Does.of_served rfl hserves rfl (if_pos (Or.inr (Or.inl ⟨habove, hall⟩)))

end Sys2Proof.Machine
end

section
/-! PROOFS. O27: the rolling self-test of the lane pool (R83, R84, R86). -/
namespace Sys2Proof.Machine

/-! ## The interval (R83 step 1, R86) -/

/-- A test interval has ended: the next is set, and self-test is suspended or resumes (R86). -/
def State.intervalEnded (s : State) : State :=
  let t := s.elapseTo s.lanes.bistAt
  ({ t with lanes := { t.lanes with bistAt := t.tsu.raw + t.cf .YRD_BIST_CFG F.YRD_BIST_CFG_INTERVAL * msT } } : State).checkSuspend

/-- A SPARE lane is tested in place (R83). -/
def State.testInPlace (s : State) (n : Nat) : State :=
  let u := s.setRole n rTESTING
  { u with lanes := { u.lanes with tests := u.lanes.tests ++ [⟨n, none, true, u.tsu.raw⟩] } }

/-- Lane `n` has its turn, and the rotation goes on behind it (R83). -/
def State.turnTaken (s : State) (n : Nat) : State := { s with lanes := { s.lanes with next := (n + 1) % 544 } }

/-- A lane whose turn it is is tested in place, or behind a shadow if a SPARE lane is idle. -/
def State.startTest (s : State) (n : Nat) : State :=
  if s.role n = rSPARE then s.testInPlace n
  else
    match s.idleSpare with
    | some sh => s.shadowTest n sh
    | none => s.event 7 n 0x0306 0 [n]

section
variable {s u : State} {n sh : Nat}

theorem exec_bistInterval_turn (hdone : s.done = true) (hen : s.cf .YRD_BIST_CFG F.YRD_BIST_CFG_ENABLE = 1)
    (hu : u = s.intervalEnded) (hgo : u.lanes.suspended = false)
    (hturn : (laneRound u.lanes.next).find? u.turnCounts = some n) : Does .bistInterval s ((u.turnTaken n).startTest n) := by
  unfold Does exec execBistInterval
  refine quiet_does ?_
  rw [if_neg (by simp [hdone, hen])]
  extract_lets t lanes due ended pool
  obtain ⟨hended, hpool⟩ : ended = u ∧ pool = u.lanes := hu ▸ ⟨rfl, rfl⟩
  clear_value ended pool
  subst hended hpool
  rw [if_neg (by simp [hgo])]
  split
  · next hnone => cases hturn.symm.trans hnone
  · next m hsome =>
    obtain rfl : n = m := Option.some.inj (hturn.symm.trans hsome)
    extract_lets turned
    have hturned : turned = ended.turnTaken n := rfl
    rw [← hturned]
    clear_value turned
    unfold State.startTest
    cases turned.idleSpare <;> rfl

theorem State.startTest_of_spare (h : s.role n = rSPARE) :
    (s.startTest n).lanes = { s.lanes with tests := s.lanes.tests ++ [⟨n, none, true, s.tsu.raw⟩] } := by
  unfold State.startTest State.testInPlace
  rw [if_pos h]
  dsimp only
  rw [State.setRole_lanes, State.setRole_tsu]

theorem State.startTest_of_idle (h : s.role n ≠ rSPARE) (hsh : s.idleSpare = some sh) :
    (s.startTest n).lanes = { s.lanes with tests := s.lanes.tests ++ [⟨n, some sh, false, s.tsu.raw⟩] } := by
  unfold State.startTest State.shadowTest
  rw [if_neg h, hsh]
  dsimp only
  rw [State.assignLane_lanes, State.assignLane_tsu]

/-! ## The handover, its timeout, and the verdict (R83 steps 2 to 6) -/

theorem exec_laneTestHandover {at_ : Nat} (h : s.testOf n = some ⟨n, some sh, false, at_⟩) :
    Does (.laneTestHandover n) s { s.setRole n rTESTING with lanes := { s.lanes with
      tests := s.lanes.tests.map (fun x => if x.lane == n then { x with handed := true } else x) } } := by
  unfold Does exec execLaneTestHandover
  refine quiet_does ?_
  rw [h]
  dsimp only
  rw [if_pos ⟨rfl, rfl⟩, State.setRole_lanes]

theorem exec_bistShadowTimeout {at_ : Nat} (h : s.testOf n = some ⟨n, some sh, false, at_⟩) : Does (.bistShadowTimeout n) s
    ((((s.elapseTo (at_ + 2 * secT)).endTest n).setRole sh rSPARE).event 7 n 0x0306 0 [n]).checkSuspend := by
  unfold Does exec execBistShadowTimeout
  refine quiet_does ?_
  rw [h]
  exact if_neg Bool.false_ne_true

/-- The test of lane `n` has ended with a pass, which counts. -/
def State.testPassed (s : State) (n : Nat) : State :=
  (((s.endTest n).setSf (.LNE_BIST n) F.LNE_BIST_RESULT 1).setSf (.LNE_BIST n) F.LNE_BIST_CAUSE 0).bumpSat (.LNE_BIST n)
    F.LNE_BIST_PASSES

/-- A test behind a shadow ends: after a pass the shadow serves on, after a failure it keeps the entry of the lane retired. -/
theorem exec_laneTestDone_shadowed {at_ : Nat} (h : s.testOf n = some ⟨n, some sh, true, at_⟩) (c : Nat) :
    Does (.laneTestDone n c) s (if c = 0 then ((((s.testPassed n).setRole n rSPARE).setRole sh rACTIVE).reMove n sh).checkSuspend
      else ((((((s.endTest n).retire n (c % 16) (s.laneYard n) (s.laneEntry n)).setRole sh rACTIVE).reMove n sh).replaced n sh
        (s.laneYard n) (s.laneEntry n)).checkSpares).checkSuspend) := by
  unfold Does exec execLaneTestDone
  refine quiet_does ?_
  rw [h]
  exact if_neg Bool.noConfusion

/-- A test in place ends: after a pass the lane is SPARE again, after a failure retired. -/
theorem exec_laneTestDone_inPlace {at_ : Nat} (h : s.testOf n = some ⟨n, none, true, at_⟩) (c : Nat) :
    Does (.laneTestDone n c) s (if c = 0 then ((s.testPassed n).setRole n rSPARE).checkSuspend
      else (((s.endTest n).retire n (c % 16) 0xFF 0xFF).checkSpares).checkSuspend) := by
  unfold Does exec execLaneTestDone
  refine quiet_does ?_
  rw [h]
  exact if_neg Bool.noConfusion

end

/-- Settles O27: one lemma for each command of the test's steps. -/
theorem rollingTestFollowsItsSteps : Obligations.RollingTestFollowsItsSteps := by
  unfold Obligations.RollingTestFollowsItsSteps
  refine ⟨?interval, ?handover, ?shadowed, ?inPlace⟩
  case interval =>
    intro s u n hdone hen hu hgo hturn
    have hrun := exec_bistInterval_turn hdone hen hu hgo hturn
    refine ⟨fun hspare => ⟨_, hrun, ?_⟩, fun sh hbusy hsh => ⟨_, hrun, ?_⟩⟩
    · have hlanes := State.startTest_of_spare (s := u.turnTaken n) hspare
      exact ⟨congrArg Lanes.next hlanes, congrArg Lanes.tests hlanes, rfl⟩
    · have hlanes := State.startTest_of_idle (s := u.turnTaken n) hbusy hsh
      exact ⟨congrArg Lanes.next hlanes, congrArg Lanes.tests hlanes, rfl⟩
  case handover => exact fun s n sh at_ h => ⟨exec_laneTestHandover h, exec_bistShadowTimeout h⟩
  case shadowed =>
    rintro s p n sh at_ h rfl
    exact ⟨exec_laneTestDone_shadowed h 0, fun c hc => by simpa only [if_neg hc] using exec_laneTestDone_shadowed h c⟩
  case inPlace =>
    rintro s p n at_ h rfl
    exact ⟨exec_laneTestDone_inPlace h 0, fun c hc => by simpa only [if_neg hc] using exec_laneTestDone_inPlace h c⟩

end Sys2Proof.Machine
end

section
/-! PROOFS. The stall table: a read after a write, and what answering a frame leaves of a stall (R141, R151, R162). -/
namespace Sys2Proof.Machine

section
variable (s : State)

/-! ## A stall after a write -/

@[simp] theorem State.stall_setStall_same (i : Nat) (x : Stall) : (s.setStall i x).stall i = x := Tbl.get_put_same _ _ _ _

theorem State.stall_setStall_other {i j : Nat} (h : j ≠ i) (x : Stall) : (s.setStall i x).stall j = s.stall j :=
  Tbl.get_put_other _ _ _ h

@[simp] theorem State.stall_modStall_same (i : Nat) (f : Stall → Stall) : (s.modStall i f).stall i = f (s.stall i) :=
  s.stall_setStall_same i _

/-- A write that keeps what `p` tells of the stall written keeps it of every stall. -/
theorem State.stall_setStall_keeps {α : Type} {p : Stall → α} {i : Nat} {x : Stall} (h : p x = p (s.stall i)) (j : Nat) :
    p ((s.setStall i x).stall j) = p (s.stall j) := by
  by_cases hj : j = i
  · rw [hj, State.stall_setStall_same, h]
  · rw [State.stall_setStall_other s hj]

/-! ## What answering a frame writes of a stall -/

/-- A stall without the fields that answering a frame writes: its downlink counter, its renewal, and its latest answer. -/
def Stall.unanswered (x : Stall) : Stall := { x with fcDown := 0, fcSaved := 0, renew := 0, ansFc := 0, ansPsdu := [], ansAt := 0 }

/-- What answering a frame leaves: its stall's other fields, the tack store, and the frames accepted. -/
def State.unanswered (s : State) (i : Nat) : Stall × Tack × List Rx := ((s.stall i).unanswered, s.tack, s.air.accepted)

variable (i : Nat)

@[simp] theorem State.event_unanswered (f n c v a) : (s.event f n c v a).unanswered i = s.unanswered i := rfl
@[simp] theorem State.bump_unanswered (r f n) : (s.bump r f n).unanswered i = s.unanswered i := rfl
@[simp] theorem State.addItem_unanswered (it) : (s.addItem it).unanswered i = s.unanswered i := rfl
@[simp] theorem State.addAnswer_unanswered (r k j) : (s.addAnswer r k j).unanswered i = s.unanswered i := rfl
@[simp] theorem State.relayTo_unanswered (p b) : (s.relayTo p b).unanswered i = s.unanswered i := rfl
@[simp] theorem State.keepJoin_unanswered (e fc a b) : (s.keepJoin e fc a b).unanswered i = s.unanswered i := rfl

theorem State.setStall_unanswered {j : Nat} {x : Stall} (h : x.unanswered = (s.stall j).unanswered) :
    (s.setStall j x).unanswered i = s.unanswered i :=
  congrArg (·, s.tack, s.air.accepted) (s.stall_setStall_keeps h i)

theorem State.modStall_unanswered {j : Nat} {f : Stall → Stall} (h : ∀ x, (f x).unanswered = x.unanswered) :
    (s.modStall j f).unanswered i = s.unanswered i :=
  s.setStall_unanswered i (h _)

@[simp] theorem State.addKey_unanswered (j : Nat) (k : ItemKind) : (s.addKey j k).unanswered i = s.unanswered i := by
  unfold State.addKey; split <;> simp

@[simp] theorem State.renewKey_unanswered (j : Nat) : (s.renewKey j).unanswered i = s.unanswered i := by
  unfold State.renewKey
  exact (State.addKey_unanswered _ i j _).trans (State.modStall_unanswered _ i fun _ => rfl)

@[simp] theorem State.limitStall_unanswered (j : Nat) : (s.limitStall j).unanswered i = s.unanswered i := by
  unfold State.limitStall; simp

@[simp] theorem State.saveStall_unanswered (j : Nat) : (s.saveStall j).unanswered i = s.unanswered i := by
  unfold State.saveStall
  dsimp only
  split
  · exact s.setStall_unanswered i rfl
  · rfl

@[simp] theorem State.useFc_unanswered (j : Nat) : (s.useFc j).2.unanswered i = s.unanswered i := by
  have hmod : (s.modStall j (fun x => { x with fcDown := (s.stall j).fcDown + 1 })).unanswered i = s.unanswered i :=
    s.modStall_unanswered i fun _ => rfl
  unfold State.useFc
  dsimp only
  split <;> simp [hmod]

@[simp] theorem State.touchKey_unanswered (k : CacheKey) : (s.touchKey k).unanswered i = s.unanswered i := rfl

@[simp] theorem State.useKey_unanswered (k n h : Nat) : (s.useKey k n h).unanswered i = s.unanswered i := by
  unfold State.useKey; split <;> simp

@[simp] theorem State.stallFrame_unanswered (j typ ar pend msg) : (s.stallFrame j typ ar pend msg).2.2.unanswered i = s.unanswered i := by
  unfold State.stallFrame; simp

/-! ## The answers -/

@[simp] theorem State.relayAnswer_unanswered (r p msg) : (s.relayAnswer r p msg).unanswered i = s.unanswered i := by
  unfold State.relayAnswer
  extract_lets j f t
  have ht : t.unanswered i = f.2.2.unanswered i := State.modStall_unanswered _ i fun x => by split <;> rfl
  rw [State.relayTo_unanswered, ht]
  exact State.stallFrame_unanswered _ _ _ _ _ _ _

@[simp] theorem State.answerUp_unanswered (r k msg) : (s.answerUp r k msg).unanswered i = s.unanswered i := by
  unfold State.answerUp; split <;> simp

@[simp] theorem State.answerAgain_unanswered (r j psdu) : (s.answerAgain r j psdu).unanswered i = s.unanswered i := by
  unfold State.answerAgain; split <;> simp

@[simp] theorem State.answerJoin_unanswered (r j resp) : (s.answerJoin r j resp).unanswered i = s.unanswered i := by
  unfold State.answerJoin State.joinFrame
  split
  · rfl
  · split <;> simp

end

section
variable {s t : State} {i : Nat}

theorem State.stall_of_unanswered (h : t.unanswered i = s.unanswered i) : (t.stall i).unanswered = (s.stall i).unanswered :=
  congrArg (·.1) h
theorem State.accepted_of_unanswered (h : t.unanswered i = s.unanswered i) : t.air.accepted = s.air.accepted :=
  congrArg (·.2.2) h

end

end Sys2Proof.Machine
end

section
/-! PROOFS. O32: the class of an uplink frame, and the counter and window that refuse it when it comes again (R130, R132, R133, R160,
R198). -/
namespace Sys2Proof.Machine

/-! ## What the replay check reads -/

/-- The fields of a stall that the replay check reads: its uplink counter and window, and which of its keys is the old one. -/
def Stall.replay (x : Stall) : Nat × Nat × Nat × Bool × Nat := (x.fcUp, x.fcWin, x.oldKey, x.nextHeld, x.oldEp)

/-- What the replay check of a stall's frames reads: the stall's part, and the epoch. -/
def State.replay (s : State) (i : Nat) : (Nat × Nat × Nat × Bool × Nat) × Nat := ((s.stall i).replay, s.tack.epoch)

section
variable {s t : State}

theorem State.replay_of_unanswered {i : Nat} (h : t.unanswered i = s.unanswered i) : t.replay i = s.replay i :=
  congrArg (fun v : Stall × Tack × List Rx => (v.1.replay, v.2.1.epoch)) h

end

section
variable (s : State) (i : Nat)

theorem State.modStall_replay {j : Nat} {f : Stall → Stall} (h : ∀ x, (f x).replay = x.replay) :
    (s.modStall j f).replay i = s.replay i :=
  congrArg (·, s.tack.epoch) (s.stall_setStall_keeps (h _) i)

@[simp] theorem State.enterAdrift_replay (j at_ : Nat) : (s.enterAdrift j at_).replay i = s.replay i :=
  (s.modStall_replay i (j := j) (f := fun x => { x with state := sADRIFT, adriftAt := at_ }) fun _ => rfl)

/-- A judgement of a boundary finds nothing to do, makes its stall ADRIFT, or notes the end of its doze. -/
theorem State.judgeStall_cases (n at_ j : Nat) : s.judgeStall n at_ j = s ∨ s.judgeStall n at_ j = s.enterAdrift j at_
    ∨ s.judgeStall n at_ j = s.modStall j (fun x => { x with dozeSf := some (n - 1) }) := by
  unfold State.judgeStall
  dsimp only
  split
  · split <;> simp
  · split
    · split <;> split <;> simp
    · simp

/-- It reaches no counter of a stall. -/
@[simp] theorem State.judgeStall_replay (n at_ j : Nat) : (s.judgeStall n at_ j).replay i = s.replay i := by
  obtain h | h | h := s.judgeStall_cases n at_ j
  · rw [h]
  · rw [h, State.enterAdrift_replay]
  · rw [h]
    exact s.modStall_replay i fun _ => rfl

theorem State.judgeStall_air_sts (n at_ j : Nat) : (s.judgeStall n at_ j).air = s.air ∧ (s.judgeStall n at_ j).sts = s.sts := by
  obtain h | h | h := s.judgeStall_cases n at_ j <;> rw [h] <;> exact ⟨rfl, rfl⟩

end

/-! ## What passing a frame on, or counting it as a duplicate, leaves -/

section
variable (s : State) (r : Rx)

/-- A boundary may be judged before the frame; then the frame's own stall is written, in no field of the replay check. -/
theorem State.seen_eq : ∃ u g, s.seen r = u.fresh.2.modStall r.stall g ∧ (∀ x : Stall, (g x).replay = x.replay)
    ∧ (u = s ∨ ∃ n at_, u = s.judgeStall n at_ r.stall) := by
  unfold State.seen
  refine ⟨_, _, rfl, fun x => ?_, ?_⟩
  · dsimp only
    split <;> split <;> rfl
  · split
    · split
      · exact Or.inr ⟨_, _, rfl⟩
      · exact Or.inl rfl
    · exact Or.inl rfl

@[simp] theorem State.seen_replay (i : Nat) : (s.seen r).replay i = s.replay i := by
  obtain ⟨u, g, hseen, hg, hu⟩ := s.seen_eq r
  rw [hseen, State.modStall_replay _ i hg]
  rcases hu with rfl | ⟨n, at_, rfl⟩
  · rfl
  · exact s.judgeStall_replay i n at_ r.stall

theorem State.seen_air_sts : (s.seen r).air = s.air ∧ (s.seen r).sts = s.sts := by
  obtain ⟨u, g, hseen, -, hu⟩ := s.seen_eq r
  rw [hseen]
  rcases hu with rfl | ⟨n, at_, rfl⟩
  · exact ⟨rfl, rfl⟩
  · exact s.judgeStall_air_sts n at_ r.stall

@[simp] theorem State.pushUp_replay (i : Nat) : (s.pushUp r).replay i = s.replay i := by
  unfold State.pushUp
  dsimp only
  split
  · rfl
  · split <;> rfl

@[simp] theorem State.passUp_replay (i : Nat) : (s.passUp r).replay i = s.replay i := by
  have hpush : ((s.seen r).pushUp r).replay i = s.replay i := by simp
  unfold State.passUp
  dsimp only
  split
  · exact (State.replay_of_unanswered (State.answerUp_unanswered _ i r _ _)).trans hpush
  · exact hpush

@[simp] theorem State.duplicate_unanswered (i : Nat) : (s.duplicate r).unanswered i = s.unanswered i := by
  unfold State.duplicate State.replayed
  dsimp only
  split
  · split <;> simp
  · simp

/-! ## A frame that is passed on joins its yard's queue -/

/-- Outside an activation pause a frame finds room in its yard's queue; what came inside a RELAY message is taken up next. -/
theorem State.pushUp_accepted (h : s.paused = false) : ∃ w, (s.pushUp r).air.accepted =
    if r.via = none then s.air.accepted ++ [{ r with words := w }] else { r with words := 0 } :: s.air.accepted := by
  unfold State.pushUp
  extract_lets _ _ t f words
  cases hvia : r.via with
  | none => exact ⟨words, by simp [h]; rfl⟩
  | some p => exact ⟨0, by simp; rfl⟩

theorem State.passUp_accepted (h : s.paused = false) : ∃ w, (s.passUp r).air.accepted =
    if r.via = none then s.air.accepted ++ [{ r with words := w }] else { r with words := 0 } :: s.air.accepted := by
  obtain ⟨hair, hsts⟩ := s.seen_air_sts r
  obtain ⟨w, hpush⟩ := (s.seen r).pushUp_accepted r (by unfold State.paused State.sf at h ⊢; rwa [hsts])
  rw [hair] at hpush
  refine ⟨w, ?_⟩
  unfold State.passUp
  dsimp only
  split
  · exact (State.accepted_of_unanswered (State.answerUp_unanswered _ 0 r _ _)).trans hpush
  · exact hpush

/-! ## The first frame under a renewed key (R198) -/

/-- The stall holds an old key, and the frame is under the one that replaced it. -/
def State.underNewKey : Prop :=
  (s.stall r.stall).oldKey ≠ 0 ∧ r.frame.key =
    (if (s.stall r.stall).nextHeld = true ∧ (s.stall r.stall).oldEp = s.nextEpoch8 then AirKey.next else .current)

theorem State.newKeyUsed_of_not (h : ¬ s.underNewKey r) : s.newKeyUsed r = s := if_neg h

theorem State.newKeyUsed_of_noOld (h : (s.stall r.stall).oldKey = 0) : s.newKeyUsed r = s :=
  s.newKeyUsed_of_not r fun hnew => hnew.1 h

/-- Once it has come, no later frame is the first under the new key. -/
theorem State.not_underNewKey_newKeyUsed : ¬ (s.newKeyUsed r).underNewKey r := by
  by_cases h : s.underNewKey r
  · have hold : ((s.newKeyUsed r).stall r.stall).oldKey = 0 := by
      have hused : s.newKeyUsed r = (s.evict (s.stall r.stall).oldKey).modStall r.stall
          (fun x => { x with oldKey := 0, fcUp := 0, fcWin := 0 }) := if_pos h
      rw [hused, State.stall_modStall_same]
    exact fun hnew => hnew.1 hold
  · rwa [State.newKeyUsed_of_not s r h]

/-! ## The frames that a stall refuses -/

/-- The counter lies in the window and is not marked there. -/
def State.inWindow : Prop :=
  r.frame.fc < (s.stall r.stall).fcUp ∧ (s.stall r.stall).fcUp ≤ r.frame.fc + 31
    ∧ bit (s.stall r.stall).fcWin ((s.stall r.stall).fcUp - 1 - r.frame.fc) = false ∧ r.frame.fc ≠ 0

/-- The frame is refused: for its class, or for its counter, which starts no new count, is not above the highest, and is not free
in the window. -/
def State.refusesUp : Prop :=
  classOk r.frame.typ r.cls = false ∨ (¬ s.underNewKey r ∧ ¬ (s.stall r.stall).fcUp < r.frame.fc ∧ ¬ s.inWindow r)

end

section
variable {s t : State} {r : Rx}

theorem State.refusesUp_of_replay (h : t.replay r.stall = s.replay r.stall) (hs : s.refusesUp r) : t.refusesUp r := by
  unfold State.replay Stall.replay at h
  unfold State.refusesUp State.underNewKey State.inWindow State.nextEpoch8 at *
  simp only [Prod.mk.injEq] at h
  obtain ⟨⟨hup, hwin, hkey, hheld, hep⟩, hepoch⟩ := h
  rwa [hup, hwin, hkey, hheld, hep, hepoch]

theorem State.not_underNewKey_modStall {f : Stall → Stall} (hkey : ¬ s.underNewKey r)
    (hf : ∀ x, (f x).oldKey = x.oldKey ∧ (f x).nextHeld = x.nextHeld ∧ (f x).oldEp = x.oldEp) :
    ¬ (s.modStall r.stall f).underNewKey r := by
  obtain ⟨hold, hheld, hep⟩ := hf (s.stall r.stall)
  unfold State.underNewKey at hkey ⊢
  rw [State.stall_modStall_same, hold, hheld, hep]
  exact hkey

/-- The three ways of a frame of a class that its type may carry. -/
theorem State.acceptUp_cases (hclass : classOk r.frame.typ r.cls = true) (ht : t = s.newKeyUsed r) :
    ((t.stall r.stall).fcUp < r.frame.fc ∧ s.acceptUp r = (t.modStall r.stall (fun x => { x with
        fcUp := r.frame.fc, fcWin := shiftWindow (t.stall r.stall).fcUp (t.stall r.stall).fcWin
          (r.frame.fc - (t.stall r.stall).fcUp) })).passUp r)
    ∨ (t.inWindow r ∧ s.acceptUp r = (t.modStall r.stall (fun x => { x with
        fcWin := (t.stall r.stall).fcWin + 2 ^ ((t.stall r.stall).fcUp - 1 - r.frame.fc) })).passUp r)
    ∨ (t.refusesUp r ∧ s.acceptUp r = t.duplicate r) := by
  subst ht
  unfold State.acceptUp
  rw [if_neg (by simp [hclass])]
  dsimp only
  by_cases habove : ((s.newKeyUsed r).stall r.stall).fcUp < r.frame.fc
  · rw [if_pos habove]
    exact Or.inl ⟨habove, rfl⟩
  · rw [if_neg habove]
    by_cases hwin : (s.newKeyUsed r).inWindow r
    · exact Or.inr (Or.inl ⟨hwin, if_pos hwin⟩)
    · exact Or.inr (Or.inr ⟨Or.inr ⟨s.not_underNewKey_newKeyUsed r, habove, hwin⟩, if_neg hwin⟩)

/-- A refused frame leaves the accepted frames as they are. -/
theorem State.acceptUp_of_refuses (h : s.refusesUp r) : (s.acceptUp r).air.accepted = s.air.accepted := by
  by_cases hclass : classOk r.frame.typ r.cls = true
  · obtain ⟨hkey, hcount, hwin⟩ := h.resolve_left (by simp [hclass])
    obtain ⟨habove, -⟩ | ⟨hin, -⟩ | ⟨-, hdup⟩ := State.acceptUp_cases hclass (s.newKeyUsed_of_not r hkey).symm
    · exact absurd habove hcount
    · exact absurd hin hwin
    · rw [hdup]
      exact State.accepted_of_unanswered (s.duplicate_unanswered r 0)
  · unfold State.acceptUp
    rw [if_pos (by simpa using hclass)]
    rfl

/-- A counter below the highest, once marked in the window, is no longer free there. -/
theorem bit_add_two_pow {w k : Nat} (h : bit w k = false) : bit (w + 2 ^ k) k = true := by
  rw [bit_eq_testBit] at h ⊢
  rw [testBit_add_two_pow h]
  simp

/-- A frame that has met the replay check is refused from then on: its counter is the highest, or marked in the window. -/
theorem State.acceptUp_refuses (s : State) (r : Rx) : (s.acceptUp r).refusesUp r := by
  by_cases hclass : classOk r.frame.typ r.cls = true
  · have hkey := s.not_underNewKey_newKeyUsed r
    obtain ⟨-, hpass⟩ | ⟨⟨habove, -, hfree, -⟩, hpass⟩ | ⟨hrefused, hdup⟩ :=
      State.acceptUp_cases hclass (rfl : _ = s.newKeyUsed r)
    · rw [hpass]
      refine State.refusesUp_of_replay (State.passUp_replay _ r _) (Or.inr ⟨?_, ?_, ?_⟩)
      · exact State.not_underNewKey_modStall hkey fun _ => ⟨rfl, rfl, rfl⟩
      · simp
      · simp [State.inWindow]
    · rw [hpass]
      refine State.refusesUp_of_replay (State.passUp_replay _ r _) (Or.inr ⟨?_, ?_, ?_⟩)
      · exact State.not_underNewKey_modStall hkey fun _ => ⟨rfl, rfl, rfl⟩
      · simpa using habove.le
      · simp [State.inWindow, bit_add_two_pow hfree]
    · rw [hdup]
      exact State.refusesUp_of_replay (State.replay_of_unanswered (State.duplicate_unanswered _ r _)) hrefused
  · exact Or.inl (by simpa using hclass)

end

/-- Settles O32: what `acceptUp` has met it refuses (`acceptUp_refuses`), and a refused frame adds nothing to the accepted ones. -/
theorem noUplinkFrameIsAcceptedTwice : Obligations.NoUplinkFrameIsAcceptedTwice := by
  unfold Obligations.NoUplinkFrameIsAcceptedTwice
  refine ⟨?twice, ?wrongClass, ?spent, ?higher⟩
  case twice => exact fun s r => State.acceptUp_of_refuses (s.acceptUp_refuses r)
  case wrongClass => exact fun s r hclass => State.acceptUp_of_refuses (Or.inl hclass)
  case spent =>
    intro s r hkey hle hspent
    refine State.acceptUp_of_refuses (Or.inr ⟨fun hnew => hnew.1 hkey, Nat.not_lt.2 hle, ?_⟩)
    rintro ⟨hlt, hnear, hfree, -⟩
    rcases hspent with hfar | heq | hmarked
    · omega
    · omega
    · simp [hmarked] at hfree
  case higher =>
    intro s r hclass hkey habove hpaused
    obtain ⟨-, hpass⟩ | ⟨⟨hbelow, -⟩, -⟩ | ⟨hrefused, -⟩ := State.acceptUp_cases hclass (s.newKeyUsed_of_noOld r hkey).symm
    · rw [hpass]
      refine ⟨(congrArg (fun v => v.1.1) (State.passUp_replay _ r r.stall)).trans (by simp [State.replay, Stall.replay]), ?_⟩
      exact State.passUp_accepted _ r hpaused
    · omega
    · rcases hrefused with hwrong | ⟨-, hcount, -⟩
      · simp [hclass] at hwrong
      · exact absurd habove hcount

end Sys2Proof.Machine
end

section
/-! PROOFS. O35: joining and rejoining, the timers of a stall, and persisting (R132, R135, R151 to R153, R155, R157, R159, R172). -/
namespace Sys2Proof.Machine

/-! ## A join request (R132, R172) -/

section
variable {s t : State} {r : Rx}

theorem State.takeUp_of_good (hgood : r.frame.upBad = none) :
    s.takeUp r = ({ s with air := { s.air with accepted := s.air.accepted.erase r } }, false) := by
  unfold State.takeUp
  simp [hgood]

/-- A join request that is taken up is judged by its counter. -/
theorem exec_joinReq_taken (hnext : s.upNext (fun r => r.frame.typ == tyJOIN) = some r) (hgood : r.frame.upBad = none)
    (ht : t = { s with air := { s.air with accepted := s.air.accepted.erase r } }) (hsub : r.sub = 0) :
    ((t.joinFcOf r).any (fun v => decide (r.frame.fc ≤ v)) = false → Does .joinReq s ((t.keepJoinFc r).joinRequest r))
    ∧ (∀ q, (t.joinFcOf r).any (fun v => decide (r.frame.fc ≤ v)) = true →
      t.seg.stalls.find? (fun q => q.2.eui == r.eui) = some q → r.frame.ar = false →
      Does .joinReq s ((t.replayed r).event 6 r.yard 0x0405 1 [q.1, r.frame.fc, (t.joinFcOf r).getD 0])) := by
  subst ht
  unfold Does exec execJoinReq
  refine ⟨fun hnew => quiet_does ?_, fun q hold hknown hnoAns => quiet_does ?_⟩
  · simp [hnext, State.takeUp_of_good hgood, hsub, hnew]
  · simp [hnext, State.takeUp_of_good hgood, hsub, hold, hknown, hnoAns]

variable {a : Admit} {p : Prep} {i h : Nat}

/-- A request that no check of R172 refuses, of a node that no stall holds and whose key is prepared, is accepted. -/
theorem State.joinRequest_accepts (hver : r.num 9 1 = 2) (hholder : s.holder r.eui r.yard = none) (hadm : s.admitOf r.eui = some a)
    (hrefuse : a.refuse = false) (hmask : bit a.mask r.yard = true) (hroom : s.yardFull r.yard = false)
    (hfree : s.freeStall r.yard = some i) (hprep : s.seg.preps.find? (fun p => p.eui == r.eui) = some p) (hready : p.handle = some h) :
    s.joinRequest r =
      ({ s with seg := { s.seg with preps := s.seg.preps.filter (fun q => q.eui != r.eui) } } : State).acceptJoin r i h := by
  unfold State.joinRequest
  simp [hver, hholder, hadm, hrefuse, hmask, hroom, hfree, hprep, hready]

/-- An accepted node's stall is the one that `joinStall` writes, but for what the answer uses. -/
theorem State.acceptJoin_stall (s : State) (r : Rx) (i h : Nat) :
    ((s.acceptJoin r i h).stall i).unanswered = ((s.joinStall r i h).stall i).unanswered := by
  unfold State.acceptJoin
  exact State.stall_of_unanswered (State.answerJoin_unanswered _ i _ _ _)

theorem State.acceptJoin_reads (s : State) (r : Rx) (i h : Nat) :
    ((s.acceptJoin r i h).stall i).state = sJOINING ∧ ((s.acceptJoin r i h).stall i).eui = r.eui
      ∧ ((s.acceptJoin r i h).stall i).key = h ∧ ((s.acceptJoin r i h).stall i).fcUp = 0
      ∧ ((s.acceptJoin r i h).stall i).joinFc = r.frame.fc := by
  have hstall := s.acceptJoin_stall r i h
  unfold State.joinStall at hstall
  rw [State.stall_modStall_same] at hstall
  exact ⟨congrArg Stall.state hstall, congrArg Stall.eui hstall, congrArg Stall.key hstall, congrArg Stall.fcUp hstall,
    congrArg Stall.joinFc hstall⟩

/-- The shed's readiness gives the one stall that waits its handle. -/
theorem exec_stallKeyReady_only (hkeyed : s.keyed = true) (hpreps : s.seg.preps = [p]) (hstall : p.stall = i) (hwaits : p.handle = none) :
    Does (.stallKeyReady i) s { s.freshHandle.2 with
      seg := { s.freshHandle.2.seg with preps := [{ p with handle := some s.freshHandle.1 }] } } := by
  have hprep : s.freshHandle.2.seg.preps = [p] := hpreps
  unfold Does exec execStallKeyReady
  refine quiet_does ?_
  simp [hkeyed, hpreps, hstall, hwaits, hprep]

end

/-! ## A node confirms, and rejoins (R151, R152) -/

section
variable {s t u v : State} {r : Rx}

/-- A command that takes an uplink message does what its row of the uplink table does. -/
theorem Does.of_message {c : Instr} {p : Rx → Bool} {act : State → Rx → Nat → State} (hc : Does c s (s.upRow p act))
    (h : s.takes p r u) (hact : act u r r.stall = t) : Does c s t :=
  hact ▸ State.upRow_of_takes h act ▸ hc

theorem exec_joinConfirm_joining (h : s.takes (fun r => isUp 0x08 r && r.sub == 2) r u) (hstate : (u.stall r.stall).state = sJOINING)
    (hver : r.num 1 1 = 2)
    (hv : v = ((u.unadmit (u.stall r.stall).eui).modStall r.stall (fun x => { x with state := sACTIVE })).queueKeys r.stall) :
    Does .joinConfirm s
      (if v.rolling = true ∧ (u.stall r.stall).epoch = v.nextEpoch8 then v.rolledDone r.stall else v.rollOn) := by
  refine Does.of_message rfl h ?_
  dsimp only
  rw [if_neg (by simp [hstate, hver]), hv]

/-- The node's parameters that a rejoin takes over (R152). -/
def Stall.takeParams (x : Stall) (r : Rx) : Stall :=
  { x with
    tol := r.num 10 1, p := r.num 11 1, listen := r.num 12 1, sleepy := bit (r.num 13 1) 0, relay := bit (r.num 13 1) 2
    fwver := r.num 17 4 }

/-- A rejoin takes over the node's parameters and brings a LOST stall back, before it is answered (R152, R155). -/
def State.rejoin (u : State) (r : Rx) : State :=
  if (u.stall r.stall).state = sLOST then
    ((u.modStall r.stall (fun x => x.takeParams r)).modStall r.stall (fun x => { x with state := sACTIVE })).event 6
      (yardOf r.stall) 0x0403 0 [r.stall, sLOST]
  else u.modStall r.stall (fun x => x.takeParams r)

theorem State.rejoin_stall (u : State) (r : Rx) : (u.rejoin r).stall r.stall =
    if (u.stall r.stall).state = sLOST then { (u.stall r.stall).takeParams r with state := sACTIVE }
    else (u.stall r.stall).takeParams r := by
  unfold State.rejoin
  split
  · have hback := (u.modStall r.stall (fun x => x.takeParams r)).stall_modStall_same r.stall (fun x => { x with state := sACTIVE })
    rwa [u.stall_modStall_same] at hback
  · exact State.stall_modStall_same _ r.stall _

/-- A rejoin is answered with ACCEPT where its frame asks for an answer. -/
def State.rejoinAnswered (u : State) (r : Rx) : State :=
  let a := (u.rejoin r).joinAccept r.stall (zeros 24)
  if r.frame.ar = true then a.2.answerUp r (.rejoin a.1) (le 1 0x08 ++ a.1) else a.2

theorem exec_rejoin_rejoins (h : s.takes (fun r => isUp 0x08 r && r.sub != 2) r u) (hrejoins : r.rejoins = true) :
    Does .rejoin s (u.rejoinAnswered r) :=
  Does.of_message rfl h (if_neg (by simp [hrejoins]))

/-- The stall of a rejoin has the node's parameters, and is ACTIVE if it was LOST; an answer leaves both. -/
theorem State.rejoinAnswered_reads (u : State) (r : Rx) :
    ((u.rejoinAnswered r).stall r.stall).tol = r.num 10 1 ∧ ((u.rejoinAnswered r).stall r.stall).p = r.num 11 1
      ∧ ((u.rejoinAnswered r).stall r.stall).listen = r.num 12 1 ∧ ((u.rejoinAnswered r).stall r.stall).fwver = r.num 17 4
      ∧ ((u.stall r.stall).state = sLOST → ((u.rejoinAnswered r).stall r.stall).state = sACTIVE) := by
  have hx : ((u.rejoinAnswered r).stall r.stall).unanswered = ((u.rejoin r).stall r.stall).unanswered := by
    unfold State.rejoinAnswered
    dsimp only
    split
    · exact State.stall_of_unanswered (State.answerUp_unanswered _ r.stall r _ _)
    · rfl
  rw [State.rejoin_stall] at hx
  split at hx
  · exact ⟨congrArg Stall.tol hx, congrArg Stall.p hx, congrArg Stall.listen hx, congrArg Stall.fwver hx,
      fun _ => congrArg Stall.state hx⟩
  · next hother =>
    exact ⟨congrArg Stall.tol hx, congrArg Stall.p hx, congrArg Stall.listen hx, congrArg Stall.fwver hx,
      fun hlost => absurd hlost hother⟩

end

/-! ## The timers of a stall (R153, R155, R157, R159) -/

section
variable (s : State) (i : Nat)

theorem State.failJoin_stall : ((s.failJoin i).stall i).state = sUNBOUND ∧ ((s.failJoin i).stall i).key = 0 := by
  have hstall := State.stall_modStall_same (((s.evict (s.stall i).key).endItems i stABORTED 0).campLeave i) i
    (fun x => { x with state := sUNBOUND, key := 0, acked := [] })
  exact ⟨congrArg Stall.state hstall, congrArg Stall.key hstall⟩

@[simp] theorem State.elapseTo_seg (r : Nat) : (s.elapseTo r).seg = s.seg := by
  unfold State.elapseTo
  split
  · rfl
  · exact s.elapse_seg _

@[simp] theorem State.elapseRtc_seg (t : Nat) : (s.elapseRtc t).seg = s.seg := by
  unfold State.elapseRtc
  split
  · rfl
  · exact s.elapse_seg _

@[simp] theorem State.elapseRtc_twn (t : Nat) : (s.elapseRtc t).twn = s.twn := by
  unfold State.elapseRtc
  split
  · rfl
  · exact s.elapse_twn _

end

section
variable {s u : State} {i : Nat}

theorem exec_joinTimeout_joining (hstate : (s.stall i).state = sJOINING) (hserving : s.serving = true) :
    Does (.joinTimeout i) s ((s.elapseTo ((s.stall i).joinAt + s.cf .YRD_MAC_JOIN F.YRD_MAC_JOIN_JOIN_TIMEOUT * secT)).failJoin
      i).rollOn := by
  unfold Does exec execJoinTimeout
  exact quiet_does (if_pos ⟨hstate, hserving⟩)

/-- The one item of a stall in ADRIFT expires at the end of its hold, unless a frame of the stall from before is still to be
handled. -/
theorem exec_holdAdrift_only {h : Nat} {it : Item} (hstate : (s.stall i).state = sADRIFT) (hserving : s.serving = true)
    (hitems : s.seg.items.filter (fun t => t.stall == i) = [it]) (hhold : it.hold = some h) (hbusy : it.busy = false)
    (hack : it.ackDue = none) (hu : u = s.elapseTo h) :
    Does (.holdAdrift i) s (if (s.air.accepted ++ s.air.waiting).any (fun r =>
      r.stall == i && r.frame.typ == tyUP && decide (r.frame.sfd < h)) then u else u.endItem it stEXPIRED 1) := by
  have hdue : u.seg.items.filter
      (fun k => k.stall == i && k.hold.any (fun v => decide (v ≤ h)) && !k.busy && k.ackDue.isNone) = [it] := by
    rw [hu, State.elapseTo_seg]
    calc s.seg.items.filter (fun k => k.stall == i && k.hold.any (fun v => decide (v ≤ h)) && !k.busy && k.ackDue.isNone)
        = (s.seg.items.filter (fun k => k.stall == i)).filter
            (fun k => k.hold.any (fun v => decide (v ≤ h)) && !k.busy && k.ackDue.isNone) := by
          rw [List.filter_filter]
          exact congrArg (List.filter · _) (funext fun k => by simp only [Bool.and_comm, Bool.and_left_comm])
      _ = [it] := by simp [hitems, hhold, hbusy, hack]
  unfold Does exec execHoldAdrift
  refine quiet_does ?_
  rw [if_neg (by simp [hstate, hserving]), hitems]
  simp only [List.filterMap_cons, hhold, List.filterMap_nil, isort, kinsert]
  subst hu
  rw [State.elapseTo_air, hdue]
  rfl

theorem exec_lostAfter_adrift (hstate : (s.stall i).state = sADRIFT) (hserving : s.serving = true)
    (hu : u = s.elapseRtc (max (s.stall i).lastSeen ((s.stall i).dozeEnd * 65536) + s.param 0x0402 * 60 * 32768)) :
    Does (.lostAfter i) s ((((u.endItems i stEXPIRED 2).modStall i (fun x => { x with state := sLOST })).event 6 (yardOf i) 0x0402 2
      [i, yardOf i]).rollLeave i) := by
  subst hu
  unfold Does exec execLostAfter
  exact quiet_does (if_neg (by simp [hstate, hserving]))

end

/-! ## Persisting (R135) -/

/-- What STALL_PERSIST has saved before it notes the time: the tables, with a new period in effect (R135, R207). -/
def State.tablesSaved (s : State) (due : Nat) : State := ((s.elapseRtc due).persistTables).takeForce [0x0507]

/-- NAND holds the tables as they stand, and each entry notes its counter as saved. -/
theorem State.tablesSaved_reads (s : State) (due : Nat) : (s.tablesSaved due).nvseg.stalls = (s.tablesSaved due).seg.stalls
    ∧ (s.tablesSaved due).nvseg.pads = (s.tablesSaved due).seg.pads
    ∧ (∀ q ∈ (s.tablesSaved due).seg.stalls, q.2.fcSaved = q.2.fcDown)
    ∧ (∀ q ∈ (s.tablesSaved due).seg.pads, q.2.fcSaved = q.2.fc) := by
  refine ⟨rfl, rfl, ?_, ?_⟩
  · intro q hq
    obtain ⟨p, -, rfl⟩ := List.mem_map.1 hq
    rfl
  · intro q hq
    obtain ⟨p, -, rfl⟩ := List.mem_map.1 hq
    rfl

theorem State.tablesSaved_twn (s : State) (due : Nat) : (s.tablesSaved due).twn = s.twn := s.elapseRtc_twn due

/-- The numbers from which the enabled yards' superframes go on after a start. -/
def State.nextNumbers (u : State) : Tbl Nat :=
  ((List.range 16).filter u.yardEnabled).foldl (fun l y =>
    if (u.seq y).started then Tbl.put 0 l y ((u.seq y).n + 1) else l) u.nvseg.yardN

theorem exec_stallPersist_notes {s u : State} {due : Nat} (hdue : due = s.seg.savedAt + s.inForce 0x0507 * 32768)
    (hu : u = s.tablesSaved due) : Does .stallPersist s { u with
      seg := { u.seg with savedAt := max due u.newt.tick }
      nvseg := { u.nvseg with yardN := u.nextNumbers, claimEpoch := u.twn.epoch } } := by
  subst hu hdue
  unfold Does exec execStallPersist
  exact quiet_does rfl

/-- Settles O35: one lemma for each command; an answer leaves what a join or a rejoin made of its stall (`State.unanswered`). -/
theorem joiningFollowsItsSteps : Obligations.JoiningFollowsItsSteps := by
  unfold Obligations.JoiningFollowsItsSteps
  refine ⟨?request, ?accepted, ?ready, ?confirm, ?rejoin, ?timeout, ?hold, ?lost, ?persist⟩
  case request => exact fun s t r hnext hgood ht hsub => exec_joinReq_taken hnext hgood ht hsub
  case accepted =>
    intro s r a p i h hver hholder hadm hrefuse hmask hroom hfree hprep hready
    rw [State.joinRequest_accepts hver hholder hadm hrefuse hmask hroom hfree hprep hready]
    exact State.acceptJoin_reads _ r i h
  case ready =>
    intro s i p hkeyed hpreps hstall hwaits
    exact ⟨_, _, exec_stallKeyReady_only hkeyed hpreps hstall hwaits, rfl, rfl, rfl⟩
  case confirm =>
    intro s u v r h hstate hver hv
    have hrun := exec_joinConfirm_joining h hstate hver hv
    refine ⟨fun hclosed => ?_, fun hopen hepoch => ?_⟩
    · rwa [if_neg (by simp [hclosed])] at hrun
    · rwa [if_pos ⟨hopen, hepoch⟩] at hrun
  case rejoin =>
    intro s u r h hrejoins
    obtain ⟨htol, hp, hlisten, hfwver, hstate⟩ := u.rejoinAnswered_reads r
    exact ⟨_, exec_rejoin_rejoins h hrejoins, htol, hp, hlisten, hfwver, hstate, rfl⟩
  case timeout =>
    rintro s u i hstate hserving rfl
    exact ⟨exec_joinTimeout_joining hstate hserving, State.failJoin_stall _ i⟩
  case hold =>
    intro s u i h it hstate hserving hitems hhold hbusy hack hu
    have hrun := exec_holdAdrift_only hstate hserving hitems hhold hbusy hack hu
    refine ⟨fun hnone => ?_, fun hframe => ?_⟩
    · rwa [if_neg (by simp [hnone])] at hrun
    · rwa [if_pos hframe] at hrun
  case lost =>
    rintro s u v i hstate hserving hu rfl
    exact exec_lostAfter_adrift hstate hserving hu
  case persist =>
    intro s
    obtain ⟨hstalls, hpads, hsavedStalls, hsavedPads⟩ := s.tablesSaved_reads (s.seg.savedAt + s.inForce 0x0507 * 32768)
    have hepoch := congrArg Twn.epoch (s.tablesSaved_twn (s.seg.savedAt + s.inForce 0x0507 * 32768))
    exact ⟨_, exec_stallPersist_notes rfl rfl, hstalls, hpads, hepoch, hsavedStalls, hsavedPads, Nat.le_max_left _ _, rfl⟩

end Sys2Proof.Machine
end

section
/-! PROOFS. O34: what each uplink message does to its stall (R144, R155, R157, R191, R192, R195, R198, R220). -/
namespace Sys2Proof.Machine

/-! ## The end of an item leaves the stall table -/

section
variable (s : State)

theorem State.finishRing_seg (n : Nat) (d : Desc) (a : Answer) : (s.finishRing n d a).seg = s.seg :=
  (State.seg_of_behindHost (s.finishRing_behindHost n d a)).trans rfl

/-- No end of a descriptor reaches the segment. -/
@[simp] theorem State.finish_seg (d : Desc) (a : Answer) : (s.finish d a).seg = s.seg := by
  unfold State.finish
  split
  · exact s.finishRing_seg _ _ _
  · dsimp only
    split
    · split
      · exact State.finishRing_seg _ _ _ _
      · rfl
    · rfl
  · exact (State.seg_of_behindHost (State.sealedReply_behindHost _ _)).trans rfl

@[simp] theorem State.ok_seg (d : Desc) (n : Nat) : (s.ok d n).seg = s.seg := s.finish_seg _ _

theorem State.checkRun_stalls (n : Nat) : (s.checkRun n).seg.stalls = s.seg.stalls := by
  unfold State.checkRun
  split
  · rfl
  · split
    · rfl
    · dsimp only
      split
      · rfl
      · split
        · rw [State.ok_seg]
        · rfl

theorem State.endItem_stalls (it : Item) (st det : Nat) : (s.endItem it st det).seg.stalls = s.seg.stalls := by
  unfold State.endItem
  extract_lets _ _ s1 s2
  have hs2 : s2.seg.stalls = s.seg.stalls := by
    unfold s2
    split
    · rfl
    · split
      · rw [State.finish_seg]
      · rfl
  split
  · exact hs2
  · extract_lets s3
    have hs3 : s3.seg.stalls = s.seg.stalls := by
      unfold s3
      split <;> exact hs2
    rw [State.checkRun_stalls, hs3]

@[simp] theorem State.endKey_stall (i j : Nat) (k : ItemKind) : (s.endKey j k).stall i = s.stall i := by
  unfold State.endKey
  split
  · exact congrArg (Tbl.get Stall.none · i) (s.endItem_stalls _ _ _)
  · rfl

end

/-! ## Uplinks -/

/-- An accepted uplink brings a DOZING or ADRIFT stall back to ACTIVE (R155). -/
theorem State.uplinked_active {s : State} {r : Rx} (h : (s.stall r.stall).state = sDOZING ∨ (s.stall r.stall).state = sADRIFT) :
    ((s.uplinked r).stall r.stall).state = sACTIVE := by
  unfold State.uplinked
  extract_lets i x hops t g _ u u'
  have hu : (u'.stall i).state = sACTIVE := congrArg Stall.state (u.stall_modStall_same i _)
  rw [if_pos h]
  split <;> exact hu

section
variable {s u v : State} {r : Rx}

theorem State.modStall_congr {i : Nat} {f g : Stall → Stall} (h : f (s.stall i) = g (s.stall i)) : s.modStall i f = s.modStall i g :=
  congrArg (s.setStall i) h

theorem exec_imageReport_held {c : Campaign} (h : s.takes (isUp 0x07) r u) (hsub : r.sub = 1) (hc : u.camp? (r.num 1 2) = some c)
    (hresult : r.num 3 1 = 3) : Does .imageReport s
      ((u.bump .FLT_RPTS F.word).modCamp c.id (fun k => { k with status := Tbl.put 0 k.status r.stall 3 })) := by
  refine Does.of_message rfl h ?_
  unfold State.imageReport
  rw [if_neg (by simp [hsub]), hc]
  dsimp only
  rw [hresult]
  rfl

/-! ## The acknowledgement of a renewed key (R198) -/

/-- What the acknowledgement makes of the stall: the key renewed is the one that its frames leave under, in the place of the old one. -/
def Stall.renewed (x : Stall) (e : Nat) : Stall :=
  { x with
    oldKey := if x.nextHeld then x.keyNext else x.key, oldEp := e
    key := if x.nextHeld then x.key else x.renew, keyNext := if x.nextHeld then x.renew else x.keyNext
    renew := 0, fcDown := 0, fcSaved := 0 }

theorem exec_keyAck_renews {f : Stall → Stall} (h : s.takes (isUp 0x09) r u) (hsub : r.sub = 2) (hall : r.num 1 2 = 0xFFFF)
    (hrenew : (u.stall r.stall).renew ≠ 0)
    (hep : r.num 3 1 = if (u.stall r.stall).nextHeld then u.nextEpoch8 else (u.stall r.stall).epoch)
    (hv : v = (u.evict (u.stall r.stall).oldKey).endKey r.stall (.keyStall (r.num 3 1)))
    (hf : f (u.stall r.stall) = (u.stall r.stall).renewed (r.num 3 1)) :
    Does .keyAck s ((v.modStall r.stall f).event 6 (yardOf r.stall) 0x0508 0 [r.stall]) := by
  have hstall : v.stall r.stall = u.stall r.stall := hv ▸ State.endKey_stall _ _ _ _
  have hwrite : v.modStall r.stall f = v.modStall r.stall (fun x => x.renewed (r.num 3 1)) :=
    State.modStall_congr (by rw [hstall, hf])
  rw [hwrite, hv]
  refine Does.of_message rfl h ?_
  dsimp only
  rw [if_neg (by simp [hsub]), if_pos hall, if_pos ⟨hrenew, by unfold State.renewKind; rw [← hep]⟩]
  rfl

/-! ## Faults, and a storm of them (R192) -/

theorem exec_fault_same (h : s.takes (isUp 0x05) r u)
    (hsame : faultBits (u.stall r.stall).faults (r.num 0 2) (r.num 2 1) = (u.stall r.stall).faults) : Does .fault s u :=
  Does.of_message rfl h (if_pos hsame)

/-- The changes of a yard in the running period, with the one that a FAULT message brings: raised, and cleared. -/
def State.stormCount (u : State) (r : Rx) : Nat × Nat :=
  let c := Tbl.get (0, 0) u.seg.storm (yardOf r.stall)
  if r.num 2 1 = 0 then (c.1, c.2 + 1) else (c.1 + 1, c.2)

theorem State.stormCount_sum (u : State) (r : Rx) : (u.stormCount r).1 + (u.stormCount r).2 =
    (Tbl.get (0, 0) u.seg.storm (yardOf r.stall)).1 + (Tbl.get (0, 0) u.seg.storm (yardOf r.stall)).2 + 1 := by
  unfold State.stormCount
  dsimp only
  split <;> dsimp only <;> omega

/-- A fault's change is written to its stall, and counted in its yard's period. -/
def State.faultNoted (u : State) (r : Rx) (n : Nat) : State :=
  let t := u.modStall r.stall (fun x => { x with faults := n })
  { t with seg := { t.seg with storm := Tbl.put (0, 0) t.seg.storm (yardOf r.stall) (u.stormCount r) } }

theorem State.faultNoted_faults (u : State) (r : Rx) (n : Nat) : ((u.faultNoted r n).stall r.stall).faults = n :=
  congrArg Stall.faults (u.stall_modStall_same r.stall (fun x => { x with faults := n }))

/-- A fault that changes its stall is reported by itself, where the yard is not in summary and does not enter it. -/
theorem exec_fault_reported {n : Nat} (h : s.takes (isUp 0x05) r u)
    (hn : n = faultBits (u.stall r.stall).faults (r.num 0 2) (r.num 2 1)) (hnew : n ≠ (u.stall r.stall).faults)
    (hout : u.seg.summary.contains (yardOf r.stall) = false)
    (hcalm : (u.stormCount r).1 + (u.stormCount r).2 ≤ u.param 0x0501) :
    Does .fault s ((u.faultNoted r n).event 6 (yardOf r.stall) 0x0502 2 [r.stall, r.num 0 2, r.num 2 1]) := by
  subst hn
  refine Does.of_message rfl h ((if_neg hnew).trans ?_)
  extract_lets c c' t enter _ t'
  have henter : enter = false := Bool.and_eq_false_iff.2 (Or.inl (decide_eq_false (Nat.not_lt.2 hcalm)))
  have hnoted : t' = u.faultNoted r (faultBits (u.stall r.stall).faults (r.num 0 2) (r.num 2 1)) := by
    unfold t'
    rw [henter]
    rfl
  rw [hnoted]
  exact if_neg (by rw [Bool.not_eq_true]; exact hout)

@[simp] theorem State.elapseRtc_evq (s : State) (t : Nat) : (s.elapseRtc t).evq = s.evq := by
  unfold State.elapseRtc
  split
  · rfl
  · exact s.elapse_evq _

/-- The report of a yard's summary at the end of a period. -/
def State.reportStorm (u : State) (y : Nat) : State :=
  u.event 6 y 0x0503 2 [y, (Tbl.get (0, 0) u.seg.storm y).1, (Tbl.get (0, 0) u.seg.storm y).2]

theorem State.reportStorm_foldl_seg (s : State) (l : List Nat) : (l.foldl State.reportStorm s).seg = s.seg :=
  foldl_keeps (v := State.seg) (g := State.reportStorm) (fun _ _ => rfl) l s

theorem State.reportStorm_foldl_evq (s : State) (l : List Nat) :
    (l.foldl State.reportStorm s).evq.length = s.evq.length + l.length := by
  induction l generalizing s with
  | nil => rfl
  | cons y l ih =>
    rw [List.foldl_cons, ih]
    simp only [State.reportStorm, State.event, List.length_append, List.length_cons, List.length_nil]
    omega

/-- The yard stays in summary (R192). -/
def State.stormStays (t : State) (y : Nat) : Bool :=
  decide (t.param 0x0501 / 4 < (Tbl.get (0, 0) t.seg.storm y).1 + (Tbl.get (0, 0) t.seg.storm y).2)

/-- The state once the yards in summary have reported. -/
def State.stormReported (s : State) : State :=
  s.seg.summary.foldl State.reportStorm (s.elapseRtc ((s.newt.tick / 327680 + 1) * 327680))

theorem exec_faultStormPeriod (s : State) : Does .faultStormPeriod s { s.stormReported with
    seg := { s.stormReported.seg with summary := s.stormReported.seg.summary.filter s.stormReported.stormStays, storm := [] } } := by
  have hseg := s.elapseRtc_seg ((s.newt.tick / 327680 + 1) * 327680)
  unfold Does exec execFaultStormPeriod State.stormReported
  rw [← hseg]
  exact quiet_does rfl

theorem State.stormReported_seg (s : State) : s.stormReported.seg = s.seg :=
  (State.reportStorm_foldl_seg _ _).trans (s.elapseRtc_seg _)

theorem State.stormReported_evq (s : State) : s.stormReported.evq.length = s.evq.length + s.seg.summary.length := by
  unfold State.stormReported
  rw [State.reportStorm_foldl_evq, State.elapseRtc_evq]

end

/-- Settles O34: the messages that write their stall at once are their commands' functions, and the renewal's end leaves the stall
table to its last write (`endKey_stall`). -/
theorem uplinkMessagesUpdateTheirStall : Obligations.UplinkMessagesUpdateTheirStall := by
  unfold Obligations.UplinkMessagesUpdateTheirStall
  refine ⟨fun s u r => ⟨?poll, ?status, ?energy, ?app, ?doze, ?ack, ?image, ?renewed, ?renewedNext, ?same, ?fault⟩, ?active, ?storm⟩
  case poll => exact fun h => Does.of_message rfl h rfl
  case status => exact fun h => Does.of_message rfl h rfl
  case energy => exact fun h => Does.of_message rfl h rfl
  case app => exact fun h => Does.of_message rfl h rfl
  case doze => exact fun h hmin hmax hstate => Does.of_message rfl h (if_pos ⟨hmin, hmax, hstate⟩)
  case ack =>
    intro it h hit
    refine Does.of_message rfl h ?_
    rw [hit]
  case image => exact fun c h hsub hc hresult => exec_imageReport_held h hsub hc hresult
  case renewed =>
    intro v h hsub hall hrenew hheld hep hv
    exact exec_keyAck_renews h hsub hall hrenew (by simp [hheld, hep]) hv (by simp [Stall.renewed, hheld, hep])
  case renewedNext =>
    intro v h hsub hall hrenew hheld hep hv
    exact exec_keyAck_renews h hsub hall hrenew (by simp [hheld, hep]) hv (by simp [Stall.renewed, hheld])
  case same => exact fun h hsame => exec_fault_same h hsame
  case fault =>
    rintro y n h rfl hn hnew hout hcalm
    have hrun := exec_fault_reported h hn hnew hout ((u.stormCount_sum r).trans_le hcalm)
    exact ⟨_, hrun, u.faultNoted_faults r n, rfl, rfl, rfl⟩
  case active => exact fun s r h => State.uplinked_active h
  case storm =>
    intro s
    have hseg := s.stormReported_seg
    have hstalls : s.stormReported.seg.stalls = s.seg.stalls := congrArg Seg.stalls hseg
    refine ⟨_, exec_faultStormPeriod s, rfl, s.stormReported_evq, fun y hy => ?_, hstalls, rfl⟩
    rw [← hseg]
    exact (List.mem_filter.1 hy).1

end Sys2Proof.Machine
end

section
/-! PROOFS. O22: DOWNLINK_SEND, GROUP_SEND and SCHEDULE_LOAD (R145, R159, R163, R164, R181). -/
namespace Sys2Proof.Machine

section
variable {s : State} {d e : Desc} {read : HostRead}

/-- A descriptor that has been taken up keeps the instant of its fetch. -/
theorem Desc.seen_at (h : d.seen s read = some e) : e.at_ = d.at_ := by
  unfold Desc.seen at h
  split at h
  · cases h
  · split at h <;> cases h
    rfl
  · cases h
    rfl

/-- A message is queued to a stall that is ACTIVE, DOZING or ADRIFT (R163). -/
theorem queues_of_state {n : Nat} (h : n ∈ [sACTIVE, sDOZING, sADRIFT]) :
    ¬ (n = sUNBOUND ∨ n = sJOINING ∨ n = sRETIRED) ∧ n ≠ sLOST := by
  simp only [List.mem_cons, List.not_mem_nil, or_false] at h
  rcases h with rfl | rfl | rfl <;> decide

theorem exec_downlinkSend_queues (h : s.serves d 0x20) (he : d.seen s read = some e) (hdeliv : e.pByte 1 ≤ 2) (hflags : e.pByte 2 ≤ 1)
    (hzero : e.pZero 3 32 = true) (hseg : e.target / 2 ^ 18 = s.segid)
    (hstate : (s.stall (e.target % 2 ^ 18)).state ∈ [sACTIVE, sDOZING, sADRIFT]) (hbody : bodyOk (e.pByte 0) e.buf = true)
    (hfits : e.pByte 1 = 2 → s.timedFits (e.target % 2 ^ 18) (1 + e.len) = true) (hroom : s.qcount (e.target % 2 ^ 18) < 8)
    (hitems : (s.seg.items.filter (fun t => t.kind == .msg)).length < 65536) (hpend : e.launch = true → (s.holding e).pend < 4096) :
    Does (.downlinkSend d.did read) s
      ((if e.launch then (s.holding e).updDesc d.did (fun x => { x with stage := .launchWait }) else s.holding e).addItem
        { newItem (e.target % 2 ^ 18) (e.pByte 0) .msg e.buf (e.pByte 1) (bit (e.pByte 2) 0) d.at_ with
          did := some d.did, from_ := if e.launch then e.launchTime else 0
          hold := if (s.stall (e.target % 2 ^ 18)).state = sADRIFT then some (s.holdEnd (e.target % 2 ^ 18) d.at_) else none }) := by
  refine Does.of_served_in rfl h he (fun _ _ => rfl) rfl ?_
  obtain ⟨hopen, hfound⟩ := queues_of_state hstate
  have hargs : ¬ (2 < e.pByte 1 ∨ 1 < e.pByte 2 ∨ e.pZero 3 32 = false) := by
    simp only [hzero, Bool.true_eq_false, or_false]
    omega
  have hlong : ¬ (e.pByte 1 = 2 ∧ s.timedFits (e.target % 2 ^ 18) (1 + e.len) = false) := fun hno =>
    Bool.false_ne_true (hno.2.symm.trans (hfits hno.1))
  have hfull : ¬ (8 ≤ s.qcount (e.target % 2 ^ 18) ∨ 65536 ≤ (s.seg.items.filter (fun t => t.kind == .msg)).length) := by
    omega
  have hlate : ¬ (e.launch = true ∧ 4096 ≤ (s.holding e).pend) := fun hno => absurd (hpend hno.1) (Nat.not_lt.2 hno.2)
  rw [← Desc.seen_at he]
  exact (if_neg hargs).trans ((if_neg (not_not_intro hseg)).trans ((if_neg hopen).trans ((if_neg (ne_false_of_eq_true hbody)).trans
    ((if_neg hlong).trans ((if_neg hfound).trans ((if_neg hfull).trans (if_neg hlate)))))))

theorem exec_groupSend (h : s.serves d 0x21) (he : d.seen s read = some e) (hpad : e.target < 4096) (hzero : e.pZero 4 32 = true)
    (hmin : 1 ≤ e.pByte 1) (hmax : e.pByte 1 ≤ 8) (hbody : bodyOk (e.pByte 0) e.buf = true) (hvalid : s.padValid e.target = true)
    (hpend : e.launch = true → (s.holding e).pend < 4096) {ys : List Nat}
    (hys : ys = (s.padYards e.target).filter (fun y => e.pNum 2 2 == 0 || bit (e.pNum 2 2) y)) :
    Does (.groupSend d.did read) s (if ys = [] then (s.holding e).ok e else
      (if e.launch then (s.holding e).updDesc d.did (fun x => { x with stage := .launchWait }) else s.holding e).addJob
        .group (some d.did) e.target (e.pByte 0) e.buf (e.pByte 1) ys (if e.launch then e.launchTime else 0) none) := by
  refine Does.of_served_in rfl h he (fun _ _ => rfl) rfl ?_
  have hargs : ¬ (4096 ≤ e.target ∨ e.pZero 4 32 = false ∨ e.pByte 1 = 0 ∨ 8 < e.pByte 1 ∨ bodyOk (e.pByte 0) e.buf = false
      ∨ (s.holding e).padValid e.target = false) := by
    have hvalid : (s.holding e).padValid e.target = true := hvalid
    simp only [hzero, hbody, hvalid, Bool.true_eq_false, or_false, false_or]
    omega
  have hlate : ¬ (e.launch = true ∧ 4096 ≤ (s.holding e).pend) := fun hno => absurd (hpend hno.1) (Nat.not_lt.2 hno.2)
  rw [hys]
  exact (if_neg hargs).trans (if_neg hlate)

theorem exec_scheduleLoad_distributes (h : s.serves d 0x16) (he : d.seen s read = some e) (hid : e.target < 65536)
    (hzero : e.pZero 0 32 = true) (hbody : bodyOk 0x02 e.buf = true) (hname : leAt e.buf 0 2 = e.target)
    (hroom : (s.schedule e.target).isSome = true ∨ s.seg.scheds.length < 1024) {t : State}
    (ht : t = { s.holding e with seg := { s.seg with
      scheds := (e.target, e.buf) :: s.seg.scheds.filter (fun p => p.1 != e.target) } }.beginDesc d.did) :
    Does (.scheduleLoad d.did read) s (t.distribute (some d.did) e.buf (t.schedPads e.target) (t.schedStalls e.target)) := by
  refine Does.of_served_in rfl h he (fun _ _ => rfl) rfl ?_
  have hargs : ¬ (65536 ≤ e.target ∨ e.pZero 0 32 = false ∨ bodyOk 0x02 e.buf = false ∨ leAt e.buf 0 2 ≠ e.target) := by
    simp only [hzero, hbody, hname, Bool.true_eq_false, ne_eq, not_true_eq_false, or_false]
    omega
  have hfull : ¬ (((s.holding e).schedule e.target).isNone = true ∧ 1024 ≤ (s.holding e).seg.scheds.length) := by
    rintro ⟨hnew, hlen⟩
    rcases hroom with hold | hfree
    · exact absurd (Option.isNone_iff_eq_none.1 hnew) (Option.isSome_iff_ne_none.1 hold)
    · exact absurd hfree (Nat.not_lt.2 hlen)
  subst ht
  exact (if_neg hargs).trans (if_neg hfull)

end

/-- Settles O22: each operation is served, its operands pass every check, and its last branch is left. -/
theorem messagesAndSchedulesAreQueued : Obligations.MessagesAndSchedulesAreQueued := by
  unfold Obligations.MessagesAndSchedulesAreQueued
  refine ⟨?downlink, ?group, ?schedule⟩
  case downlink =>
    intro s d e read h he hdeliv hflags hzero hseg hstate hbody hfits hroom hitems hpend
    exact exec_downlinkSend_queues h he hdeliv hflags hzero hseg hstate hbody hfits hroom hitems hpend
  case group =>
    intro s d e read ys h he hpad hzero hmin hmax hbody hvalid hpend hys
    have hrun := exec_groupSend h he hpad hzero hmin hmax hbody hvalid hpend hys
    exact ⟨fun hsome => by rwa [if_neg hsome] at hrun, fun hnone => by rwa [if_pos hnone] at hrun⟩
  case schedule =>
    intro s t d e read h he hid hzero hbody hname hroom ht
    exact exec_scheduleLoad_distributes h he hid hzero hbody hname hroom ht

end Sys2Proof.Machine
end

section
/-! PROOFS. What the ends of descriptors, items and jobs leave of the state inside the module (`State.inside`), and of the stall and
paddock tables, the rollover's journal and the tack store (`State.tables`). -/
namespace Sys2Proof.Machine

/-- The state behind the host interface but for the descriptors in flight. -/
def State.inside (s : State) : State := { s.behindHost with hif := Hif.reset }

/-- The stall and paddock tables, the rollover's journal and the tack store. -/
def State.tables (s : State) : Tbl Stall × Tbl Paddock × Roll × Tack := (s.seg.stalls, s.seg.pads, s.roll, s.tack)

section
variable {s t : State}

theorem State.inside_of_behindHost (h : t.behindHost = s.behindHost) : t.inside = s.inside :=
  congrArg (fun u => { u with hif := Hif.reset }) h

theorem State.seg_of_inside (h : t.inside = s.inside) : t.seg = s.seg := congrArg (fun u => u.seg) h
theorem State.mtr_of_inside (h : t.inside = s.inside) : t.mtr = s.mtr := congrArg (fun u => u.mtr) h
theorem State.tables_of_inside (h : t.inside = s.inside) : t.tables = s.tables := congrArg (fun u => u.tables) h

theorem State.stalls_of_tables (h : t.tables = s.tables) : t.seg.stalls = s.seg.stalls := congrArg (·.1) h
theorem State.pads_of_tables (h : t.tables = s.tables) : t.seg.pads = s.seg.pads := congrArg (·.2.1) h
theorem State.stall_of_tables (h : t.tables = s.tables) (i : Nat) : t.stall i = s.stall i :=
  congrArg (Tbl.get Stall.none · i) (State.stalls_of_tables h)
theorem State.pad_of_tables (h : t.tables = s.tables) (p : Nat) : t.pad p = s.pad p :=
  congrArg (Tbl.get Paddock.none · p) (State.pads_of_tables h)

end

section
variable (s : State)

/-! ## Descriptors that end -/

@[simp] theorem State.updDesc_inside (k f) : (s.updDesc k f).inside = s.inside := rfl
@[simp] theorem State.dropDesc_inside (k) : (s.dropDesc k).inside = s.inside := rfl
@[simp] theorem State.beginDesc_inside (k) : (s.beginDesc k).inside = s.inside := rfl
@[simp] theorem State.emit_inside (o) : (s.emit o).inside = s.inside := rfl

@[simp] theorem State.finishRing_inside (n : Nat) (d : Desc) (a : Answer) : (s.finishRing n d a).inside = s.inside :=
  (State.inside_of_behindHost (s.finishRing_behindHost n d a)).trans rfl

/-- No end of a descriptor reaches the inside of the module. -/
@[simp] theorem State.finish_inside (d : Desc) (a : Answer) : (s.finish d a).inside = s.inside := by
  unfold State.finish
  split
  · exact s.finishRing_inside _ _ _
  · dsimp only
    split
    · split
      · exact State.finishRing_inside _ _ _ _
      · rfl
    · rfl
  · exact (State.inside_of_behindHost (State.sealedReply_behindHost _ _)).trans rfl

@[simp] theorem State.ok_inside (d r) : (s.ok d r).inside = s.inside := s.finish_inside _ _

@[simp] theorem State.endDid_inside (k : Option Nat) (st det r : Nat) : (s.endDid k st det r).inside = s.inside := by
  unfold State.endDid
  split
  · rfl
  · split
    · exact s.finish_inside _ _
    · rfl

/-- What is in flight after a descriptor's end was in flight before it, and is another descriptor. -/
theorem State.finish_inflight {d x : Desc} {a : Answer} (h : x ∈ (s.finish d a).hif.inflight) :
    x ∈ s.hif.inflight ∧ x.did ≠ d.did := by
  have hdrop : ∀ {u : State} {k : Nat}, x ∈ (u.dropDesc k).hif.inflight → x ∈ u.hif.inflight ∧ x.did ≠ k := fun hx => by
    simpa [State.dropDesc] using hx
  have hring : ∀ {u : State} {n : Nat} {o : Desc} {b : Answer}, x ∈ (u.finishRing n o b).hif.inflight →
      x ∈ u.hif.inflight ∧ x.did ≠ o.did := fun {u n o b} hx =>
    hdrop (State.inflight_of_behindHost (u.finishRing_behindHost n o b) ▸ hx)
  unfold State.finish at h
  split at h
  · exact hring h
  · dsimp only at h
    split at h
    · split at h
      · exact hdrop (hring h).1
      · exact hdrop h
    · exact hdrop h
  · dsimp only at h
    rw [State.inflight_of_behindHost (State.sealedReply_behindHost _ _)] at h
    exact hdrop h

/-- A descriptor that has ended is not in flight. -/
theorem State.desc?_finish (d : Desc) (a : Answer) : (s.finish d a).desc? d.did = none :=
  List.find?_eq_none.2 fun _ hx => by simpa using (s.finish_inflight hx).2

/-! ## Tables -/

@[simp] theorem State.finish_tables (d a) : (s.finish d a).tables = s.tables := State.tables_of_inside (s.finish_inside d a)
@[simp] theorem State.ok_tables (d r) : (s.ok d r).tables = s.tables := s.finish_tables d _
@[simp] theorem State.endDid_tables (k st det r) : (s.endDid k st det r).tables = s.tables :=
  State.tables_of_inside (s.endDid_inside k st det r)
@[simp] theorem State.event_tables (f i c v a) : (s.event f i c v a).tables = s.tables := rfl
@[simp] theorem State.evict_tables (h) : (s.evict h).tables = s.tables := rfl
@[simp] theorem State.freshHandle_tables : s.freshHandle.2.tables = s.tables := rfl
@[simp] theorem State.campLeave_tables (i) : (s.campLeave i).tables = s.tables := rfl
@[simp] theorem State.addItem_tables (it) : (s.addItem it).tables = s.tables := rfl
@[simp] theorem State.addJob_tables (kind did pad cls body reps ys from_ cut) :
    (s.addJob kind did pad cls body reps ys from_ cut).tables = s.tables := rfl
@[simp] theorem State.dropJob_tables (i) : (s.dropJob i).tables = s.tables := rfl
@[simp] theorem State.dropScene_tables (i) : (s.dropScene i).tables = s.tables := rfl

@[simp] theorem State.checkRun_tables (r : Nat) : (s.checkRun r).tables = s.tables := by
  unfold State.checkRun
  split
  · rfl
  · split
    · rfl
    · dsimp only
      split
      · rfl
      · split
        · exact State.ok_tables _ _ _
        · rfl

@[simp] theorem State.endItem_tables (it : Item) (st det : Nat) : (s.endItem it st det).tables = s.tables := by
  unfold State.endItem
  extract_lets _ _ s1 s2
  have hs2 : s2.tables = s.tables := by
    unfold s2
    split
    · rfl
    · split
      · exact State.finish_tables _ _ _
      · rfl
  split
  · exact hs2
  · extract_lets s3
    have hs3 : s3.tables = s.tables := by
      unfold s3
      split <;> exact hs2
    exact (s3.checkRun_tables _).trans hs3

@[simp] theorem State.endItems_tables (i st det : Nat) : (s.endItems i st det).tables = s.tables := by
  unfold State.endItems
  refine foldl_keeps (fun u t => ?_) _ _
  split
  · exact u.endItem_tables _ _ _
  · rfl

@[simp] theorem State.addKey_tables (i : Nat) (k : ItemKind) : (s.addKey i k).tables = s.tables := by
  unfold State.addKey
  split <;> rfl

@[simp] theorem State.queueKeys_tables (i : Nat) : (s.queueKeys i).tables = s.tables := by
  unfold State.queueKeys
  extract_lets x
  split
  · rfl
  · refine foldl_keeps (fun t p => ?_) _ _
    extract_lets q t1
    have ht1 : t1.tables = t.tables := by
      unfold t1
      split
      · exact t.addKey_tables _ _
      · rfl
    split
    · exact (t1.addKey_tables _ _).trans ht1
    · exact ht1

@[simp] theorem State.distribute_tables (did : Option Nat) (body : List Byte) (pads stalls : List Nat) :
    (s.distribute did body pads stalls).tables = s.tables := by
  unfold State.distribute
  extract_lets r _ s1 s2 s3
  have hpads : s2.tables = s1.tables := foldl_keeps (v := State.tables) (fun t p => by dsimp only; split <;> rfl) _ _
  have hstalls : s3.tables = s2.tables := foldl_keeps (v := State.tables) (fun t i => State.addItem_tables _ _) _ _
  exact (s3.checkRun_tables r).trans (hstalls.trans hpads)

/-! ## A paddock after a write -/

@[simp] theorem State.pad_setPad_same (p : Nat) (x : Paddock) : (s.setPad p x).pad p = x := Tbl.get_put_same _ _ _ _

theorem State.pad_setPad_other {p q : Nat} (h : q ≠ p) (x : Paddock) : (s.setPad p x).pad q = s.pad q :=
  Tbl.get_put_other _ _ _ h

@[simp] theorem State.pad_modPad_same (p : Nat) (f : Paddock → Paddock) : (s.modPad p f).pad p = f (s.pad p) :=
  s.pad_setPad_same p _

theorem State.pad_modPad_other {p q : Nat} (h : q ≠ p) (f : Paddock → Paddock) : (s.modPad p f).pad q = s.pad q :=
  s.pad_setPad_other h _

theorem State.stall_modStall_other {i j : Nat} (h : j ≠ i) (f : Stall → Stall) : (s.modStall i f).stall j = s.stall j :=
  s.stall_setStall_other h _

end

end Sys2Proof.Machine
end

section
/-! PROOFS. Folds that keep or reach a property, and reads of sparse tables whose entries are rewritten or left out. -/
namespace Sys2Proof

section
variable {σ α : Type} {inv post : σ → Prop} {g : σ → α → σ} {l : List α} {s : σ}

theorem foldl_preserves (hinv : ∀ t b, inv t → inv (g t b)) (hs : inv s) : inv (l.foldl g s) := by
  induction l generalizing s with
  | nil => exact hs
  | cons b l ih => exact ih (hinv s b hs)

/-- A fold reaches what one of its steps sets and every step keeps. -/
theorem foldl_reaches {a : α} (ha : a ∈ l) (hinv : ∀ t b, inv t → inv (g t b)) (hset : ∀ t, inv t → post (g t a))
    (hkeep : ∀ t b, inv t → post t → post (g t b)) (hs : inv s) : post (l.foldl g s) := by
  induction l generalizing s with
  | nil => cases ha
  | cons b l ih =>
    rcases List.mem_cons.1 ha with rfl | ha
    · exact (foldl_preserves (inv := fun t => inv t ∧ post t) (fun t b h => ⟨hinv t b h.1, hkeep t b h.1 h.2⟩)
        ⟨hinv s a hs, hset s hs⟩).2
    · exact ih ha (hinv s b hs)

end

/-- What a key reads as is one of its entries, unless it is what an unlisted key reads as. -/
theorem Tbl.get_mem {α : Type} {d : α} {t : Tbl α} {i : Nat} (h : Tbl.get d t i ≠ d) : (i, Tbl.get d t i) ∈ t := by
  induction t with
  | nil => exact absurd rfl h
  | cons p t ih =>
    obtain ⟨k, v⟩ := p
    by_cases hk : k = i
    · simp [Tbl.get, hk]
    · have hget : Tbl.get d ((k, v) :: t) i = Tbl.get d t i := by simp [Tbl.get, hk]
      rw [hget] at h ⊢
      exact List.mem_cons_of_mem _ (ih h)

/-- Rewriting every entry in a way that keeps what `p` tells keeps what `p` tells of a read. -/
theorem Tbl.get_map_keeps {α β : Type} {d : α} {p : α → β} {f : α → α} (h : ∀ x, p (f x) = p x) (t : Tbl α) (i : Nat) :
    p (Tbl.get d (t.map (fun q => (q.1, f q.2))) i) = p (Tbl.get d t i) := by
  induction t with
  | nil => rfl
  | cons q t ih =>
    simp only [List.map_cons, Tbl.get]
    split
    · exact h _
    · exact ih

/-- A table without the keys that `keep` rejects. -/
theorem Tbl.get_filter {α : Type} (d : α) (keep : Nat → Bool) (t : Tbl α) (i : Nat) :
    Tbl.get d (t.filter (fun q => keep q.1)) i = if keep i then Tbl.get d t i else d := by
  induction t with
  | nil => simp [Tbl.get]
  | cons q t ih =>
    by_cases hq : q.1 = i
    · cases hk : keep i <;> simp [Tbl.get, hq, hk, ih]
    · cases hk : keep q.1 <;> simp [Tbl.get, hq, hk, ih]

end Sys2Proof
end

section
/-! PROOFS. O24: EPOCH_ROLL, and the close of a rollover (R198 to R200, R203, R389). -/
namespace Sys2Proof.Machine

/-! ## The tables are persisted (R135) -/

section
variable (s : State)

theorem State.stall_persistTables {α : Type} {p : Stall → α} (h : ∀ (x : Stall) (n : Nat), p { x with fcSaved := n } = p x) (i : Nat) :
    p (s.persistTables.stall i) = p (s.stall i) :=
  Tbl.get_map_keeps (f := fun x => { x with fcSaved := x.fcDown }) (fun x => h x _) _ i

theorem State.pad_persistTables {α : Type} {f : Paddock → α} (h : ∀ (x : Paddock) (n : Nat), f { x with fcSaved := n } = f x) (p : Nat) :
    f (s.persistTables.pad p) = f (s.pad p) :=
  Tbl.get_map_keeps (f := fun x => { x with fcSaved := x.fc }) (fun x => h x _) _ p

/-! ## A stall at the close (R203) -/

/-- The entry of a stall that becomes UNBOUND. -/
def Stall.unbound (x : Stall) : Stall :=
  { x with state := sUNBOUND, key := 0, keyNext := 0, oldKey := 0, renew := 0, nextHeld := false, rolled := false, acked := [] }

/-- The entry of a stall after the close of a rollover to an epoch of which `e` is the low octet. -/
def Stall.closed (x : Stall) (e : Nat) : Stall :=
  if x.rolled = false then x.unbound
  else
    let y := if x.keyNext ≠ 0 then { x with key := x.keyNext, keyNext := 0, nextHeld := false, epoch := e } else x
    if x.oldEp = e then y else { y with oldKey := 0 }

/-- A stall that the close meets twice is as after the first time. -/
theorem Stall.closed_closed (x : Stall) (e : Nat) : (x.closed e).closed e = x.closed e := by
  unfold Stall.closed Stall.unbound
  cases hrolled : x.rolled
  · simp
  · by_cases hnext : x.keyNext = 0 <;> by_cases hold : x.oldEp = e <;> simp [hrolled, hnext, hold]

theorem Stall.closed_pending {x : Stall} (h : x.rolled = false) (e : Nat) : (x.closed e).state = sUNBOUND := by
  rw [Stall.closed, if_pos h]
  rfl

theorem Stall.closed_rolled {x : Stall} (h : x.rolled = true) (hnext : x.keyNext ≠ 0) (e : Nat) :
    (x.closed e).state = x.state ∧ (x.closed e).key = x.keyNext ∧ (x.closed e).epoch = e := by
  rw [Stall.closed, if_neg (by simp [h]), if_pos hnext]
  dsimp only
  split <;> exact ⟨rfl, rfl, rfl⟩

/-- A stall becomes UNBOUND by one write of its entry. -/
theorem State.unbind_eq (i : Nat) : ∃ u : State, u.tables = s.tables ∧ s.unbind i = u.modStall i Stall.unbound := by
  refine ⟨_, ?_, rfl⟩
  simp only [State.campLeave_tables, State.endItems_tables, State.evict_tables]

@[simp] theorem State.modStall_beside (i : Nat) (f : Stall → Stall) : (s.modStall i f).tables.2 = s.tables.2 := rfl

/-- The close of a stall reaches neither the paddocks, nor the journal, nor the tack store. -/
theorem State.closeStall_beside (i e : Nat) : (s.closeStall i e).tables.2 = s.tables.2 := by
  unfold State.closeStall
  extract_lets x t
  have ht : t.tables.2 = s.tables.2 := by
    unfold t
    split <;> rfl
  split
  · obtain ⟨u, hu, heq⟩ := s.unbind_eq i
    rw [heq, State.modStall_beside, hu]
  · split
    · exact ht
    · rw [State.modStall_beside, State.evict_tables, ht]

theorem State.closeStall_stall_other {i j : Nat} (h : j ≠ i) (e : Nat) : (s.closeStall i e).stall j = s.stall j := by
  unfold State.closeStall
  extract_lets x t
  have ht : t.stall j = s.stall j := by
    unfold t
    split
    · exact State.stall_modStall_other _ h _
    · rfl
  split
  · obtain ⟨u, hu, heq⟩ := s.unbind_eq i
    rw [heq, State.stall_modStall_other _ h, State.stall_of_tables hu]
  · split
    · exact ht
    · exact (State.stall_modStall_other _ h _).trans ht

theorem State.closeStall_stall_same (i e : Nat) : (s.closeStall i e).stall i = (s.stall i).closed e := by
  unfold State.closeStall Stall.closed
  extract_lets x t y
  have ht : t.stall i = y := by
    unfold t y
    split
    · exact State.stall_modStall_same _ _ _
    · rfl
  split
  · obtain ⟨u, hu, heq⟩ := s.unbind_eq i
    rw [heq, State.stall_modStall_same, State.stall_of_tables hu]
  · split
    · exact ht
    · rw [State.stall_modStall_same]
      exact congrArg (fun z : Stall => { z with oldKey := 0 }) ht

/-- The close meets every stall of its list, whether once or more often. -/
theorem State.closeStalls_stall {l : List Nat} {i : Nat} (hi : i ∈ l) (e : Nat) :
    (l.foldl (fun t j => t.closeStall j e) s).stall i = (s.stall i).closed e := by
  have hstep : ∀ (t : State) (j : Nat), (t.closeStall j e).stall i = t.stall i ∨ (t.closeStall j e).stall i = (t.stall i).closed e :=
    fun t j => by
      by_cases hj : i = j
      · exact Or.inr (hj ▸ t.closeStall_stall_same i e)
      · exact Or.inl (t.closeStall_stall_other hj e)
  refine foldl_reaches (inv := fun t : State => t.stall i = s.stall i ∨ t.stall i = (s.stall i).closed e)
    (post := fun t : State => t.stall i = (s.stall i).closed e) hi ?keeps ?sets ?stays (Or.inl rfl)
  case keeps =>
    intro t j ht
    rcases hstep t j with h | h <;> rcases ht with ht | ht <;> simp [h, ht, Stall.closed_closed]
  case sets =>
    intro t ht
    rw [State.closeStall_stall_same]
    rcases ht with ht | ht <;> rw [ht]
    exact Stall.closed_closed _ _
  case stays =>
    intro t j _ ht
    rcases hstep t j with h | h <;> rw [h, ht]
    exact Stall.closed_closed _ _

theorem State.mem_liveStalls {i : Nat} (h : (s.stall i).live = true) : i ∈ s.liveStalls := by
  have hlisted : s.stall i ≠ Stall.none := fun hnone => by rw [hnone] at h; exact absurd h (by decide)
  exact List.mem_map.2 ⟨_, List.mem_filter.2 ⟨Tbl.get_mem hlisted, h⟩, rfl⟩

/-! ## The paddocks at the close (R203) -/

/-- A rolling paddock takes its new key at the close. -/
def State.closePad (e : Nat) (restarted : Bool) (t : State) (q : Nat × Paddock) : State :=
  (t.evict q.2.key).modPad q.1 (fun x => { x with
    key := x.keyNext, keyNext := 0, rolling := false, epoch := e, fc := if restarted then x.fc else 0 })

/-- The paddocks of a rollover take their new keys. -/
def State.padsClosed (s : State) : State :=
  (s.seg.pads.filter (fun q => q.2.rolling)).foldl (State.closePad (s.roll.epoch % 256) s.roll.restarted) s

theorem State.padsClosed_stalls_roll : (s.padsClosed.seg.stalls, s.padsClosed.roll) = (s.seg.stalls, s.roll) :=
  foldl_keeps (v := fun t : State => (t.seg.stalls, t.roll)) (g := State.closePad (s.roll.epoch % 256) s.roll.restarted) (fun _ _ => rfl) _ s

theorem State.padsClosed_rolling (p : Nat) : (s.padsClosed.pad p).rolling = false := by
  have hkeep : ∀ (t : State) (q : Nat × Paddock), (t.pad p).rolling = false →
      ((t.closePad (s.roll.epoch % 256) s.roll.restarted q).pad p).rolling = false := fun t q ht => by
    unfold State.closePad
    by_cases hq : p = q.1
    · rw [hq, State.pad_modPad_same]
    · rw [State.pad_modPad_other _ hq]
      exact ht
  cases hrolling : (s.pad p).rolling
  case false => exact foldl_preserves hkeep hrolling
  case true =>
    have hlisted : s.pad p ≠ Paddock.none := fun hnone => by rw [hnone] at hrolling; exact absurd hrolling (by decide)
    refine foldl_reaches (inv := fun _ => True) (a := (p, s.pad p)) (post := fun t : State => (t.pad p).rolling = false)
      (List.mem_filter.2 ⟨Tbl.get_mem hlisted, hrolling⟩) (fun _ _ _ => trivial) (fun t _ => ?_) (fun t q _ => hkeep t q) trivial
    unfold State.closePad
    rw [State.pad_modPad_same]

/-- The paddocks have their new keys, and the epoch rolled in is the tack store's. -/
def State.epochTurned (s : State) : State :=
  { s.padsClosed.journal (fun r => { r with restarted := true }) with
    tack := { s.padsClosed.tack with epoch := s.padsClosed.roll.epoch, epochNext := none } }

/-- The stalls have been closed too. -/
def State.stallsClosed (s : State) : State :=
  s.epochTurned.liveStalls.foldl (fun t i => t.closeStall i (s.roll.epoch % 256)) s.epochTurned

theorem State.epochTurned_stalls : s.epochTurned.seg.stalls = s.seg.stalls := congrArg (·.1) s.padsClosed_stalls_roll
theorem State.epochTurned_epoch : s.epochTurned.tack.epoch = s.roll.epoch :=
  congrArg (fun v : Tbl Stall × Roll => v.2.epoch) s.padsClosed_stalls_roll

theorem State.stallsClosed_beside : s.stallsClosed.tables.2 = s.epochTurned.tables.2 :=
  foldl_keeps (v := fun t : State => t.tables.2) (fun t i => t.closeStall_beside i _) _ _

theorem State.stallsClosed_stall {i : Nat} (h : (s.stall i).live = true) :
    s.stallsClosed.stall i = (s.stall i).closed (s.roll.epoch % 256) := by
  have hstall : s.epochTurned.stall i = s.stall i := congrArg (Tbl.get Stall.none · i) s.epochTurned_stalls
  rw [← hstall] at h ⊢
  exact s.epochTurned.closeStalls_stall (s.epochTurned.mem_liveStalls h) _

theorem State.rollFinish_eq : ∃ items jobs args stragglers, s.rollFinish = (({ s.stallsClosed with
    seg := { s.stallsClosed.seg with items := items, inflight := [], tried := [], jobs := jobs } }.event 11 0 0x0507 1 args).journal
      (fun r => { r with phase := 0, stragglers := stragglers, restarted := false })).persistTables :=
  ⟨_, _, _, _, rfl⟩

/-- The close leaves no rollover open, the epoch rolled in, and no paddock rolling (R203). -/
theorem State.rollFinish_reads : s.rollFinish.roll.phase = 0 ∧ s.rollFinish.tack.epoch = s.roll.epoch
    ∧ s.rollFinish.tack.epochNext = none ∧ s.rollFinish.seg.inflight = [] ∧ s.rollFinish.seg.tried = []
    ∧ ∀ p, (s.rollFinish.pad p).rolling = false := by
  obtain ⟨items, jobs, args, stragglers, heq⟩ := s.rollFinish_eq
  have htack : s.stallsClosed.tack = s.epochTurned.tack := congrArg (·.2.2) s.stallsClosed_beside
  have hpads : s.stallsClosed.seg.pads = s.padsClosed.seg.pads := congrArg (·.1) s.stallsClosed_beside
  rw [heq]
  refine ⟨rfl, ?epoch, ?next, rfl, rfl, fun p => ?pad⟩
  case epoch => exact (congrArg Tack.epoch htack).trans s.epochTurned_epoch
  case next => exact congrArg Tack.epochNext htack
  case pad =>
    rw [State.pad_persistTables _ (f := Paddock.rolling) (fun _ _ => rfl)]
    exact (congrArg (fun l => (Tbl.get Paddock.none l p).rolling) hpads).trans (s.padsClosed_rolling p)

/-- The close leaves each stall's entry closed; persisting notes its counter. -/
theorem State.rollFinish_stall {α : Type} {p : Stall → α} (hp : ∀ (x : Stall) (n : Nat), p { x with fcSaved := n } = p x) {i : Nat}
    (h : (s.stall i).live = true) : p (s.rollFinish.stall i) = p ((s.stall i).closed (s.roll.epoch % 256)) := by
  obtain ⟨items, jobs, args, stragglers, heq⟩ := s.rollFinish_eq
  rw [heq, State.stall_persistTables _ hp]
  exact congrArg p (s.stallsClosed_stall h)

/-! ## The commands -/

theorem rollArgsOk_of {d : Desc} (htarget : d.target = 0) (hzero : d.pZero 1 32 = true) (hlen : d.len ≠ 0) : rollArgsOk d = true := by
  simp [rollArgsOk, htarget, hzero, hlen]

end

section
variable {s : State} {d : Desc}

theorem exec_epochRollStart (h : s.serves d 0x19) (hact : d.pByte 0 = 1) (hargs : rollArgsOk d = true) :
    Does (.epochRollStart d.did) s (
      if s.roll.phase ≠ 0 then (s.holding d.taken).rollAnswer d.taken stBUSY
      else if s.shed.down then (s.holding d.taken).rollAnswer d.taken stERR_ABSENT
      else if s.keyed = false then (s.holding d.taken).rollAnswer d.taken stDENIED
      else (s.holding d.taken).rollOpen.rollAnswer d.taken stOK) :=
  Does.of_served rfl h (by simp [hact]) (if_neg (ne_false_of_eq_true hargs))

theorem exec_epochRollClose (h : s.serves d 0x19) (hact : d.pByte 0 = 2) (hargs : rollArgsOk d = true) :
    Does (.epochRollClose d.did) s (
      if s.roll.phase ≠ 1 then (s.holding d.taken).rollAnswer d.taken stOK
      else (s.holding d.taken).rollClose.rollAnswer d.taken stOK) :=
  Does.of_served rfl h (by simp [hact]) (if_neg (ne_false_of_eq_true hargs))

theorem exec_rollCloseAfterExpiry (h : s.roll.phase = 1 ∧ s.serving = true) :
    Does .rollCloseAfterExpiry s ((s.elapseRtc (s.roll.start + s.inForce 0x0522 * 3600 * 32768)).rollClose) :=
  quiet_does (if_pos h)

end

/-- Settles O24: the operands choose one branch of each action, and the close meets every rolling paddock and every live stall of the
tables, an entry that is listed twice as if once. -/
theorem rolloverFollowsItsCommands : Obligations.RolloverFollowsItsCommands := by
  unfold Obligations.RolloverFollowsItsCommands
  refine ⟨?query, ?start, ?close, ?expiry, ?begins, ?closed⟩
  case query =>
    intro s d h htarget hparam hlen
    have hact : d.pByte 0 = 0 := by simp [Desc.pByte, hparam]
    refine Does.of_served rfl h (by simp [hact]) (if_neg ?_)
    rintro (hno | hno)
    · exact absurd (rollArgsOk_of htarget (Desc.pZero_of_param hparam 1 32) hlen) (ne_true_of_eq_false hno)
    · exact hno hact
  case start =>
    intro s d h htarget hact hzero hlen
    have hrun := exec_epochRollStart h hact (rollArgsOk_of htarget hzero hlen)
    refine ⟨fun hphase hup hkeyed => ?_, fun hphase hdown => ?_, fun hphase hup hkeyed => ?_, fun hphase => ?_⟩
    · simpa [hphase, hup, hkeyed] using hrun
    · simpa [hphase, hdown] using hrun
    · simpa [hphase, hup, hkeyed] using hrun
    · simpa [hphase] using hrun
  case close =>
    intro s d h htarget hact hzero hlen
    have hrun := exec_epochRollClose h hact (rollArgsOk_of htarget hzero hlen)
    exact ⟨fun hphase => by rwa [if_neg (not_not_intro hphase)] at hrun, fun hphase => by rwa [if_pos hphase] at hrun⟩
  case expiry => exact fun s hphase hserving => exec_rollCloseAfterExpiry ⟨hphase, hserving⟩
  case begins =>
    intro s
    have hsame : (s.journal (fun r => { r with phase := 2 })).boundaryAhead = s.boundaryAhead := rfl
    exact ⟨fun hahead => if_pos (hsame.trans hahead), fun hnone => if_neg (ne_true_of_eq_false (hsame.trans hnone)),
      fun hphase => if_pos hphase⟩
  case closed =>
    rintro s t rfl
    obtain ⟨hphase, hepoch, hnext, hinflight, htried, hpads⟩ := s.rollFinish_reads
    refine ⟨hphase, hepoch, hnext, hinflight, htried, hpads, fun i hlive hpending => ?_, fun i hlive hrolled hkey => ?_,
      congrArg (·.2.2) s.rollFinish_steady⟩
    · rw [s.rollFinish_stall (p := Stall.state) (fun _ _ => rfl) hlive]
      exact Stall.closed_pending hpending _
    · rw [s.rollFinish_stall (p := Stall.state) (fun _ _ => rfl) hlive, s.rollFinish_stall (p := Stall.key) (fun _ _ => rfl) hlive,
        s.rollFinish_stall (p := Stall.epoch) (fun _ _ => rfl) hlive]
      exact Stall.closed_rolled hrolled hkey _

end Sys2Proof.Machine
end

section
/-! PROOFS. O19: STALL_READ, STALL_WRITE, PADDOCK_READ and PADDOCK_WRITE (R169, R170, R175, R177, R180, R181). -/
namespace Sys2Proof.Machine

section
variable {s t : State} {d e : Desc} {read : HostRead}

/-! ## The stall commands -/

theorem exec_stallRead {hits : List Nat} (h : s.serves d 0x10) (hlen : d.len ≠ 0) (htarget : d.target < nStalls)
    (hmin : 1 ≤ d.pNum 0 4) (hmax : d.pNum 0 4 ≤ 131072) (hmask : d.pByte 4 < 128) (hzero : d.pZero 5 32 = true)
    (hhits : hits = ((List.range (min (d.target + d.pNum 0 4) nStalls - d.target)).map (fun k => d.target + k)).filter (fun i =>
      d.pByte 4 == 0 || bit (d.pByte 4) (s.stall i).state)) :
    Does (.stallRead d.did) s ((s.holding d.taken).finish d.taken
      { status := stOK
        result := min hits.length (d.len / 128) + 2 ^ 32 *
          (hits[min hits.length (d.len / 128)]?).getD (min (d.target + d.pNum 0 4) nStalls)
        data := ((hits.take (min hits.length (d.len / 128))).map s.stallBytes).flatten
        trunc := decide (min hits.length (d.len / 128) < hits.length) }) := by
  have hargs : ¬ (d.len = 0 ∨ nStalls ≤ d.target ∨ d.pNum 0 4 = 0 ∨ 131072 < d.pNum 0 4 ∨ 128 ≤ d.pByte 4 ∨ d.pZero 5 32 = false) := by
    simp only [hlen, hzero, Bool.true_eq_false, or_false, false_or]
    omega
  refine Does.of_served rfl h rfl ((if_neg hargs).trans ?_)
  dsimp only
  split
  · next i hi =>
    have hi : hits[min hits.length (d.len / 128)]? = some i := hhits ▸ hi
    rw [hi, hhits]
    rfl
  · next hi =>
    have hi : hits[min hits.length (d.len / 128)]? = none := hhits ▸ hi
    rw [hi, hhits]
    rfl

/-- The entry of a stall after a STALL_WRITE: the fields that the operation selects, from its buffer. -/
def Stall.written (x : Stall) (d : Desc) : Stall :=
  { x with
    pads := if bit (d.pByte 0) 0 then padSlots d.buf else x.pads
    sched := if bit (d.pByte 0) 1 then leAt d.buf 68 2 else x.sched
    user := if bit (d.pByte 0) 2 then leAt d.buf 120 8 else x.user }

/-- A STALL_WRITE writes its stall, queues the keys that the node lacks, and sends the schedule that it names (R177, R181). -/
def State.stallWritten (s : State) (d : Desc) : State :=
  let t := s.setStall d.target ((s.stall d.target).written d)
  let u := if bit (d.pByte 0) 0 then t.queueKeys d.target else t
  match u.schedule (leAt d.buf 68 2) with
  | some body =>
    if bit (d.pByte 0) 1 = true ∧ d.target ∈ u.schedStalls (leAt d.buf 68 2) then u.distribute none body [] [d.target] else u
  | none => u

theorem State.stallWritten_tables (s : State) (d : Desc) :
    (s.stallWritten d).tables = (s.setStall d.target ((s.stall d.target).written d)).tables := by
  unfold State.stallWritten
  extract_lets t u
  have hu : u.tables = t.tables := by
    unfold u
    split
    · exact t.queueKeys_tables _
    · rfl
  split
  · split
    · exact (u.distribute_tables _ _ _ _).trans hu
    · exact hu
  · exact hu

theorem exec_stallWrite_writes (h : s.serves d 0x11) (he : d.seen s read = some e) (hlen : e.len = 128) (htarget : e.target < nStalls)
    (hsel : e.pByte 0 < 8) (hzero : e.pZero 1 32 = true) (hbound : (s.stall e.target).free = false)
    (hstays : (s.stall e.target).state ≠ sRETIRED) (hpads : bit (e.pByte 0) 0 = true → s.padsOk e.buf = true)
    (hsched : bit (e.pByte 0) 1 = true → s.schedOk (leAt e.buf 68 2) = true) :
    Does (.stallWrite d.did read) s (((s.holding e).stallWritten e).ok e) := by
  have hargs : ¬ (e.len ≠ 128 ∨ nStalls ≤ e.target ∨ 8 ≤ e.pByte 0 ∨ e.pZero 1 32 = false) := by
    simp only [hlen, hzero, ne_eq, not_true_eq_false, Bool.true_eq_false, or_false, false_or]
    omega
  have hopen : ¬ ((s.stall e.target).free = true ∨ (s.stall e.target).state = sRETIRED) := by simp [hbound, hstays]
  have hpads' : ¬ (bit (e.pByte 0) 0 = true ∧ s.padsOk e.buf = false) := fun hno => by simp [hpads hno.1] at hno
  have hsched' : ¬ (bit (e.pByte 0) 1 = true ∧ s.schedOk (leAt e.buf 68 2) = false) := fun hno => by simp [hsched hno.1] at hno
  exact Does.of_served_in rfl h he (fun _ _ => rfl) rfl
    ((if_neg hargs).trans ((if_neg hopen).trans ((if_neg hpads').trans ((if_neg hsched').trans rfl))))

/-! ## The paddock commands -/

theorem exec_paddockRead (h : s.serves d 0x14) (hlen : d.len ≠ 0) (htarget : d.target < 4096) (hmin : 1 ≤ d.pNum 0 2)
    (hmax : d.pNum 0 2 ≤ 4096) (hzero : d.pZero 2 32 = true) : Does (.paddockRead d.did) s ((s.holding d.taken).okItems d.taken 64
      (((List.range (min (d.pNum 0 2) (4096 - d.target))).map (fun k => d.target + k)).map s.padBytes) (fun n => n)) := by
  refine Does.of_served rfl h rfl (if_neg ?_)
  rintro (hno | hno | hno | hno | hno)
  · exact hlen hno
  · exact Nat.not_lt.2 hno htarget
  · exact absurd hmin (by rw [show d.pNum 0 2 = 0 from hno]; decide)
  · exact Nat.not_lt.2 hmax hno
  · exact absurd (hzero.symm.trans hno) (by decide)

/-- A command of PADDOCK_WRITE whose action is its own, and whose operands pass the common checks, does what its body does. -/
theorem Does.of_padOp {c : Instr} {mine : Nat → Bool} {body : State → Desc → State} (hc : Does c s (s.padOp d.did read mine body))
    (h : s.serves d 0x15) (he : d.seen s read = some e) (hmine : mine (e.pByte 0) = true) (htarget : e.target < 4096)
    (hact : e.pByte 0 ≤ 3) (hzero : e.pZero 1 32 = true) (hbody : body (s.holding e) e = t) : Does c s t := by
  refine Does.of_served_in hc h he (fun _ _ => rfl) hmine ((if_neg ?_).trans hbody)
  simp only [hzero, Bool.true_eq_false, or_false]
  omega

/-- The paddock that a CREATE writes: with a key of its own where there was none valid. -/
def State.padCreated (s : State) (d : Desc) : State :=
  let s1 := s.setPad d.target { s.pad d.target with
    valid := decide (d.target ≠ 0), sched := leAt d.buf 10 2, user := leAt d.buf 48 8 }
  if !s.padValid d.target then
    let h := s1.freshHandle
    let g := h.2.freshHandle
    g.2.modPad d.target (fun x => { x with
      key := h.1, epoch := g.2.epoch8, rolling := g.2.rolling, keyNext := if g.2.rolling then g.1 else 0 })
  else s1

theorem State.padCreated_other (s : State) (d : Desc) : (s.padCreated d).seg.stalls = s.seg.stalls
    ∧ ∀ p, p ≠ d.target → (s.padCreated d).pad p = s.pad p := by
  unfold State.padCreated
  dsimp only
  split
  · exact ⟨rfl, fun p hp => (State.pad_modPad_other _ hp _).trans (s.pad_setPad_other hp _)⟩
  · exact ⟨rfl, fun p hp => s.pad_setPad_other hp _⟩

theorem State.padCreated_same (s : State) (d : Desc) : ((s.padCreated d).pad d.target).valid = decide (d.target ≠ 0)
    ∧ ((s.padCreated d).pad d.target).sched = leAt d.buf 10 2 ∧ ((s.padCreated d).pad d.target).user = leAt d.buf 48 8
    ∧ (s.padValid d.target = true → ((s.padCreated d).pad d.target).key = (s.pad d.target).key)
    ∧ (s.padValid d.target = false → ((s.padCreated d).pad d.target).key ≠ 0 ∧ ((s.padCreated d).pad d.target).epoch = s.epoch8) := by
  unfold State.padCreated
  extract_lets _ s1 h g
  have hwritten : g.2.pad d.target = { s.pad d.target with
      valid := decide (d.target ≠ 0), sched := leAt d.buf 10 2, user := leAt d.buf 48 8 } := s.pad_setPad_same _ _
  have hkey : h.1 ≠ 0 := Nat.pos_iff_ne_zero.1 (Nat.le_max_left _ _)
  cases hvalid : s.padValid d.target
  · rw [Bool.not_false, if_pos rfl, State.pad_modPad_same, hwritten]
    exact ⟨rfl, rfl, rfl, fun hno => absurd hno (by decide), fun _ => ⟨hkey, rfl⟩⟩
  · rw [Bool.not_true, if_neg (by decide), State.pad_setPad_same]
    exact ⟨rfl, rfl, rfl, fun _ => rfl, fun hno => absurd hno (by decide)⟩

theorem exec_paddockCreate_creates (h : s.serves d 0x15) (he : d.seen s read = some e) (htarget : e.target < 4096) (hact : e.pByte 0 = 0)
    (hzero : e.pZero 1 32 = true) (hlen : e.len = 64) (hsched : s.schedOk (leAt e.buf 10 2) = true)
    (hallowed : s.padValid e.target = true ∨ (s.keyed = true ∧ s.shed.down = false)) :
    ∃ u : State, Does (.paddockCreate d.did read) s (u.ok e) ∧ u.tables = ((s.holding e).padCreated e).tables := by
  have hargs : ¬ (e.len ≠ 64 ∨ s.schedOk (leAt e.buf 10 2) = false) := by simp [hlen, hsched]
  have hup : ¬ ((!s.padValid e.target) = true ∧ s.shed.down = true) := by
    rcases hallowed with hvalid | ⟨-, hup⟩ <;> simp [*]
  have hkeyed : ¬ ((!s.padValid e.target) = true ∧ s.keyed = false) := by
    rcases hallowed with hvalid | ⟨hkeyed, -⟩ <;> simp [*]
  refine ⟨_, Does.of_padOp rfl h he (by simp [hact]) htarget (by omega) hzero
    ((if_neg hargs).trans ((if_neg hup).trans (if_neg hkeyed))), ?_⟩
  split
  · exact State.distribute_tables _ _ _ _ _
  · rfl

theorem exec_paddockAdd (h : s.serves d 0x15) (he : d.seen s read = some e) (htarget : e.target < 4096) (hother : e.target ≠ 0)
    (hact : e.pByte 0 = 1) (hzero : e.pZero 1 32 = true) (hlist : listOk e = true) (hvalid : s.padValid e.target = true) :
    Does (.paddockAdd d.did read) s (match (s.holding e).runList (addPad e.target) 0 0 (stallList e.buf) with
      | .error k => (s.holding e).finish e { status := stERR_ARG, result := k }
      | .ok (t, n) => ((stallList e.buf).foldl State.queueKeys t).ok e n) := by
  have hargs : ¬ (e.target = 0 ∨ listOk e = false ∨ s.padValid e.target = false) := by simp [hother, hlist, hvalid]
  exact Does.of_padOp rfl h he (by simp [hact]) htarget (by omega) hzero (if_neg hargs)

theorem exec_paddockRemove (h : s.serves d 0x15) (he : d.seen s read = some e) (htarget : e.target < 4096) (hother : e.target ≠ 0)
    (hact : e.pByte 0 = 2) (hzero : e.pZero 1 32 = true) (hlist : listOk e = true) :
    Does (.paddockRemove d.did read) s (match (s.holding e).runList (removePad e.target) 0 0 (stallList e.buf) with
      | .error k => (s.holding e).finish e { status := stERR_ARG, result := k }
      | .ok (t, n) => t.ok e n) := by
  have hargs : ¬ (e.target = 0 ∨ listOk e = false) := by simp [hother, hlist]
  exact Does.of_padOp rfl h he (by simp [hact]) htarget (by omega) hzero (if_neg hargs)

/-! ## A paddock is deleted -/

/-- The entry of a stall that a deleted paddock leaves. -/
def Stall.leavePad (x : Stall) (p : Nat) : Stall :=
  { x with pads := x.pads.map (fun q => if q = some p then Option.none else q), acked := x.acked.filter (fun a => a.1 != p) }

theorem Stall.lists_leavePad (x : Stall) (p : Nat) : (x.leavePad p).lists p = false := by
  unfold Stall.lists Stall.leavePad
  simp only [List.contains_eq_mem, decide_eq_false_iff_not, List.mem_map, not_exists, not_and]
  intro q _
  split
  · exact (Option.some_ne_none p).symm
  · assumption

/-- The stalls that list a paddock, or have acknowledged its key, are left by it. -/
def State.padLeft (s : State) (p : Nat) : State :=
  ((s.seg.stalls.filter (fun q => q.2.lists p || q.2.acked.any (fun a => a.1 == p))).map (fun q => q.1)).foldl
    (fun t i => t.modStall i (fun x => x.leavePad p)) s

theorem State.padLeft_pads (s : State) (p : Nat) : (s.padLeft p).seg.pads = s.seg.pads :=
  foldl_keeps (v := fun t : State => t.seg.pads) (g := fun t i => t.modStall i (fun x => x.leavePad p)) (fun _ _ => rfl) _ s

theorem State.padLeft_lists (s : State) (p i : Nat) : ((s.padLeft p).stall i).lists p = false := by
  have hkeep : ∀ (t : State) (j : Nat), (t.stall i).lists p = false →
      ((t.modStall j (fun x => x.leavePad p)).stall i).lists p = false := fun t j ht => by
    by_cases hj : i = j
    · rw [hj, State.stall_modStall_same]
      exact Stall.lists_leavePad _ _
    · rw [State.stall_modStall_other _ hj]
      exact ht
  cases hlists : (s.stall i).lists p
  case false => exact foldl_preserves (inv := fun t : State => (t.stall i).lists p = false) hkeep hlists
  case true =>
    have hlisted : s.stall i ≠ Stall.none := fun hnone => by rw [hnone] at hlists; simp [Stall.lists, Stall.none] at hlists
    have hmem : i ∈ (s.seg.stalls.filter (fun q => q.2.lists p || q.2.acked.any (fun a => a.1 == p))).map (fun q => q.1) :=
      List.mem_map.2 ⟨_, List.mem_filter.2 ⟨Tbl.get_mem hlisted, Bool.or_eq_true_iff.2 (Or.inl hlists)⟩, rfl⟩
    refine foldl_reaches (inv := fun _ => True) (post := fun t : State => (t.stall i).lists p = false) hmem
      (fun _ _ _ => trivial) (fun t _ => ?_) (fun t j _ => hkeep t j) trivial
    rw [State.stall_modStall_same]
    exact Stall.lists_leavePad _ _

/-- A DELETE takes the paddock out of every stall, destroys its keys, and drops the items that were to send them (R180). -/
def State.padDeleted (s : State) (p : Nat) : State :=
  let t := s.padLeft p
  (((t.evict (t.pad p).key).evict (t.pad p).keyNext).setPad p
    { t.pad p with valid := false, key := 0, keyNext := 0, rolling := false }).dropPadKeys p

theorem State.padDeleted_pad (s : State) (p : Nat) :
    ((s.padDeleted p).pad p).valid = false ∧ ∀ q, q ≠ p → (s.padDeleted p).pad q = s.pad q :=
  ⟨congrArg Paddock.valid (State.pad_setPad_same _ p _), fun q hq =>
    (State.pad_setPad_other _ hq _).trans (congrArg (Tbl.get Paddock.none · q) (s.padLeft_pads p))⟩

theorem State.padDeleted_lists (s : State) (p i : Nat) : ((s.padDeleted p).stall i).lists p = false := by
  have hstalls : (s.padDeleted p).seg.stalls = (s.padLeft p).seg.stalls := rfl
  unfold State.stall
  rw [hstalls]
  exact s.padLeft_lists p i

theorem exec_paddockDelete_deletes (h : s.serves d 0x15) (hact : d.pByte 0 = 3) (htarget : d.target < 4096) (hother : d.target ≠ 0)
    (hlen : d.len = 0) (hzero : d.pZero 1 32 = true) (hvalid : s.padValid d.target = true) (hfree : s.padNamed d.target = false) :
    ∃ n, Does (.paddockDelete d.did) s (((s.holding d.taken).padDeleted d.target).ok d.taken n) := by
  have hargs : ¬ (4096 ≤ d.target ∨ d.target = 0 ∨ d.len ≠ 0 ∨ d.pZero 1 32 = false ∨ s.padValid d.target = false) := by
    simp only [hother, hlen, hzero, hvalid, ne_eq, not_true_eq_false, Bool.true_eq_false, or_false]
    omega
  exact ⟨_, Does.of_served rfl h (by simp [hact]) ((if_neg hargs).trans ((if_neg (ne_true_of_eq_false hfree)).trans rfl))⟩

end

/-- Settles O19: each operation passes its checks, and what it writes besides its own entries leaves the two tables. -/
theorem stallAndPaddockTablesFollowTheirCommands : Obligations.StallAndPaddockTablesFollowTheirCommands := by
  unfold Obligations.StallAndPaddockTablesFollowTheirCommands
  refine ⟨?stallRead, ?stallWrite, ?padRead, ?create, ?add, ?remove, ?delete⟩
  case stallRead =>
    intro s d hits h hlen htarget hmin hmax hmask hzero hhits
    exact exec_stallRead h hlen htarget hmin hmax hmask hzero hhits
  case stallWrite =>
    intro s d e read h he hlen htarget hsel hzero hbound hstays hpads hsched
    have hrun := exec_stallWrite_writes h he hlen htarget hsel hzero hbound hstays hpads hsched
    have hok : (((s.holding e).stallWritten e).ok e).tables = (s.setStall e.target ((s.stall e.target).written e)).tables :=
      (State.ok_tables _ _ _).trans ((s.holding e).stallWritten_tables e)
    refine ⟨_, hrun, ?_, fun i hi => ?_, (State.pads_of_tables hok :), rfl, ?_⟩
    · exact (State.stall_of_tables hok _).trans (s.stall_setStall_same _ _)
    · exact (State.stall_of_tables hok i).trans (s.stall_setStall_other hi _)
    · rw [← Desc.seen_did he]
      exact State.desc?_finish _ _ _
  case padRead =>
    intro s d h hlen htarget hmin hmax hzero
    exact exec_paddockRead h hlen htarget hmin hmax hzero
  case create =>
    intro s d e read h he htarget hact hzero hlen hsched hallowed
    obtain ⟨u, hrun, hu⟩ := exec_paddockCreate_creates h he htarget hact hzero hlen hsched hallowed
    have hok : (u.ok e).tables = ((s.holding e).padCreated e).tables := (u.ok_tables e 0).trans hu
    have hpad := State.pad_of_tables hok
    obtain ⟨hvalid, hsch, huser, hkept, hfresh⟩ := (s.holding e).padCreated_same e
    obtain ⟨hstalls, hothers⟩ := (s.holding e).padCreated_other e
    rw [← hpad] at hvalid hsch huser hkept hfresh
    exact ⟨_, hrun, hvalid, hsch, huser, hkept, hfresh, fun p hp => (hpad p).trans (hothers p hp),
      (State.stalls_of_tables hok).trans hstalls, rfl⟩
  case add =>
    intro s d e read h he htarget hother hact hzero hlist hvalid
    have hrun := exec_paddockAdd h he htarget hother hact hzero hlist hvalid
    exact ⟨fun t n hlistRun => by rwa [hlistRun] at hrun, fun k hlistRun => by rwa [hlistRun] at hrun⟩
  case remove =>
    intro s d e read h he htarget hother hact hzero hlist
    have hrun := exec_paddockRemove h he htarget hother hact hzero hlist
    exact ⟨fun t n hlistRun => by rwa [hlistRun] at hrun, fun k hlistRun => by rwa [hlistRun] at hrun⟩
  case delete =>
    intro s d h hact htarget hother hlen hzero hvalid hfree
    obtain ⟨n, hrun⟩ := exec_paddockDelete_deletes h hact htarget hother hlen hzero hvalid hfree
    have hok : (((s.holding d.taken).padDeleted d.target).ok d.taken n).tables = ((s.holding d.taken).padDeleted d.target).tables :=
      State.ok_tables _ _ _
    obtain ⟨hgone, hothers⟩ := (s.holding d.taken).padDeleted_pad d.target
    have hpad := State.pad_of_tables hok
    rw [← hpad] at hgone
    refine ⟨_, hrun, Bool.or_eq_false_iff.2 ⟨beq_eq_false_iff_ne.2 hother, hgone⟩, fun i => ?_, fun p hp => ?_, rfl⟩
    · exact (congrArg (fun y : Stall => y.lists d.target) (State.stall_of_tables hok i)).trans ((s.holding d.taken).padDeleted_lists _ i)
    · exact (hpad p).trans (hothers p hp)

end Sys2Proof.Machine
end

section
/-! PROOFS. O23: SCENE_LOAD, SCENE_LAUNCH, the arming and the discard of a scene (R183 to R185, R187, R188, R281). -/
namespace Sys2Proof.Machine

section
variable {s : State} {d e : Desc} {read : HostRead}

/-- A descriptor that has been taken up keeps the output time of its fetch. -/
theorem Desc.seen_atOut (h : d.seen s read = some e) : e.atOut = d.atOut := by
  unfold Desc.seen at h
  split at h
  · cases h
  · split at h <;> cases h
    rfl
  · cases h
    rfl

/-- The yards of a paddock rest on the stall table alone. -/
theorem State.padYards_of_stalls {t : State} (h : t.seg.stalls = s.seg.stalls) (p : Nat) : t.padYards p = s.padYards p := by
  unfold State.padYards State.members
  rw [h]

/-! ## A scene is loaded (R183 to R185) -/

/-- A load ends the scene loaded under its ID: its delivery, its load, and a launch for another instant. -/
def State.sceneEnded (s : State) (id t : Nat) : State :=
  match s.scene? id with
  | none => s
  | some c =>
    let u := match s.sceneJob id with
      | some j => s.dropJob j.id
      | none => s
    let v := u.endDid c.loadDid stABORTED 0 0
    (if c.t = t then v else v.endDid c.launchDid stERR_ARG 0 0).dropScene id

theorem State.scene?_dropScene (s : State) (id : Nat) : (s.dropScene id).scene? id = none :=
  List.find?_eq_none.2 fun c hc => by simpa using (List.mem_filter.1 hc).2

theorem State.sceneEnded_scene? (s : State) (id t : Nat) : (s.sceneEnded id t).scene? id = none := by
  unfold State.sceneEnded
  split
  · assumption
  · exact State.scene?_dropScene _ _

theorem State.sceneEnded_stalls (s : State) (id t : Nat) : (s.sceneEnded id t).seg.stalls = s.seg.stalls := by
  unfold State.sceneEnded
  split
  · rfl
  · extract_lets u v
    have hu : u.tables = s.tables := by
      unfold u
      split <;> rfl
    have hv : v.tables = s.tables := (u.endDid_tables _ _ _ _).trans hu
    split
    · exact State.stalls_of_tables hv
    · exact State.stalls_of_tables ((v.endDid_tables _ _ _ _).trans hv)

/-- The scene of a SCENE_LOAD: unarmed, with the launch that waits for the same scene at the same instant. -/
def Desc.newScene (d : Desc) (did lead : Nat) (old : Option Scene) : Scene :=
  let rest := d.buf.drop (13 + 4 * sceneN d.buf)
  { id := d.target, t := leAt d.buf 2 8, body := d.buf.take (13 + 4 * sceneN d.buf), carrier := d.pNum 2 2
    repeats := if d.pByte 0 = 0 then 3 else d.pByte 0, dmask := if rest = [] then 0 else driveMask rest, levels := driveLevels rest
    lead := lead, loadDid := some did
    launchDid := match old with | some o => if o.t = leAt d.buf 2 8 then o.launchDid else none | none => none
    armed := false, delivered := [], left := 0, late := false, yardsOut := 0, latched := 0, latching := 0 }

/-- The scene is loaded, its carrier paddock names it, and its delivery is queued. -/
def State.sceneLoaded (s : State) (d : Desc) (did : Nat) : State :=
  let u := s.sceneEnded d.target (leAt d.buf 2 8)
  let c := d.newScene did (u.param 0x0523) (s.scene? d.target)
  let v := { u with seg := { u.seg with scenes := u.seg.scenes ++ [c] } }.modPad c.carrier (fun p =>
    { p with sceneId := d.target, sceneT := leAt d.buf 2 8 })
  v.addJob (.scene d.target) (some did) c.carrier 0x03 c.body c.repeats (u.padYards c.carrier) 0
    (some ((leAt d.buf 2 8 : Int) - c.lead * secT))

theorem exec_sceneLoad (h : s.serves d 0x17) (he : d.seen s read = some e) (hargs : sceneArgsOk e = true)
    (hload : bit (e.pByte 1) 0 = false) (hlen : e.len ≠ 0) (hcheck : s.sceneCheck d.atOut e.target (e.pNum 2 2) e.buf = none) :
    Does (.sceneLoad d.did read) s (
      if s.scene? e.target = none ∧ 64 ≤ s.loadedScenes.length then (s.holding e).fail e stBUSY
      else if ((s.scene? e.target).map (fun c => c.armed)).getD false = true then (s.holding e).fail e stBUSY
      else if ((s.holding e).sceneEnded e.target (leAt e.buf 2 8)).padYards (e.pNum 2 2) = [] then
        ((s.holding e).sceneLoaded e d.did).endDelivery e.target
      else (s.holding e).sceneLoaded e d.did) := by
  have hform : ¬ (sceneArgsOk e = false ∨ e.len = 0) := by simp [hargs, hlen]
  have hpass : (s.holding e).sceneCheck e.atOut e.target (e.pNum 2 2) e.buf = none := by
    rw [Desc.seen_atOut he]
    exact hcheck
  refine Does.of_served_in rfl h he (fun _ _ => rfl) (by simp [hload]) ((if_neg hform).trans ?_)
  dsimp only
  rw [hpass]
  rfl

/-- What a load leaves: the scene under its ID, the carrier paddock that names it, and its delivery. -/
theorem State.sceneLoaded_reads (s : State) (d : Desc) (did : Nat) :
    (∃ lead, (s.sceneLoaded d did).scene? d.target = some (d.newScene did lead (s.scene? d.target)))
    ∧ ((s.sceneLoaded d did).pad (d.pNum 2 2)).sceneId = d.target
    ∧ ((s.sceneLoaded d did).pad (d.pNum 2 2)).sceneT = leAt d.buf 2 8
    ∧ ((s.sceneLoaded d did).sceneJob d.target).isSome = true := by
  refine ⟨⟨(s.sceneEnded d.target (leAt d.buf 2 8)).param 0x0523, ?scene⟩, ?id, ?instant, ?job⟩
  case scene =>
    have hgone := s.sceneEnded_scene? d.target (leAt d.buf 2 8)
    unfold State.scene? at hgone
    refine (List.find?_append ..).trans ?_
    rw [hgone, Option.none_or]
    exact List.find?_cons_of_pos (beq_self_eq_true d.target)
  case id => exact congrArg Paddock.sceneId (Tbl.get_put_same _ _ _ _)
  case instant => exact congrArg Paddock.sceneT (Tbl.get_put_same _ _ _ _)
  case job => exact List.find?_isSome.2 ⟨_, List.mem_append_right _ (List.mem_singleton.2 rfl), beq_self_eq_true _⟩

/-! ## A scene is cancelled (R188) -/

/-- A cancel ends the scene's delivery, its load and its launch, and withdraws what is armed for it. -/
def State.sceneWithdrawn (s : State) (id : Nat) (c : Scene) : State :=
  let u := match s.sceneJob id with
    | some j => s.dropJob j.id
    | none => s
  ((((u.endDid c.loadDid stABORTED 0 0).endDid c.launchDid stABORTED 0 0).disarmScene id).dropScene id)

/-- The cancel's own frames are queued to the yards of the carrier paddock. -/
def State.sceneCancelled (s : State) (id : Nat) (c : Scene) : State :=
  let u := s.sceneWithdrawn id c
  let ys := u.padYards c.carrier
  if ys = [] then u
  else u.addJob (.cancel id) none c.carrier 0x03 (le 2 id ++ zeros 8 ++ zeros 2 ++ le 1 1 ++ le 2 c.carrier ++ zeros 2) c.repeats ys 0
    (some ((c.t : Int) - c.lead * secT))

theorem exec_sceneCancel (h : s.serves d 0x17) (he : d.seen s read = some e) (hargs : sceneArgsOk e = true)
    (hcancel : bit (e.pByte 1) 0 = true) (hlen : e.len = 0) {c : Scene} (hc : s.scene? e.target = some c) :
    Does (.sceneCancel d.did read) s (((s.holding e).sceneCancelled e.target c).ok e) := by
  have hform : ¬ (sceneArgsOk e = false ∨ e.len ≠ 0) := by simp [hargs, hlen]
  have hloaded : (s.holding e).scene? e.target = some c := hc
  refine Does.of_served_in rfl h he (fun _ _ => rfl) hcancel ((if_neg hform).trans ?_)
  dsimp only
  rw [hloaded]
  rfl

/-- The launch slots that stand after slots are put are those put, whether they fire late or not. -/
theorem State.putSlots_scene {l : List Slot} {x : Slot} (h : x ∈ (s.putSlots l).tsu.slots) : ∃ y ∈ l, x.scene = y.scene := by
  obtain ⟨y, hy, rfl⟩ := List.mem_map.1 h
  refine ⟨y, hy, ?_⟩
  split <;> rfl

/-- Nothing of a scene that is disarmed stands armed or waits to go. -/
theorem State.disarmScene_reads (s : State) (id : Nat) : (s.disarmScene id).seg = s.seg
    ∧ (∀ x ∈ (s.disarmScene id).tsu.slots, x.scene ≠ some id) ∧ (∀ r ∈ (s.disarmScene id).air.reqs, r.kind ≠ .sceneNow id)
    ∧ ∀ k ∈ (s.disarmScene id).drv.changes, k.scene ≠ some id := by
  refine ⟨rfl, fun x hx => ?_, fun r hr => ?_, fun k hk => ?_⟩
  · obtain ⟨y, hy, hxy⟩ := State.putSlots_scene (s := s) hx
    rw [hxy]
    simpa using (List.mem_filter.1 hy).2
  · simpa using (List.mem_filter.1 hr).2
  · simpa using (List.mem_filter.1 hk).2

/-- Where a scene leaves its traces: the scenes loaded, launch slots, requests for the air, and drive changes. -/
def State.sceneTraces (s : State) : List Scene × Tsu × Air × Drv := (s.seg.scenes, s.tsu, s.air, s.drv)

theorem State.sceneTraces_of_inside {t : State} (h : t.inside = s.inside) : t.sceneTraces = s.sceneTraces :=
  congrArg (fun u => u.sceneTraces) h

theorem State.sceneCancelled_traces (s : State) (id : Nat) (c : Scene) :
    (s.sceneCancelled id c).sceneTraces = (s.sceneWithdrawn id c).sceneTraces := by
  unfold State.sceneCancelled
  dsimp only
  split <;> rfl

theorem State.sceneWithdrawn_reads (s : State) (id : Nat) (c : Scene) :
    (s.sceneWithdrawn id c).seg.scenes = s.seg.scenes.filter (fun c => c.id != id)
    ∧ (∀ x ∈ (s.sceneWithdrawn id c).tsu.slots, x.scene ≠ some id)
    ∧ (∀ r ∈ (s.sceneWithdrawn id c).air.reqs, r.kind ≠ .sceneNow id)
    ∧ ∀ k ∈ (s.sceneWithdrawn id c).drv.changes, k.scene ≠ some id := by
  unfold State.sceneWithdrawn
  extract_lets u
  have hu : u.seg.scenes = s.seg.scenes := by
    unfold u
    split <;> rfl
  have hended : ((u.endDid c.loadDid stABORTED 0 0).endDid c.launchDid stABORTED 0 0).seg = u.seg :=
    State.seg_of_inside ((State.endDid_inside _ _ _ _ _).trans (State.endDid_inside _ _ _ _ _))
  obtain ⟨hseg, hslots, hreqs, hchanges⟩ :=
    ((u.endDid c.loadDid stABORTED 0 0).endDid c.launchDid stABORTED 0 0).disarmScene_reads id
  exact ⟨congrArg (List.filter _) ((congrArg Seg.scenes (hseg.trans hended)).trans hu), hslots, hreqs, hchanges⟩

/-! ## A scene is launched, armed and discarded (R187, R281) -/

theorem exec_sceneLaunch {c : Scene} (h : s.serves d 0x18) (hc : s.scene? d.target = some c) (hlaunch : d.launch = true)
    (hinstant : d.launchTime = c.t) (hzero : d.pZero 0 32 = true) (hnone : c.launchDid = none)
    (hpend : (s.holding d.taken).pend < 4096) : Does (.sceneLaunch d.did) s
      (((s.holding d.taken).updDesc d.did (fun x => { x with stage := .launchWait })).modScene c.id (fun c =>
        { c with launchDid := some d.did })) := by
  have hloaded : (s.holding d.taken).scene? d.taken.target = some c := hc
  have hform : ¬ (d.launch = false ∨ d.launchTime ≠ c.t ∨ d.pZero 0 32 = false) := by simp [hlaunch, hinstant, hzero]
  have hroom : ¬ (c.launchDid.isSome = true ∨ 4096 ≤ (s.holding d.taken).pend) := by
    rw [hnone]
    simpa using hpend
  refine Does.of_served rfl h rfl ?_
  rw [hloaded]
  exact (if_neg hform).trans (if_neg hroom)

theorem exec_sceneArm {t : State} {id k : Nat} {c c' : Scene} (hc : s.scene? id = some c) (hpause : s.paused = false)
    (ht : t = (s.elapseOut ((c.t : Int) - c.lead * secT)).endDelivery id) (hc' : t.scene? id = some c') (hk : c'.launchDid = some k)
    (harmed : c'.armed = false) (hserving : t.serving = true) : Does (.sceneArm id) s
      ((((t.sceneSlots c' k).foldl State.takeSlot t).updDesc k (fun x => { x with stage := .armed })).modScene id (fun c =>
        { c with armed := true, left := (t.sceneSlots c' k).length })) := by
  subst ht
  unfold Does exec execSceneArm
  refine quiet_does ?_
  rw [hc]
  refine (if_neg (by simp [hpause])).trans ?_
  dsimp only
  rw [hc']
  dsimp only
  rw [hk]
  exact if_neg (by simp [harmed, hserving])

theorem exec_sceneDiscard {t : State} {id : Nat} {c c' : Scene} (hc : s.scene? id = some c)
    (ht : t = (s.elapseOut ((c.t : Int) + secT)).endDelivery id) (hc' : t.scene? id = some c') : Does (.sceneDiscard id) s (
      if c'.armed = true ∧ (c'.left ≠ 0 ∨ c'.latching ≠ 0) then t.orphanScene id
      else (t.endDid c'.launchDid (if c'.armed then stOK else stEXPIRED) 0 0).dropScene id) := by
  subst ht
  unfold Does exec execSceneDiscard
  refine quiet_does ?_
  rw [hc]
  dsimp only
  rw [hc']

end

/-- Settles O23: the scene found, or loaded, under an ID decides what each command does; what a descriptor's end reaches holds no
trace of a scene. -/
theorem scenesFollowTheirCommands : Obligations.ScenesFollowTheirCommands := by
  unfold Obligations.ScenesFollowTheirCommands
  refine ⟨?load, ?busy, ?cancel, ?launch, ?arm, ?discard⟩
  case load =>
    intro s d e read h he hargs hload hlen hcheck harmed hroom hyards
    have hrun := exec_sceneLoad h he hargs hload hlen hcheck
    have hfull : ¬ (s.scene? e.target = none ∧ 64 ≤ s.loadedScenes.length) := fun hno => Nat.not_lt.2 hno.2 (hroom hno.1)
    have hsame : ((s.holding e).sceneEnded e.target (leAt e.buf 2 8)).padYards (e.pNum 2 2) = s.padYards (e.pNum 2 2) :=
      State.padYards_of_stalls ((s.holding e).sceneEnded_stalls _ _) _
    rw [if_neg hfull, if_neg (by simp [harmed]), hsame, if_neg hyards] at hrun
    obtain ⟨⟨lead, hscene⟩, hid, hinstant, hjob⟩ := (s.holding e).sceneLoaded_reads e d.did
    exact ⟨_, _, hrun, hscene, rfl, rfl, rfl, rfl, rfl, hid, hinstant, hjob, rfl⟩
  case busy =>
    intro s d e read h he hargs hload hlen hcheck hbusy
    have hrun := exec_sceneLoad h he hargs hload hlen hcheck
    by_cases hfull : s.scene? e.target = none ∧ 64 ≤ s.loadedScenes.length
    · rwa [if_pos hfull] at hrun
    · rwa [if_neg hfull, if_pos (hbusy.resolve_left hfull)] at hrun
  case cancel =>
    intro s d e read c h he hargs hcancel hlen hc
    have hrun := exec_sceneCancel h he hargs hcancel hlen hc
    have htraces : (((s.holding e).sceneCancelled e.target c).ok e).sceneTraces = ((s.holding e).sceneWithdrawn e.target c).sceneTraces :=
      (State.sceneTraces_of_inside (State.ok_inside _ _ _)).trans ((s.holding e).sceneCancelled_traces _ _)
    obtain ⟨hscenes, hslots, hreqs, hchanges⟩ := (s.holding e).sceneWithdrawn_reads e.target c
    simp only [State.sceneTraces, Prod.mk.injEq] at htraces
    obtain ⟨hscenes', htsu, hair, hdrv⟩ := htraces
    rw [← htsu] at hslots
    rw [← hair] at hreqs
    rw [← hdrv] at hchanges
    exact ⟨_, hrun, hscenes'.trans hscenes, hslots, hreqs, hchanges, rfl⟩
  case launch =>
    intro s d c h hc hlaunch hinstant hzero hnone hpend
    exact exec_sceneLaunch h hc hlaunch hinstant hzero hnone hpend
  case arm =>
    intro s t id k c c' hc hpause ht hc' hk harmed hserving
    exact exec_sceneArm hc hpause ht hc' hk harmed hserving
  case discard =>
    intro s t id c c' hc ht hc'
    have hrun := exec_sceneDiscard hc ht hc'
    refine ⟨fun hdone => ?_, fun harmed hleft => by rwa [if_pos ⟨harmed, hleft⟩] at hrun⟩
    rwa [if_neg] at hrun
    rintro ⟨harmed, hleft⟩
    rcases hdone with hno | ⟨hnoLeft, hnoLatch⟩
    · exact Bool.false_ne_true (hno.symm.trans harmed)
    · exact hleft.elim (absurd hnoLeft) (absurd hnoLatch)

end Sys2Proof.Machine
end

section
/-! PROOFS. What the end of a descriptor leaves of the registers above those of the rings and below those of the queues: of metering among
them (R342 to R345). -/
namespace Sys2Proof.Machine

/-- A register that lies apart from all that the end of a descriptor writes: above the rings' and the fabric's registers, and below the
queues'. -/
def Reg.aside (r : Reg) : Prop := 0x310000 ≤ r.offset ∧ r.offset < 0x380000

section
variable (s : State) {q : Reg} (hq : q.aside)
include hq

theorem State.setSf_aside {r : Reg} (hr : ¬ r.aside) (f : Fld) (v : Nat) : (s.setSf r f v).sts.get q = s.sts.get q :=
  RegFile.get_put_other _ _ fun heq => hr (by unfold Reg.aside; rw [← heq]; exact hq)

theorem State.msix_aside {v : Nat} (hv : v < 2048) : (s.msix v).sts.get q = s.sts.get q := by
  unfold State.msix
  split
  · refine s.setSf_aside hq ?_ _ _
    simp only [Reg.aside, Reg.offset]
    omega
  · rfl

theorem State.poisonQueue_aside (k off : Nat) : (s.poisonQueue k off).sts.get q = s.sts.get q := by
  unfold State.poisonQueue State.bump
  extract_lets t
  have ht : t.sts.get q = s.sts.get q := (State.setSf_aside _ hq (by unfold Reg.aside; decide) _ _).trans
    (s.setSf_aside hq (by unfold Reg.aside; decide) _ _)
  split <;> exact ht

theorem State.postRead_aside (n : Nat) (e : CEnt) : (s.postRead n e).2.sts.get q = s.sts.get q := by
  unfold State.postRead
  split
  · rfl
  · exact s.poisonQueue_aside hq _ _

omit hq in
theorem Reg.cqStat_not_aside {n : Nat} (hn : n < 64) : ¬ (Reg.HIF_CQ_STAT n).aside := by
  simp only [Reg.aside, Reg.offset]
  omega

theorem State.cqSignal_aside (n : Nat) : (s.cqSignal n).sts.get q = s.sts.get q := by
  unfold State.cqSignal
  extract_lets _ t v
  split
  · rfl
  · exact t.msix_aside hq (lt_of_lt_of_le (Fld.get_lt _ _) (by decide))

theorem State.cqWrite_aside {n : Nat} (hn : n < 64) (e : CEnt) : (s.cqWrite n e).sts.get q = s.sts.get q := by
  unfold State.cqWrite
  extract_lets tail phase w u s1 next s2 unsig _ s3 s4
  have hs2 : s2.sts.get q = s.sts.get q :=
    (s1.setSf_aside hq (Reg.cqStat_not_aside hn) _ _).trans (s.postRead_aside hq n e)
  have hs4 : s4.sts.get q = s.sts.get q := (s3.setSf_aside hq (Reg.cqStat_not_aside hn) _ _).trans hs2
  split
  · exact (s4.cqSignal_aside hq n).trans hs4
  · exact hs4

omit hq in
theorem State.cqData_sts (e : CEnt) : (s.cqData e).sts = s.sts := by
  unfold State.cqData
  split <;> rfl

theorem State.postC_aside (e : CEnt) : (s.postC e).sts.get q = s.sts.get q := by
  unfold State.postC
  split
  · split
    · rw [State.cqData_sts]
    · have hcq : s.cqOf e.sq < 64 := lt_of_lt_of_le (Fld.get_lt _ _) (by decide)
      rw [State.cqWrite_aside _ hq hcq, State.cqData_sts]
  · rfl

theorem State.finishRing_aside (n : Nat) (d : Desc) (a : Answer) : (s.finishRing n d a).sts.get q = s.sts.get q := by
  unfold State.finishRing
  extract_lets e s1 s2
  have hs2 : s2.sts.get q = s.sts.get q := by
    unfold s2
    split <;> rfl
  split
  · exact hs2
  · exact (s2.postC_aside hq e).trans hs2

theorem State.setQueue_aside (k : Nat) (l : List EgFrame) : (s.setQueue k l).sts.get q = s.sts.get q := by
  have hstat : ¬ (Reg.QUE_STAT k).aside := by
    simp only [Reg.aside, Reg.offset]
    omega
  have hbuf : ¬ Reg.SWX_BUF_STAT.aside := by unfold Reg.aside; decide
  unfold State.setQueue
  exact (State.setSf_aside _ hq hbuf _ _).trans ((State.setSf_aside _ hq hbuf _ _).trans (State.setSf_aside _ hq hstat _ _))

theorem State.hostFrame_aside (f : EgFrame) (tc : Nat) : (s.hostFrame f tc).sts.get q = s.sts.get q := by
  have hhrx : ¬ Reg.SWX_HRX_STAT.aside := by unfold Reg.aside; decide
  unfold State.hostFrame State.bumpSat
  extract_lets t
  have ht : t.sts.get q = s.sts.get q := by
    unfold t
    split
    · exact s.poisonQueue_aside hq _ _
    · rfl
  split
  · exact (State.setSf_aside _ hq hhrx _ _).trans ht
  · exact (State.setSf_aside _ hq hhrx _ _).trans ht

theorem State.hostDrain_aside : s.hostDrain.sts.get q = s.sts.get q := by
  unfold State.hostDrain
  refine foldl_keeps (v := fun t : State => t.sts.get q) (fun t tc => ?_) _ _
  split
  · rfl
  · exact (foldl_keeps (v := fun t : State => t.sts.get q) (fun u f => u.hostFrame_aside hq f tc) _ _).trans
      (t.setQueue_aside hq _ _)

theorem State.sendCopy_aside (fid vid tc untag dest : Nat) (f : InFrame) :
    (s.sendCopy fid vid tc untag dest f).1.sts.get q = s.sts.get q := by
  unfold State.sendCopy
  dsimp only
  split
  · rfl
  · exact s.setQueue_aside hq _ _

theorem State.forward_aside (p vid tc : Nat) (f : InFrame) : (s.forward p vid tc f).1.sts.get q = s.sts.get q := by
  unfold State.forward
  split
  · rfl
  · dsimp only
    rw [State.hostDrain_aside _ hq]
    exact foldl_keeps (v := fun a : State × Nat => a.1.sts.get q) (fun a d => a.1.sendCopy_aside hq _ _ _ _ _ _) _ _

theorem State.mgmtSend_aside (vid tc : Nat) (data : List Byte) : (s.mgmtSend vid tc data).sts.get q = s.sts.get q := by
  have hstat : ¬ Reg.SWX_MSTAT.aside := by unfold Reg.aside; decide
  have hfwd := s.forward_aside hq dstM vid tc (InFrame.own data)
  unfold State.mgmtSend State.bump
  split
  · rfl
  · dsimp only
    split
    · exact (State.setSf_aside _ hq hstat _ _).trans hfwd
    · exact hfwd

theorem State.sealedReply_aside (ip : Nat) : (s.sealedReply ip).sts.get q = s.sts.get q := by
  unfold State.sealedReply
  exact (State.mgmtSend_aside _ hq _ _ _).trans rfl

/-- The end of a descriptor leaves the registers that lie apart from the rings, the fabric and the queues. -/
theorem State.finish_aside (d : Desc) (a : Answer) : (s.finish d a).sts.get q = s.sts.get q := by
  unfold State.finish
  split
  · exact s.finishRing_aside hq _ _ _
  · dsimp only
    split
    · split
      · exact State.finishRing_aside _ hq _ _ _
      · rfl
    · rfl
  · dsimp only
    rw [State.sealedReply_aside _ hq, State.emit_sts, State.dropDesc_sts]

end

end Sys2Proof.Machine
end

section
/-! PROOFS. Metering: what the values that are drawn, saves, snapshots and METER_CTL leave (R333 to R335, R340). -/
namespace Sys2Proof.Machine

theorem length_le (n v : Nat) : (le n v).length = n := by
  induction n generalizing v with
  | zero => rfl
  | succ n ih => exact congrArg (· + 1) (ih _)

/-! ## Free values -/

/-- The state but for how many free values it has used. -/
def State.undrawn (s : State) : State := { s with free := 0 }

theorem State.eq_of_undrawn {s t : State} (h : t.undrawn = s.undrawn) : t = { s with free := t.free } :=
  congrArg (fun u : State => { u with free := t.free }) h

section
variable (s : State)

@[simp] theorem State.fresh_undrawn : s.fresh.2.undrawn = s.undrawn := rfl

@[simp] theorem State.round_undrawn (a b : Nat) : (s.round a b).2.undrawn = s.undrawn := by
  unfold State.round
  split <;> rfl

@[simp] theorem State.roundI_undrawn (a : Int) (b : Nat) : (s.roundI a b).2.undrawn = s.undrawn := s.round_undrawn _ _

theorem State.partials_undrawn : s.partials.2.undrawn = s.undrawn :=
  foldl_keeps (v := fun p : List Int × State => p.2.undrawn) (fun p _ => p.2.roundI_undrawn _ _) _ _

@[simp] theorem State.share_undrawn (x : Stall) (from_ till : Nat) : (s.share x from_ till).2.undrawn = s.undrawn := by
  unfold State.share
  split <;> rfl

/-! ## A save (R334, R335, R340) -/

/-- The record of a save goes to the slot of the older one, and its read-back tells how it ended. -/
def State.putSave (s : State) (readBackOk : Bool) (r : Save) : State :=
  let x := if readBackOk then some r else none
  let t : State := { s with nvmtr := if s.nvmtr.olderIsA then { s.nvmtr with slotA := x } else { s.nvmtr with slotB := x } }
  if readBackOk then t.setSf .MTR_SAVESEQ F.MTR_SAVESEQ_VALUE r.seq
  else (t.event 16 48 0x0A07 3 [r.seq]).setSf .MTR_EVT F.MTR_EVT_SAVEFAIL 1

/-- A SAVE_PERIOD that waits takes effect with a save. -/
def State.takeSavePeriod (s : State) : State :=
  match s.mtr.savePend with
  | none => s
  | some p => { s.setSf .MTR_RUN F.MTR_RUN_SAVE p with mtr := { s.mtr with savePend := none } }

/-- The SEQ of the next save. -/
def State.nextSaveSeq (s : State) : Nat := (s.sf .MTR_SAVESEQ F.MTR_SAVESEQ_VALUE + 1) % 2 ^ 32

/-- The record of a save, with the parts of the cycles that have not ended. -/
def State.saveRec (s : State) (part : List Int) : Save :=
  { seq := s.nextSaveSeq, rtc := s.newt.tick, sat := s.mtr.sat, acc := s.mtr.acc, part := part }

theorem State.save_eq (b : Bool) : ∃ part n, s.save b = (({ s with free := n } : State).putSave b (s.saveRec part)).takeSavePeriod := by
  have hdrawn := State.eq_of_undrawn s.partials_undrawn
  refine ⟨s.partials.1, s.partials.2.free, ?_⟩
  unfold State.save
  dsimp only
  rw [hdrawn]
  rfl

theorem State.sf_takeSavePeriod_other {q : Reg} (h : q.offset ≠ Reg.MTR_RUN.offset) (f : Fld) :
    s.takeSavePeriod.sf q f = s.sf q f := by
  unfold State.takeSavePeriod
  split
  · rfl
  · exact s.sf_setSf_other h _ _ _

/-- The state but for what a save writes. -/
def State.unsaved (s : State) : State :=
  { s with sts := [], evq := [], free := 0, nvmtr := ⟨none, none⟩, mtr := { s.mtr with savePend := none } }

theorem State.takeSavePeriod_keeps : s.takeSavePeriod.unsaved = s.unsaved ∧ s.takeSavePeriod.nvmtr = s.nvmtr := by
  unfold State.takeSavePeriod
  split <;> exact ⟨rfl, rfl⟩

theorem State.putSave_unsaved (b : Bool) (r : Save) : (s.putSave b r).unsaved = s.unsaved := by
  cases b <;> rfl

theorem State.save_unsaved (b : Bool) : (s.save b).unsaved = s.unsaved := by
  obtain ⟨part, n, heq⟩ := s.save_eq b
  rw [heq, (State.takeSavePeriod_keeps _).1, State.putSave_unsaved]
  rfl

theorem State.save_acc (b : Bool) : (s.save b).mtr.acc = s.mtr.acc := congrArg (fun u => u.mtr.acc) (s.save_unsaved b)
theorem State.save_tsu (b : Bool) : (s.save b).tsu = s.tsu := congrArg (fun u => u.tsu) (s.save_unsaved b)
theorem State.save_seg (b : Bool) : (s.save b).seg = s.seg := congrArg (fun u => u.seg) (s.save_unsaved b)

theorem State.save_true_seq : (s.save true).sf .MTR_SAVESEQ F.MTR_SAVESEQ_VALUE = s.nextSaveSeq := by
  obtain ⟨part, n, heq⟩ := s.save_eq true
  rw [heq, State.sf_takeSavePeriod_other _ (by decide)]
  exact (State.sf_setSf_same _ _ (by decide) _).trans (Nat.mod_mod _ _)

theorem State.save_false_reads : (s.save false).sf .MTR_SAVESEQ F.MTR_SAVESEQ_VALUE = s.sf .MTR_SAVESEQ F.MTR_SAVESEQ_VALUE
    ∧ (s.save false).sf .MTR_EVT F.MTR_EVT_SAVEFAIL = 1 := by
  obtain ⟨part, n, heq⟩ := s.save_eq false
  rw [heq, State.sf_takeSavePeriod_other _ (by decide), State.sf_takeSavePeriod_other _ (by decide)]
  exact ⟨State.sf_setSf_other _ (by decide) _ _ _, State.sf_setSf_same _ _ (by decide) _⟩

/-- A save that reads back stands in one of the two slots. -/
theorem State.save_true_slot : ∃ part, (s.save true).nvmtr.slotA = some (s.saveRec part) ∨ (s.save true).nvmtr.slotB = some (s.saveRec part) := by
  obtain ⟨part, n, heq⟩ := s.save_eq true
  refine ⟨part, ?_⟩
  rw [heq, (State.takeSavePeriod_keeps _).2]
  by_cases holder : s.nvmtr.olderIsA = true
  · exact Or.inl (congrArg NvMtr.slotA (if_pos holder))
  · exact Or.inr (congrArg NvMtr.slotB (if_neg holder))

theorem State.elapseTo_mtr (r : Nat) : (s.elapseTo r).mtr = s.mtr := by
  unfold State.elapseTo
  split <;> rfl

/-! ## Snapshots (R333) -/

theorem State.meterRecord_length : s.meterRecord.length = 448 := by
  unfold State.meterRecord
  simp only [List.length_append, List.length_flatten, List.map_map, Function.comp_def, length_le, zeros, List.length_replicate,
    List.map_const', List.length_range, List.sum_replicate]
  rfl

/-- A sample instant serves every snapshot that waits. -/
theorem State.snapAll_snaps : s.snapAll.mtr.snaps = [] := by
  refine (foldl_keeps (v := fun t : State => t.mtr.snaps) (fun t i => ?_) _ _).trans rfl
  split
  · exact congrArg Mtr.snaps (State.mtr_of_inside (t.finish_inside _ _))
  · rfl

theorem State.snapAll_single {d : Desc} (hsnaps : s.mtr.snaps = [d.did]) (hd : s.desc? d.did = some d) :
    s.snapAll = ({ s with mtr := { s.mtr with snaps := [] } } : State).okData { d with actTime := some s.outputTime } s.meterRecord 0 := by
  have hthere : ({ s with mtr := { s.mtr with snaps := [] } } : State).desc? d.did = some d := hd
  unfold State.snapAll
  rw [hsnaps, List.foldl_cons, hthere]
  rfl

/-! ## METER_CTL (R340) -/

theorem State.showSats_mtr (l : List Nat) : (l.foldl (fun u n => u.showSat n) s).mtr = s.mtr :=
  foldl_keeps (v := State.mtr) (fun t _ => t.setSf_mtr _ _ _) l s

/-- The accumulators that a mask selects stand at 0, and their SAT is cleared. -/
def State.accsCleared (s : State) (mask : Nat) : State :=
  { s with mtr := { s.mtr with acc := s.mtr.acc.filter (fun p => !bit mask p.1), sat := s.mtr.sat.filter (fun i => !bit mask i) } }

theorem State.zeroAccs_eq (mask : Nat) : ∃ u : State, u.mtr = (s.accsCleared mask).mtr
    ∧ s.zeroAccs mask = { u with seg := { u.seg with reconGap := true } } :=
  ⟨(List.range 6).foldl (fun u n => u.showSat n) (s.accsCleared mask), State.showSats_mtr _ _, rfl⟩

theorem State.zeroAccs_acc (mask : Nat) : (s.zeroAccs mask).mtr.acc = s.mtr.acc.filter (fun p => !bit mask p.1) := by
  obtain ⟨u, hu, heq⟩ := s.zeroAccs_eq mask
  rw [heq]
  exact congrArg Mtr.acc hu

theorem State.acc_zeroAccs (mask i : Nat) : (s.zeroAccs mask).acc i = if bit mask i then 0 else s.acc i := by
  unfold State.acc
  rw [State.zeroAccs_acc, Tbl.get_filter 0 (fun k => !bit mask k)]
  cases bit mask i <;> rfl

theorem State.sts_setSw_same (r : Reg) (v : Nat) : (s.setSw r v).sts.get r = BitVec.ofNat 32 v := by
  unfold State.setSw
  exact RegFile.get_put_same _ _ _

theorem State.sts_setSw_other {r q : Reg} (h : q.offset ≠ r.offset) (v : Nat) : (s.setSw r v).sts.get q = s.sts.get q := by
  unfold State.setSw
  exact RegFile.get_put_other _ _ h

/-- CLEAR_EVT clears the event words of metering. -/
def State.evtCleared (s : State) : State := (List.range 6).foldl (fun t n => t.setSw (.MTR_I_EVT n) 0) (s.setSw .MTR_EVT 0)

theorem State.evtCleared_mtr : s.evtCleared.mtr = s.mtr :=
  (foldl_keeps (v := State.mtr) (fun t n => t.setSw_mtr (.MTR_I_EVT n) 0) _ _).trans rfl

theorem State.evtCleared_evt : s.evtCleared.sts.get .MTR_EVT = 0 := by
  refine (foldl_keeps (v := fun t : State => t.sts.get .MTR_EVT) (fun t n => t.sts_setSw_other ?_ 0) _ _).trans
    (s.sts_setSw_same .MTR_EVT 0)
  simp only [Reg.offset]
  omega

theorem State.evtCleared_iEvt {n : Nat} (hn : n < 6) : s.evtCleared.sts.get (.MTR_I_EVT n) = 0 := by
  refine foldl_reaches (inv := fun _ => True) (post := fun t : State => t.sts.get (.MTR_I_EVT n) = 0) (List.mem_range.2 hn)
    (fun _ _ _ => trivial) (fun t _ => t.sts_setSw_same _ 0) (fun t k _ ht => ?_) trivial
  by_cases hk : n = k
  · rw [hk]
    exact t.sts_setSw_same _ 0
  · refine (t.sts_setSw_other ?_ 0).trans ht
    simp only [Reg.offset]
    omega

end

end Sys2Proof.Machine
end

section
/-! PROOFS. Reconciliation: the interval of a feeder, and the end of an interval (R195, R196, R207). -/
namespace Sys2Proof.Machine

/-! ## Reconciliation (R195, R196, R207) -/

/-- A record goes ahead of those of its feeder `f`, of which the newest 23 stay. -/
def State.putRecon (s : State) (f : Nat) (r : Recon) : State :=
  { s with seg := { s.seg with recon := r :: ((s.seg.recon.filter (fun x => x.feeder == f)).take 23
    ++ s.seg.recon.filter (fun x => x.feeder != f)) } }

/-- The state but for the records of reconciliation and what drawing values and reporting change. -/
def State.unreckoned (s : State) : State := { s with evq := [], free := 0, seg := { s.seg with recon := [] } }

theorem State.unreckoned_of_undrawn {s t : State} (h : t.undrawn = s.undrawn) : t.unreckoned = s.unreckoned :=
  (congrArg State.unreckoned h :)

theorem State.recon_of_undrawn {s t : State} (h : t.undrawn = s.undrawn) : t.seg.recon = s.seg.recon :=
  (congrArg (fun u : State => u.seg.recon) h :)

section
variable (s : State)

/-- Reconciling a feeder that is in use puts a record of the interval ahead of its older ones, and may report it. -/
theorem State.reconcile_used {f : Nat} (till : Nat) (hused : bit (s.reconParam (0x0510 + f)) 31 = true) :
    ∃ (r : Recon) (t w : State) (args : List Nat), r.feeder = f ∧ r.start = s.seg.reconAt ∧ t.undrawn = s.undrawn
      ∧ w.undrawn = (t.putRecon f r).undrawn
      ∧ (s.reconcile f till = w.event 12 0 0x0504 3 args ∨ s.reconcile f till = w) := by
  unfold State.reconcile
  extract_lets v from_ mem rep l b f0 net u t floor inc above un la md flags rec_ older _ t' x y
  have hl : l.2.undrawn = s.undrawn :=
    foldl_keeps (v := fun p : Nat × State => p.2.undrawn)
      (g := fun p i => (p.1 + (p.2.share (s.stall i) from_ till).1, (p.2.share (s.stall i) from_ till).2))
      (fun p i => p.2.share_undrawn _ _ _) rep (0, s)
  clear_value l
  have hb : b.2.undrawn = s.undrawn := by
    unfold b
    rw [State.round_undrawn, hl]
  clear_value b net
  have hu : u.2.undrawn = s.undrawn := by
    unfold u
    split
    · rw [State.roundI_undrawn, hb]
    · exact b.2.fresh_undrawn.trans hb
  clear_value u
  have hrec : t' = u.2.putRecon f rec_ := rfl
  have hf : rec_.feeder = f := rfl
  have hstart : rec_.start = s.seg.reconAt := rfl
  clear_value t' rec_
  have hy : y.2.undrawn = t'.undrawn := by
    unfold y x
    rw [State.roundI_undrawn, State.roundI_undrawn]
  clear_value y
  subst hrec
  rw [if_neg (by rw [hused]; decide)]
  split
  · exact ⟨rec_, u.2, y.2, _, hf, hstart, hu, hy, Or.inl rfl⟩
  · exact ⟨rec_, u.2, u.2.putRecon f rec_, [], hf, hstart, hu, rfl, Or.inr rfl⟩

theorem State.reconcile_unused {f till : Nat} (h : bit (s.reconParam (0x0510 + f)) 31 = false) : s.reconcile f till = s := if_pos h

theorem State.reconcile_unreckoned (f till : Nat) : (s.reconcile f till).unreckoned = s.unreckoned := by
  cases hused : bit (s.reconParam (0x0510 + f)) 31
  · rw [s.reconcile_unused hused]
  · obtain ⟨r, t, w, args, -, -, ht, hw, heq⟩ := s.reconcile_used till hused
    have hwt : w.unreckoned = s.unreckoned := calc
      w.unreckoned = (t.putRecon f r).unreckoned := State.unreckoned_of_undrawn hw
      _ = t.unreckoned := rfl
      _ = s.unreckoned := State.unreckoned_of_undrawn ht
    rcases heq with heq | heq <;> rw [heq]
    · exact hwt
    · exact hwt

theorem State.reconcile_recon {f : Nat} (till : Nat) (hused : bit (s.reconParam (0x0510 + f)) 31 = true) :
    ∃ r : Recon, r.feeder = f ∧ r.start = s.seg.reconAt ∧ (s.reconcile f till).seg.recon = (s.putRecon f r).seg.recon := by
  obtain ⟨r, t, w, args, hf, hstart, ht, hw, heq⟩ := s.reconcile_used till hused
  have hput : w.seg.recon = (s.putRecon f r).seg.recon := by
    rw [State.recon_of_undrawn hw]
    unfold State.putRecon
    rw [State.recon_of_undrawn ht]
  refine ⟨r, hf, hstart, ?_⟩
  rcases heq with heq | heq <;> rw [heq]
  · exact hput
  · exact hput

/-- The records of another feeder stay. -/
theorem State.reconcile_keeps_record {f g till : Nat} {r : Recon} (hr : r ∈ s.seg.recon) (hf : r.feeder = f) (hfg : f ≠ g) :
    r ∈ (s.reconcile g till).seg.recon := by
  cases hused : bit (s.reconParam (0x0510 + g)) 31
  · rw [s.reconcile_unused hused]
    exact hr
  · obtain ⟨r', -, -, heq⟩ := s.reconcile_recon till hused
    rw [heq]
    refine List.mem_cons_of_mem _ (List.mem_append_right _ (List.mem_filter.2 ⟨hr, ?_⟩))
    simpa [hf] using hfg

/-! ## The interval's end -/

/-- The feeders are reconciled one after the other. -/
def State.reconAll (s : State) (till : Nat) : State := (List.range 6).foldl (fun u f => u.reconcile f till) s

theorem State.reconAll_unreckoned (till : Nat) : (s.reconAll till).unreckoned = s.unreckoned :=
  foldl_keeps (v := State.unreckoned) (fun u f => u.reconcile_unreckoned f till) _ s

/-- Every feeder in use has a record of the interval. -/
theorem State.reconAll_record {f : Nat} (till : Nat) (hf : f < 6) (hused : bit (s.reconParam (0x0510 + f)) 31 = true) :
    ∃ r ∈ (s.reconAll till).seg.recon, r.feeder = f ∧ r.start = s.seg.reconAt := by
  have hset : ∀ u : State, u.unreckoned = s.unreckoned →
      ∃ r ∈ (u.reconcile f till).seg.recon, r.feeder = f ∧ r.start = s.seg.reconAt := fun u hu => by
    have hpar : u.reconParam (0x0510 + f) = s.reconParam (0x0510 + f) := (congrArg (fun w : State => w.reconParam (0x0510 + f)) hu :)
    have hat : u.seg.reconAt = s.seg.reconAt := (congrArg (fun w : State => w.seg.reconAt) hu :)
    obtain ⟨r, hrf, hstart, heq⟩ := u.reconcile_recon till (hpar ▸ hused)
    exact ⟨r, heq ▸ List.mem_cons_self, hrf, hstart.trans hat⟩
  refine foldl_reaches (inv := fun u : State => u.unreckoned = s.unreckoned)
    (post := fun u : State => ∃ r ∈ u.seg.recon, r.feeder = f ∧ r.start = s.seg.reconAt) (List.mem_range.2 hf)
    (fun u g hu => (u.reconcile_unreckoned g till).trans hu) hset (fun u g hu hrec => ?_) rfl
  by_cases hfg : f = g
  · exact hfg ▸ hset u hu
  · obtain ⟨r, hr, hrf, hstart⟩ := hrec
    exact ⟨r, u.reconcile_keeps_record hr hrf hfg, hrf, hstart⟩

/-- The reports of a stall that no later interval needs are dropped. -/
def State.prune (till : Nat) (s : State) (q : Nat × Stall) : State :=
  s.modStall q.1 (fun x => { x with reports := pruneReports x.reports till })

def State.pruned (s : State) (till : Nat) : State := s.seg.stalls.foldl (State.prune till) s

/-- What the end of an interval reads and leaves, of a state whose stalls' reports are pruned. -/
def State.offStalls (s : State) : State := { s with seg := { s.seg with stalls := [] } }

theorem State.pruned_offStalls (till : Nat) : (s.pruned till).offStalls = s.offStalls :=
  foldl_keeps (v := State.offStalls) (g := State.prune till) (fun _ _ => rfl) _ s

/-- A feeder's bases are what its sources have counted when the interval begins. -/
def State.base (s : State) (f : Nat) : State :=
  { s with seg := { s.seg with
    reconB := Tbl.put 0 s.seg.reconB f (s.importOf (bits (s.reconParam (0x0510 + f)) 5 0))
    reconU := Tbl.put 0 s.seg.reconU f (s.pairNet (bits (s.reconParam (0x0510 + f)) 10 8)) } }

/-- The state but for the feeders' bases. -/
def State.unbased (s : State) : State := { s with seg := { s.seg with reconB := [], reconU := [] } }

/-- The start of an interval, with the parameters that it takes, before the feeders' bases. -/
theorem State.reconStart_eq : ∃ par, s.reconStart
    = (List.range 6).foldl State.base { s with seg := { s.seg with reconAt := s.newt.tick, reconGap := false, reconPar := par } } := by
  unfold State.reconStart
  extract_lets ids par t
  clear_value par
  exact ⟨par, rfl⟩

theorem State.bases_unbased : ((List.range 6).foldl State.base s).unbased = s.unbased :=
  foldl_keeps (v := State.unbased) (g := State.base) (fun _ _ => rfl) _ s

theorem State.bases_reads {f : Nat} (hf : f < 6) :
    Tbl.get 0 ((List.range 6).foldl State.base s).seg.reconB f = s.importOf (bits (s.reconParam (0x0510 + f)) 5 0) := by
  have hset : ∀ u : State, u.unbased = s.unbased →
      Tbl.get 0 (u.base f).seg.reconB f = s.importOf (bits (s.reconParam (0x0510 + f)) 5 0) := fun u hu =>
    (Tbl.get_put_same _ _ _ _).trans (congrArg (fun w : State => w.importOf (bits (w.reconParam (0x0510 + f)) 5 0)) hu :)
  refine foldl_reaches (inv := fun u : State => u.unbased = s.unbased)
    (post := fun u : State => Tbl.get 0 u.seg.reconB f = s.importOf (bits (s.reconParam (0x0510 + f)) 5 0)) (List.mem_range.2 hf)
    (fun u _ hu => hu) hset (fun u g hu hbase => ?_) rfl
  by_cases hfg : f = g
  · exact hfg ▸ hset u hu
  · exact (Tbl.get_put_other _ _ _ hfg).trans hbase

/-- The begun interval: the feeders' bases are put after its parameters are taken. -/
theorem State.reconStart_unbased : ∃ t : State, s.reconStart = (List.range 6).foldl State.base t
    ∧ t.seg.reconAt = s.newt.tick ∧ t.seg.reconGap = false ∧ t.mtr = s.mtr ∧ t.seg.recon = s.seg.recon
    ∧ t.cfg = s.cfg := by
  obtain ⟨par, heq⟩ := s.reconStart_eq
  exact ⟨_, heq, rfl, rfl, rfl, rfl, rfl⟩

/-- What holds of a state in which an interval begins. -/
theorem State.reconStart_reads : s.reconStart.seg.reconAt = s.newt.tick ∧ s.reconStart.seg.reconGap = false
    ∧ s.reconStart.mtr = s.mtr ∧ s.reconStart.seg.recon = s.seg.recon ∧ s.reconStart.cfg = s.cfg
    ∧ ∀ f, f < 6 → Tbl.get 0 s.reconStart.seg.reconB f = s.reconStart.importOf (bits (s.reconStart.reconParam (0x0510 + f)) 5 0) := by
  obtain ⟨t, heq, hat, hgap, hmtr, hrecon, hcfg⟩ := s.reconStart_unbased
  have hunb := t.bases_unbased
  have hbase := fun f (hf : f < 6) => t.bases_reads hf
  rw [heq]
  generalize (List.range 6).foldl State.base t = u at hunb hbase
  exact ⟨(congrArg (fun u : State => u.seg.reconAt) hunb :).trans hat, (congrArg (fun u : State => u.seg.reconGap) hunb :).trans hgap,
    (congrArg (fun u : State => u.mtr) hunb :).trans hmtr, (congrArg (fun u : State => u.seg.recon) hunb :).trans hrecon,
    (congrArg (fun u : State => u.cfg) hunb :).trans hcfg,
    fun f hf => (hbase f hf).trans (congrArg (fun u : State => u.importOf (bits (u.reconParam (0x0510 + f)) 5 0)) hunb.symm :)⟩

/-- An interval of reconciliation ends at a boundary that is not the one it began at. -/
theorem exec_reconIntervalEnd (hready : s.ready = true) (hbound : s.newt.cal.secondOfDay % s.reconParam 0x0502 = 0)
    (hnew : s.newt.tick / 32768 ≠ s.seg.reconAt / 32768) :
    Does .reconIntervalEnd s ((s.reconAll s.newt.tick).pruned s.newt.tick).reconStart := by
  unfold Does exec
  refine quiet_does (if_neg ?_)
  simp [hready, hbound, hnew]

end

end Sys2Proof.Machine
end

section
/-! PROOFS. O50 settled: METER_SNAPSHOT, METER_CTL, saves and intervals (R195, R196, R207, R333 to R335, R340). -/
namespace Sys2Proof.Machine

/-- The frame of a command leaves what it did to all but the host-written fields, and these where the command keeps them. -/
theorem State.framed_eq {s t : State} (h : t.cfg = s.cfg) : s.framed t = { t with pending := s.pending } := by
  unfold State.framed
  rw [h]

/-! ## Samples and saves -/

section
variable (s : State)

/-- A sample that metering takes ends with the snapshots that wait. -/
theorem exec_meterSample_ends (m : MeterIn) (h : s.metering = true) : ∃ u : State, Does (.meterSample m) s u.snapAll := by
  unfold Does exec
  exact ⟨_, quiet_does (if_neg (by simp [h]))⟩

theorem Mtr.saveAt_acc (m : Mtr) (at_ : Nat) : ({ m with saveAt := at_ } : Mtr).acc = m.acc := rfl

theorem State.savePeriod_of_sts {t : State} (h : t.sts = s.sts) : s.savePeriod = t.savePeriod := by
  unfold State.savePeriod State.sf
  rw [h]

theorem exec_meterSave {t : State} (b : Bool) (hrun : s.clk.phase = .run) (ht : t = (s.elapseTo s.mtr.saveAt).save b) :
    Does (.meterSave b) s { t with mtr := { t.mtr with saveAt := t.tsu.raw + t.savePeriod } } := by
  subst ht
  unfold Does exec
  exact quiet_does (if_neg (by simp [hrun]))

end

/-! ## METER_CTL -/

section
variable {s : State} {d e : Desc} {read : HostRead} (h : s.serves d 0x53) (he : d.seen s read = some e) (hform : meterForm e = true)
include h he hform

theorem exec_meterCtlClearEvt (hact : meterAction e = 0) : Does (.meterCtlClearEvt d.did read) s ((s.holding e).evtCleared.ok e) :=
  Does.of_served_in rfl h he (fun _ _ => rfl) (by simp [hact]) (if_neg (by simp [hform, hact]))

theorem exec_meterCtlSaveNow (b : Bool) (hact : meterAction e = 1) : Does (.meterCtlSaveNow d.did read b) s
    (((s.holding e).save b).ok e ((s.sf .MTR_SAVESEQ F.MTR_SAVESEQ_VALUE + 1) % 2 ^ 32)) :=
  Does.of_served_in rfl h he (fun _ _ => rfl) (by simp [hact]) (if_neg (by simp [hform]))

theorem exec_meterCtlSavePeriod (hact : meterAction e = 2) (hlow : 100 ≤ meterValue e) (hhigh : meterValue e ≤ 10000)
    (hstep : meterValue e % 100 = 0) : Does (.meterCtlSavePeriod d.did read) s
      (State.ok { s.holding e with mtr := { s.mtr with savePend := some (meterValue e / 100) } } e) :=
  Does.of_served_in rfl h he (fun _ _ => rfl) (by simp [hact])
    (if_neg (by simp [hform, hstep, Nat.not_lt.2 hlow, Nat.not_lt.2 hhigh]))

theorem exec_meterCtlRevHold (hact : meterAction e = 3) (hlow : 1 ≤ meterValue e) (hhigh : meterValue e ≤ 255) :
    Does (.meterCtlRevHold d.did read) s (State.ok { s.holding e with mtr := { s.mtr with revPend := some (meterValue e) } } e) :=
  Does.of_served_in rfl h he (fun _ _ => rfl) (by simp [hact])
    (if_neg (by simp [hform, Nat.not_lt.2 hlow, Nat.not_lt.2 hhigh]))

omit hform in
theorem exec_meterCtlZero_ring {n : Nat} (b : Bool) (hact : meterAction e = 4) (hsrc : e.src = .ring n) :
    Does (.meterCtlZero d.did read b) s ((s.holding e).fail e stDENIED) := by
  refine Does.of_served_in rfl h he (fun _ _ => rfl) (by simp [hact]) ?_
  dsimp only
  rw [hsrc]

theorem exec_meterCtlZero_owner (b : Bool) (hact : meterAction e = 4) (hsrc : ∀ n, e.src ≠ .ring n) (hmask : meterValue e ≠ 0)
    (hbits : meterValue e < 2 ^ 26) : Does (.meterCtlZero d.did read b) s
      (((((s.holding e).zeroAccs (meterValue e)).event 16 48 0x0A06 1 [meterValue e]).save b).ok e) := by
  refine Does.of_served_in rfl h he (fun _ _ => rfl) (by simp [hact]) ?_
  dsimp only
  split
  · exact absurd ‹_› (hsrc _)
  · exact if_neg (by simpa [hform, hmask] using hbits)

end

section
variable (s : State) (e : Desc)

theorem State.zeroAccs_gap (mask : Nat) : (s.zeroAccs mask).seg.reconGap = true := by
  obtain ⟨u, -, heq⟩ := s.zeroAccs_eq mask
  rw [heq]

/-- The event words that the end of CLEAR_EVT leaves, and the metering that it does not reach. -/
theorem State.evtCleared_ok_reads : (s.evtCleared.ok e).sts.get .MTR_EVT = 0
    ∧ (∀ n, n < 6 → (s.evtCleared.ok e).sts.get (.MTR_I_EVT n) = 0) ∧ (s.evtCleared.ok e).mtr = s.mtr := by
  refine ⟨?_, fun n hn => ?_, (State.mtr_of_inside (State.ok_inside _ _ _)).trans s.evtCleared_mtr⟩
  · exact (State.finish_aside _ (by simp [Reg.aside, Reg.offset]) _ _).trans s.evtCleared_evt
  · refine (State.finish_aside _ ?_ _ _).trans (s.evtCleared_iEvt hn)
    simp only [Reg.aside, Reg.offset]
    omega

/-- What ZERO and the save that follows it leave of the accumulators. -/
theorem State.zeroed_reads (mask : Nat) (b : Bool) {t : State}
    (ht : t = (((s.zeroAccs mask).event 16 48 0x0A06 1 [mask]).save b).ok e) :
    t.seg.reconGap = true ∧ ∀ i, t.acc i = if bit mask i then 0 else s.acc i := by
  obtain ⟨u, hu⟩ : ∃ u, u = s.zeroAccs mask := ⟨_, rfl⟩
  rw [← hu] at ht
  subst ht
  constructor
  · rw [State.seg_of_inside (State.ok_inside _ _ _), State.save_seg, State.event_seg, hu]
    exact s.zeroAccs_gap mask
  · intro i
    rw [← s.acc_zeroAccs mask i, ← hu]
    unfold State.acc
    rw [State.mtr_of_inside (State.ok_inside _ _ _), State.save_acc, State.event_mtr]

end

/-- Settles O50: each command ends where its form and action send it, a save's record decides what it leaves, and the feeders
reconciled one after the other keep each other's records. -/
theorem meterCommandsAnswerAndSave : Obligations.MeterCommandsAnswerAndSave := by
  unfold Obligations.MeterCommandsAnswerAndSave
  refine ⟨?snapshot, ?sample, ?snaps, ?save, ?period, ?ctl, ?away, ?interval⟩
  case snapshot =>
    intro s d h
    refine ⟨fun hlen hm => Does.of_served rfl h rfl ?_, fun hlen hm => ⟨Does.of_served rfl h rfl ?_, s.meterRecord_length⟩,
      fun hlen => Does.of_served rfl h rfl (if_pos hlen)⟩
    · exact (if_neg (Nat.not_lt.2 hlen)).trans (if_pos hm)
    · exact (if_neg (Nat.not_lt.2 hlen)).trans (if_neg (hm.trans_ne Bool.false_ne_true))
  case sample =>
    intro s m hm
    obtain ⟨u, hdoes⟩ := exec_meterSample_ends s m hm
    exact ⟨_, hdoes, u.snapAll_snaps, rfl⟩
  case snaps => exact fun s d hsnaps hd => s.snapAll_single hsnaps hd
  case save =>
    intro s
    obtain ⟨hseq, hfail⟩ := s.save_false_reads
    obtain ⟨part, hslot⟩ := s.save_true_slot
    exact ⟨s.save_true_seq, hseq, hfail, _, hslot, rfl, rfl, rfl⟩
  case period =>
    intro s b hrun hdue
    obtain ⟨u, hu⟩ : ∃ u, u = (s.elapseTo s.mtr.saveAt).save b := ⟨_, rfl⟩
    have hacc : u.mtr.acc = s.mtr.acc := by rw [hu, State.save_acc, State.elapseTo_mtr]
    have htsu : u.tsu = (s.elapseTo s.mtr.saveAt).tsu := hu ▸ State.save_tsu _ b
    have hnv : u.nvmtr = ((s.elapseTo s.mtr.saveAt).save b).nvmtr := congrArg State.nvmtr hu
    exact ⟨_, exec_meterSave s b hrun hu, hnv, (u.mtr.saveAt_acc _).trans hacc, congrArg (u.tsu.raw + ·) (u.savePeriod_of_sts rfl),
      htsu ▸ (s.elapseTo_reaches hdue).1, rfl⟩
  case ctl =>
    intro s d e read b h he hform
    refine ⟨fun hact => ?_, exec_meterCtlSaveNow h he hform b, exec_meterCtlSavePeriod h he hform, exec_meterCtlRevHold h he hform,
      fun hact hsrc => ?_, fun hact hsrc hmask hbits => ?_⟩
    · obtain ⟨hevt, hievt, hmtr⟩ := (s.holding e).evtCleared_ok_reads e
      exact ⟨_, exec_meterCtlClearEvt h he hform hact, hevt, hievt, hmtr, rfl⟩
    · obtain ⟨n, hsrc⟩ := hsrc
      exact exec_meterCtlZero_ring h he b hact hsrc
    · obtain ⟨hgap, hacc⟩ := (s.holding e).zeroed_reads e (meterValue e) b rfl
      exact ⟨_, exec_meterCtlZero_owner h he hform b hact hsrc hmask hbits, hgap, rfl,
        fun i hi => (hacc i).trans (if_pos hi), fun i hi => (hacc i).trans (if_neg (by simp [hi]))⟩
  case away =>
    intro s haway
    unfold Does exec
    exact quiet_does (if_pos (Or.inr (Or.inl haway)))
  case interval =>
    intro s hready hbound hnew
    obtain ⟨hat, hgap, hmtr, hrecon, hcfg, hbase⟩ := ((s.reconAll s.newt.tick).pruned s.newt.tick).reconStart_reads
    have hpruned := (s.reconAll s.newt.tick).pruned_offStalls s.newt.tick
    have hall := s.reconAll_unreckoned s.newt.tick
    refine ⟨_, exec_reconIntervalEnd s hready hbound hnew, hat.trans ?_, hgap, hmtr.trans ?_, rfl,
      fun f hf => (State.framed_eq (hcfg.trans ?_)).symm ▸ hbase f hf, fun f hf hused => ?_⟩
    · exact (congrArg (fun u : State => u.newt.tick) hpruned :).trans (congrArg (fun u : State => u.newt.tick) hall :)
    · exact (congrArg (fun u : State => u.mtr) hpruned :).trans (congrArg (fun u : State => u.mtr) hall :)
    · exact (congrArg State.cfg hpruned :).trans (congrArg State.cfg hall :)
    · obtain ⟨r, hr, hreads⟩ := s.reconAll_record s.newt.tick hf hused
      exact ⟨r, (hrecon.trans (congrArg (fun u : State => u.seg.recon) hpruned :)).symm ▸ hr, hreads⟩

end Sys2Proof.Machine
end

section
/-! PROOFS. O36: IMAGE_STORE (R209 to R211). -/
namespace Sys2Proof.Machine

section
variable {s : State} {d e : Desc} {read : HostRead} {x : ImgSlot}

/-- An IMAGE_STORE whose operands are in range: what the slot as its part finds it, `x`, decides of it (R209, R211). -/
theorem exec_imageStore (h : s.serves d 0x30) (he : d.seen s read = some e) (hlen : e.len ≠ 0) (hlong : e.len ≤ 65536)
    (hslot : e.target < 8) (hflags : e.pByte 8 < 4) (hzero : e.pZero 9 32 = true) (hmin : 129 ≤ e.pNum 4 4)
    (hmax : e.pNum 4 4 ≤ 4194304)
    (hx : x = if bit (e.pByte 8) 0 then { state := 1, total := e.pNum 4 4, data := [] } else s.img e.target) :
    Does (.imageStore d.did read) s (
      if s.slotInUse e.target = true then (s.holding e).fail e stBUSY
      else if x.state ≠ 1 ∨ e.pNum 0 4 ≠ x.data.length ∨ e.pNum 4 4 ≠ x.total then (s.holding e).fail e stERR_ARG 1
      else if e.pNum 4 4 < e.pNum 0 4 + e.len ∨ (bit (e.pByte 8) 1 = true ∧ e.pNum 0 4 + e.len ≠ e.pNum 4 4) then
        (s.holding e).fail e stERR_ARG 2
      else if bit (e.pByte 8) 1 = false then ((s.holding e).setImg e.target { x with data := x.data ++ e.buf }).ok e
      else if manifestOk (x.data ++ e.buf) (e.pNum 4 4) = true then
        ((s.holding e).setImg e.target { x with state := 2, data := x.data ++ e.buf }).ok e
      else ((s.holding e).setImg e.target ImgSlot.empty).fail e stERR_ARG 3) := by
  have hargs : ¬ (e.len = 0 ∨ 65536 < e.len ∨ 8 ≤ e.target ∨ 4 ≤ e.pByte 8 ∨ e.pZero 9 32 = false ∨ e.pNum 4 4 < 129
      ∨ 4194304 < e.pNum 4 4) := by
    simp only [hlen, hzero, Bool.true_eq_false, false_or]
    omega
  subst hx
  exact Does.of_served_in rfl h he (fun _ _ => rfl) rfl (if_neg hargs)

end

/-- Settles O36: the operands are in range, and each clause's hypotheses choose one branch of what the slot decides. -/
theorem imagesAreStoredInOrder : Obligations.ImagesAreStoredInOrder := by
  unfold Obligations.ImagesAreStoredInOrder
  intro s d e read x h he hlen hlong hslot hflags hzero hmin hmax hx
  have hrun := exec_imageStore h he hlen hlong hslot hflags hzero hmin hmax hx
  refine ⟨fun hbusy => by rwa [if_pos hbusy] at hrun, fun hfree => ?_⟩
  rw [if_neg (ne_true_of_eq_false hfree)] at hrun
  refine ⟨fun hwrong => by rwa [if_pos hwrong] at hrun, fun hfilling hoff htotal => ?_⟩
  rw [if_neg (by simp [hfilling, hoff, htotal])] at hrun
  refine ⟨fun hbeyond => by rwa [if_pos (Or.inl hbeyond)] at hrun, fun hfits hmore => ?_, fun hends hlast => ?_⟩
  · rwa [if_neg (by simp [hmore, Nat.not_lt.2 hfits]), if_pos hmore] at hrun
  · rw [if_neg (by simp [hends]), if_neg (by simp [hlast])] at hrun
    exact ⟨fun hright => by rwa [if_pos hright] at hrun, fun hbad => by rwa [if_neg (ne_true_of_eq_false hbad)] at hrun⟩

end Sys2Proof.Machine
end

section
/-! PROOFS. O38: the nights of a campaign (R212, R217, R218, R224). -/
namespace Sys2Proof.Machine

section
variable (s : State)

/-! ## The campaigns after a write -/

@[simp] theorem State.elapseOut_flt (t : Int) : (s.elapseOut t).flt = s.flt := by
  unfold State.elapseOut
  split
  · rfl
  · exact s.elapse_flt _

@[simp] theorem State.elapseRtc_flt (t : Nat) : (s.elapseRtc t).flt = s.flt := by
  unfold State.elapseRtc
  split
  · rfl
  · exact s.elapse_flt _

@[simp] theorem State.fltRefresh_flt : s.fltRefresh.flt = s.flt := by
  unfold State.fltRefresh
  dsimp only
  split <;> rfl

theorem State.camp?_of_flt {s t : State} (h : t.flt = s.flt) (id : Nat) : t.camp? id = s.camp? id := by
  unfold State.camp?
  rw [h]

/-- A campaign is found after a change that leaves the IDs as it was found before, changed. -/
theorem State.camp?_modCamp (id : Nat) {f : Campaign → Campaign} (hf : ∀ c, (f c).id = c.id) :
    (s.modCamp id f).camp? id = (s.camp? id).map f := by
  have hids : (fun c : Campaign => c.id == id) ∘ (fun c => if c.id == id then f c else c) = fun c => c.id == id := by
    funext c
    dsimp only [Function.comp]
    split <;> simp [hf]
  refine (List.find?_map ..).trans ?_
  rw [hids]
  exact Option.map_congr fun c hc => if_pos (List.find?_some hc :)

theorem State.camp?_setCamp (id st : Nat) :
    (s.setCamp id st).camp? id = (s.camp? id).map (fun c => { c with state := st, chg := s.flt.latest + 1 }) :=
  (State.camp?_of_flt (State.fltRefresh_flt _) id).trans (State.camp?_modCamp _ id fun _ => rfl)

theorem State.setCamp_state {id st : Nat} {k : Campaign} (h : (s.setCamp id st).camp? id = some k) : k.state = st := by
  rw [State.camp?_setCamp] at h
  obtain ⟨c, -, rfl⟩ := Option.map_eq_some_iff.1 h
  rfl

/-! ## A night ends (R217) -/

theorem State.nightEnd_state {id : Nat} {closed : Bool} {k : Campaign} (h : (s.nightEnd id closed).camp? id = some k) :
    k.state = cARMED ∨ k.state = cDONE := by
  unfold State.nightEnd at h
  split at h
  · next hnone => exact absurd (hnone.symm.trans h) nofun
  · extract_lets cut left c stopped noted told reason done ended at h
    have hended : ended.camp? id = some k := by
      split at h <;> exact h
    unfold ended at hended
    split at hended
    · exact Or.inl (told.setCamp_state hended)
    · exact Or.inr (State.setCamp_state _ hended)

@[simp] theorem State.campClose_pace (c : Campaign) : (s.campClose c).pace = s.pace := by
  unfold State.campClose
  dsimp only
  split <;> simp

/-- A campaign whose window has closed is counted in it no longer, and sends no more. -/
theorem State.campClose_reads {c k : Campaign} (hc : s.camp? c.id = some c) (hk : (s.campClose c).camp? c.id = some k) :
    k.winClose = none ∧ k.counted = false ∧ k.state ≠ cSENDING := by
  unfold State.campClose at hk
  extract_lets t at hk
  obtain ⟨k, ht, rfl⟩ := Option.map_eq_some_iff.1 ((t.camp?_modCamp c.id fun _ => by rfl).symm.trans hk)
  suffices hstate : k.state ≠ cSENDING from ⟨rfl, rfl, hstate⟩
  unfold t at ht
  split at ht
  · rcases s.nightEnd_state ht with hstate | hstate <;> rw [hstate] <;> decide
  · next hidle =>
    rw [State.camp?_modCamp s c.id (fun c => by split <;> rfl), hc] at ht
    obtain rfl := Option.some.inj ht
    have hstate : c.state ≠ cSENDING := fun hsends => hidle (Or.inl hsends)
    dsimp only
    split <;> exact hstate

end

/-! ## A night begins (R217, R218) -/

section
variable {s u : State} {c c1 : Campaign}

/-- In a window in which it has not been counted, a campaign with a night left begins its next night, planned anew. -/
theorem State.campGo_anew {close : Int} (hwin : c.winClose = none) (hnight : c.night < c.nights)
    (hc1 : c1 = { c with night := c.night + 1, counted := true, resumed := false, blocks := [], winClose := some close }) :
    s.campGo c close = (((s.modCamp c.id (fun _ => s.planNight c1)).setCamp c.id cSENDING).setSf .FLT_ENC_STAT
      F.FLT_ENC_STAT_BUSY (b2n (decide (0 < c.z)))).campIdle c.id := by
  unfold State.campGo
  rw [hwin, Option.any_none, Bool.and_false, hc1]
  exact if_neg fun hno => Nat.not_lt.2 hno.2 hnight

theorem exec_campaignWindowOpen (hc : s.camp? c.id = some c) (hstate : c.state = cARMED) (hserving : s.serving = true)
    (hopens : c.resumed = false ∨ s.openWindow s.outputTime c.winStart c.winEnd = none) (hwin : c.winClose = none) :
    Does (.campaignWindowOpen c.id) s ((s.elapseOut (s.nextWindow s.outputTime c.winStart c.winEnd).1).campGo c
      (s.nextWindow s.outputTime c.winStart c.winEnd).2) := by
  unfold Does exec execCampaignWindowOpen
  refine quiet_does ?_
  have hwaits : ¬ (c.state ≠ cARMED ∨ s.serving = false
      ∨ (c.resumed = true ∧ (s.openWindow s.outputTime c.winStart c.winEnd).isSome = true)) := by
    rcases hopens with hfirst | hclosed
    · simp [hstate, hserving, hfirst]
    · simp [hstate, hserving, hclosed]
  rw [hc]
  dsimp only
  rw [if_neg hwaits, hwin]
  simp only [Option.isSome_none, Bool.false_eq_true, if_false]
  rw [State.camp?_of_flt (s.elapseOut_flt _), hc]
  exact if_pos hstate

theorem exec_campaignWindowClose {w : Int} (hc : s.camp? c.id = some c) (hwin : c.winClose = some w) :
    Does (.campaignWindowClose c.id) s ((s.elapseOut w).campClose c) := by
  unfold Does exec execCampaignWindowClose
  refine quiet_does ?_
  rw [hc]
  dsimp only
  rw [hwin]

/-! ## A read of the image fails (R217) -/

/-- The campaign sends no more and becomes FAULTED. -/
def State.imageReadFailed (s : State) (id : Nat) : State :=
  (((s.modCamp id Campaign.clearSteps).setCamp id cFAULTED).dropImages id).setSf .FLT_EVT F.FLT_EVT_FAULT 1

theorem exec_campaignImageReadFail (hc : s.camp? c.id = some c) (hstate : c.state = cARMED ∨ c.state = cSENDING) :
    Does (.campaignImageReadFail c.id) s ((s.imageReadFailed c.id).fresh.2.campEvent c 0x0604 3
      [c.id, c.slot, (s.imageReadFailed c.id).fresh.1]) := by
  unfold Does exec execCampaignImageReadFail
  refine quiet_does ?_
  rw [hc]
  exact if_pos hstate

theorem State.imageReadFailed_reads (hc : s.camp? c.id = some c) :
    (∃ k, (s.imageReadFailed c.id).camp? c.id = some k ∧ k.state = cFAULTED)
    ∧ (s.imageReadFailed c.id).sf .FLT_EVT F.FLT_EVT_FAULT = 1 := by
  have hclear : (s.modCamp c.id Campaign.clearSteps).camp? c.id = some c.clearSteps :=
    (s.camp?_modCamp (f := Campaign.clearSteps) c.id fun _ => rfl).trans (congrArg _ hc)
  exact ⟨⟨_, (State.camp?_setCamp _ c.id cFAULTED).trans (congrArg _ hclear), rfl⟩, State.sf_setSf_same _ _ (by decide) 1⟩

/-! ## The encoder, and the records in NAND (R212, R224) -/

theorem exec_encoderBlockReady (hc : s.flt.camps.find? (fun c => c.state == cSENDING) = some c) (hmissing : c.blocks.length < c.z) :
    Does .encoderBlockReady s ((s.modCamp c.id (fun c => { c with blocks := c.blocks ++ [c.blocks.length] })).setSf
      .FLT_ENC_STAT F.FLT_ENC_STAT_BUSY (b2n (decide (c.blocks.length + 1 < c.z)))) := by
  unfold Does exec execEncoderBlockReady
  refine quiet_does ?_
  rw [hc]
  exact if_pos hmissing

theorem exec_campaignPersist (hdone : s.done = true) (hu : u = s.elapseRtc (s.flt.savedAt + 60 * 32768)) :
    Does .campaignPersist s { u with flt := { u.flt with
      saved := s.flt.camps, savedAt := max (s.flt.savedAt + 60 * 32768) u.newt.tick } } := by
  have hcamps : u.flt.camps = s.flt.camps := by rw [hu, State.elapseRtc_flt]
  unfold Does exec execCampaignPersist
  refine quiet_does ((if_pos hdone).trans ?_)
  dsimp only
  rw [← hu, ← hcamps]
  rfl

end

/-- Settles O38: one lemma for each command; a window's close and a failed read leave the campaign that they found in the state that
they gave it. -/
theorem campaignNightsFollowTheirWindow : Obligations.CampaignNightsFollowTheirWindow := by
  unfold Obligations.CampaignNightsFollowTheirWindow
  refine ⟨?opens, ?closes, ?fails, ?encodes, ?persists⟩
  case opens =>
    rintro s u c c1 hc hstate hserving hopens hwin hnight rfl hc1
    exact State.campGo_anew hwin hnight hc1 ▸ exec_campaignWindowOpen hc hstate hserving hopens hwin
  case closes =>
    intro s c w hc hwin
    refine ⟨_, exec_campaignWindowClose hc hwin, ?_, rfl, fun k hk => ?_⟩
    · exact congrArg Tsu.raw (State.tsu_of_pace ((s.elapseOut w).campClose_pace c))
    · exact State.campClose_reads _ ((State.camp?_of_flt (s.elapseOut_flt w) c.id).trans hc) hk
  case fails =>
    intro s c hc hstate
    obtain ⟨⟨k, hk, hfaulted⟩, hevt⟩ := State.imageReadFailed_reads hc
    exact ⟨_, k, exec_campaignImageReadFail hc hstate, hk, hfaulted, hevt, rfl⟩
  case encodes => exact fun s c hc hmissing => exec_encoderBlockReady hc hmissing
  case persists => exact fun s u hdone hu => exec_campaignPersist hdone hu

end Sys2Proof.Machine
end

section
/-! PROOFS. O40: reception, ageing, the management port and the host receive ring (R234, R236, R237, R239, R244, R248, R255). -/
namespace Sys2Proof.Machine

/-- The search from the highest number down finds the highest number of which `p` holds. -/
theorem find?_reverse_range {p : Nat → Bool} {n c : Nat} (hc : c < n) (hp : p c = true) (habove : ∀ k, c < k → k < n → p k = false) :
    (List.range n).reverse.find? p = some c := by
  induction n with
  | zero => omega
  | succ n ih =>
    rw [List.range_succ, List.reverse_append, List.reverse_singleton, List.singleton_append]
    by_cases h : c = n
    · exact h ▸ List.find?_cons_of_pos hp
    · rw [List.find?_cons_of_neg (by simp [habove n (by omega) (by omega)])]
      exact ih (by omega) fun k hk hn => habove k hk (by omega)

@[simp] theorem State.elapseTo_swx (s : State) (r : Nat) : (s.elapseTo r).swx = s.swx := by
  unfold State.elapseTo
  split <;> rfl

/-! ## Reception (R234, R244) -/

section
variable {s : State} {p : Nat} {f : EthRx} (hp : p < 3) (hdone : s.done = true) (hlink : s.linkUp p = true)
include hp hdone hlink

/-- A linked port takes frames once the host has set the module up. -/
theorem port_receives : ¬ (2 < p ∨ s.done = false ∨ s.linkUp p = false) := by
  simp only [hdone, hlink, Bool.true_eq_false, or_false]
  omega

theorem exec_portFrameRx_damaged (hbad : f.intact = false) : Does (.portFrameRx p f) s (s.bump (.SWX_PORT_RXFCS p) F.word) := by
  unfold Does exec execPortFrameRx
  exact quiet_does ((if_neg (port_receives hp hdone hlink)).trans (if_pos hbad))

theorem exec_portFrameRx_missized (hgood : f.intact = true) (hlen : f.data.length < 60 ∨ 1996 < f.data.length) :
    Does (.portFrameRx p f) s (s.bump (.SWX_PORT_RXDISC p) F.word) := by
  have hwire : wireLen f.data < 64 ∨ 2000 < wireLen f.data := by unfold wireLen; omega
  unfold Does exec execPortFrameRx
  refine quiet_does ((if_neg (port_receives hp hdone hlink)).trans ((if_neg (by simp [hgood])).trans (if_pos ?_)))
  exact hwire.elim Or.inl fun h => Or.inr (Or.inl h)

/-- A good frame of a VLAN that its port belongs to is learned from and forwarded, and counts by what its destinations did with it. -/
theorem exec_portFrameRx_forwarded {v m tc : Nat} {r : State × Nat × Nat} (hgood : f.intact = true) (hmin : 60 ≤ f.data.length)
    (hmax : f.data.length ≤ 1996) (htype : beAt f.data 12 2 ≠ 0x8808)
    (hv : v = vidOf (s.cf (.SWX_PORT_CFG p) F.SWX_PORT_CFG_PVID) f.data) (hvlan : (s.vlan v).map (fun x => x.1) = some m)
    (hmember : bit m p = true) (hopen : s.portBlocked p = false) (hon : s.cf .SWX_CFG F.SWX_CFG_ENABLE ≠ 0)
    (htc : tc = if tagged f.data then s.pcpClass (beAt f.data 14 2 / 8192) else s.cf (.SWX_PORT_CFG p) F.SWX_PORT_CFG_DEFTC)
    (hr : r = ((s.rxStamp p).2.learn (leAt f.data 6 6) v p).forward p v tc
      { data := f.data, port := some p, raw := (s.rxStamp p).1.1, out := (s.rxStamp p).1.2, bad := f.hostBad }) :
    Does (.portFrameRx p f) s (if r.2.1 = 0 then r.1 else if r.2.2 = 0 then r.1.bump (.SWX_PORT_RXDROP p) F.word
      else r.1.bump (.SWX_PORT_RXOK p) F.word) := by
  obtain ⟨x, hx, hxm⟩ := Option.map_eq_some_iff.1 hvlan
  have hjudged : ¬ (wireLen f.data < 64 ∨ 2000 < wireLen f.data ∨ beAt f.data 12 2 = 0x8808
      ∨ (s.vlan v).all (fun v => !bit v.1 p) = true) := by
    simp only [hx, Option.all_some, hxm, hmember, htype, wireLen, Bool.not_true, Bool.false_eq_true, or_false]
    omega
  subst hv htc hr
  unfold Does exec execPortFrameRx
  refine quiet_does ((if_neg (port_receives hp hdone hlink)).trans ((if_neg (by simp [hgood])).trans ((if_neg hjudged).trans
    (if_neg ?_))))
  simp [hopen, hon]

end

/-! ## Destinations (R236) -/

section
variable {s : State} {mac v src m d : Nat}

theorem State.mem_destsOf_open (h : d ∈ s.destsOf mac v src m) :
    d ≠ src ∧ (d < 3 → s.linkUp d = true ∧ s.portBlocked d = false) := by
  unfold State.destsOf at h
  have hkeep := (List.mem_filter.1 h).2
  simp only [Bool.and_eq_true, bne_iff_ne, Bool.or_eq_true, decide_eq_true_eq, Bool.not_eq_true'] at hkeep
  obtain ⟨hsrc, hopen⟩ := hkeep
  exact ⟨hsrc, fun hd => hopen.resolve_left (Nat.not_le.2 hd)⟩

/-- A group-addressed frame floods its VLAN. -/
theorem State.mem_destsOf_group (h : d ∈ s.destsOf mac v src m) (hgroup : mac % 2 = 1) (hM : mac ≠ s.macM) (hH : mac ≠ s.macH) :
    bit m d = true := by
  unfold State.destsOf at h
  have hall := (List.mem_filter.1 h).1
  rw [if_neg hM, if_neg hH] at hall
  split at hall
  · rw [if_neg (by omega)] at hall
    exact (List.mem_filter.1 hall).2
  · exact (List.mem_filter.1 hall).2

end

/-! ## Ageing (R236) -/

section
variable {s : State} {a : AddrEnt} {l : List AddrEnt} (hl : isort (fun a => a.at_) s.swx.addrs = a :: l)
include hl

theorem exec_addressAgeing_reload (hreload : s.portsReload = true) : Does .addressAgeing s s := by
  unfold Does exec execAddressAgeing
  refine quiet_does ?_
  rw [hl]
  exact if_pos hreload

/-- The addresses that still have traffic within the ageing time, once the oldest entry's has passed. -/
theorem exec_addressAgeing {t : State} {age : Nat} (hkept : s.portsReload = false) (hage : s.cf .SWX_CFG F.SWX_CFG_AGE * secT = age)
    (ht : t = s.elapseTo (a.at_ + age)) :
    Does .addressAgeing s { t with swx := { t.swx with
      addrs := s.swx.addrs.filter (fun x => decide (t.tsu.raw < x.at_ + age)) } } := by
  subst ht hage
  unfold Does exec execAddressAgeing
  refine quiet_does ?_
  rw [hl]
  refine (if_neg (by simp [hkept])).trans ?_
  dsimp only
  rw [State.elapseTo_swx]

end

/-! ## The management port (R237, R248) -/

/-- The reply of M to an ARP request, before it is filled up to the least length of a frame (R232, R237). -/
def arpReply (s : State) (f : EgFrame) : List Byte :=
  s.replyHead f.data 0x0806 ++ ((payloadOf f.data).take 6 ++ [0x00#8, 0x02#8] ++ le 6 s.macM ++ ((payloadOf f.data).drop 24).take 4
    ++ ((payloadOf f.data).drop 8).take 10)

section
variable {s : State} {f : EgFrame} {l : List EgFrame} (hq : s.queue (qOf dstM 7) = f :: l)
include hq

theorem mgmt_highest_first : ((List.range 8).reverse.map (qOf dstM)).find? (fun q => s.queue q != []) = some (qOf dstM 7) :=
  List.find?_cons_of_pos (by rw [hq]; rfl)

theorem exec_mgmtFrameRx_poisoned (w : Nat) :
    Does (.mgmtFrameRx (some w)) s (((s.setQueue (qOf dstM 7) l).poisonQueue (qOf dstM 7) w).bump .SWX_MSTAT F.word) := by
  unfold Does exec execMgmtFrameRx
  refine quiet_does ?_
  rw [mgmt_highest_first hq]
  dsimp only
  rw [hq]

/-- An ARP request for M's address is answered with a frame of the least length (R232, R237). -/
theorem exec_mgmtFrameRx_arp {t : State} (ht : t = s.setQueue (qOf dstM 7) l) (harp : etherType f.data = 0x0806)
    (hreq : beAt (payloadOf f.data) 6 2 = 1) (hmine : beAt (payloadOf f.data) 24 4 = (s.cfg.get .SWX_MGMT_IP4).toNat) :
    ∃ b, Does (.mgmtFrameRx none) s (t.mgmtSend f.vid 5 (fitBytes 60 b)) := by
  subst ht
  refine ⟨arpReply s f, ?_⟩
  unfold Does exec execMgmtFrameRx
  refine quiet_does ?_
  rw [mgmt_highest_first hq]
  dsimp only
  rw [hq]
  exact if_pos ⟨harp, hreq, hmine⟩

end

theorem length_fitBytes (n : Nat) (b : List Byte) : (fitBytes n b).length = n := by
  simp [fitBytes, zeros]

/-! ## The host receive ring (R239, R255) -/

section
variable {s : State} {v : Nat} (hrun : s.clk.phase = Phase.run) (hv : v < 65536)
include hrun hv

/-- A running module judges the HEAD that the host writes. -/
theorem exec_hostRxHeadWrite : Turns (.hostRxHeadWrite v) s
    (if v < s.hrxSize ∧ (v + s.hrxSize - s.hif.hrxHead) % s.hrxSize ≤ (s.hrxTail + s.hrxSize - s.hif.hrxHead) % s.hrxSize then
      { s.setCf .SWX_HRX_HEAD F.SWX_HRX_HEAD_HEAD v with hif := { s.hif with hrxHead := v } }
    else s.event 0 0 0x0201 2 [3, 0, v, s.hrxTail]) := by
  unfold Turns exec execHostRxHeadWrite
  refine loud_turns ?_
  unfold State.hrxHeadWrite
  simp only [hrun, reduceCtorEq, if_false, Nat.mod_eq_of_lt hv]

end

theorem exec_hostRxMessageInterval {s u : State} (hivl : s.hif.hrxIvl ≠ 0) (hu : u = s.elapseTo s.hif.hrxIvl)
    (hvec : s.cf .SWX_HRX_CFG F.SWX_HRX_CFG_VECTOR ≠ 0) :
    Does .hostRxMessageInterval s
      ({ u with hif := { u.hif with hrxIvl := 0 } }.msix (s.cf .SWX_HRX_CFG F.SWX_HRX_CFG_VECTOR)) := by
  have hcf : u.cf .SWX_HRX_CFG F.SWX_HRX_CFG_VECTOR = s.cf .SWX_HRX_CFG F.SWX_HRX_CFG_VECTOR := by
    unfold State.cf
    rw [hu, State.elapseTo_cfg]
  subst hu
  rw [← hcf] at hvec ⊢
  unfold Does exec execHostRxMessageInterval
  exact quiet_does ((if_neg hivl).trans (if_neg hvec))

/-- Settles O40: the frames, addresses and ring entries each follow one lemma about their command, and a frame's destinations one about
`destsOf`. -/
theorem fabricForwardsWithinItsVlan : Obligations.FabricForwardsWithinItsVlan := by
  unfold Obligations.FabricForwardsWithinItsVlan
  refine ⟨?receives, ?dests, ?ages, ?poisoned, ?arp, ?head, ?interval⟩
  case receives =>
    intro s p f hp hdone hlink
    refine ⟨exec_portFrameRx_damaged hp hdone hlink, exec_portFrameRx_missized hp hdone hlink, ?_⟩
    intro v m tc r hgood hmin hmax htype hv hvlan hmember hopen hon htc hr
    have hrx := exec_portFrameRx_forwarded hp hdone hlink hgood hmin hmax htype hv hvlan hmember hopen hon htc hr
    refine ⟨fun hnone => ?_, fun hsome hrefused => ?_, fun hsome hadmitted => ?_⟩
    · rwa [if_pos hnone] at hrx
    · rwa [if_neg hsome, if_pos hrefused] at hrx
    · rwa [if_neg hsome, if_neg hadmitted] at hrx
  case dests =>
    intro s mac v src m d hd
    obtain ⟨hsrc, hopen⟩ := State.mem_destsOf_open hd
    exact ⟨hsrc, hopen, State.mem_destsOf_group hd⟩
  case ages =>
    intro s a l hl
    generalize hage : s.cf .SWX_CFG F.SWX_CFG_AGE * secT = age
    obtain ⟨u, hu⟩ : ∃ u, u = s.elapseTo (a.at_ + age) := ⟨_, rfl⟩
    refine ⟨exec_addressAgeing_reload hl, fun hkept hbelow => ?_⟩
    have hreach : a.at_ + age ≤ u.tsu.raw := hu ▸ (State.elapseTo_reaches hbelow).1
    refine ⟨_, exec_addressAgeing hl hkept hage hu, hreach, fun ha => ?_, fun x hx => ?_, rfl⟩
    · exact Nat.not_lt.2 hreach (of_decide_eq_true (List.mem_filter.1 ha).2)
    · obtain ⟨hmem, hyoung⟩ := List.mem_filter.1 hx
      exact ⟨hmem, of_decide_eq_true hyoung⟩
  case poisoned => exact fun s f l w hq => exec_mgmtFrameRx_poisoned hq w
  case arp =>
    intro s t f l hq ht harp hreq hmine
    obtain ⟨b, hb⟩ := exec_mgmtFrameRx_arp hq ht harp hreq hmine
    exact ⟨_, hb, length_fitBytes 60 b⟩
  case head =>
    intro s v hrun hsize hv
    have hhead := exec_hostRxHeadWrite hrun hv
    refine ⟨fun hup => ?_, fun hpast => ?_⟩
    · rwa [if_pos ⟨hsize, hup⟩] at hhead
    · rwa [if_neg fun h => Nat.not_le.2 hpast h.2] at hhead
  case interval => exact fun s u hivl hu hvec => exec_hostRxMessageInterval hivl hu hvec

end Sys2Proof.Machine
end

section
/-! PROOFS. What the end of a descriptor, the fabric and M's frames leave of a port: its status register, and its egress queues while it has
no link (R236, R242, R244, R258). -/
namespace Sys2Proof.Machine

/-- A register of the ports' windows. -/
def Reg.ofPort (r : Reg) : Prop := 0x41000 ≤ r.offset ∧ r.offset < 0x44000

theorem Reg.portStat_ofPort {p : Nat} (hp : p < 3) : (Reg.SWX_PORT_STAT p).ofPort := by
  simp only [Reg.ofPort, Reg.offset]
  omega

theorem Reg.portEvt_ofPort {p : Nat} (hp : p < 3) : (Reg.SWX_PORT_EVT p).ofPort := by
  simp only [Reg.ofPort, Reg.offset]
  omega

/-- The status register of a port, and its egress queues. -/
def State.portView (s : State) (p : Nat) : BitVec 32 × (Fin 8 → List EgFrame) :=
  (s.sts.get (.SWX_PORT_STAT p), fun c => s.queue (qOf p c))

section
variable (s : State) (p : Nat)

theorem State.emit_portView (o : Out) : (s.emit o).portView p = s.portView p := rfl
theorem State.event_portView (f i c v : Nat) (a : List Nat) : (s.event f i c v a).portView p = s.portView p := rfl
theorem State.dropDesc_portView (k : Nat) : (s.dropDesc k).portView p = s.portView p := rfl
theorem State.mgmtOctets_portView (dst : Nat) (vid : Option Nat) (ty : Nat) :
    (s.mgmtOctets dst vid ty).2.portView p = s.portView p := rfl
theorem State.poisonRec_portView (l : Tbl Nat) :
    ({ s with swx := { s.swx with poisonRec := l } } : State).portView p = s.portView p := rfl
end

/-! ## The queues -/

section
variable (s : State)

@[simp] theorem State.queue_setQueue_same (q : Nat) (l : List EgFrame) : (s.setQueue q l).queue q = l := Tbl.get_put_same _ _ _ _

theorem State.queue_setQueue_other {q k : Nat} (h : k ≠ q) (l : List EgFrame) : (s.setQueue q l).queue k = s.queue k :=
  Tbl.get_put_other _ _ _ h

/-- The queues of two destinations are apart. -/
theorem qOf_ne {d p c tc : Nat} (hd : d ≠ p) (hc : c < 8) (htc : tc < 8) : qOf p c ≠ qOf d tc := by
  unfold qOf
  omega

theorem qOf_inj {p c k : Nat} (h : qOf p c = qOf p k) : c = k := Nat.add_left_cancel h

theorem State.setSf_sts_ofPort {q r : Reg} (hq : q.ofPort) (hr : ¬ r.ofPort) (f : Fld) (v : Nat) :
    (s.setSf r f v).sts.get q = s.sts.get q :=
  RegFile.get_put_other _ _ fun heq => hr (by unfold Reg.ofPort; rw [← heq]; exact hq)

theorem State.setQueue_sts_ofPort {q : Reg} (hq : q.ofPort) (k : Nat) (l : List EgFrame) :
    (s.setQueue k l).sts.get q = s.sts.get q := by
  have hstat : ¬ (Reg.QUE_STAT k).ofPort := by
    simp only [Reg.ofPort, Reg.offset]
    omega
  have hbuf : ¬ Reg.SWX_BUF_STAT.ofPort := by unfold Reg.ofPort; decide
  unfold State.setQueue
  exact (State.setSf_sts_ofPort _ hq hbuf _ _).trans ((State.setSf_sts_ofPort _ hq hbuf _ _).trans
    (State.setSf_sts_ofPort _ hq hstat _ _))

/-! ## The end of a ring's descriptor -/

variable {p : Nat} (hp : p < 3)
include hp

theorem State.setSf_portView {r : Reg} (hr : ¬ r.ofPort) (f : Fld) (v : Nat) : (s.setSf r f v).portView p = s.portView p :=
  Prod.ext (s.setSf_sts_ofPort (Reg.portStat_ofPort hp) hr f v) rfl

theorem State.msix_portView {v : Nat} (hv : v < 2048) : (s.msix v).portView p = s.portView p := by
  unfold State.msix
  split
  · refine s.setSf_portView hp ?_ _ _
    simp only [Reg.ofPort, Reg.offset]
    omega
  · rfl

theorem State.poisonQueue_portView (k off : Nat) : (s.poisonQueue k off).portView p = s.portView p := by
  unfold State.poisonQueue State.bump
  extract_lets t
  have ht : t.portView p = s.portView p := (State.setSf_portView _ hp (by unfold Reg.ofPort; decide) _ _).trans
    (s.setSf_portView hp (by unfold Reg.ofPort; decide) _ _)
  split
  · rw [State.event_portView, State.poisonRec_portView, ht]
  · exact ht

theorem State.postRead_portView (n : Nat) (e : CEnt) : (s.postRead n e).2.portView p = s.portView p := by
  unfold State.postRead
  split
  · rfl
  · exact s.poisonQueue_portView hp _ _

theorem State.cqSignal_portView (n : Nat) : (s.cqSignal n).portView p = s.portView p := by
  unfold State.cqSignal
  extract_lets _ t v
  split
  · rfl
  · exact t.msix_portView hp (lt_of_lt_of_le (Fld.get_lt _ _) (by decide))

theorem State.cqWrite_portView {n : Nat} (hn : n < 64) (e : CEnt) : (s.cqWrite n e).portView p = s.portView p := by
  have hstat : ¬ (Reg.HIF_CQ_STAT n).ofPort := by
    simp only [Reg.ofPort, Reg.offset]
    omega
  unfold State.cqWrite
  extract_lets tail phase w u s1 next s2 unsig _ s3 s4
  have hs2 : s2.portView p = s.portView p := (s1.setSf_portView hp hstat _ _).trans (s.postRead_portView hp n e)
  have hs4 : s4.portView p = s.portView p := (s3.setSf_portView hp hstat _ _).trans hs2
  split
  · exact (s4.cqSignal_portView hp n).trans hs4
  · exact hs4

omit hp in
theorem State.cqData_portView (e : CEnt) : (s.cqData e).portView p = s.portView p := by
  unfold State.cqData
  split <;> rfl

theorem State.postC_portView (e : CEnt) : (s.postC e).portView p = s.portView p := by
  unfold State.postC
  split
  · split
    · exact s.cqData_portView e
    · exact (State.cqWrite_portView _ hp (lt_of_lt_of_le (Fld.get_lt _ _) (by decide)) e).trans (s.cqData_portView e)
  · rfl

theorem State.finishRing_portView (n : Nat) (d : Desc) (a : Answer) : (s.finishRing n d a).portView p = s.portView p := by
  unfold State.finishRing
  extract_lets e s1 s2
  have hs2 : s2.portView p = s.portView p := by
    unfold s2
    split <;> rfl
  split
  · exact hs2
  · exact (s2.postC_portView hp e).trans hs2

/-! ## The fabric -/

theorem State.setQueue_portView {q : Nat} (hq : ∀ c < 8, qOf p c ≠ q) (l : List EgFrame) :
    (s.setQueue q l).portView p = s.portView p :=
  Prod.ext (s.setQueue_sts_ofPort (Reg.portStat_ofPort hp) q l) (funext fun c => s.queue_setQueue_other (hq c c.isLt) l)

theorem State.hostFrame_portView (f : EgFrame) (tc : Nat) : (s.hostFrame f tc).portView p = s.portView p := by
  have hhrx : ¬ Reg.SWX_HRX_STAT.ofPort := by unfold Reg.ofPort; decide
  unfold State.hostFrame State.bumpSat
  extract_lets t
  have ht : t.portView p = s.portView p := by
    unfold t
    split
    · exact s.poisonQueue_portView hp _ _
    · rfl
  split <;> exact (State.setSf_portView _ hp hhrx _ _).trans ht

theorem State.hostDrain_portView : s.hostDrain.portView p = s.portView p := by
  unfold State.hostDrain
  refine List.foldlRecOn (motive := fun t : State => t.portView p = s.portView p) _ _ rfl fun t ht tc htc => ?_
  have htc : tc < 8 := List.mem_range.1 (List.mem_reverse.1 htc)
  have hH : dstH ≠ p := by unfold dstH; omega
  split
  · exact ht
  · exact (foldl_keeps (v := fun t : State => t.portView p) (fun u f => u.hostFrame_portView hp f tc) _ _).trans
      ((t.setQueue_portView hp (fun c hc => qOf_ne hH hc htc) []).trans ht)

theorem State.sendCopy_portView {dest tc : Nat} (hdest : dest ≠ p) (htc : tc < 8) (fid vid untag : Nat) (f : InFrame) :
    (s.sendCopy fid vid tc untag dest f).1.portView p = s.portView p := by
  unfold State.sendCopy
  extract_lets q
  split
  · rfl
  · exact s.setQueue_portView hp (fun c hc => qOf_ne hdest hc htc) _

variable {s} (hdown : s.linkUp p = false)
include hdown

/-- The fabric sends nothing to a port without link. -/
theorem State.forward_portView {tc : Nat} (htc : tc < 8) (src vid : Nat) (f : InFrame) :
    (s.forward src vid tc f).1.portView p = s.portView p := by
  unfold State.forward
  split
  · rfl
  · dsimp only
    rw [State.hostDrain_portView _ hp]
    refine List.foldlRecOn (motive := fun a : State × Nat => a.1.portView p = s.portView p) _ _ rfl fun a ha d hd => ?_
    have hne : d ≠ p := by
      rintro rfl
      exact Bool.false_ne_true (hdown.symm.trans ((State.mem_destsOf_open hd).2 hp).1)
    exact (a.1.sendCopy_portView hp hne htc _ _ _ _).trans ha

theorem State.mgmtSend_portView {tc : Nat} (htc : tc < 8) (vid : Nat) (data : List Byte) :
    (s.mgmtSend vid tc data).portView p = s.portView p := by
  have hstat : ¬ Reg.SWX_MSTAT.ofPort := by unfold Reg.ofPort; decide
  have hfwd := State.forward_portView hp hdown htc dstM vid (InFrame.own data)
  unfold State.mgmtSend State.bump
  split
  · rfl
  · dsimp only
    split
    · exact (State.setSf_portView _ hp hstat _ _).trans hfwd
    · exact hfwd

theorem State.sealedReply_portView (ip : Nat) : (s.sealedReply ip).portView p = s.portView p := by
  have hoctets : ∀ dst vid ty, (s.mgmtOctets dst vid ty).2.linkUp p = false := fun _ _ _ => hdown
  unfold State.sealedReply
  dsimp only
  rw [State.mgmtSend_portView hp (hoctets _ _ _) (by decide), State.mgmtOctets_portView]

theorem State.finish_portView (d : Desc) (a : Answer) : (s.finish d a).portView p = s.portView p := by
  unfold State.finish
  split
  · exact s.finishRing_portView hp _ _ _
  · dsimp only
    split
    · split
      · exact State.finishRing_portView _ hp _ _ _
      · rfl
    · rfl
  · have hout : ∀ o, ((s.dropDesc d.did).emit o).linkUp p = false := fun _ => hdown
    dsimp only
    rw [State.sealedReply_portView hp (hout _), State.emit_portView, State.dropDesc_portView]

theorem State.endDid_portView (k : Option Nat) (st det r : Nat) : (s.endDid k st det r).portView p = s.portView p := by
  unfold State.endDid
  split
  · rfl
  · split
    · exact State.finish_portView hp hdown _ _
    · rfl

end

end Sys2Proof.Machine
end

section
/-! PROOFS. A port's link, and what the ring protection leaves of it (R233, R235, R238, R249). -/
namespace Sys2Proof.Machine

/-! ## The ring protection and the registers of a port -/

section
variable (s : State)

@[simp] theorem State.modErps_sts (f : Erps → Erps) : (s.modErps f).sts = s.sts := rfl
@[simp] theorem State.modErps_queue (f : Erps → Erps) (k : Nat) : (s.modErps f).queue k = s.queue k := rfl
@[simp] theorem State.modErps_linkUp (f : Erps → Erps) (p : Nat) : (s.modErps f).linkUp p = s.linkUp p := rfl

section
variable {r : Reg} (hr : r.ofPort)
include hr

theorem State.mgmtPort_sts (q : Nat) (data : List Byte) : (s.mgmtPort q data).sts.get r = s.sts.get r := by
  unfold State.mgmtPort State.bump
  split
  · rfl
  · split
    · exact s.setSf_sts_ofPort hr (by unfold Reg.ofPort; decide) _ _
    · exact State.setQueue_sts_ofPort _ hr _ _

theorem State.rapsTo_sts (kind q : Nat) : (s.rapsTo kind q).sts.get r = s.sts.get r :=
  State.mgmtPort_sts _ hr _ _

theorem State.sendRaps_sts (kind : Nat) : (s.sendRaps kind).sts.get r = s.sts.get r := by
  unfold State.sendRaps
  rw [State.rapsTo_sts _ hr, State.rapsTo_sts _ hr, State.modErps_sts]

theorem State.ringTo_sts (st : Nat) : (s.ringTo st).sts.get r = s.sts.get r := by
  have hstat : ¬ Reg.SWX_ERPS_STAT.ofPort := by unfold Reg.ofPort; decide
  unfold State.ringTo
  dsimp only
  split <;> exact s.setSf_sts_ofPort hr hstat _ _

omit hr in
theorem State.startWtr_sts : s.startWtr.sts = s.sts := by
  unfold State.startWtr
  split
  · exact State.modErps_sts _ _
  · rfl

/-- A signal that is good again reaches no register of a port. -/
theorem State.ringClear_sts (p : Nat) : (s.ringClear p).sts.get r = s.sts.get r := by
  unfold State.ringClear
  dsimp only
  split
  · rw [State.modErps_sts]
  · rw [State.ringTo_sts _ hr, State.startWtr_sts, State.sendRaps_sts _ hr]
    simp only [State.modErps_sts]

end

/-! ## M sends nothing to a port without link -/

variable {s} {p : Nat} (hdown : s.linkUp p = false)
include hdown

theorem State.mgmtPort_queue {c : Nat} (hc : c < 8) (q : Nat) (data : List Byte) :
    (s.mgmtPort q data).queue (qOf p c) = s.queue (qOf p c) := by
  unfold State.mgmtPort
  split
  · rfl
  · rename_i hopen
    have hq : q ≠ p := by
      rintro rfl
      exact hopen (Or.inl hdown)
    split
    · rfl
    · exact State.queue_setQueue_other _ (qOf_ne hq hc (by decide)) _

theorem State.rapsTo_queue {c : Nat} (hc : c < 8) (kind q : Nat) : (s.rapsTo kind q).queue (qOf p c) = s.queue (qOf p c) :=
  State.mgmtPort_queue (s := ((s.emit (.raps q kind)).mgmtOctets _ _ _).2) hdown hc q _

end

theorem State.linkUp_of_sts {s t : State} {p : Nat} (h : t.sts.get (.SWX_PORT_STAT p) = s.sts.get (.SWX_PORT_STAT p)) :
    t.linkUp p = s.linkUp p := by
  unfold State.linkUp State.sf
  rw [h]

theorem Reg.portStat_ne_portEvt (p q : Nat) : (Reg.SWX_PORT_STAT p).offset ≠ (Reg.SWX_PORT_EVT q).offset := by
  simp only [Reg.offset]
  omega

/-- The block of a ring port stands apart from its link. -/
theorem State.linkUp_setBlk (s : State) (q p : Nat) (b : Bool) : (s.setBlk q b).linkUp p = s.linkUp p := by
  have hstat : (Reg.SWX_PORT_STAT p).offset ≠ Reg.SWX_ERPS_STAT.offset := by
    simp only [Reg.offset]
    omega
  unfold State.linkUp State.setBlk
  by_cases hq : q = p
  · rw [hq, State.sf_setSf_apart _ _ (by decide) (by decide) (by decide), State.sf_setSf_other _ hstat]
  · have hother : (Reg.SWX_PORT_STAT p).offset ≠ (Reg.SWX_PORT_STAT q).offset := by
      simp only [Reg.offset]
      omega
    rw [State.sf_setSf_other _ hother, State.sf_setSf_other _ hstat]

theorem State.setBlk_evt (s : State) (q p : Nat) (b : Bool) :
    (s.setBlk q b).sts.get (.SWX_PORT_EVT p) = s.sts.get (.SWX_PORT_EVT p) := by
  unfold State.setBlk State.setSf
  rw [RegFile.get_put_other _ _ (Reg.portStat_ne_portEvt q p).symm, RegFile.get_put_other _ _ (by simp only [Reg.offset]; omega)]

/-! ## A port that has lost its link -/

theorem State.event_sf (s : State) (f i c v : Nat) (a : List Nat) (r : Reg) (g : Fld) : (s.event f i c v a).sf r g = s.sf r g := rfl

/-- What the loss of its link leaves of a port: no link, empty queues, no address behind it, and DOWN (R235, R258). -/
structure State.PortLost (s : State) (p : Nat) : Prop where
  link : s.linkUp p = false
  queues : ∀ c, c < 8 → s.queue (qOf p c) = []
  addrs : ∀ a ∈ s.swx.addrs, a.dest ≠ p
  event : s.sf (.SWX_PORT_EVT p) F.SWX_PORT_EVT_DOWN = 1

section
variable {s t : State} {p : Nat}

theorem State.PortLost.mono (h : s.PortLost p) (hlink : t.linkUp p = s.linkUp p)
    (hqueues : ∀ c, c < 8 → t.queue (qOf p c) = s.queue (qOf p c)) (haddrs : ∀ a ∈ t.swx.addrs, a ∈ s.swx.addrs)
    (hevt : t.sts.get (.SWX_PORT_EVT p) = s.sts.get (.SWX_PORT_EVT p)) : t.PortLost p where
  link := hlink.trans h.link
  queues c hc := (hqueues c hc).trans (h.queues c hc)
  addrs a ha := h.addrs a (haddrs a ha)
  event := (congrArg F.SWX_PORT_EVT_DOWN.get hevt).trans h.event

theorem State.PortLost.modErps (h : s.PortLost p) (f : Erps → Erps) : (s.modErps f).PortLost p :=
  h.mono (s.modErps_linkUp f p) (fun _ _ => s.modErps_queue f _) (fun _ ha => ha) (congrArg (RegFile.get · _) (s.modErps_sts f))

theorem State.PortLost.setBlk (h : s.PortLost p) (q : Nat) (b : Bool) : (s.setBlk q b).PortLost p :=
  h.mono (s.linkUp_setBlk q p b) (fun _ _ => rfl) (fun _ ha => ha) (s.setBlk_evt q p b)

theorem State.PortLost.unblockGood (h : s.PortLost p) : s.unblockGood.PortLost p :=
  foldl_preserves (inv := fun t : State => t.PortLost p) (fun _ q ht => ht.setBlk q false) h

theorem State.PortLost.flushRing (h : s.PortLost p) : s.flushRing.PortLost p :=
  h.mono rfl (fun _ _ => rfl) (fun _ ha => (List.mem_filter.1 ha).1) rfl

theorem State.mgmtPort_addrs (s : State) (q : Nat) (data : List Byte) : (s.mgmtPort q data).swx.addrs = s.swx.addrs := by
  unfold State.mgmtPort
  split
  · rfl
  · split <;> rfl

theorem State.rapsTo_addrs (s : State) (kind q : Nat) : (s.rapsTo kind q).swx.addrs = s.swx.addrs :=
  State.mgmtPort_addrs _ _ _

variable (hp : p < 3)
include hp

theorem State.PortLost.rapsTo (h : s.PortLost p) (kind q : Nat) : (s.rapsTo kind q).PortLost p :=
  h.mono (State.linkUp_of_sts (s.rapsTo_sts (Reg.portStat_ofPort hp) kind q)) (fun _ hc => State.rapsTo_queue h.link hc kind q)
    (fun _ ha => s.rapsTo_addrs kind q ▸ ha) (s.rapsTo_sts (Reg.portEvt_ofPort hp) kind q)

theorem State.PortLost.sendRaps (h : s.PortLost p) (kind : Nat) : (s.sendRaps kind).PortLost p :=
  ((h.modErps _).rapsTo hp kind 0).rapsTo hp kind 1

theorem State.PortLost.ringTo (h : s.PortLost p) (st : Nat) : (s.ringTo st).PortLost p := by
  refine h.mono (State.linkUp_of_sts (s.ringTo_sts (Reg.portStat_ofPort hp) st)) (fun _ _ => ?_) (fun a ha => ?_)
    (s.ringTo_sts (Reg.portEvt_ofPort hp) st)
  · unfold State.ringTo
    dsimp only
    split <;> rfl
  · unfold State.ringTo at ha
    dsimp only at ha
    split at ha <;> exact ha

/-- The ring protection, told of the failed signal, leaves the port as the loss of its link has left it (R238). -/
theorem State.PortLost.ringSf (h : s.PortLost p) (q : Nat) : (s.ringSf q).PortLost p := by
  unfold State.ringSf
  split
  · exact h
  · extract_lets t u
    have ht : t.PortLost p := (h.modErps _).modErps _
    refine State.PortLost.ringTo hp ?_ 2
    unfold u
    split
    · exact ht.unblockGood.sendRaps hp 6
    · exact ((ht.setBlk q true).unblockGood.sendRaps hp 2).flushRing

end

/-! ## The loss of a link (R235, R249) -/

section
variable {s : State} {p : Nat} (hp : p < 3)
include hp

omit hp in
theorem State.linkUp_of_portView {t : State} (h : t.portView p = s.portView p) : t.linkUp p = s.linkUp p :=
  State.linkUp_of_sts (congrArg Prod.fst h)

theorem State.noteFlush_portView (q cause words : Nat) : (s.noteFlush q cause words).portView p = s.portView p :=
  s.setSf_portView hp (r := .QUE_EVT) (by unfold Reg.ofPort; decide) _ _

/-- A flush empties its queue, and the ends of the sends among its frames put nothing into the queues of a port without link. -/
theorem State.flushEgress_portView (hdown : s.linkUp p = false) (q cause : Nat) :
    (s.flushEgress q cause).portView p = (s.setQueue q []).portView p := by
  unfold State.flushEgress
  extract_lets l t u w
  have hu : u.portView p = t.portView p := by
    unfold u
    split
    · exact Prod.ext (RegFile.get_put_other _ _ (by simp only [Reg.offset]; omega)) rfl
    · rfl
  have ht : t.linkUp p = false := (State.linkUp_of_sts (s.setQueue_sts_ofPort (Reg.portStat_ofPort hp) q [])).trans hdown
  have hw : w.portView p = t.portView p :=
    foldl_preserves (inv := fun v : State => v.portView p = t.portView p)
      (fun v f hv => (State.endDid_portView hp ((State.linkUp_of_portView hv).trans ht) _ _ _ _).trans hv) hu
  exact (State.noteFlush_portView hp _ _ _).trans hw

theorem State.flushEgress_linkUp (hdown : s.linkUp p = false) (q cause : Nat) : (s.flushEgress q cause).linkUp p = false :=
  (State.linkUp_of_sts ((congrArg Prod.fst (State.flushEgress_portView hp hdown q cause)).trans
    (s.setQueue_sts_ofPort (Reg.portStat_ofPort hp) q []))).trans hdown

theorem State.flushEgress_queue (hdown : s.linkUp p = false) {c : Nat} (hc : c < 8) (q cause : Nat) :
    (s.flushEgress q cause).queue (qOf p c) = (s.setQueue q []).queue (qOf p c) :=
  congrFun (congrArg Prod.snd (State.flushEgress_portView hp hdown q cause)) ⟨c, hc⟩

/-- The flush of all queues of a port without link leaves each of them empty. -/
theorem State.flushPort_empty (hdown : s.linkUp p = false) {c : Nat} (hc : c < 8) :
    ((List.range 8).foldl (fun t c => t.flushEgress (qOf p c) 0) s).queue (qOf p c) = [] := by
  refine foldl_reaches (inv := fun t : State => t.linkUp p = false) (post := fun t : State => t.queue (qOf p c) = []) (List.mem_range.2 hc)
    (fun t k ht => State.flushEgress_linkUp hp ht _ _) (fun t ht => ?_) (fun t k ht hempty => ?_) hdown
  · rw [State.flushEgress_queue hp ht hc, State.queue_setQueue_same]
  · rw [State.flushEgress_queue hp ht hc]
    by_cases hk : c = k
    · rw [hk, State.queue_setQueue_same]
    · rw [State.queue_setQueue_other _ fun h => hk (qOf_inj h), hempty]

theorem State.flushPort_linkUp (hdown : s.linkUp p = false) :
    ((List.range 8).foldl (fun t c => t.flushEgress (qOf p c) 0) s).linkUp p = false :=
  foldl_preserves (inv := fun t : State => t.linkUp p = false) (fun _ _ ht => State.flushEgress_linkUp hp ht _ _) hdown

/-- The loss of a link leaves its port so, whatever the ring protection makes of it. -/
theorem State.portDown_lost (hlink : s.linkUp p = true) : (s.portDown p).PortLost p := by
  unfold State.portDown
  rw [if_neg (by simp only [hlink, Bool.true_eq_false, or_false]; omega)]
  extract_lets n cut flushed _ forgot lost holdOff
  have hcut : cut.linkUp p = false := by
    unfold cut State.linkUp State.bumpSat
    rw [State.sf_setSf_apart _ _ (by decide) (by decide) (by decide), State.sf_setSf_apart _ _ (by decide) (by decide) (by decide),
      State.sf_setSf_same _ _ (by decide)]
    rfl
  have hflushed : flushed.linkUp p = false := State.flushPort_linkUp hp hcut
  have hempty : ∀ c, c < 8 → flushed.queue (qOf p c) = [] := fun _ hc => State.flushPort_empty hp hcut hc
  clear_value flushed
  have hkept : lost.linkUp p = flushed.linkUp p := State.linkUp_of_sts (RegFile.get_put_other _ _ (Reg.portStat_ne_portEvt p p))
  have hnoted : lost.sf (.SWX_PORT_EVT p) F.SWX_PORT_EVT_DOWN = 1 := by
    unfold lost
    rw [State.event_sf, State.sf_setSf_same _ _ (by decide)]
    rfl
  have hlost : lost.PortLost p :=
    { link := hkept.trans hflushed
      queues := hempty
      addrs := fun a ha => bne_iff_ne.1 (List.mem_filter.1 ha).2
      event := hnoted }
  split
  · exact hlost
  · split
    · exact hlost.ringSf hp p
    · exact hlost.modErps _

end

/-! ## A link comes up (R233, R235) -/

section
variable {s : State} {p : Nat} {tenG anDone : Bool}

/-- A port takes up a link that its search has found, before the ring protection hears of it. -/
def State.portLinked (s : State) (p : Nat) (tenG : Bool) : State :=
  let rate := if tenG then 1 else 2
  (((s.setSf (.SWX_PORT_STAT p) F.SWX_PORT_STAT_LINK 1).setSf (.SWX_PORT_STAT p) F.SWX_PORT_STAT_RATE rate).setSf
    (.SWX_PORT_EVT p) F.SWX_PORT_EVT_UP 1).event 4 p 0x0701 1 [p, rate]

theorem exec_portLinkUp (hp : p < 3) (hdone : s.done = true) (hserdes : s.serdesOk = true) (hdown : s.linkUp p = false)
    (hon : s.cf (.SWX_PORT_CFG p) F.SWX_PORT_CFG_ENABLE = 1) (hmay : s.mayLink p tenG anDone = true) :
    Does (.portLinkUp p tenG anDone) s (if p < 2 then (s.portLinked p tenG).ringClear p else s.portLinked p tenG) := by
  have hopen : ¬ (2 < p ∨ s.done = false ∨ s.serdesOk = false ∨ s.linkUp p = true ∨ s.cf (.SWX_PORT_CFG p) F.SWX_PORT_CFG_ENABLE = 0
      ∨ s.mayLink p tenG anDone = false) := by
    simp only [hdone, hserdes, hdown, hon, hmay, Bool.true_eq_false, Bool.false_eq_true, Nat.one_ne_zero, or_false]
    omega
  unfold Does exec execPortLinkUp
  exact quiet_does (if_neg hopen)

theorem State.portLinked_reads : (s.portLinked p tenG).linkUp p = true
    ∧ (s.portLinked p tenG).sf (.SWX_PORT_STAT p) F.SWX_PORT_STAT_RATE = (if tenG then 1 else 2)
    ∧ (s.portLinked p tenG).sf (.SWX_PORT_EVT p) F.SWX_PORT_EVT_UP = 1 := by
  unfold State.portLinked State.linkUp
  simp only [State.event_sf]
  refine ⟨?link, ?rate, State.sf_setSf_same _ _ (by decide) _⟩
  case link =>
    rw [State.sf_setSf_other _ (Reg.portStat_ne_portEvt p p), State.sf_setSf_apart _ _ (by decide) (by decide) (by decide), State.sf_setSf_same _ _ (by decide)]
    rfl
  case rate =>
    rw [State.sf_setSf_other _ (Reg.portStat_ne_portEvt p p), State.sf_setSf_same _ _ (by decide)]
    cases tenG <;> rfl

end

end Sys2Proof.Machine
end

section
/-! PROOFS. O41: FRAME_SEND, the scheduler, and the links of the ports (R233, R235, R242, R244, R248, R276, R277, R281, R282). -/
namespace Sys2Proof.Machine

/-! ## FRAME_SEND (R276, R277) -/

/-- The frame of a FRAME_SEND, as it stands in its egress queue. -/
def State.sentFrame (s : State) (e : Desc) (shared : Bool) : EgFrame :=
  { fid := s.swx.nextFid, cells := cellsFor e.buf, shared := shared, data := e.buf, vid := 0, did := some e.did
    tsreq := sendTs e, inPort := none, stampRaw := 0, stampOut := 0, bad := none }

/-- A queue without room refuses the frame of a FRAME_SEND (R244, R277). -/
theorem State.sendToPort_refused {s : State} {e : Desc} {p : Nat} (h : s.admitCells (qOf p (sendTc e)) (cellsFor e.buf) = none) :
    s.sendToPort e p = s.fail e stBUSY 1 := by
  unfold State.sendToPort
  dsimp only
  rw [h]

/-- A queue with room takes the frame of a FRAME_SEND at its end. -/
theorem State.sendToPort_queue {s : State} {e : Desc} {p : Nat} {sh : Bool}
    (h : s.admitCells (qOf p (sendTc e)) (cellsFor e.buf) = some sh) :
    (s.sendToPort e p).queue (qOf p (sendTc e)) = s.queue (qOf p (sendTc e)) ++ [s.sentFrame e sh] := by
  unfold State.sendToPort
  dsimp only
  rw [h]
  exact State.queue_setQueue_same _ _ _

/-- The reserved bits of the PARAM of a FRAME_SEND are 0, and its TARGET fits its field (R276). -/
def sendArgsOk (e : Desc) : Prop := e.target < 8 ∧ e.pByte 0 < 32 ∧ bit (e.pByte 0) 3 = false ∧ e.pZero 1 32 = true

theorem sendArgs_accepted {e : Desc} (hargs : sendArgsOk e) :
    ¬ (8 ≤ e.target ∨ e.pByte 0 / 32 ≠ 0 ∨ bit (e.pByte 0) 3 = true ∨ e.pZero 1 32 = false) := by
  obtain ⟨htarget, hbyte, hbit, hzero⟩ := hargs
  simp only [hbit, hzero, Bool.true_eq_false, Bool.false_eq_true, or_false, ne_eq, Nat.div_eq_zero_iff]
  omega

/-- A port and, without TSREQ, H are destinations of a FRAME_SEND. -/
theorem sendDest_accepted {e : Desc} (hdest : e.target < 3 ∨ (e.target = 7 ∧ sendTs e = false)) :
    ¬ ((2 < e.target % 8 ∧ e.target % 8 ≠ 7) ∨ (e.target % 8 = 7 ∧ sendTs e = true)) := by
  rcases hdest with hport | ⟨hH, hts⟩
  · omega
  · simp [hH, hts]

theorem sendLen_accepted {e : Desc} (hmin : 60 ≤ e.len) (hmax : e.len ≤ 1996) : ¬ (e.len < 60 ∨ 1996 < e.len) := by omega

section
variable {s : State} {d e : Desc} {read : HostRead} (h : s.serves d 0x40) (he : d.seen s read = some e) (hargs : sendArgsOk e)
include h he hargs

theorem exec_frameSend_noPort (hdest : e.target = 3) : Does (.frameSend d.did read) s ((s.holding e).fail e stERR_ARG 1) :=
  Does.of_served_in rfl h he (fun _ _ => rfl) rfl
    ((if_neg (sendArgs_accepted hargs)).trans (if_pos (Or.inl (by rw [hdest]; decide))))

theorem exec_frameSend_short (hport : e.target < 3) (hlen : e.len < 60) :
    Does (.frameSend d.did read) s ((s.holding e).fail e stERR_ARG 2) :=
  Does.of_served_in rfl h he (fun _ _ => rfl) rfl
    ((if_neg (sendArgs_accepted hargs)).trans ((if_neg (sendDest_accepted (Or.inl hport))).trans (if_pos (Or.inl hlen))))

section
variable (hmin : 60 ≤ e.len) (hmax : e.len ≤ 1996)
include hmin hmax

theorem exec_frameSend_port (hport : e.target < 3) (hnow : e.launch = false) :
    Does (.frameSend d.did read) s ((s.holding e).sendToPort e e.target) := by
  have hdest : e.target % 8 = e.target := Nat.mod_eq_of_lt (by omega)
  refine Does.of_served_in rfl h he (fun _ _ => rfl) rfl ((if_neg (sendArgs_accepted hargs)).trans
    ((if_neg (sendDest_accepted (Or.inl hport))).trans ((if_neg (sendLen_accepted hmin hmax)).trans ((if_neg ?_).trans
    ((if_neg ?_).trans ((if_pos ?_).trans ?_))))))
  · simp [hnow]
  · simp [hnow]
  · omega
  · rw [hdest]

/-- With LAUNCH a frame for a port waits for its slot, outside the egress queues (R54, R281). -/
theorem exec_frameSend_launch (hport : e.target < 3) (hlaunch : e.launch = true) (hroom : (s.holding e).pend < 4096) :
    Does (.frameSend d.did read) s ((s.holding e).updDesc d.did (fun x => { x with stage := .launchWait })) := by
  rw [← Desc.seen_did he]
  refine Does.of_served_in (d := d) (e := e) (by rw [Desc.seen_did he]; rfl) h he (fun _ _ => rfl) rfl
    ((if_neg (sendArgs_accepted hargs)).trans ((if_neg (sendDest_accepted (Or.inl hport))).trans
    ((if_neg (sendLen_accepted hmin hmax)).trans ((if_neg ?_).trans ((if_pos hlaunch).trans ((if_pos hlaunch).trans (if_neg ?_)))))))
  · omega
  · omega

/-- A frame for H goes into the fabric at once (R236, R277). -/
theorem exec_frameSend_host {v : Nat} {r : State × Nat × Nat} (hH : e.target = 7) (hts : sendTs e = false) (hnow : e.launch = false)
    (hon : s.cf .SWX_CFG F.SWX_CFG_ENABLE ≠ 0) (hv : v = vidOf Config.hostVid.toNat e.buf)
    (hr : r = (((s.holding e).beginDesc d.did).learn (leAt e.buf 6 6) v dstH).forward dstH v (sendTc e) (InFrame.own e.buf)) :
    Does (.frameSend d.did read) s (if r.2.1 ≠ 0 ∧ r.2.2 = 0 then r.1.fail { e with actTime := some s.outputTime } stBUSY 1
      else r.1.ok { e with actTime := some s.outputTime }) := by
  have hlearn : ((((s.holding e).beginDesc d.did).learn (leAt e.buf 6 6) v dstH).cf .SWX_CFG F.SWX_CFG_ENABLE ≠ 0) := by
    unfold State.cf State.learn
    split
    · exact hon
    · dsimp only
      split <;> exact hon
  subst hv hr
  rw [← Desc.seen_did he] at hlearn ⊢
  refine Does.of_served_in (d := d) (e := e) (by rw [Desc.seen_did he]; rfl) h he (fun _ _ => rfl) rfl
    ((if_neg (sendArgs_accepted hargs)).trans ((if_neg (sendDest_accepted (Or.inr ⟨hH, hts⟩))).trans
    ((if_neg (sendLen_accepted hmin hmax)).trans ((if_neg ?_).trans ((if_neg ?_).trans ((if_neg ?_).trans ?_))))))
  · simp [hnow]
  · simp [hnow]
  · omega
  · dsimp only
    rw [if_neg hlearn]
    rfl

end

end

/-! ## The scheduler (R242) -/

/-- The highest class with a frame, where it stands at or above SP_FLOOR, goes first. -/
theorem State.nextEgress_strict {s : State} {p c : Nat} (hc : c < 8)
    (hfloor : s.cf (.SWX_PORT_SCHED p) F.SWX_PORT_SCHED_SP_FLOOR ≤ c) (hq : s.queue (qOf p c) ≠ [])
    (habove : ∀ k, c < k → k < 8 → s.queue (qOf p k) = []) : s.nextEgress p = some (qOf p c, s) := by
  unfold State.nextEgress
  dsimp only
  rw [List.find?_filter, find?_reverse_range hc (by simp [hfloor, hq]) fun k hk hk8 => by simp [habove k hk hk8]]

/-- What a port does with the head that its scheduler has chosen (R238, R248, R282). -/
theorem exec_portFrameTx {s t : State} {p q : Nat} {f : EgFrame} {l : List EgFrame} (hp : p < 3) (hlink : s.linkUp p = true)
    (hnext : s.nextEgress p = some (q, t)) (hq : t.queue q = f :: l) (bad : Option Nat) :
    Does (.portFrameTx p bad) s (
      if t.portBlocked p = true ∧ etherType f.data ≠ etherRaps then (t.setQueue q l).endDid f.did stABORTED 1 0
      else if t.guarded p f.data then s
      else (bad.elim (t.setQueue q l) ((t.setQueue q l).poisonQueue q)).portSend p f.data f.did f.tsreq bad.isSome) := by
  have hup : ¬ (2 < p ∨ s.linkUp p = false) := by
    simp only [hlink, Bool.true_eq_false, or_false]
    omega
  unfold Does exec execPortFrameTx
  refine quiet_does ((if_neg hup).trans ?_)
  rw [hnext]
  dsimp only
  rw [hq]
  cases bad <;> rfl

/-! ## The search for a rate (R233) -/

/-- An automatic port without link turns to the other rate once its time at this one has passed. -/
theorem exec_speedSearchTimeout {s t : State} {p w : Nat} (hp : p < 3) (hdone : s.done = true) (hreplay : s.replaying = false)
    (hdown : s.linkUp p = false) (hon : s.cf (.SWX_PORT_CFG p) F.SWX_PORT_CFG_ENABLE = 1)
    (hauto : s.cf (.SWX_PORT_CFG p) F.SWX_PORT_CFG_SPEED = 0) (hw : 500 * msT = w)
    (ht : t = s.elapseTo (Tbl.get 0 s.swx.searchAt p + w)) :
    Does (.speedSearchTimeout p) s { t with swx := { t.swx with
      search := Tbl.put 0 t.swx.search p (1 - Tbl.get 0 t.swx.search p)
      searchAt := Tbl.put 0 t.swx.searchAt p t.tsu.raw } } := by
  have hopen : ¬ (2 < p ∨ s.done = false ∨ s.replaying = true ∨ s.linkUp p = true ∨ s.cf (.SWX_PORT_CFG p) F.SWX_PORT_CFG_ENABLE = 0
      ∨ s.cf (.SWX_PORT_CFG p) F.SWX_PORT_CFG_SPEED ≠ 0) := by
    simp only [hdone, hreplay, hdown, hon, hauto, Bool.true_eq_false, Bool.false_eq_true, Nat.one_ne_zero, ne_eq, not_true_eq_false,
      or_false]
    omega
  subst ht hw
  unfold Does exec execSpeedSearchTimeout
  exact quiet_does (if_neg hopen)

/-- Settles O41: one lemma for each branch of FRAME_SEND, one for the head that a port takes, and for the links what the ring protection
leaves of a port's registers and queues (`PortLost`, `ringClear_sts`). -/
theorem portsSendTheirQueues : Obligations.PortsSendTheirQueues := by
  unfold Obligations.PortsSendTheirQueues
  refine ⟨?send, ?strict, ?tx, ?up, ?down, ?search⟩
  case send =>
    intro s d e read h he htarget hbyte hbit hzero
    have hargs : sendArgsOk e := ⟨htarget, hbyte, hbit, hzero⟩
    refine ⟨exec_frameSend_noPort h he hargs, exec_frameSend_short h he hargs, fun hport hmin hmax hnow => ?_,
      fun hport hmin hmax => exec_frameSend_launch h he hargs hmin hmax hport, ?_⟩
    · have hsend := exec_frameSend_port h he hargs hmin hmax hport hnow
      refine ⟨fun hfull => ?_, fun sh hroom => ?_⟩
      · rwa [State.sendToPort_refused (s := s.holding e) hfull] at hsend
      · exact ⟨_, _, hsend, State.sendToPort_queue (s := s.holding e) hroom, rfl, congrArg some (Desc.seen_did he), rfl, rfl⟩
    · exact fun v r hH hts hmin hmax hnow hon hv hr => exec_frameSend_host h he hargs hmin hmax hH hts hnow hon hv hr
  case strict => exact fun s p c hc hfloor hq habove => State.nextEgress_strict hc hfloor hq habove
  case tx =>
    intro s t p q f l hp hlink hnext hq
    have htx := exec_portFrameTx hp hlink hnext hq
    refine ⟨fun hblocked htype bad => ?_, fun hpass => ?_⟩
    · have := htx bad
      rwa [if_pos ⟨hblocked, htype⟩] at this
    · have hopen : ¬ (t.portBlocked p = true ∧ etherType f.data ≠ etherRaps) := by
        rintro ⟨hblocked, htype⟩
        rcases hpass with h | h
        · exact Bool.false_ne_true (h.symm.trans hblocked)
        · exact htype h
      simp only [if_neg hopen] at htx
      refine ⟨fun hfree => ?_, fun hguard bad => ?_⟩
      · simp only [hfree, Bool.false_eq_true, if_false] at htx
        exact ⟨htx none, fun w => htx (some w)⟩
      · have := htx bad
        rwa [if_pos hguard] at this
  case up =>
    intro s p g a hp hdone hserdes hdown hon hmay
    have hsts : ∀ r : Reg, r.ofPort →
        (if p < 2 then (s.portLinked p g).ringClear p else s.portLinked p g).sts.get r = (s.portLinked p g).sts.get r := by
      intro r hr
      split
      · exact State.ringClear_sts _ hr p
      · rfl
    obtain ⟨hlink, hrate, hup⟩ := State.portLinked_reads (s := s) (p := p) (tenG := g)
    refine ⟨_, exec_portLinkUp hp hdone hserdes hdown hon hmay, ?_, ?_, ?_, rfl⟩
    · exact (State.linkUp_of_sts (hsts _ (Reg.portStat_ofPort hp))).trans hlink
    · exact (congrArg F.SWX_PORT_STAT_RATE.get (hsts _ (Reg.portStat_ofPort hp))).trans hrate
    · exact (congrArg F.SWX_PORT_EVT_UP.get (hsts _ (Reg.portEvt_ofPort hp))).trans hup
  case down =>
    intro s p hp hlink
    obtain ⟨hdown, hqueues, haddrs, hevt⟩ := State.portDown_lost hp hlink
    exact ⟨_, rfl, hdown, hqueues, haddrs, hevt, rfl⟩
  case search =>
    intro s p hp hdone hreplay hdown hon hauto
    generalize hw : 500 * msT = w
    obtain ⟨t, ht⟩ : ∃ t, t = s.elapseTo (Tbl.get 0 s.swx.searchAt p + w) := ⟨_, rfl⟩
    intro hbelow
    have hreach : Tbl.get 0 s.swx.searchAt p + w ≤ t.tsu.raw := ht ▸ (State.elapseTo_reaches hbelow).1
    have hswx : t.swx = s.swx := ht ▸ s.elapseTo_swx _
    refine ⟨_, exec_speedSearchTimeout hp hdone hreplay hdown hon hauto hw ht, ?_, hreach, rfl⟩
    exact (Tbl.get_put_same _ _ _ _).trans (by rw [hswx])

end Sys2Proof.Machine
end

section
/-! PROOFS. O42: the end of a credit exchange of the PCIe core's crossing, with an entry held for an event ring outside the count of
rings (R51, R62, R491). -/
namespace Sys2Proof.Machine

/-- An event record. -/
def heldRecord : Rec := { seq := 0, rtc := 0, sev := 0, gen := 0, src := 0, code := 0, args := [] }

/-- The number of an event ring far beyond the module's eight: HIF_EQ_STAT of that number has the offset of QUE_X_STAT of crossing 4. -/
def strayRing : Nat := 114440

/-- A module whose crossing 10 is in INIT and crossing 4 ACTIVE, and which holds an entry for that ring. -/
def strayHeld : State :=
  { State.reset with
    sts := [(.QUE_X_STAT 4, 0x3FFF0000#32), (.QUE_X_STAT 10, 0x80000000#32)]
    hif := { State.reset.hif with perst := true, bme := true, eqHeld := [(strayRing, heldRecord)] } }

theorem strayHeld_init : strayHeld.sf (.QUE_X_STAT 10) F.QUE_X_STAT_STATE = 2 := by decide

theorem exec_creditInit_ends {s : State} {n : Nat} {sig : Bool} (hn : n < 20) (hperst : s.hif.perst = true)
    (hinit : s.sf (.QUE_X_STAT n) F.QUE_X_STAT_STATE = 2) : Does (.creditInit n sig) s (s.creditEnd n sig) := by
  unfold Does exec execCreditInit
  refine quiet_does ?_
  rw [if_neg (by simp [hperst, hn]), if_neg (by simp [hinit]), if_pos hinit]

/-- The messages that wait for their vectors reach no crossing. -/
theorem State.sf_msixFlush_crossing (s : State) (k : Nat) (g : Fld) : s.msixFlush.sf (.QUE_X_STAT k) g = s.sf (.QUE_X_STAT k) g := by
  unfold State.msixFlush
  refine List.foldlRecOn (motive := fun t : State => t.sf (.QUE_X_STAT k) g = s.sf (.QUE_X_STAT k) g) _ _ rfl fun t ht v hv => ?_
  have hpba : (Reg.QUE_X_STAT k).offset ≠ (Reg.MSIX_PBA (v / 32)).offset := by
    have hv := List.mem_range.1 hv
    simp only [Reg.offset]
    omega
  split
  · rw [State.sf_msix_other _ hpba, State.sf_setSf_other _ hpba, ht]
  · exact ht

/-- An event ring that is full drops an entry, and counts it in its status register (R51). -/
theorem State.eqWrite_full {s : State} {n : Nat}
    (h : (s.sf (.HIF_EQ_STAT n) F.HIF_EQ_STAT_TAIL + 1) % s.eqSize n = Tbl.get 0 s.hif.eqHead n) (r : Rec) :
    s.eqWrite n r = (s.bumpSat (.HIF_EQ_STAT n) F.HIF_EQ_STAT_LOST).raiseCause 3 := if_pos h

/-- A read of a framed state is a read of the state that it frames. -/
theorem State.framed_sf (s t : State) (r : Reg) (g : Fld) : (s.framed t).sf r g = t.sf r g := rfl

/-- `strayHeld` once crossing 10 is ACTIVE and the entry that was held is on its way. -/
def strayReleased : State :=
  let t := strayHeld.setSf (.QUE_X_STAT 10) F.QUE_X_STAT_STATE 0
  { t with hif := { t.hif with eqHeld := [] } }

/-- The entry is dropped, and its ring's count carries into the state of crossing 4. -/
theorem strayHeld_creditEnd : (strayHeld.creditEnd 10 true).sf (.QUE_X_STAT 4) F.QUE_X_STAT_STATE = 1 := by
  have hend : strayHeld.creditEnd 10 true = (strayReleased.eqWrite strayRing heldRecord).msixFlush := rfl
  rw [hend, State.sf_msixFlush_crossing, State.eqWrite_full (by decide), State.sf_raiseCause_other _ (by decide) (by decide)]
  decide

/-- Refutes O42: the claim that CREDIT_INIT leaves the other crossings as they are ranges over every list of held event ring entries. As
crossing 10 becomes ACTIVE, the entries held for host memory go out; where one is held for ring 114440, which the module does not have, that
ring drops it and counts it in LOST, and the count carries into STATE of crossing 4, which turns from ACTIVE to ISOLATED. -/
theorem not_ringProtectionFollowsItsMessages : ¬ Obligations.RingProtectionFollowsItsMessages := by
  unfold Obligations.RingProtectionFollowsItsMessages
  rintro ⟨-, -, -, -, hcredit, -⟩
  obtain ⟨t, ht, -, -, hothers⟩ := hcredit strayHeld 10 2 true (by decide) rfl strayHeld_init (Or.inr rfl)
  have hends : exec (.creditInit 10 true) strayHeld = .next (strayHeld.framed (strayHeld.creditEnd 10 true)) :=
    exec_creditInit_ends (by decide) rfl strayHeld_init
  obtain rfl : _ = t := Host.Outcome.next.inj (hends.symm.trans ht)
  have hsame := hothers 4 (by decide) (by decide)
  rw [State.framed_sf, strayHeld_creditEnd] at hsame
  exact absurd hsame (by decide)

end Sys2Proof.Machine
end

section
/-! PROOFS. What the module's own frames, the ends of items, the close of a rollover and the twin unit leave: the time unit (R266). -/
namespace Sys2Proof.Machine

section
variable (s : State)

/-! ## Frames of M (R237, R241, R262) -/

@[simp] theorem State.mgmtPort_tsu (p : Nat) (data : List Byte) : (s.mgmtPort p data).tsu = s.tsu := by
  unfold State.mgmtPort State.bump State.setQueue
  split
  · rfl
  · split <;> simp

@[simp] theorem State.ptpSend_tsu (d : Nat) (fields : List Nat) (kind p : Nat) : (s.ptpSend d fields kind p).tsu = s.tsu := by
  unfold State.ptpSend
  dsimp only
  rw [State.mgmtPort_tsu]
  split <;> rfl

@[simp] theorem State.ptpSends_tsu (d : Nat) (fields kinds ports : List Nat) : (s.ptpSends d fields kinds ports).tsu = s.tsu :=
  foldl_keeps (v := State.tsu) (fun t _ => foldl_keeps (v := State.tsu) (fun u _ => u.ptpSend_tsu _ _ _ _) _ t) _ s

theorem State.rapsTo_tsu (kind p : Nat) : (s.rapsTo kind p).tsu = s.tsu := State.mgmtPort_tsu _ _ _

theorem State.rapsTick_tsu : s.rapsTick.tsu = s.tsu := by
  unfold State.rapsTick
  split
  · rfl
  · split
    · rfl
    · dsimp only
      rw [State.rapsTo_tsu, State.rapsTo_tsu]
      rfl

theorem State.setDom_raw (d : Nat) (x : Dom) : (s.setDom d x).tsu.raw = s.tsu.raw := by
  unfold State.setDom
  split <;> rfl

/-- The messages that are due move the times at which a domain sends next, and not the counter. -/
theorem State.ptpDue_raw (d : Nat) : (s.ptpDue d).tsu.raw = s.tsu.raw := by
  have hsend : ∀ (t : State) fields kinds ports x, ((t.ptpSends d fields kinds ports).setDom d x).tsu.raw = t.tsu.raw :=
    fun t fields kinds ports x => (State.setDom_raw _ d x).trans (congrArg Tsu.raw (t.ptpSends_tsu d fields kinds ports))
  unfold State.ptpDue
  split
  · rfl
  · extract_lets now masters _ s1 _ s2 asks
    have hs1 : s1.tsu.raw = s.tsu.raw := by
      unfold s1
      split
      · exact hsend s _ _ _ _
      · rfl
    have hs2 : s2.tsu.raw = s.tsu.raw := by
      unfold s2
      split
      · exact (hsend s1 _ _ _ _).trans hs1
      · exact hs1
    split
    · exact (hsend s2 _ _ _ _).trans hs2
    · exact hs2

theorem State.ptpTick_raw : s.ptpTick.tsu.raw = s.tsu.raw := ((s.ptpDue 0).ptpDue_raw 1).trans (s.ptpDue_raw 0)

/-! ## The ends of items, and the close of a rollover (R155, R203) -/

@[simp] theorem State.finish_tsu (d : Desc) (a : Answer) : (s.finish d a).tsu = s.tsu := congrArg (fun u => u.tsu) (s.finish_inside d a)

theorem State.checkRun_tsu (r : Nat) : (s.checkRun r).tsu = s.tsu := by
  unfold State.checkRun
  split
  · rfl
  · split
    · rfl
    · dsimp only
      split
      · rfl
      · split
        · exact State.finish_tsu _ _ _
        · rfl

theorem State.endItem_tsu (it : Item) (st det : Nat) : (s.endItem it st det).tsu = s.tsu := by
  unfold State.endItem
  extract_lets _ _ s1 s2
  have hs2 : s2.tsu = s.tsu := by
    unfold s2
    split
    · rfl
    · split
      · exact State.finish_tsu _ _ _
      · rfl
  split
  · exact hs2
  · rw [State.checkRun_tsu]
    split <;> exact hs2

theorem State.endItems_tsu (i st det : Nat) : (s.endItems i st det).tsu = s.tsu := by
  unfold State.endItems
  refine foldl_keeps (fun u t => ?_) _ _
  split
  · exact u.endItem_tsu _ _ _
  · rfl

theorem State.unbind_tsu (i : Nat) : (s.unbind i).tsu = s.tsu := (State.endItems_tsu _ i _ _).trans rfl

theorem State.closeStall_tsu (i e : Nat) : (s.closeStall i e).tsu = s.tsu := by
  unfold State.closeStall
  dsimp only
  split
  · exact s.unbind_tsu i
  · split <;> split <;> rfl

theorem State.rollFinish_tsu : s.rollFinish.tsu = s.tsu := by
  have hpads : s.padsClosed.tsu = s.tsu :=
    foldl_keeps (v := State.tsu) (g := State.closePad (s.roll.epoch % 256) s.roll.restarted) (fun _ _ => rfl) _ s
  have hstalls : s.stallsClosed.tsu = s.epochTurned.tsu := foldl_keeps (v := State.tsu) (fun t i => t.closeStall_tsu i _) _ _
  obtain ⟨items, jobs, args, stragglers, heq⟩ := s.rollFinish_eq
  rw [heq]
  exact hstalls.trans hpads

theorem State.rollIdle_tsu : s.rollIdle.tsu = s.tsu := by
  unfold State.rollIdle State.rollBoundary
  split
  · rfl
  · split
    · exact s.rollFinish_tsu
    · rfl

/-! ## The twin unit (R349, R358, R359, R363) -/

@[simp] theorem State.modTwn_tsu (f : Twn → Twn) : (s.modTwn f).tsu = s.tsu := rfl

@[simp] theorem State.laneSend_tsu (body : TwinBody) : (s.laneSend body).tsu = s.tsu := by
  unfold State.laneSend
  split <;> rfl

theorem State.laneBeat_tsu : s.laneBeat.tsu = s.tsu := by
  unfold State.laneBeat
  split
  · rfl
  · exact s.laneSend_tsu _

@[simp] theorem State.refreshSync_tsu : s.refreshSync.tsu = s.tsu := by
  unfold State.refreshSync
  dsimp only
  split
  · rfl
  · split <;> rfl

@[simp] theorem State.refreshHealth_tsu : s.refreshHealth.tsu = s.tsu := by
  unfold State.refreshHealth
  dsimp only
  split <;> rfl

theorem State.refreshTwin_tsu : s.refreshTwin.tsu = s.tsu := by
  unfold State.refreshTwin
  split
  · rfl
  · simp

@[simp] theorem State.sendRecords_tsu (l : List MirrorRec) : (s.sendRecords l).tsu = s.tsu := by
  unfold State.sendRecords State.showLag
  split
  · rfl
  · simp

theorem State.mirrorFlush_tsu : s.mirrorFlush.tsu = s.tsu := by
  unfold State.mirrorFlush
  split
  · dsimp only
    split <;> simp
  · rfl

end

end Sys2Proof.Machine
end

section
/-! PROOFS. O2: a step with no command waiting (R266). -/
namespace Sys2Proof.Machine

/-- What is attended to at a tick leaves the counter as the tick has left it. -/
theorem State.idle_raw (s : State) : s.idle.tsu.raw = (s.tsu.raw + 1) % 2 ^ 64 := by
  have hjudge : ∀ t : State, t.judge.tsu = t.tsu := fun t => congrArg (·.1) t.judge_dutyPace
  unfold State.idle
  dsimp only
  rw [State.laneBeat_tsu, State.mirrorFlush_tsu, State.refreshTwin_tsu, State.rollIdle_tsu, hjudge, State.rapsTick_tsu,
    State.ptpTick_raw, State.elapse_raw]

/-- Settles O2: the tick counts one, and nothing that follows within the step moves the counter again. -/
theorem idleStepCountsOneTick : Obligations.IdleStepCountsOneTick := by
  unfold Obligations.IdleStepCountsOneTick
  intro s hempty
  obtain ⟨hcfg, hpending⟩ : s.idle.cfg = s.cfg ∧ s.idle.pending = s.pending := by unfold State.idle; exact ⟨rfl, rfl⟩
  refine ⟨?_, s.idle_raw, hcfg, hpending.trans hempty⟩
  unfold step
  rw [hempty]

end Sys2Proof.Machine
end

section
/-! PROOFS. What the end of a descriptor leaves of the module's registers: all but those of the interrupts, the completion rings, the
fabric and the queues (R27, R35, R239, R244, R248). -/
namespace Sys2Proof.Machine

/-- A register in one of the ranges that the end of a descriptor writes in: HIF and the vector table, the common registers of SWX, and
QUE. -/
abbrev Reg.posted (r : Reg) : Prop := r.offset < 0xA000 ∨ (0x40000 ≤ r.offset ∧ r.offset < 0x41000) ∨ 0x380000 ≤ r.offset

/-- What the module's registers outside those ranges hold. -/
def State.unposted (s : State) (r : { r : Reg // ¬ r.posted }) : BitVec 32 := s.sts.get r

section
variable (s : State)

/-! ## Completions -/

theorem State.setSf_unposted {r : Reg} (hr : r.posted) (f : Fld) (v : Nat) : (s.setSf r f v).unposted = s.unposted :=
  funext fun q => RegFile.get_put_other _ _ fun heq => q.2 (by unfold Reg.posted; rw [heq]; exact hr)

theorem State.msix_unposted {v : Nat} (hv : v < 2048) : (s.msix v).unposted = s.unposted := by
  unfold State.msix
  split
  · exact s.setSf_unposted (by simp only [Reg.posted, Reg.offset]; omega) _ _
  · rfl

theorem State.poisonQueue_unposted (k off : Nat) : (s.poisonQueue k off).unposted = s.unposted := by
  unfold State.poisonQueue State.bump
  extract_lets t
  have ht : t.unposted = s.unposted := (State.setSf_unposted _ (by decide) _ _).trans (s.setSf_unposted (by decide) _ _)
  split <;> exact ht

theorem State.postRead_unposted (n : Nat) (e : CEnt) : (s.postRead n e).2.unposted = s.unposted := by
  unfold State.postRead
  split
  · rfl
  · exact s.poisonQueue_unposted _ _

theorem State.cqSignal_unposted (n : Nat) : (s.cqSignal n).unposted = s.unposted := by
  unfold State.cqSignal
  extract_lets _ t v
  split
  · rfl
  · exact t.msix_unposted (lt_of_lt_of_le (Fld.get_lt _ _) (by decide))

theorem State.cqWrite_unposted {n : Nat} (hn : n < 64) (e : CEnt) : (s.cqWrite n e).unposted = s.unposted := by
  have hstat : (Reg.HIF_CQ_STAT n).posted := by simp only [Reg.posted, Reg.offset]; omega
  unfold State.cqWrite
  extract_lets tail phase w u s1 next s2 unsig _ s3 s4
  have hs2 : s2.unposted = s.unposted := (s1.setSf_unposted hstat _ _).trans (s.postRead_unposted n e)
  have hs4 : s4.unposted = s.unposted := (s3.setSf_unposted hstat _ _).trans hs2
  split
  · exact (s4.cqSignal_unposted n).trans hs4
  · exact hs4

theorem State.cqData_unposted (e : CEnt) : (s.cqData e).unposted = s.unposted := by
  unfold State.cqData
  split <;> rfl

theorem State.postC_unposted (e : CEnt) : (s.postC e).unposted = s.unposted := by
  unfold State.postC
  split
  · split
    · exact s.cqData_unposted e
    · exact (State.cqWrite_unposted _ (lt_of_lt_of_le (Fld.get_lt _ _) (by decide)) e).trans (s.cqData_unposted e)
  · rfl

theorem State.finishRing_unposted (n : Nat) (d : Desc) (a : Answer) : (s.finishRing n d a).unposted = s.unposted := by
  unfold State.finishRing
  extract_lets e s1 s2
  have hs2 : s2.unposted = s.unposted := by
    unfold s2
    split <;> rfl
  split
  · exact hs2
  · exact (s2.postC_unposted e).trans hs2

/-! ## The reply to a sealed command -/

theorem State.setQueue_unposted (k : Nat) (l : List EgFrame) : (s.setQueue k l).unposted = s.unposted := by
  have hstat : (Reg.QUE_STAT k).posted := by simp only [Reg.posted, Reg.offset]; omega
  unfold State.setQueue
  exact (State.setSf_unposted _ (by decide) _ _).trans ((State.setSf_unposted _ (by decide) _ _).trans (State.setSf_unposted _ hstat _ _))

theorem State.hostFrame_unposted (f : EgFrame) (tc : Nat) : (s.hostFrame f tc).unposted = s.unposted := by
  unfold State.hostFrame State.bumpSat
  extract_lets t
  have ht : t.unposted = s.unposted := by
    unfold t
    split
    · exact s.poisonQueue_unposted _ _
    · rfl
  split <;> exact (State.setSf_unposted _ (by decide) _ _).trans ht

theorem State.hostDrain_unposted : s.hostDrain.unposted = s.unposted := by
  unfold State.hostDrain
  refine foldl_keeps (v := State.unposted) (fun t tc => ?_) _ _
  split
  · rfl
  · exact (foldl_keeps (v := State.unposted) (fun u f => u.hostFrame_unposted f tc) _ _).trans (t.setQueue_unposted _ _)

theorem State.sendCopy_unposted (fid vid tc untag dest : Nat) (f : InFrame) :
    (s.sendCopy fid vid tc untag dest f).1.unposted = s.unposted := by
  unfold State.sendCopy
  dsimp only
  split
  · rfl
  · exact s.setQueue_unposted _ _

theorem State.forward_unposted (p vid tc : Nat) (f : InFrame) : (s.forward p vid tc f).1.unposted = s.unposted := by
  unfold State.forward
  split
  · rfl
  · dsimp only
    rw [State.hostDrain_unposted]
    exact foldl_keeps (v := fun a : State × Nat => a.1.unposted) (fun a d => a.1.sendCopy_unposted _ _ _ _ _ _) _ _

theorem State.sealedReply_unposted (ip : Nat) : (s.sealedReply ip).unposted = s.unposted := by
  unfold State.sealedReply State.mgmtSend State.bump
  dsimp only
  split
  · rfl
  · split
    · exact (State.setSf_unposted _ (by decide) _ _).trans (State.forward_unposted _ _ _ _ _)
    · exact State.forward_unposted _ _ _ _ _

/-- The end of a descriptor writes within those ranges alone. -/
theorem State.finish_unposted (d : Desc) (a : Answer) : (s.finish d a).unposted = s.unposted := by
  unfold State.finish
  split
  · exact s.finishRing_unposted _ _ _
  · dsimp only
    split
    · split
      · exact State.finishRing_unposted _ _ _ _
      · rfl
    · rfl
  · exact (State.sealedReply_unposted _ _).trans rfl

theorem State.finish_sf {r : Reg} (hr : ¬ r.posted) (d : Desc) (a : Answer) (f : Fld) : (s.finish d a).sf r f = s.sf r f :=
  congrArg f.get (congrFun (s.finish_unposted d a) ⟨r, hr⟩)

end

end Sys2Proof.Machine
end

section
/-! PROOFS. O47: reading and controlling the time (R278, R280, R283 to R286). -/
namespace Sys2Proof.Machine

section
variable {s : State} {d e : Desc} {read : HostRead}

/-! ## TIME_READ (R284) -/

theorem State.domRecord_length (s : State) (k : Nat) : (s.domRecord k).length = 20 := by
  simp only [State.domRecord, List.length_append, List.length_reverse, length_le]

theorem State.timeRecord_length (s : State) : s.timeRecord.length = 64 := by
  have hzeros : ∀ n, (zeros n).length = n := fun n => List.length_replicate
  have hlast : (if s.compatOn then le 10 s.tsu.compat ++ zeros 10 else s.domRecord 1).length = 20 := by
    split
    · rw [List.length_append, length_le, hzeros]
    · exact s.domRecord_length 1
  simp only [State.timeRecord, List.length_append, length_le, State.domRecord_length, hzeros, hlast]

/-! ## TIME_CTL (R285) -/

theorem exec_timeCtlSelect (h : s.serves d 0x43) (he : d.seen s read = some e) (hok : timeCtlOk e = true) (hact : timeAction e = 0) :
    Does (.timeCtlSelect d.did read) s (
      if s.compatOn = true then (s.holding e).fail e stERR_ARG
      else if timeDomain e = s.act then (s.holding e).ok e
      else if s.domState (timeDomain e) ≠ dSYNCED then (s.holding e).fail e stBUSY
      else ((s.holding e).switchTo (timeDomain e)).ok e) := by
  refine Does.of_served_in rfl h he (fun _ _ => rfl) (by simp [hact]) ?_
  simp only [hok, Bool.true_eq_false, false_or]
  rfl

theorem exec_timeCtlStep (h : s.serves d 0x43) (he : d.seen s read = some e) (hok : timeCtlOk e = true) (hact : timeAction e = 1) :
    Does (.timeCtlStep d.did read) s (
      if s.servoHolds (timeDomain e) then (s.holding e).fail e stBUSY
      else if s.compatOn then ((s.holding e).stepNs (timeDomain e) (s.tsu.compat + timeValue e * 2 ^ 16)).ok e
      else ((s.holding e).stepDom (timeDomain e) (timeValue e) 1).ok e) :=
  Does.of_served_in rfl h he (fun _ _ => rfl) (by simp [hact]) (if_neg (ne_false_of_eq_true hok))

theorem exec_timeCtlSet (h : s.serves d 0x43) (he : d.seen s read = some e) (hok : timeCtlOk e = true) (hact : timeAction e = 2)
    (hfree : s.servoHolds (timeDomain e) = false) (hcompat : s.compatOn = false) :
    Does (.timeCtlSet d.did read) s (
      if secT < (wrap64 ((timeRaw e : Int) - e.at_)).natAbs then (s.holding e).fail e stERR_ARG
      else ((s.holding e).stepDom (timeDomain e) (timeValue e - domTime (s.dom (timeDomain e)) (timeRaw e)) 1).ok e) :=
  Does.of_served_in rfl h he (fun _ _ => rfl) (by simp [hact]) ((if_neg (ne_false_of_eq_true hok)).trans
    ((if_neg (ne_true_of_eq_false hfree)).trans (if_neg (ne_true_of_eq_false hcompat))))

theorem exec_timeCtlDisable (h : s.serves d 0x43) (he : d.seen s read = some e) (hok : timeCtlOk e = true) (hact : timeAction e = 3)
    (hon : s.domState (timeDomain e) ≠ dDISABLED) : Does (.timeCtlDisable d.did read) s (
      if timeDomain e = s.act then (s.holding e).fail e stERR_ARG else ((s.holding e).changeDom (timeDomain e) dDISABLED).ok e) :=
  Does.of_served_in rfl h he (fun _ _ => rfl) (by simp [hact]) ((if_neg (ne_false_of_eq_true hok)).trans (if_neg hon))

theorem exec_timeCtlEnable (h : s.serves d 0x43) (he : d.seen s read = some e) (hok : timeCtlOk e = true) (hact : timeAction e = 4)
    (hcompat : s.compatOn = false) (hoff : s.domState (timeDomain e) = dDISABLED) :
    Does (.timeCtlEnable d.did read) s (((s.holding e).changeDom (timeDomain e) dLISTENING).ok e) := by
  refine Does.of_served_in rfl h he (fun _ _ => rfl) (by simp [hact]) ((if_neg ?_).trans (if_pos hoff))
  rintro (hno | ⟨hyes, -⟩)
  · exact absurd hok (ne_true_of_eq_false hno)
  · exact absurd hyes (ne_true_of_eq_false hcompat)

/-! ## TS_READ (R280) -/

/-- What taking entries leaves of a port's queue, and of the register that shows it. -/
theorem State.tsqTake_reads (s : State) (p n : Nat) (hshort : (Tbl.get [] s.tsu.tsq p).length ≤ 64) :
    Tbl.get [] (s.tsqTake p n).tsu.tsq p = (Tbl.get [] s.tsu.tsq p).drop n
      ∧ (s.tsqTake p n).sf (.TSU_PORT_TSQ p) F.TSU_PORT_TSQ_LEVEL = (Tbl.get [] s.tsu.tsq p).length - n
      ∧ (s.tsqTake p n).sf (.TSU_PORT_TSQ p) F.TSU_PORT_TSQ_LOST = 0
      ∧ (s.tsqTake p n).sf (.TSU_PORT_TSQ p) F.TSU_PORT_TSQ_OVF = 0 := by
  unfold State.tsqTake
  refine ⟨?queue, ?level, ?lost, ?ovf⟩
  case queue => exact Tbl.get_put_same _ _ _ _
  case level =>
    rw [State.sf_setSf_apart _ _ (by decide) (by decide) (by decide), State.sf_setSf_apart _ _ (by decide) (by decide) (by decide),
      State.sf_setSf_same _ _ (by decide), List.length_drop]
    exact Nat.mod_eq_of_lt (by simp only; omega)
  case lost =>
    rw [State.sf_setSf_apart _ _ (by decide) (by decide) (by decide), State.sf_setSf_same _ _ (by decide)]
    rfl
  case ovf => rw [State.sf_setSf_same _ _ (by decide)]; rfl

/-- What TS_READ of one port answers with the oldest `n` entries of its queue. -/
def State.tsAnswer (s : State) (p n : Nat) : Answer :=
  { status := stOK
    result := n + 65536 * min 0xFFFF (s.sf (.TSU_PORT_TSQ p) F.TSU_PORT_TSQ_LOST)
      + 2 ^ 32 * b2n (s.sf (.TSU_PORT_TSQ p) F.TSU_PORT_TSQ_OVF == 1)
    data := (((Tbl.get [] s.tsu.tsq p).take n).map TsEnt.bytes).flatten
    trunc := decide (n < (Tbl.get [] s.tsu.tsq p).length) }

/-- TS_READ of one port takes as many of its entries as the buffer holds, and answers with them. -/
theorem exec_tsRead_port {p n : Nat} (h : s.serves d 0x41) (hport : d.target = p) (hp : p < 3) (hlen : d.len ≠ 0) (hall : d.pByte 0 = 0)
    (hshort : (Tbl.get [] s.tsu.tsq p).length ≤ 64) (hn : n = min (Tbl.get [] s.tsu.tsq p).length (d.len / 24)) :
    Does (.tsRead d.did) s (((s.holding d.taken).tsqTake p n).finish d.taken ((s.holding d.taken).tsAnswer p n)) := by
  have hsel : bits d.taken.target 1 0 = p := by
    show d.target / 2 ^ 0 % 2 ^ 2 = p
    omega
  have hmost : d.taken.pByte 0 = 0 := hall
  have havail : min 64 (Tbl.get [] (s.holding d.taken).tsu.tsq p).length = (Tbl.get [] (s.holding d.taken).tsu.tsq p).length :=
    min_eq_right hshort
  have hfits : min (Tbl.get [] (s.holding d.taken).tsu.tsq p).length (d.taken.len / 24) = n := hn.symm
  have htakes : min n (Tbl.get [] (s.holding d.taken).tsu.tsq p).length = n := by
    rw [hn]
    exact min_eq_left (min_le_left _ _)
  refine Does.of_served rfl h rfl ((if_neg ?args).trans ?taken)
  case args =>
    show ¬ (d.len = 0 ∨ d.target / 4 ≠ 0 ∨ 64 < if d.pByte 0 = 0 then 64 else d.pByte 0)
    rw [if_pos hall]
    omega
  case taken =>
    have hone : ¬ p = 3 := by omega
    simp only [hsel, hone, hmost, if_true, if_false, List.flatMap_cons, List.flatMap_nil, List.append_nil, List.foldl_cons,
      List.foldl_nil, List.map_cons, List.map_nil, List.any_cons, List.any_nil, Bool.or_false, Nat.zero_add, havail, hfits, htakes]
    rfl

end

/-- Settles O47: each operation passes its checks, and its operands choose one branch of its body; of what TS_READ leaves of its port's
queue the answer's end takes nothing. -/
theorem timeIsReadAndControlled : Obligations.TimeIsReadAndControlled := by
  unfold Obligations.TimeIsReadAndControlled
  refine ⟨?time, ?pps, ?record, ?control, ?stamps⟩
  case time =>
    rintro s l rfl
    exact ⟨rfl, rfl⟩
  case pps => exact fun s => ⟨rfl, rfl⟩
  case record =>
    exact fun s d h => ⟨fun hlen => ⟨Does.of_served rfl h rfl (if_neg (Nat.not_lt.2 hlen)), s.timeRecord_length⟩,
      fun hlen => Does.of_served rfl h rfl (if_pos hlen)⟩
  case control =>
    rintro s d e read k h he hok rfl
    refine ⟨fun hact hcompat => ?_, fun hact hcompat hk => ?_, fun hact hcompat hk => ⟨fun hst => ?_, fun hst => ?_⟩,
      fun hact => ⟨fun hhold => ?_, fun hfree hcompat => ?_, fun hfree hcompat => ?_⟩,
      fun hact hfree hcompat => ⟨fun hnear => ?_, fun hfar => ?_⟩, fun hact hon => ⟨fun hk => ?_, fun hk => ?_⟩,
      fun hact hcompat hoff => exec_timeCtlEnable h he hok hact hcompat hoff⟩
    · simpa [hcompat] using exec_timeCtlSelect h he hok hact
    · simpa [hcompat, hk] using exec_timeCtlSelect h he hok hact
    · simpa [hcompat, hk, hst] using exec_timeCtlSelect h he hok hact
    · simpa [hcompat, hk, hst] using exec_timeCtlSelect h he hok hact
    · simpa [hhold] using exec_timeCtlStep h he hok hact
    · simpa [hfree, hcompat] using exec_timeCtlStep h he hok hact
    · simpa [hfree, hcompat] using exec_timeCtlStep h he hok hact
    · simpa [Nat.not_lt.2 hnear] using exec_timeCtlSet h he hok hact hfree hcompat
    · simpa [hfar] using exec_timeCtlSet h he hok hact hfree hcompat
    · simpa [hk] using exec_timeCtlDisable h he hok hact hon
    · simpa [hk] using exec_timeCtlDisable h he hok hact hon
  case stamps =>
    intro s d p n h hport hp hlen hall hshort hn
    have hrun := exec_tsRead_port h hport hp hlen hall hshort hn
    obtain ⟨hqueue, hlevel, hlost, hovf⟩ := (s.holding d.taken).tsqTake_reads p n hshort
    have hreg : ¬ (Reg.TSU_PORT_TSQ p).posted := by simp only [Reg.posted, Reg.offset]; omega
    refine ⟨_, hrun, ?_, ?_, ?_, ?_, rfl⟩
    · exact (congrArg (fun u => Tbl.get [] u.tsq p) (State.finish_tsu _ _ _)).trans hqueue
    · exact (State.finish_sf _ hreg _ _ _).trans hlevel
    · exact (State.finish_sf _ hreg _ _ _).trans hlost
    · exact (State.finish_sf _ hreg _ _ _).trans hovf

end Sys2Proof.Machine
end

section
/-! PROOFS. The time of a domain as arithmetic: the fold, and the ticks until an instant (R6, R267, R268, R270). -/
namespace Sys2Proof.Machine

/-! ## Numbers of 64 bits (R267) -/

theorem wrap64_eq_bmod (i : Int) : wrap64 i = i.bmod (2 ^ 64) := by
  have hpos : (0 : Int) ≤ i % (2 ^ 64 : Nat) := Int.emod_nonneg _ (by decide)
  unfold wrap64 signed twos
  rw [Int.bmod_def, Int.toNat_of_nonneg hpos]
  split <;> split <;> omega

theorem wrap64_of_range {i : Int} (hlo : -2 ^ 63 ≤ i) (hhi : i < 2 ^ 63) : wrap64 i = i := by
  rw [wrap64_eq_bmod]
  exact Int.bmod_eq_of_le_mul_two (by omega) (by omega)

theorem wrap64_add_wrap64 (a b : Int) : wrap64 (a + wrap64 b) = wrap64 (a + b) := by
  simp only [wrap64_eq_bmod, Int.add_bmod_bmod]

/-! ## A fold (R268) -/

/-- At the instant of a fold the new rate has gained nothing yet. -/
theorem Dom.gain_fold (d : Dom) (raw : Nat) (rate : Int) : (d.fold raw rate).gain raw = 0 := by
  have hnow : wrap64 ((raw : Int) - (d.fold raw rate).anchor) = 0 := by
    show wrap64 ((raw : Int) - raw) = 0
    rw [Int.sub_self]
    rfl
  unfold Dom.gain
  rw [hnow, Int.mul_zero, Int.zero_ediv]

theorem domTime_fold (d : Dom) (raw : Nat) (rate : Int) : domTime (d.fold raw rate) raw = domTime d raw := by
  have hoffset : (d.fold raw rate).offset = wrap64 (d.offset + d.gain raw) := rfl
  unfold domTime
  rw [Dom.gain_fold, hoffset, Int.add_zero, wrap64_add_wrap64, Int.add_assoc]

theorem Dom.fold_rate (d : Dom) (raw : Nat) (rate : Int) : -rateMax ≤ (d.fold raw rate).rate ∧ (d.fold raw rate).rate ≤ rateMax := by
  unfold Dom.fold
  dsimp only
  split
  · exact ⟨Int.le_refl _, by decide⟩
  · split
    · exact ⟨by decide, Int.le_refl _⟩
    · exact ⟨Int.not_lt.1 ‹_›, Int.not_lt.1 ‹_›⟩

/-! ## Instants of a domain's time (R267) -/

/-- A domain whose rate and offset stand within their ranges: until the raw counter stands at 2^62 its time does not wrap. -/
structure Dom.tame (d : Dom) : Prop where
  rate_ge : -rateMax ≤ d.rate
  rate_le : d.rate ≤ rateMax
  offset_lt : d.offset.natAbs < 2 ^ 61

section
variable {d : Dom} (h : d.tame) {r : Nat} (hanchor : d.anchor ≤ r) (hr : r < 2 ^ 62)
include h hanchor hr

/-- The gain since the anchor stays below 2^52 ticks. -/
theorem Dom.gain_eq : d.gain r = d.rate * ((r : Int) - d.anchor) / 2 ^ 40 ∧ -2 ^ 52 ≤ d.gain r ∧ d.gain r < 2 ^ 52 := by
  obtain ⟨hlo, hhi, -⟩ := h
  unfold rateMax at hlo hhi
  have hspan : wrap64 ((r : Int) - d.anchor) = (r : Int) - d.anchor := wrap64_of_range (by omega) (by omega)
  have hgain : d.gain r = d.rate * ((r : Int) - d.anchor) / 2 ^ 40 := by
    unfold Dom.gain
    rw [hspan]
  obtain ⟨x, hx⟩ : ∃ x : Int, x = (r : Int) - d.anchor := ⟨_, rfl⟩
  have hx0 : 0 ≤ x := by omega
  have hx1 : x ≤ 2 ^ 62 - 1 := by omega
  refine ⟨hgain, ?_, ?_⟩
  · rw [hgain, ← hx, Int.le_ediv_iff_mul_le (by decide)]
    nlinarith
  · rw [hgain, ← hx, Int.ediv_lt_iff_lt_mul (by decide)]
    nlinarith

theorem domTime_eq : domTime d r = r + d.offset + d.rate * ((r : Int) - d.anchor) / 2 ^ 40 := by
  obtain ⟨hgain, hlo, hhi⟩ := Dom.gain_eq h hanchor hr
  have hoffset := h.offset_lt
  rw [← hgain]
  exact wrap64_of_range (by omega) (by omega)

/-- A domain's time has reached `t` exactly where the raw counter has reached the quotient of `domWait`. -/
theorem le_domTime_iff (t : Int) :
    t ≤ domTime d r ↔ -(-((t - d.offset) * 2 ^ 40 + d.rate * d.anchor) / (2 ^ 40 + d.rate)) ≤ (r : Int) := by
  have hslope : 0 < 2 ^ 40 + d.rate := by
    have := h.rate_ge
    unfold rateMax at this
    omega
  calc t ≤ domTime d r
      ↔ t - r - d.offset ≤ d.rate * ((r : Int) - d.anchor) / 2 ^ 40 := by
        rw [domTime_eq h hanchor hr]
        constructor <;> intro <;> omega
    _ ↔ (t - r - d.offset) * 2 ^ 40 ≤ d.rate * ((r : Int) - d.anchor) := Int.le_ediv_iff_mul_le (by decide)
    _ ↔ -(r : Int) * (2 ^ 40 + d.rate) ≤ -((t - d.offset) * 2 ^ 40 + d.rate * d.anchor) := by
        constructor <;> intro <;> linarith
    _ ↔ -(r : Int) ≤ -((t - d.offset) * 2 ^ 40 + d.rate * d.anchor) / (2 ^ 40 + d.rate) := (Int.le_ediv_iff_mul_le hslope).symm
    _ ↔ _ := neg_le

end

/-- `domWait` is the fewest raw ticks after which a domain's time stands at `t`. -/
theorem domWait_le_iff {d : Dom} (h : d.tame) {raw n : Nat} (hanchor : d.anchor ≤ raw) (hn : raw + n < 2 ^ 62) (t : Int) :
    domWait d raw t ≤ n ↔ t ≤ domTime d (raw + n) := by
  have hrate : ¬ d.rate ≤ -(2 ^ 40) := by
    have := h.rate_ge
    unfold rateMax at this
    omega
  rw [le_domTime_iff h (Nat.le_add_right_of_le hanchor) hn]
  unfold domWait
  rw [if_neg hrate]
  omega

/-! ## Instants of output time (R270) -/

section
variable {s : State} (hcompat : s.compatOn = false)
include hcompat

theorem State.outputTime_eq : s.outputTime = domTime (s.dom s.act) s.tsu.raw + s.tsu.res := by
  unfold State.outputTime State.domNow
  rw [hcompat]
  rfl

/-- The output time once `n` ticks have passed is that of the active domain then, with the residue. -/
theorem State.outputTime_elapse {n : Nat} (hn : s.tsu.raw + n < 2 ^ 62) :
    (s.elapse n).outputTime = domTime (s.dom s.act) (s.tsu.raw + n) + s.tsu.res := by
  have hraw : (s.elapse n).tsu.raw = s.tsu.raw + n := (s.elapse_raw n).trans (Nat.mod_eq_of_lt (by omega))
  rw [State.outputTime_eq (s := s.elapse n) hcompat, hraw]
  rfl

/-- `outWait` is the fewest ticks after which the output time stands at `t`. -/
theorem State.outWait_le_iff {n : Nat} (h : (s.dom s.act).tame) (hanchor : (s.dom s.act).anchor ≤ s.tsu.raw)
    (hn : s.tsu.raw + n < 2 ^ 62) (t : Int) : s.outWait t ≤ n ↔ t ≤ (s.elapse n).outputTime := by
  have hwait : s.outWait t = domWait (s.dom s.act) s.tsu.raw (t - s.tsu.res) := by
    unfold State.outWait
    rw [hcompat]
    rfl
  rw [hwait, domWait_le_iff h hanchor hn, State.outputTime_elapse hcompat hn]
  constructor <;> intro <;> omega

end

end Sys2Proof.Machine
end

section
/-! PROOFS. The states of the domains, the switch of the output time, and its slew (R269 to R272, R274). -/
namespace Sys2Proof.Machine

/-! ## The domains -/

section
variable (s : State) (d : Nat) (x : Dom)

@[simp] theorem State.setDom_sts : (s.setDom d x).sts = s.sts := by unfold State.setDom; split <;> rfl
@[simp] theorem State.setDom_cfg : (s.setDom d x).cfg = s.cfg := by unfold State.setDom; split <;> rfl

@[simp] theorem State.dom_setDom_same : (s.setDom d x).dom d = x := by
  unfold State.setDom State.dom
  split <;> rfl

theorem State.domState_setDom (k : Nat) : (s.setDom d x).domState k = s.domState k :=
  congrArg (fun l : RegFile => F.TSU_DOM_STAT_STATE.get (l.get (.TSU_DOM_STAT k))) (s.setDom_sts d x)

end

/-- The host-written fields, what no register shows of the domains, and the states of the domains. -/
def State.domView (s : State) : RegFile × Dom × Dom × (Nat → Nat) := (s.cfg, s.tsu.domA, s.tsu.domB, s.domState)

section
variable {s t : State}

theorem State.cfg_of_domView (h : t.domView = s.domView) : t.cfg = s.cfg := congrArg (·.1) h
theorem State.domState_of_domView (h : t.domView = s.domView) (k : Nat) : t.domState k = s.domState k :=
  congrArg (fun v => v.2.2.2 k) h
theorem State.dom_of_domView (h : t.domView = s.domView) (k : Nat) : t.dom k = s.dom k :=
  congrArg (fun v : RegFile × Dom × Dom × (Nat → Nat) => if k = 0 then v.2.1 else v.2.2.1) h

end

section
variable (s : State) (d : Nat)

theorem State.setSf_domView {r : Reg} (hr : ∀ k, (Reg.TSU_DOM_STAT k).offset ≠ r.offset) (f : Fld) (v : Nat) :
    (s.setSf r f v).domView = s.domView := by
  have hstates : (s.setSf r f v).domState = s.domState := funext fun k => s.sf_setSf_other (hr k) _ _ _
  unfold State.domView
  rw [hstates]
  rfl

theorem Reg.domStat_ne_stat (k : Nat) : (Reg.TSU_DOM_STAT k).offset ≠ Reg.TSU_STAT.offset := by
  simp only [Reg.offset]
  omega

theorem Reg.domStat_ne_evt (k : Nat) : (Reg.TSU_DOM_STAT k).offset ≠ Reg.TSU_EVT.offset := by
  simp only [Reg.offset]
  omega

theorem State.event_domView (f i c v : Nat) (a : List Nat) : (s.event f i c v a).domView = s.domView := rfl

/-- TSU_STAT follows what it shows. -/
theorem State.tsuRefresh_domView : s.tsuRefresh.domView = s.domView := by
  unfold State.tsuRefresh
  dsimp only
  simp only [State.setSf_domView _ Reg.domStat_ne_stat]

theorem State.noteStep_domView (v : Int) (cause : Nat) : (s.noteStep d v cause).domView = s.domView := by
  have hsteps : (s.bumpSat (.TSU_DOM_STAT d) F.TSU_DOM_STAT_STEPS).domView = s.domView := by
    have hstates : (s.bumpSat (.TSU_DOM_STAT d) F.TSU_DOM_STAT_STEPS).domState = s.domState := funext fun k => by
      by_cases hk : k = d
      · exact hk ▸ s.sf_setSf_apart _ (by decide) (by decide) (by decide) _
      · refine s.sf_bumpSat_other ?_ _ _ _
        simp only [Reg.offset]
        omega
    unfold State.domView
    rw [hstates]
    rfl
  unfold State.noteStep
  rw [State.event_domView, State.setSf_domView _ Reg.domStat_ne_evt, hsteps]

theorem State.stepPasses_domView (old : Int) : (s.stepPasses old).domView = s.domView := rfl

/-- A switch reaches neither a domain nor its state. -/
theorem State.switchTo_domView : (s.switchTo d).domView = s.domView := by
  unfold State.switchTo
  extract_lets old res slews s1 _ s2 s3
  have hs3 : s3.domView = s.domView := by
    have hs2 : s2.domView = s.domView := s.setSf_domView Reg.domStat_ne_stat _ _
    unfold s3
    rw [State.tsuRefresh_domView, State.event_domView, State.setSf_domView _ Reg.domStat_ne_evt, hs2]
  split
  · exact hs3
  · rw [State.stepPasses_domView, State.noteStep_domView, hs3]

/-- What follows for the output time where a domain changes state reaches neither a domain nor its state. -/
theorem State.changeDom_domView (st : Nat) : (s.changeDom d st).domView = (s.setDomState d st).domView := by
  unfold State.changeDom
  extract_lets was s1 s2 other
  have hs2 : s2.domView = s1.domView := by
    unfold s2
    split
    · rw [State.event_domView, State.setSf_domView _ Reg.domStat_ne_evt]
    · split
      · rw [State.event_domView, State.setSf_domView _ Reg.domStat_ne_evt]
      · rfl
  split
  · rw [State.switchTo_domView, hs2]
  · split
    · rw [State.event_domView, hs2]
    · exact hs2

/-! ## A domain takes a state (R269, R284) -/

theorem State.setDomState_cfg (st : Nat) : (s.setDomState d st).cfg = s.cfg := by
  unfold State.setDomState
  dsimp only
  rw [State.cfg_of_domView (State.tsuRefresh_domView _)]
  split
  · exact State.setDom_cfg _ _ _
  · rfl

theorem State.domState_setDomState_same {st : Nat} (hst : st < 8) : (s.setDomState d st).domState d = st := by
  have hset : (s.setSf (.TSU_DOM_STAT d) F.TSU_DOM_STAT_STATE st).domState d = st :=
    (s.sf_setSf_same _ (by decide) st).trans (Nat.mod_eq_of_lt hst)
  unfold State.setDomState
  dsimp only
  rw [State.domState_of_domView (State.tsuRefresh_domView _)]
  split
  · rw [State.domState_setDom]
    exact (State.sf_setSf_apart _ _ (by decide) (by decide) (by decide) _).trans hset
  · exact hset

theorem State.domState_setDomState_other {k : Nat} (hk : k ≠ d) (st : Nat) : (s.setDomState d st).domState k = s.domState k := by
  have hreg : (Reg.TSU_DOM_STAT k).offset ≠ (Reg.TSU_DOM_STAT d).offset := by simp only [Reg.offset]; omega
  have hset : ∀ (t : State) f v, (t.setSf (.TSU_DOM_STAT d) f v).domState k = t.domState k := fun t f v => t.sf_setSf_other hreg _ _ _
  unfold State.setDomState
  dsimp only
  rw [State.domState_of_domView (State.tsuRefresh_domView _)]
  split
  · rw [State.domState_setDom, hset, hset]
  · exact hset _ _ _

/-- A state other than DISABLED and LISTENING leaves the domain's master. -/
theorem State.dom_setDomState {st : Nat} (hst : 1 < st) (k : Nat) : (s.setDomState d st).dom k = s.dom k := by
  unfold State.setDomState
  dsimp only
  rw [State.dom_of_domView (State.tsuRefresh_domView _), if_neg (Nat.not_le.2 hst)]
  rfl

/-! ## A domain changes state (R269, R270) -/

theorem State.changeDom_cfg (st : Nat) : (s.changeDom d st).cfg = s.cfg :=
  (State.cfg_of_domView (s.changeDom_domView d st)).trans (s.setDomState_cfg d st)

theorem State.domState_changeDom_same {st : Nat} (hst : st < 8) : (s.changeDom d st).domState d = st :=
  (State.domState_of_domView (s.changeDom_domView d st) d).trans (s.domState_setDomState_same d hst)

theorem State.domState_changeDom_other {k : Nat} (hk : k ≠ d) (st : Nat) : (s.changeDom d st).domState k = s.domState k :=
  (State.domState_of_domView (s.changeDom_domView d st) k).trans (s.domState_setDomState_other d hk st)

theorem State.dom_changeDom {st : Nat} (hst : 1 < st) (k : Nat) : (s.changeDom d st).dom k = s.dom k :=
  (State.dom_of_domView (s.changeDom_domView d st) k).trans (s.dom_setDomState d hst k)

/-! ## The switch (R271, R274) -/

theorem State.act_tsuRefresh : s.tsuRefresh.act = s.act := by
  have hset : ∀ (t : State) (g : Fld) (v : Nat), g.inWord → F.TSU_STAT_ACTIVE.apart g → (t.setSf .TSU_STAT g v).act = t.act :=
    fun t g v hg hapart => t.sf_setSf_apart _ (by decide) hg hapart v
  unfold State.tsuRefresh
  dsimp only
  rw [hset _ _ _ (by decide) (by decide), hset _ _ _ (by decide) (by decide), hset _ _ _ (by decide) (by decide),
    hset _ _ _ (by decide) (by decide), hset _ _ _ (by decide) (by decide)]

theorem State.sf_tsuRefresh_other {q : Reg} (hq : q.offset ≠ Reg.TSU_STAT.offset) (g : Fld) : s.tsuRefresh.sf q g = s.sf q g := by
  unfold State.tsuRefresh
  dsimp only
  simp only [State.sf_setSf_other _ hq]

/-- A switch without a step takes the difference of the two times as its residue. -/
theorem State.switchTo_slews (hd : d < 2) (hsynced : s.domState s.act = dSYNCED ∨ s.domState s.act = dHOLDOVER)
    (hnear : (s.outputTime - s.domNow d).natAbs ≤ 100 * msT) :
    (s.switchTo d).act = d ∧ (s.switchTo d).tsu.res = s.outputTime - s.domNow d ∧ (s.switchTo d).tsu.raw = s.tsu.raw
      ∧ (s.switchTo d).sf .TSU_EVT F.TSU_EVT_SWITCH = 1 := by
  unfold State.switchTo
  extract_lets old res slews s1 _ s2 s3
  have hslews : slews := ⟨hsynced, hnear⟩
  rw [if_pos hslews]
  refine ⟨?act, if_pos hslews, rfl, ?switch⟩
  case act =>
    have hs1 : s1.act = d := (s.sf_setSf_same _ (by decide) d).trans (Nat.mod_eq_of_lt hd)
    unfold s3
    rw [State.act_tsuRefresh]
    exact (s2.sf_setSf_other (by decide) _ _ _).trans hs1
  case switch =>
    unfold s3
    rw [State.sf_tsuRefresh_other _ (by decide)]
    exact s2.sf_setSf_same _ (by decide) 1

/-- In the switch the residue makes up for the difference of the domains, and the output time stands. -/
theorem State.outputTime_switchTo (hd : d < 2) (hcompat : s.compatOn = false)
    (hsynced : s.domState s.act = dSYNCED ∨ s.domState s.act = dHOLDOVER) (hnear : (s.outputTime - s.domNow d).natAbs ≤ 100 * msT) :
    (s.switchTo d).outputTime = s.outputTime := by
  obtain ⟨hact, hres, hraw, -⟩ := s.switchTo_slews d hd hsynced hnear
  have hview := s.switchTo_domView d
  have hsame : (s.switchTo d).compatOn = false := by
    unfold State.compatOn State.cf at hcompat ⊢
    rw [State.cfg_of_domView hview, hcompat]
  have hnow : s.domNow d = domTime (s.dom d) s.tsu.raw := by
    unfold State.domNow
    rw [hcompat]
    rfl
  rw [State.outputTime_eq hsame, hact, hres, hraw, State.dom_of_domView hview, ← hnow]
  omega

/-! ## The slew (R271) -/

theorem le_ceilDiv_mul (a : Nat) {b : Nat} (hb : 0 < b) : a ≤ ceilDiv a b * b := by
  have h := le_smul_ceilDiv (a := b) (b := a) hb
  rwa [smul_eq_mul, Nat.mul_comm] at h

theorem State.elapseTo_slew (r : Nat) : (s.elapseTo r).tsu.res = s.tsu.res ∧ (s.elapseTo r).tsu.slewN = s.tsu.slewN
    ∧ (s.elapseTo r).tsu.slewFrom = s.tsu.slewFrom := by
  unfold State.elapseTo
  split <;> exact ⟨rfl, rfl, rfl⟩

/-- A slew makes one step more. -/
def State.slewed (s : State) : State :=
  { s with tsu := { s.tsu with res := if 0 < s.tsu.res then s.tsu.res - 1 else s.tsu.res + 1, slewN := s.tsu.slewN + 1 } }.tsuRefresh

theorem State.slewed_raw : s.slewed.tsu.raw = s.tsu.raw := rfl
theorem State.slewed_slewN : s.slewed.tsu.slewN = s.tsu.slewN + 1 := rfl
theorem State.slewed_slewFrom : s.slewed.tsu.slewFrom = s.tsu.slewFrom := rfl

theorem State.slewed_res (h : s.tsu.res ≠ 0) : s.slewed.tsu.res.natAbs + 1 = s.tsu.res.natAbs := by
  have hres : s.slewed.tsu.res = if 0 < s.tsu.res then s.tsu.res - 1 else s.tsu.res + 1 := rfl
  rw [hres]
  split <;> omega

theorem exec_slewStep (h : s.tsu.res ≠ 0) : Does .slewStep s (s.elapseTo (s.slewAt (s.tsu.slewN + 1))).slewed := by
  unfold Does exec execSlewStep
  exact quiet_does (if_neg h)

end

end Sys2Proof.Machine
end

section
/-! PROOFS. O46: the servo, the messages of PTP, and PPS (R261, R262, R267 to R272, R286, R287). -/
namespace Sys2Proof.Machine

section
variable (s : State)

/-! ## What a framed command leaves of the time unit -/

theorem State.framed_tsu (t : State) : (s.framed t).tsu = t.tsu := rfl
theorem State.framed_domState (t : State) (d : Nat) : (s.framed t).domState d = t.domState d := rfl

/-! ## The servo (R268, R269) -/

theorem State.steer_cfg (d : Nat) (rate : Int) : (s.steer d rate).cfg = s.cfg := by
  unfold State.steer
  split
  · rfl
  · exact s.setDom_cfg d _

/-- A Sync interval's measurement, with the interval's Sync used up. -/
def State.syncMeasured (s : State) (d : Nat) (offset rate : Int) : State :=
  (s.setDom d { s.dom d with sync := 0 }).measure d offset rate

theorem exec_ptpSyncInterval {d : Nat} (offset rate : Int) (h : d < 2 ∧ s.domPps d = false ∧ (s.dom d).sync = 2) :
    Does (.ptpSyncInterval d offset rate) s (s.syncMeasured d offset rate) := by
  unfold Does exec execPtpSyncInterval
  exact quiet_does (if_pos h)

theorem exec_ptpSyncInterval_none {d : Nat} (offset rate : Int) (h : (s.dom d).sync ≠ 2) : Does (.ptpSyncInterval d offset rate) s s := by
  unfold Does exec execPtpSyncInterval
  exact quiet_does (if_neg fun hall => h hall.2.2)

section
variable {s} {v u : State} {d : Nat} {o r : Int} (hv : v = s.setDom d { s.dom d with sync := 0 })
  (hu : u = (v.setSw (.TSU_DOM_OFFS d) (sat32 (2 * o))).steer d r)
include hv hu

/-- What a measurement makes of a domain that is LOCKING. -/
theorem State.syncMeasured_locking (hst : s.domState d = dLOCKING) : s.syncMeasured d o r =
    if 1000000 < (2 * o).natAbs then (u.setDom d { u.dom d with good := 0 }).stepDom d (-o) 0
    else if (2 * o).natAbs < u.cf (.TSU_DOM_THR d) F.TSU_DOM_THR_SYNC_THR then
      if 15 ≤ (u.dom d).good then (u.setDom d { u.dom d with good := 0 }).changeDom d dSYNCED
      else u.setDom d { u.dom d with good := (u.dom d).good + 1 }
    else u.setDom d { u.dom d with good := 0 } := by
  subst hv
  have hst' : (s.setDom d { s.dom d with sync := 0 }).domState d = dLOCKING := (s.domState_setDom d _ d).trans hst
  have hcfg : u.cfg = (s.setDom d { s.dom d with sync := 0 }).cfg := hu ▸ State.steer_cfg _ d r
  unfold State.syncMeasured State.measure State.cf
  rw [hcfg]
  dsimp only
  rw [hst', if_neg (by decide), if_pos rfl, ← hu]
  simp only [Nat.succ_le_succ_iff]

/-- A domain that is SYNCED loses its lock with a measurement beyond the lock threshold. -/
theorem State.syncMeasured_unlocked (hst : s.domState d = dSYNCED)
    (hfar : u.cf (.TSU_DOM_THR d) F.TSU_DOM_THR_LOCK_THR * 1000 < (2 * o).natAbs) :
    s.syncMeasured d o r = (u.setDom d { u.dom d with good := 0 }).changeDom d dLOCKING := by
  subst hv
  have hst' : (s.setDom d { s.dom d with sync := 0 }).domState d = dSYNCED := (s.domState_setDom d _ d).trans hst
  have hcfg : u.cfg = (s.setDom d { s.dom d with sync := 0 }).cfg := hu ▸ State.steer_cfg _ d r
  unfold State.cf at hfar
  rw [hcfg] at hfar
  unfold State.syncMeasured State.measure State.cf
  dsimp only
  rw [hst', if_neg (by decide), if_neg (by decide), if_pos hfar, ← hu]

end

/-! ## A domain's master (R262, R269) -/

theorem exec_announceReceiptTimeout {u : State} {d : Nat}
    (h : d < 2 ∧ s.domPps d = false ∧ (s.domState d = dLOCKING ∨ s.domState d = dSYNCED))
    (hu : u = s.elapseTo ((s.dom d).annAt + s.cf (.TSU_DOM_INT d) F.TSU_DOM_INT_ART * s.intervalT d F.TSU_DOM_INT_LOG_ANN)) :
    Does (.announceReceiptTimeout d) s ((u.setDom d { u.dom d with master := false, sync := 0 }).changeDom d dHOLDOVER) := by
  subst hu
  unfold Does exec execAnnounceReceiptTimeout
  exact quiet_does (if_pos h)

theorem exec_ptpMessageRx {p : Nat} (m : PtpMsg) (hlink : s.linkUp p = true) (hopen : s.portBlocked p = false) :
    Does (.ptpMessageRx p m) s ((s.domMessage p m 0).domMessage p m 1) := by
  unfold Does exec execPtpMessageRx
  exact quiet_does (if_neg (by simp [hlink, hopen]))

/-- A message leaves a domain that is DISABLED. -/
theorem State.domMessage_disabled {d : Nat} (h : s.domState d = dDISABLED) (p : Nat) (m : PtpMsg) : s.domMessage p m d = s := by
  unfold State.domMessage
  exact if_pos (Or.inl h)

/-- An Announce of the best master of a domain's number and transport has the domain hear it. -/
theorem State.domMessage_announce {p d : Nat} {m : PtpMsg} (hon : s.domState d ≠ dDISABLED) (hnum : s.domNum d = m.domNum)
    (hport : s.domOn d p = true) (hudp : s.domUdp d = m.udp) (hkind : m.kind = .announce) (hbest : m.best = true)
    (hptp : s.domPps d = false) : s.domMessage p m d = s.hearMaster d p m := by
  unfold State.domMessage
  rw [if_neg (by simp [hon, hnum, hport, hudp]), hkind]
  exact if_pos ⟨hptp, hbest⟩

/-- A LISTENING domain with a time reference locks to what it has found, and keeps what is known of its master. -/
theorem State.startServo_listening {d : Nat} (hrun : s.clk.timeRco = false) (hst : s.domState d = dLISTENING) :
    (s.startServo d).domState d = dLOCKING ∧ (∀ k ≠ d, (s.startServo d).domState k = s.domState k)
      ∧ (s.startServo d).dom d = { s.dom d with good := 0 } := by
  have hstart : s.startServo d = (s.setDom d { s.dom d with good := 0 }).changeDom d dLOCKING := by
    unfold State.startServo
    exact if_pos ⟨hrun, Or.inl hst⟩
  rw [hstart]
  refine ⟨State.domState_changeDom_same _ d (by decide), fun k hk => ?_, ?_⟩
  · rw [State.domState_changeDom_other _ d hk, State.domState_setDom]
  · rw [State.dom_changeDom _ d (by decide), State.dom_setDom_same]

theorem State.setDom_clk (d : Nat) (x : Dom) : (s.setDom d x).clk = s.clk := by
  unfold State.setDom
  split <;> rfl

/-- A LISTENING domain that hears a master is LOCKING, to that master, with its slave port where the message came in. -/
theorem State.hearMaster_listening {p d : Nat} {m : PtpMsg} (hp : p < 3) (hrun : s.clk.timeRco = false)
    (hst : s.domState d = dLISTENING) : (s.hearMaster d p m).domState d = dLOCKING
      ∧ (∀ k ≠ d, (s.hearMaster d p m).domState k = s.domState k) ∧ ((s.hearMaster d p m).dom d).gm = m.gm
      ∧ ((s.hearMaster d p m).dom d).master = true ∧ (s.hearMaster d p m).sf (.TSU_DOM_STAT d) F.TSU_DOM_STAT_PORT = p := by
  unfold State.hearMaster
  extract_lets _ t
  obtain ⟨hlocking, hother, hdom⟩ : t.domState d = dLOCKING ∧ (∀ k ≠ d, t.domState k = s.domState k) ∧ (t.dom d).gm = m.gm := by
    obtain ⟨hlocking, hother, hdom⟩ := State.startServo_listening (s.setDom d _) ((congrArg Clk.timeRco (s.setDom_clk d _)).trans hrun)
      ((s.domState_setDom d _ d).trans hst)
    refine ⟨hlocking, fun k hk => (hother k hk).trans (s.domState_setDom d _ k), ?_⟩
    unfold t
    rw [hdom, State.dom_setDom_same]
  rw [if_neg (by rw [hlocking]; decide)]
  refine ⟨?state, fun k hk => ?others, ?gm, ?master, ?port⟩
  case state => exact (State.sf_setSf_apart _ _ (by decide) (by decide) (by decide) _).trans ((t.domState_setDom d _ d).trans hlocking)
  case others =>
    refine (State.sf_setSf_other _ ?_ _ _ _).trans ((t.domState_setDom d _ k).trans (hother k hk))
    simp only [Reg.offset]
    omega
  case gm => exact (congrArg Dom.gm (t.dom_setDom_same d _)).trans hdom
  case master => exact congrArg Dom.master (t.dom_setDom_same d _)
  case port =>
    rw [State.sf_setSf_same _ _ (by decide)]
    exact Nat.mod_eq_of_lt (by simp only; omega)

/-! ## PPS_IN (R269, R286) -/

/-- An edge of PPS_IN is counted and stamped (R265). -/
def State.ppsStamped (s : State) : State :=
  let s1 := s.bump .TSU_PPS_STAT F.TSU_PPS_STAT_IN_EDGES
  { s1 with tsu := { s1.tsu with ppsIn := twos 64 s1.outputTime, ppsRaw := s1.tsu.raw } }

/-- An edge of PPS_IN is used. -/
def State.ppsUsed (s : State) : State :=
  ({ s with tsu := { s.tsu with ppsAt := s.tsu.raw } } : State).setSf .TSU_PPS_STAT F.TSU_PPS_STAT_IN_OK 1

theorem State.outputTime_bump_ppsStat (f : Fld) (n : Nat) : (s.bump .TSU_PPS_STAT f n).outputTime = s.outputTime := by
  have hact : (s.bump .TSU_PPS_STAT f n).act = s.act := s.sf_setSf_other (by decide) _ _ _
  unfold State.outputTime State.domNow
  rw [hact]
  rfl

theorem State.ppsStamped_reads : s.ppsStamped.tsu.ppsIn = twos 64 s.outputTime ∧ s.ppsStamped.tsu.ppsRaw = s.tsu.raw
    ∧ s.ppsStamped.sf .TSU_PPS_STAT F.TSU_PPS_STAT_IN_EDGES
      = (s.sf .TSU_PPS_STAT F.TSU_PPS_STAT_IN_EDGES + 1) % 2 ^ F.TSU_PPS_STAT_IN_EDGES.width :=
  ⟨congrArg (twos 64) (s.outputTime_bump_ppsStat _ _), rfl, s.sf_setSf_same _ (by decide) _⟩

theorem State.ppsUsed_reads : s.ppsUsed.sf .TSU_PPS_STAT F.TSU_PPS_STAT_IN_OK = 1
    ∧ s.ppsUsed.sf .TSU_PPS_STAT F.TSU_PPS_STAT_IN_EDGES = s.sf .TSU_PPS_STAT F.TSU_PPS_STAT_IN_EDGES :=
  ⟨State.sf_setSf_same _ _ (by decide) 1, State.sf_setSf_apart _ _ (by decide) (by decide) (by decide) 1⟩

variable {s}

theorem State.ppsDoms_nil (hA : s.domPps 0 = false) (hB : s.domPps 1 = false) : s.ppsDoms = [] := by
  simp [State.ppsDoms, hA, hB]

theorem State.ppsDom_unfollowed {d : Nat} (h : s.domPps d = false) (rate : Int) : s.ppsDom rate d = s := by
  unfold State.ppsDom
  exact if_pos (Or.inl h)

/-- An edge that no domain follows is used. -/
theorem exec_ppsInEdge_unfollowed (rate : Int) (hrun : s.replaying = false) (hen : s.cf .TSU_PPS F.TSU_PPS_IN_EN = 1)
    (hedge : s.cf .TSU_PPS F.TSU_PPS_IN_EDGE = 0) (hA : s.domPps 0 = false) (hB : s.domPps 1 = false) :
    Does (.ppsInEdge true rate) s s.ppsStamped.ppsUsed := by
  unfold Does exec execPpsInEdge
  refine quiet_does ((if_pos ⟨hrun, hen, by simp [hedge]⟩).trans ?_)
  extract_lets s1 _ s2 _ s3
  have hs3 : s3 = s.ppsStamped.ppsUsed := if_pos (Or.inl (State.ppsDoms_nil hA hB))
  rw [hs3, State.ppsDom_unfollowed (s := s.ppsStamped.ppsUsed) hA, State.ppsDom_unfollowed (s := s.ppsStamped.ppsUsed) hB]

/-! ## The loss of PPS_IN (R269, R286) -/

/-- IN_OK falls where the edges of PPS_IN are missing. -/
def State.ppsLost (s : State) : State :=
  if s.sf .TSU_PPS_STAT F.TSU_PPS_STAT_IN_OK = 1 ∧ edgesLost s.tsu.ppsAt ≤ s.tsu.raw then
    ((s.setSf .TSU_PPS_STAT F.TSU_PPS_STAT_IN_OK 0).setSf .TSU_EVT F.TSU_EVT_PPS_LOSS 1).event 3 8 0x0805 2
      [s.sf .TSU_PPS_STAT F.TSU_PPS_STAT_IN_EDGES]
  else s

theorem exec_ppsLoss {r : Nat} (h : s.edgesAwaited = [r]) :
    Does .ppsLoss s (((s.elapseTo (edgesLost r)).ppsLost.ppsHoldover 0).ppsHoldover 1) := by
  unfold Does exec execPpsLoss
  refine quiet_does ?_
  rw [h]
  rfl

theorem State.ppsHoldover_unfollowed {d : Nat} (h : s.domPps d = false) : s.ppsHoldover d = s := by
  unfold State.ppsHoldover
  exact if_neg (by simp [h])

/-- A domain whose edges are missing enters HOLDOVER. -/
theorem State.domState_ppsHoldover {d : Nat} (hpps : s.domPps d = true) (hst : s.domState d = dLOCKING ∨ s.domState d = dSYNCED)
    (hlate : edgesLost (s.dom d).edgeAt ≤ s.tsu.raw) : (s.ppsHoldover d).domState d = dHOLDOVER := by
  unfold State.ppsHoldover
  rw [if_pos ⟨hpps, hst, hlate⟩]
  exact s.domState_changeDom_same d (by decide)

theorem State.ppsHoldover_cfg (d : Nat) : (s.ppsHoldover d).cfg = s.cfg := by
  unfold State.ppsHoldover
  split
  · exact s.changeDom_cfg d _
  · rfl

theorem State.domPps_of_cfg {t : State} (h : t.cfg = s.cfg) (d : Nat) : t.domPps d = s.domPps d := by
  unfold State.domPps State.cf
  rw [h]

/-- Where the one domain that follows PPS_IN is late, it ends in HOLDOVER. -/
theorem State.domState_ppsHoldovers {d : Nat} (hd : d < 2) (hpps : s.domPps d = true) (hother : s.domPps (1 - d) = false)
    (hst : s.domState d = dLOCKING ∨ s.domState d = dSYNCED) (hlate : edgesLost (s.dom d).edgeAt ≤ s.tsu.raw) :
    ((s.ppsHoldover 0).ppsHoldover 1).domState d = dHOLDOVER := by
  have hlast := State.domState_ppsHoldover hpps hst hlate
  obtain rfl | rfl : d = 0 ∨ d = 1 := by omega
  · rwa [State.ppsHoldover_unfollowed ((State.domPps_of_cfg (State.ppsHoldover_cfg 0) 1).trans hother)]
  · rwa [State.ppsHoldover_unfollowed hother]

/-- With IN_OK at 1 and no domain following PPS_IN, only PPS_IN itself waits for an edge. -/
theorem State.edgesAwaited_unfollowed (hok : s.sf .TSU_PPS_STAT F.TSU_PPS_STAT_IN_OK = 1) (hA : s.domPps 0 = false)
    (hB : s.domPps 1 = false) : s.edgesAwaited = [s.tsu.ppsAt] := by
  unfold State.edgesAwaited
  rw [if_pos hok, State.ppsDoms_nil hA hB]
  rfl

/-- With IN_OK at 0 and one domain following PPS_IN, only that domain waits for an edge. -/
theorem State.edgesAwaited_followed {d : Nat} (hd : d < 2) (hok : s.sf .TSU_PPS_STAT F.TSU_PPS_STAT_IN_OK = 0)
    (hpps : s.domPps d = true) (hother : s.domPps (1 - d) = false) (hst : s.domState d = dLOCKING ∨ s.domState d = dSYNCED) :
    s.edgesAwaited = [(s.dom d).edgeAt] := by
  have hon : s.domState d ≠ dDISABLED := by rcases hst with h | h <;> rw [h] <;> decide
  have hdoms : s.ppsDoms = [d] := by
    obtain rfl | rfl : d = 0 ∨ d = 1 := by omega
    · simp [State.ppsDoms, hpps, hon, show s.domPps 1 = false from hother]
    · simp [State.ppsDoms, hpps, hon, show s.domPps 0 = false from hother]
  unfold State.edgesAwaited
  rw [if_neg (by rw [hok]; decide), hdoms]
  simp [hst]

theorem State.ppsLost_cfg : s.ppsLost.cfg = s.cfg := by
  unfold State.ppsLost
  split <;> rfl

theorem State.ppsLost_late (hok : s.sf .TSU_PPS_STAT F.TSU_PPS_STAT_IN_OK = 1) (hlate : edgesLost s.tsu.ppsAt ≤ s.tsu.raw) :
    s.ppsLost.sf .TSU_PPS_STAT F.TSU_PPS_STAT_IN_OK = 0 ∧ s.ppsLost.sf .TSU_EVT F.TSU_EVT_PPS_LOSS = 1 := by
  have hevent : ∀ (t : State) i c v l r f, (t.event 3 i c v l).sf r f = t.sf r f := fun _ _ _ _ _ _ _ => rfl
  unfold State.ppsLost
  rw [if_pos ⟨hok, hlate⟩]
  refine ⟨?ok, ?loss⟩
  case ok =>
    rw [hevent, State.sf_setSf_other _ (by decide), State.sf_setSf_same _ _ (by decide)]
    rfl
  case loss =>
    rw [hevent, State.sf_setSf_same _ _ (by decide)]
    rfl

theorem State.ppsLost_down (hok : s.sf .TSU_PPS_STAT F.TSU_PPS_STAT_IN_OK = 0) : s.ppsLost = s := by
  unfold State.ppsLost
  exact if_neg (by simp [hok])

theorem State.elapseTo_pps (s : State) (r : Nat) : (s.elapseTo r).sts = s.sts ∧ (s.elapseTo r).tsu.ppsAt = s.tsu.ppsAt
    ∧ ∀ d, (s.elapseTo r).dom d = s.dom d := by
  unfold State.elapseTo
  split <;> exact ⟨rfl, rfl, fun _ => rfl⟩

theorem State.sf_elapseTo (s : State) (t : Nat) (r : Reg) (f : Fld) : (s.elapseTo t).sf r f = s.sf r f :=
  congrArg (fun l : RegFile => f.get (l.get r)) (s.elapseTo_pps t).1

/-- PPS_LOSS with IN_OK at 1, and no domain that follows PPS_IN. -/
theorem exec_ppsLoss_unfollowed (hok : s.sf .TSU_PPS_STAT F.TSU_PPS_STAT_IN_OK = 1) (hA : s.domPps 0 = false)
    (hB : s.domPps 1 = false) : Does .ppsLoss s (s.elapseTo (edgesLost s.tsu.ppsAt)).ppsLost := by
  have hpps : ∀ d, (s.elapseTo (edgesLost s.tsu.ppsAt)).ppsLost.domPps d = s.domPps d :=
    State.domPps_of_cfg (State.ppsLost_cfg.trans (s.elapseTo_cfg _))
  have hrun := exec_ppsLoss (State.edgesAwaited_unfollowed hok hA hB)
  rwa [State.ppsHoldover_unfollowed ((hpps 0).trans hA), State.ppsHoldover_unfollowed ((hpps 1).trans hB)] at hrun

/-- PPS_LOSS with IN_OK at 0, and one domain that follows PPS_IN. -/
theorem exec_ppsLoss_followed {d : Nat} (hd : d < 2) (hok : s.sf .TSU_PPS_STAT F.TSU_PPS_STAT_IN_OK = 0)
    (hpps : s.domPps d = true) (hother : s.domPps (1 - d) = false) (hst : s.domState d = dLOCKING ∨ s.domState d = dSYNCED) :
    Does .ppsLoss s (((s.elapseTo (edgesLost (s.dom d).edgeAt)).ppsHoldover 0).ppsHoldover 1) := by
  have hrun := exec_ppsLoss (State.edgesAwaited_followed hd hok hpps hother hst)
  rwa [State.ppsLost_down ((s.sf_elapseTo _ _ _).trans hok)] at hrun

/-! ## PPS_OUT (R287) -/

/-- The next whole second of output time, in seconds, that PPS_OUT has not shown yet. -/
def State.ppsNext (s : State) : Int :=
  let k := (s.outputTime + 499999999) / 500000000
  if k = s.tsu.ppsSec then k + 1 else k

theorem State.ppsNext_reads : s.ppsNext ≠ s.tsu.ppsSec ∧ s.outputTime ≤ s.ppsNext * 500000000 := by
  unfold State.ppsNext
  dsimp only
  split <;> omega

theorem State.elapseOut_out (t : Int) : (s.elapseOut t).out = s.out := by
  unfold State.elapseOut
  split <;> rfl

/-- PPS_OUT rises at the next whole second. -/
def State.ppsRisen (s : State) : State :=
  let t := s.elapseOut (s.ppsNext * 500000000)
  ({ t with tsu := { t.tsu with ppsSec := s.ppsNext } }).emit (.ppsOut s.ppsNext (s.cf .TSU_PPS F.TSU_PPS_OUT_WIDTH))

theorem State.ppsRisen_out : s.ppsRisen.out = .ppsOut s.ppsNext (s.cf .TSU_PPS F.TSU_PPS_OUT_WIDTH) :: s.out :=
  congrArg (_ :: ·) (s.elapseOut_out _)

theorem exec_ppsOutPulse (hrun : s.replaying = false) (hen : s.cf .TSU_PPS F.TSU_PPS_OUT_EN = 1)
    (hsynced : s.sf .TSU_STAT F.TSU_STAT_SYNCED = 1) : Does .ppsOutPulse s s.ppsRisen := by
  unfold Does exec execPpsOutPulse
  exact quiet_does (if_pos ⟨hrun, hen, Or.inr hsynced⟩)

end

/-- Settles O46: a fold and a switch are arithmetic on the domains' times (`domTime_fold`, `State.outputTime_switchTo`), `outWait` is the
fewest ticks to an instant (`State.outWait_le_iff`), and each command is one function of the state, of which a domain's change of state
leaves the domains as they are. -/
theorem outputTimeStandsThroughServoAndSwitch : Obligations.OutputTimeStandsThroughServoAndSwitch := by
  unfold Obligations.OutputTimeStandsThroughServoAndSwitch
  refine ⟨?fold, ?instant, ?switch, ?slew, ?slewRate, ?noSync, ?sync, ?timeout, ?announce, ?edge, ?loss, ?domainLoss, ?pulse⟩
  case fold => exact fun d raw rate => ⟨domTime_fold d raw rate, d.fold_rate raw rate⟩
  case instant =>
    rintro s d t hcompat rfl hge hle hanchor hoffset hfar - hahead
    have htame : (s.dom s.act).tame := ⟨hge, hle, hoffset⟩
    have helapse : s.elapseOut t = s.elapse (s.outWait t) := if_neg (Int.not_le.2 hahead)
    refine ⟨?_, fun n hn => ?_⟩
    · rw [helapse]
      exact (State.outWait_le_iff hcompat htame hanchor hfar t).1 (Nat.le_refl _)
    · exact Int.not_le.1 fun hreached =>
        Nat.not_le.2 hn ((State.outWait_le_iff hcompat htame hanchor (by omega) t).2 hreached)
  case switch =>
    intro s d hd hcompat hsynced hnear
    obtain ⟨hact, -, -, hswitch⟩ := s.switchTo_slews d hd hsynced hnear
    exact ⟨s.outputTime_switchTo d hd hcompat hsynced hnear, hact, hswitch⟩
  case slew =>
    intro s hres hend
    obtain ⟨hsame, hn, hfrom⟩ := s.elapseTo_slew (s.slewAt (s.tsu.slewN + 1))
    have hstep := State.slewed_res (s.elapseTo (s.slewAt (s.tsu.slewN + 1))) (by rwa [hsame])
    refine ⟨_, exec_slewStep s hres, ?_, ?_, ?_, ?_, s.framed_cfg _⟩ <;> rw [State.framed_tsu]
    · rw [hstep, hsame]
    · rw [State.slewed_raw]
      exact (State.elapseTo_reaches hend).1
    · rw [State.slewed_slewN, hn]
    · rw [State.slewed_slewFrom, hfrom]
  case slewRate =>
    intro s k
    by_cases hslew : s.cf .TSU_CFG F.TSU_CFG_SLEW = 0
    · exact Or.inr hslew
    · refine Or.inl ?_
      rw [State.slewAt, Nat.add_sub_cancel_left]
      exact le_ceilDiv_mul _ (Nat.pos_of_ne_zero hslew)
  case noSync => exact fun s d o r => exec_ptpSyncInterval_none s o r
  case sync =>
    intro s v u d o r hd hpps hsync hv hu
    have hrun := exec_ptpSyncInterval s o r ⟨hd, hpps, hsync⟩
    refine ⟨fun hst hfar => ?_, fun hst hnear hgood => ⟨fun hfew => ?_, fun hmany => ?_⟩, fun hst hfar => ?_⟩
    · rwa [State.syncMeasured_locking hv hu hst, if_pos hfar] at hrun
    · rwa [State.syncMeasured_locking hv hu hst, if_neg (Nat.not_lt.2 hnear), if_pos hgood, if_neg (Nat.not_le.2 hfew)] at hrun
    · rwa [State.syncMeasured_locking hv hu hst, if_neg (Nat.not_lt.2 hnear), if_pos hgood, if_pos hmany] at hrun
    · rwa [State.syncMeasured_unlocked hv hu hst hfar] at hrun
  case timeout => exact fun s u d hd hpps hst hu => exec_announceReceiptTimeout s ⟨hd, hpps, hst⟩ hu
  case announce =>
    intro s p m hoff hst hnum hport hkind hbest hptp hrun hp hudp hlink hopen
    have hon : s.domOn 0 p = true := by simp [State.domOn, hp, hport]
    have hhears := s.domMessage_announce (m := m) (by rw [hst]; decide) hnum hon hudp hkind hbest hptp
    obtain ⟨hlocking, hothers, hgm, hmaster, hslave⟩ := s.hearMaster_listening (m := m) hp hrun hst
    have hdone := exec_ptpMessageRx s m hlink hopen
    rw [hhears, State.domMessage_disabled _ ((hothers 1 (by decide)).trans hoff)] at hdone
    exact ⟨_, hdone, hlocking, hgm, hmaster, hslave, rfl⟩
  case edge =>
    intro s r hrun hen hedge hA hB
    obtain ⟨hin, hraw, hedges⟩ := s.ppsStamped_reads
    obtain ⟨hok, hsame⟩ := s.ppsStamped.ppsUsed_reads
    exact ⟨_, exec_ppsInEdge_unfollowed r hrun hen hedge hA hB, hin, hraw, hok, hsame.trans hedges, rfl⟩
  case loss =>
    intro s hok hA hB hend
    obtain ⟨-, hat, -⟩ := s.elapseTo_pps (edgesLost s.tsu.ppsAt)
    obtain ⟨hdown, hevent⟩ := State.ppsLost_late ((s.sf_elapseTo (edgesLost s.tsu.ppsAt) _ _).trans hok)
      (by rw [hat]; exact (State.elapseTo_reaches hend).1)
    exact ⟨_, exec_ppsLoss_unfollowed hok hA hB, (s.framed_sf _ _ _).trans hdown, (s.framed_sf _ _ _).trans hevent, s.framed_cfg _⟩
  case domainLoss =>
    intro s d hd hok hpps hother hst hend
    obtain ⟨-, -, hdom⟩ := s.elapseTo_pps (edgesLost (s.dom d).edgeAt)
    have hfollows := State.domPps_of_cfg (s.elapseTo_cfg (edgesLost (s.dom d).edgeAt))
    have hstate : (s.elapseTo (edgesLost (s.dom d).edgeAt)).domState d = s.domState d := s.sf_elapseTo _ _ _
    refine ⟨_, exec_ppsLoss_followed hd hok hpps hother hst, (s.framed_domState _ d).trans ?_, s.framed_cfg _⟩
    exact State.domState_ppsHoldovers hd ((hfollows d).trans hpps) ((hfollows _).trans hother) (by rwa [hstate])
      (by rw [hdom]; exact (State.elapseTo_reaches hend).1)
  case pulse =>
    intro s hrun hen hsynced
    obtain ⟨hnew, hahead⟩ := s.ppsNext_reads
    exact ⟨_, s.ppsNext, exec_ppsOutPulse hrun hen hsynced, s.ppsRisen_out, rfl, hnew, hahead, rfl, rfl⟩

end Sys2Proof.Machine
end

section
/-! PROOFS. What the end of a descriptor leaves of the module's first registers, HIF_SETUP_DONE among them (R19, R31, R32). -/
namespace Sys2Proof.Machine

/-- What the module's common registers of HIF hold, those below the registers of the rings. -/
def State.front (s : State) (r : { r : Reg // r.offset < 0x1000 }) : BitVec 32 := s.sts.get r

section
variable (s : State)

theorem State.setSf_front {r : Reg} (hr : 0x1000 ≤ r.offset) (f : Fld) (v : Nat) : (s.setSf r f v).front = s.front :=
  funext fun q => RegFile.get_put_other _ _ (Nat.ne_of_lt (lt_of_lt_of_le q.2 hr))

/-! ## Completions (R35, R46, R61) -/

theorem State.msix_front (v : Nat) : (s.msix v).front = s.front := by
  unfold State.msix
  split
  · exact s.setSf_front (by simp only [Reg.offset]; omega) _ _
  · rfl

theorem State.poisonQueue_front (k off : Nat) : (s.poisonQueue k off).front = s.front := by
  unfold State.poisonQueue State.bump
  extract_lets t
  have ht : t.front = s.front := (State.setSf_front _ (by decide) _ _).trans (s.setSf_front (by decide) _ _)
  split <;> exact ht

theorem State.cqWrite_front (n : Nat) (e : CEnt) : (s.cqWrite n e).front = s.front := by
  have hstat : 0x1000 ≤ (Reg.HIF_CQ_STAT n).offset := by simp only [Reg.offset]; omega
  have hread : (s.postRead n e).2.front = s.front := by
    unfold State.postRead
    split
    · rfl
    · exact s.poisonQueue_front _ _
  have hsignal : ∀ u : State, (u.cqSignal n).front = u.front := fun u => by
    unfold State.cqSignal
    extract_lets _ t v
    split
    · rfl
    · exact t.msix_front v
  unfold State.cqWrite
  extract_lets tail phase w u s1 next s2 unsig _ s3 s4
  have hs4 : s4.front = s.front := (s3.setSf_front hstat _ _).trans ((s1.setSf_front hstat _ _).trans hread)
  split
  · exact (hsignal s4).trans hs4
  · exact hs4

theorem State.postC_front (e : CEnt) : (s.postC e).front = s.front := by
  have hdata : (s.cqData e).front = s.front := by unfold State.cqData; split <;> rfl
  unfold State.postC
  split
  · split
    · exact hdata
    · exact (State.cqWrite_front _ _ e).trans hdata
  · rfl

theorem State.finishRing_front (n : Nat) (d : Desc) (a : Answer) : (s.finishRing n d a).front = s.front := by
  unfold State.finishRing
  extract_lets e s1 s2
  have hs2 : s2.front = s.front := by unfold s2; split <;> rfl
  split
  · exact hs2
  · exact (s2.postC_front e).trans hs2

/-! ## The reply to a sealed command (R237, R241) -/

theorem State.setQueue_front (k : Nat) (l : List EgFrame) : (s.setQueue k l).front = s.front := by
  have hstat : 0x1000 ≤ (Reg.QUE_STAT k).offset := by simp only [Reg.offset]; omega
  unfold State.setQueue
  exact (State.setSf_front _ (by decide) _ _).trans ((State.setSf_front _ (by decide) _ _).trans (State.setSf_front _ hstat _ _))

theorem State.hostDrain_front : s.hostDrain.front = s.front := by
  have hframe : ∀ (u : State) f tc, (u.hostFrame f tc).front = u.front := fun u f tc => by
    unfold State.hostFrame State.bumpSat
    extract_lets t
    have ht : t.front = u.front := by
      unfold t
      split
      · exact u.poisonQueue_front _ _
      · rfl
    split <;> exact (State.setSf_front _ (by decide) _ _).trans ht
  unfold State.hostDrain
  refine foldl_keeps (v := State.front) (fun t tc => ?_) _ _
  split
  · rfl
  · exact (foldl_keeps (v := State.front) (fun u f => hframe u f tc) _ _).trans (t.setQueue_front _ _)

theorem State.sealedReply_front (ip : Nat) : (s.sealedReply ip).front = s.front := by
  have hforward : ∀ (u : State) p vid tc f, (u.forward p vid tc f).1.front = u.front := fun u p vid tc f => by
    unfold State.forward
    split
    · rfl
    · dsimp only
      rw [State.hostDrain_front]
      refine foldl_keeps (v := fun a : State × Nat => a.1.front) (fun a d => ?_) _ _
      unfold State.sendCopy
      dsimp only
      split
      · rfl
      · exact a.1.setQueue_front _ _
  unfold State.sealedReply State.mgmtSend State.bump
  dsimp only
  split
  · rfl
  · split
    · exact (State.setSf_front _ (by decide) _ _).trans (hforward _ _ _ _ _)
    · exact hforward _ _ _ _ _

theorem State.finish_front (d : Desc) (a : Answer) : (s.finish d a).front = s.front := by
  unfold State.finish
  split
  · exact s.finishRing_front _ _ _
  · dsimp only
    split
    · split
      · exact State.finishRing_front _ _ _ _
      · rfl
    · rfl
  · exact (State.sealedReply_front _ _).trans rfl

theorem State.finish_done (d : Desc) (a : Answer) : (s.finish d a).done = s.done :=
  congrArg (fun w => F.HIF_SETUP_DONE_DONE.get w == 1) (congrFun (s.finish_front d a) ⟨.HIF_SETUP_DONE, by decide⟩)

end

end Sys2Proof.Machine
end

section
/-! PROOFS. What ends with the requests that can no longer be met leaves of the unit's leave to emit (R65, R150, R350, R436, R467, R569). -/
namespace Sys2Proof.Machine

/-- All that the unit's leave to emit is read from. -/
def State.permit (s : State) : Bool × Nat × Bool × Twn × Upd := (s.done, s.twinRole, s.replaying, s.twn, s.upd)

theorem State.mayEmit_of_permit {s t : State} (h : t.permit = s.permit) : t.mayEmit = s.mayEmit :=
  congrArg (fun p : Bool × Nat × Bool × Twn × Upd => (p.1 && (p.2.1 == 0 || p.2.1 == 3) && !p.2.2.1)
    && (p.2.2.2.1.gateUntil.isNone && !p.2.2.2.1.lapsed)
    && !(match p.2.2.2.2.pause with
      | some q => q.radioMs.isNone
      | none => false)) h

section
variable (s : State)

theorem State.setSf_permit {r : Reg} (hdone : r.offset ≠ 0xC) (hrole : r.offset ≠ 0x32000C) (hreplay : r.offset ≠ 0x350004)
    (f : Fld) (v : Nat) : (s.setSf r f v).permit = s.permit := by
  unfold State.permit State.done State.twinRole State.replaying
  rw [State.sf_setSf_other _ (Ne.symm hdone), State.sf_setSf_other _ (Ne.symm hrole), State.sf_setSf_other _ (Ne.symm hreplay)]
  rfl

theorem State.finish_permit (d : Desc) (a : Answer) : (s.finish d a).permit = s.permit := by
  have hinside := s.finish_inside d a
  unfold State.permit State.twinRole State.replaying
  rw [State.finish_done, State.finish_sf _ (by unfold Reg.posted; decide), State.finish_sf _ (by unfold Reg.posted; decide),
    show (s.finish d a).twn = s.twn from congrArg (fun u => u.twn) hinside,
    show (s.finish d a).upd = s.upd from congrArg (fun u => u.upd) hinside]

theorem State.event_permit (f i c v : Nat) (a : List Nat) : (s.event f i c v a).permit = s.permit := rfl
theorem State.setSeq_permit (y : Nat) (q : SeqY) : (s.setSeq y q).permit = s.permit := rfl

theorem State.skipBeacon_permit (y sb : Nat) : (s.skipBeacon y sb).permit = s.permit := by
  unfold State.skipBeacon State.bump
  dsimp only
  rw [State.setSeq_permit, State.event_permit]
  refine (State.setSf_permit _ ?_ ?_ ?_ _ _).trans (s.setSf_permit ?_ ?_ ?_ _ _) <;> simp only [Reg.offset] <;> omega

theorem State.missAnswer_permit (a : Ans) : (s.missAnswer a none).permit = s.permit := by
  unfold State.missAnswer State.bump
  refine (State.setSf_permit _ ?_ ?_ ?_ _ _).trans rfl <;> simp only [Reg.offset] <;> omega

theorem State.checkScene_permit (i : Nat) : (s.checkScene i).permit = s.permit := by
  have hend : ∀ (u : State) k st det r, (u.endDid k st det r).permit = u.permit := fun u k st det r => by
    unfold State.endDid
    split
    · rfl
    · split
      · exact u.finish_permit _ _
      · rfl
  unfold State.checkScene
  split
  · rfl
  · split
    · dsimp only
      split <;> exact (hend _ _ _ _ _).trans rfl
    · rfl

/-- A request that ends without its frame leaves the unit's leave to emit. -/
theorem State.giveUpReq_permit (r : TxReq) : (s.giveUpReq r).permit = s.permit := by
  unfold State.giveUpReq
  dsimp only
  split
  · exact (State.skipBeacon_permit _ _ _).trans rfl
  · split
    · exact (State.missAnswer_permit _ _).trans rfl
    · rfl
  · rfl
  · exact (State.checkScene_permit _ _).trans rfl
  · rfl

theorem State.requeue_permit : s.requeue.permit = s.permit := by
  unfold State.requeue
  extract_lets ys t
  have ht : t.permit = s.permit := foldl_keeps (v := State.permit) (fun u y => by
    refine u.setSf_permit ?_ ?_ ?_ _ _ <;> simp only [Reg.offset] <;> omega) _ _
  exact ht

theorem State.settle_permit : s.settle.permit = s.permit := by
  unfold State.settle
  refine foldl_keeps (v := State.permit) (fun t r => ?_) _ _
  split
  · exact t.giveUpReq_permit r
  · rfl

end

/-- A unit that may not emit grants no request: it ends those that it can no longer meet, and the carriers stand (R569). -/
theorem exec_chainGrant_barred {s : State} (h : s.mayEmit = false) (bad : Option Nat) (symBad : Bool) :
    Does (.chainGrant bad symBad) s s.requeue.settle ∧ s.requeue.settle.onAir = s.onAir := by
  have hbarred : s.requeue.settle.mayEmit = false := by
    rw [State.mayEmit_of_permit s.requeue.settle_permit, State.mayEmit_of_permit s.requeue_permit]
    exact h
  refine ⟨?_, State.onAir_of_steady (s.requeue.settle_steady.trans s.requeue_steady)⟩
  unfold Does exec execChainGrant
  exact quiet_does (if_pos (Or.inl hbarred))

end Sys2Proof.Machine
end

section
/-! PROOFS. Carriers that are stopped, and descriptors that are cancelled: what they leave of the carriers, the twin unit and the armed
slots (R20, R58, R106, R351). -/
namespace Sys2Proof.Machine

/-- The carriers, the twin unit, and the slots that are armed or wait. -/
def State.aloft (s : State) : List Carrier × Twn × List Slot := (s.air.carriers, s.twn, s.tsu.slots)

theorem State.aloft_of_inside {s t : State} (h : t.inside = s.inside) : t.aloft = s.aloft := congrArg (fun u => u.aloft) h

section
variable (s : State)

@[simp] theorem State.setSf_aloft (r f v) : (s.setSf r f v).aloft = s.aloft := rfl
@[simp] theorem State.setSw_aloft (r v) : (s.setSw r v).aloft = s.aloft := rfl
@[simp] theorem State.dropDesc_aloft (k) : (s.dropDesc k).aloft = s.aloft := rfl
theorem State.lanes_aloft (x : Lanes) : ({ s with lanes := x } : State).aloft = s.aloft := rfl
theorem State.seqs_aloft (l : Tbl SeqY) : ({ s with air := { s.air with seqs := l } } : State).aloft = s.aloft := rfl
@[simp] theorem State.finish_aloft (d : Desc) (a : Answer) : (s.finish d a).aloft = s.aloft :=
  State.aloft_of_inside (s.finish_inside d a)
@[simp] theorem State.fail_aloft (d st det) : (s.fail d st det).aloft = s.aloft := s.finish_aloft _ _
@[simp] theorem State.endDid_aloft (k : Option Nat) (st det r : Nat) : (s.endDid k st det r).aloft = s.aloft :=
  State.aloft_of_inside (s.endDid_inside k st det r)

/-! ## The actions of YARD_CTL (R106) -/

@[simp] theorem State.setRole_aloft (n role : Nat) : (s.setRole n role).aloft = s.aloft := by
  unfold State.setRole
  simp only [State.setSf_aloft]

@[simp] theorem State.assignLane_aloft (n role y : Nat) (p : PlanEntry) : (s.assignLane n role y p).aloft = s.aloft := by
  unfold State.assignLane
  rw [State.setSw_aloft, State.setRole_aloft]

@[simp] theorem State.takeSpare_aloft (sp y : Nat) (p : PlanEntry) : (s.takeSpare sp y p).aloft = s.aloft := by
  unfold State.takeSpare
  rw [State.assignLane_aloft]
  rfl

@[simp] theorem State.shadowTest_aloft (n sh : Nat) : (s.shadowTest n sh).aloft = s.aloft := by
  unfold State.shadowTest
  extract_lets p t
  exact (t.lanes_aloft _).trans (s.assignLane_aloft sh rSHADOW (s.laneYard n) p)

@[simp] theorem State.recap_aloft (y : Nat) : (s.recap y).aloft = s.aloft := by
  unfold State.recap
  dsimp only
  split <;> simp only [State.setSf_aloft]

@[simp] theorem State.withdrawEntry_aloft (y k : Nat) : (s.withdrawEntry y k).aloft = s.aloft := by
  unfold State.withdrawEntry
  dsimp only
  rw [State.recap_aloft]
  split <;> simp only [State.setSf_aloft]

@[simp] theorem State.restoreEntry_aloft (y k : Nat) : (s.restoreEntry y k).aloft = s.aloft := by
  unfold State.restoreEntry
  dsimp only
  rw [State.recap_aloft]
  split <;> simp only [State.setSf_aloft]

@[simp] theorem State.checkSpares_aloft : s.checkSpares.aloft = s.aloft := by
  unfold State.checkSpares
  dsimp only
  split
  · rfl
  · split <;> rfl

@[simp] theorem State.checkSuspend_aloft : s.checkSuspend.aloft = s.aloft := by
  have hrearm : s.rearmSpares.aloft = s.aloft := by unfold State.rearmSpares; split <;> rfl
  unfold State.checkSuspend
  dsimp only
  split
  · split <;> exact hrearm
  · exact hrearm

@[simp] theorem State.freeLane_aloft (n : Nat) : (s.freeLane n).aloft = s.aloft := by
  unfold State.freeLane
  extract_lets t
  have ht : t.aloft = s.aloft := by
    unfold t
    split
    · split
      · rw [State.setRole_aloft, State.setRole_aloft]
        rfl
      · rfl
    · rfl
  exact (t.setRole_aloft n rSPARE).trans ht

@[simp] theorem State.freeEntry_aloft (y k : Nat) : (s.freeEntry y k).aloft = s.aloft := by
  unfold State.freeEntry
  split
  · exact s.freeLane_aloft _
  · split
    · rw [State.freeLane_aloft]
      rfl
    · rfl

/-- Whatever an action does to its yard, it reaches no carrier. -/
theorem State.yardAct_aloft {t : State} {y : Nat} {a : YardAct} (h : s.yardAct y a = .ok t) : t.aloft = s.aloft := by
  have hpick : ∀ {c : Prop} [Decidable c] {u : State} {st : Nat},
      (if c then (.ok u : Except Nat State) else .error st) = .ok t → t = u := fun {c _ u st} h => by
    split at h <;> cases h
    rfl
  unfold State.yardAct at h
  extract_lets e at h
  clear_value e
  split at h
  case isTrue => cases h
  split at h
  case isTrue =>
    cases h
    simp only [State.setSf_aloft]
  split at h
  case isTrue =>
    split at h <;> cases h
    · rw [State.seqs_aloft, State.setSf_aloft, State.setSf_aloft]
    · rfl
  split at h
  case isTrue =>
    split at h
    · rw [hpick h]
      simp only [State.checkSuspend_aloft, State.checkSpares_aloft, State.withdrawEntry_aloft, State.freeEntry_aloft]
    · cases h
  split at h
  case isTrue =>
    split at h
    · split at h
      · split at h <;> cases h
        simp only [State.checkSuspend_aloft, State.restoreEntry_aloft, State.takeSpare_aloft]
      · cases h
    · cases h
  split at h
  case isTrue =>
    rw [hpick h, State.setSf_aloft]
  split at h
  case isFalse => cases h
  split at h
  case h_2 => cases h
  split at h
  case isFalse => cases h
  split at h
  case h_2 => cases h
  split at h
  case isTrue => cases h
  split at h <;> cases h
  exact s.shadowTest_aloft _ _

theorem State.yardList_aloft {t : State} {y i : Nat} {l : List YardAct} (h : s.yardList y i l = .ok t) : t.aloft = s.aloft := by
  induction l generalizing s i with
  | nil => cases h; rfl
  | cons a l ih =>
    unfold State.yardList at h
    split at h
    · cases h
    · rename_i u hu
      exact (ih u h).trans (s.yardAct_aloft hu)

/-- The lists that waited for a carrier's end reach no carrier (R20). -/
theorem State.ctlSettle_aloft (y : Nat) : (s.ctlSettle y).aloft = s.aloft := by
  unfold State.ctlSettle
  split
  · rfl
  · refine foldl_keeps (v := State.aloft) (fun t d => ?_) _ _
    unfold State.yardCtlApply
    dsimp only
    split
    · exact t.fail_aloft _ _ _
    · split
      · exact t.fail_aloft _ _ _
      · rename_i u hu
        exact (u.finish_aloft _ _).trans (t.yardList_aloft hu)

/-! ## A carrier that is stopped -/

/-- A carrier that is off the air from now on. -/
def Carrier.cut (at_ id : Nat) (c : Carrier) : Carrier := if c.id = id then { c with on := false, stop := min c.stop at_ } else c

/-- Where the carrier is on the air it is cut; nothing else is done to carriers. -/
theorem State.stopCarrier_aloft (id : Nat) : (s.stopCarrier id).aloft = s.aloft ∧ (∀ c ∈ s.onAir, c.id ≠ id)
    ∨ (s.stopCarrier id).aloft = (s.air.carriers.map (Carrier.cut s.tsu.raw id), s.twn, s.tsu.slots) := by
  unfold State.stopCarrier
  split
  · rename_i hnone
    exact Or.inl ⟨rfl, fun c hc => by simpa using List.find?_eq_none.1 hnone c hc⟩
  · refine Or.inr ((State.ctlSettle_aloft _ _).trans ?_)
    dsimp only
    split <;> rfl

theorem State.stopCarrier_twn (id : Nat) : (s.stopCarrier id).twn = s.twn := by
  rcases s.stopCarrier_aloft id with ⟨h, -⟩ | h <;> exact congrArg (fun v => v.2.1) h

/-- What is on the air after a carrier has stopped was there before, and is another. -/
theorem State.mem_onAir_stopCarrier {id : Nat} {c : Carrier} (h : c ∈ (s.stopCarrier id).onAir) : c ∈ s.onAir ∧ c.id ≠ id := by
  rcases s.stopCarrier_aloft id with ⟨heq, hother⟩ | heq
  · have hair : (s.stopCarrier id).onAir = s.onAir := congrArg (fun v => v.1.filter (fun c => c.on)) heq
    exact ⟨hair ▸ h, hother c (hair ▸ h)⟩
  · have hair : (s.stopCarrier id).onAir = (s.air.carriers.map (Carrier.cut s.tsu.raw id)).filter (fun c => c.on) :=
      congrArg (fun v => v.1.filter (fun c => c.on)) heq
    rw [hair, List.mem_filter, List.mem_map] at h
    obtain ⟨⟨x, hx, rfl⟩, hon⟩ := h
    unfold Carrier.cut at hon ⊢
    split at hon
    · cases hon
    · rename_i hid
      rw [if_neg hid]
      exact ⟨List.mem_filter.2 ⟨hx, hon⟩, hid⟩

/-- Every carrier on the air is stopped. -/
def State.stopAll (s : State) : State := (s.onAir.map (fun c => c.id)).foldl State.stopCarrier s

theorem State.stopAll_twn : s.stopAll.twn = s.twn := foldl_keeps (v := State.twn) (fun t id => t.stopCarrier_twn id) _ s

theorem State.mem_onAir_stopCarriers {l : List Nat} {c : Carrier} (h : c ∈ (l.foldl State.stopCarrier s).onAir) :
    c ∈ s.onAir ∧ c.id ∉ l := by
  induction l generalizing s with
  | nil => exact ⟨h, List.not_mem_nil⟩
  | cons id l ih =>
    obtain ⟨hstop, hl⟩ := ih _ h
    obtain ⟨ht, hid⟩ := s.mem_onAir_stopCarrier hstop
    exact ⟨ht, by simp [hid, hl]⟩

theorem State.stopAll_onAir : s.stopAll.onAir = [] := by
  refine List.eq_nil_iff_forall_not_mem.2 fun c hc => ?_
  obtain ⟨hair, hid⟩ := s.mem_onAir_stopCarriers hc
  exact hid (List.mem_map_of_mem hair)

/-! ## Descriptors that are cancelled, with no slot armed (R58, R351) -/

theorem State.presenceDone_aloft (how : Nat) : (s.presenceDone how).aloft = s.aloft := by
  have hraise : ∀ (t : State) b, (t.raiseCause b).aloft = t.aloft := fun t b =>
    congrArg (fun u => u.aloft) (t.raiseCause_behindHost b)
  have hring : ∀ (t : State) e b, (t.ring e b).aloft = t.aloft := fun t e b => by
    unfold State.ring
    split
    · dsimp only
      split
      · exact (hraise _ _).trans rfl
      · rfl
    · rfl
    · split <;> rfl
  have hput : ∀ (t : State) n m, (t.mbxPut n m).aloft = t.aloft := fun t n m => by
    unfold State.mbxPut State.mbxPostSlot
    dsimp only
    split
    · rfl
    · split <;> exact (hring _ _ _).trans rfl
  have hflush : ∀ (t : State) n l, (t.flushReplies n l).aloft = t.aloft := fun t n l => by
    induction l generalizing t with
    | nil => rfl
    | cons r rest ih =>
      unfold State.flushReplies
      split
      · exact (ih _).trans (hput _ _ _)
      · rfl
  unfold State.presenceDone State.answerMbx
  dsimp only
  split
  · rfl
  · exact hflush _ _ _

theorem State.unload_aloft (did : Nat) : (s.unload did).aloft = s.aloft := by
  unfold State.unload
  split
  · rfl
  · extract_lets t
    have ht : t.aloft = s.aloft := by
      unfold t
      split <;> rfl
    exact (t.endDid_aloft _ _ _ _).trans ht

theorem State.freeSlots_aloft (h : s.tsu.slots = []) (did : Nat) : (s.freeSlots did).aloft = s.aloft := by
  unfold State.aloft State.freeSlots State.putSlots
  rw [h]
  rfl

theorem State.withdraw_aloft (h : s.tsu.slots = []) (did : Nat) : (s.withdraw did).aloft = s.aloft := by
  unfold State.withdraw
  extract_lets mine t1 its1 runs its jobs keepReq seg air drv shed upd t2 t3
  have ht1 : t1.aloft = s.aloft := (State.unload_aloft _ _).trans ((s.freeSlots_aloft h did).trans rfl)
  have ht3 : t3.aloft = s.aloft := by
    unfold t3
    split
    · exact (t2.presenceDone_aloft 2).trans ht1
    · exact ht1
  refine (foldl_keeps (v := State.aloft) (fun u q => ?_) _ t3).trans ht3
  split <;> rfl

theorem State.slots_of_aloft {t : State} (h : t.aloft = s.aloft) : t.tsu.slots = s.tsu.slots := congrArg (fun v => v.2.2) h

theorem State.cancel_aloft (h : s.tsu.slots = []) (d : Desc) (st det : Nat) : (s.cancel d st det).aloft = s.aloft := by
  unfold State.cancel
  split
  · rename_i e he
    have hin : ((s.withdraw e.did).dropDesc e.did).aloft = s.aloft := (State.dropDesc_aloft _ _).trans (s.withdraw_aloft h e.did)
    rw [State.fail_aloft, State.withdraw_aloft _ ((State.slots_of_aloft s hin).trans h), hin]
  · rw [State.fail_aloft, s.withdraw_aloft h]

theorem State.cancelAll_aloft (h : s.tsu.slots = []) (st : Nat) (det : Desc → Nat) (l : List Desc) :
    (s.cancelAll st det l).aloft = s.aloft := by
  unfold State.cancelAll
  refine foldl_preserves (inv := fun t : State => t.aloft = s.aloft) (fun t d ht => ?_) rfl
  split
  · split
    · exact ht
    · exact (t.cancel_aloft ((State.slots_of_aloft s ht).trans h) _ _ _).trans ht
  · exact ht

theorem State.endRadio_aloft : s.endRadio.aloft = s.aloft := by
  unfold State.endRadio
  refine foldl_keeps (v := State.aloft) (fun t d => ?_) _ _
  split
  · exact t.fail_aloft _ _ _
  · rfl

end
end Sys2Proof.Machine
end

section
/-! PROOFS. How a unit goes on from its mirror: what resuming the segment, its campaigns and its scenes leaves of the unit's role, claim
and gate (R135, R205, R224, R347, R350, R360). -/
namespace Sys2Proof.Machine

/-- What says that the unit is active: the registers of its role, its claim and its gate, its epoch, the end of its 20 ms, and the time. -/
def State.claimed (s : State) : BitVec 32 × BitVec 32 × BitVec 32 × Nat × Option Nat × Nat :=
  (s.sts.get .TWN_STAT, s.sts.get .TWN_CLAIM, s.sts.get .DRV_GATE, s.twn.epoch, s.twn.gateUntil, s.tsu.raw)

section
variable (s : State)

@[simp] theorem State.event_claimed (f i c v a) : (s.event f i c v a).claimed = s.claimed := rfl
@[simp] theorem State.seg_claimed (x : Seg) : ({ s with seg := x } : State).claimed = s.claimed := rfl
@[simp] theorem State.air_claimed (x : Air) : ({ s with air := x } : State).claimed = s.claimed := rfl
@[simp] theorem State.journal_claimed (f : Roll → Roll) : (s.journal f).claimed = s.claimed := rfl
@[simp] theorem State.persistTables_claimed : s.persistTables.claimed = s.claimed := rfl
@[simp] theorem State.modStall_claimed (i f) : (s.modStall i f).claimed = s.claimed := rfl
@[simp] theorem State.modPad_claimed (p f) : (s.modPad p f).claimed = s.claimed := rfl
@[simp] theorem State.evict_claimed (h) : (s.evict h).claimed = s.claimed := rfl
@[simp] theorem State.freshHandle_claimed : s.freshHandle.2.claimed = s.claimed := rfl
@[simp] theorem State.modScene_claimed (i f) : (s.modScene i f).claimed = s.claimed := rfl

@[simp] theorem State.finish_claimed (d : Desc) (a : Answer) : (s.finish d a).claimed = s.claimed := by
  have hreg : ∀ {r : Reg}, ¬ r.posted → (s.finish d a).sts.get r = s.sts.get r := fun {r} hr =>
    congrFun (s.finish_unposted d a) ⟨r, hr⟩
  have htwn : (s.finish d a).twn = s.twn := congrArg (fun u => u.twn) (s.finish_inside d a)
  unfold State.claimed
  rw [hreg (by unfold Reg.posted; decide), hreg (by unfold Reg.posted; decide), hreg (by unfold Reg.posted; decide), htwn,
    State.finish_tsu]

/-! ## Items, keys and the rollover (R155, R198, R201, R203) -/

@[simp] theorem State.checkRun_claimed (r : Nat) : (s.checkRun r).claimed = s.claimed := by
  unfold State.checkRun
  split
  · rfl
  · split
    · rfl
    · dsimp only
      split
      · rfl
      · split
        · exact (State.finish_claimed _ _ _).trans rfl
        · rfl

@[simp] theorem State.endItem_claimed (it : Item) (st det : Nat) : (s.endItem it st det).claimed = s.claimed := by
  unfold State.endItem
  extract_lets seg air s1 s2
  have hs2 : s2.claimed = s.claimed := by
    unfold s2
    split
    · rfl
    · split
      · exact (State.finish_claimed _ _ _).trans rfl
      · rfl
  split
  · exact hs2
  · rw [State.checkRun_claimed]
    split <;> exact hs2

@[simp] theorem State.campLeave_claimed (i : Nat) : (s.campLeave i).claimed = s.claimed := rfl

@[simp] theorem State.unbind_claimed (i : Nat) : (s.unbind i).claimed = s.claimed := by
  have hitems : ∀ (u : State) st det, (u.endItems i st det).claimed = u.claimed := fun u st det => by
    unfold State.endItems
    refine foldl_keeps (v := State.claimed) (fun t it => ?_) _ _
    split
    · exact t.endItem_claimed _ _ _
    · rfl
  unfold State.unbind
  rw [State.modStall_claimed, State.campLeave_claimed, hitems, State.evict_claimed, State.evict_claimed, State.evict_claimed,
    State.evict_claimed]

@[simp] theorem State.addKey_claimed (i : Nat) (k : ItemKind) : (s.addKey i k).claimed = s.claimed := by
  unfold State.addKey
  split <;> rfl

@[simp] theorem State.queueKeys_claimed (i : Nat) : (s.queueKeys i).claimed = s.claimed := by
  unfold State.queueKeys
  extract_lets x
  split
  · rfl
  · refine foldl_keeps (v := State.claimed) (fun t p => ?_) _ _
    dsimp only
    split <;> split <;> simp only [State.addKey_claimed]

@[simp] theorem State.closeStall_claimed (i e : Nat) : (s.closeStall i e).claimed = s.claimed := by
  unfold State.closeStall
  dsimp only
  split
  · exact s.unbind_claimed i
  · split <;> split <;> simp only [State.modStall_claimed, State.evict_claimed]

@[simp] theorem State.rollFinish_claimed : s.rollFinish.claimed = s.claimed := by
  have hpads : s.padsClosed.claimed = s.claimed :=
    foldl_keeps (v := State.claimed) (g := State.closePad (s.roll.epoch % 256) s.roll.restarted) (fun _ _ => rfl) _ s
  have hstalls : s.stallsClosed.claimed = s.epochTurned.claimed :=
    foldl_keeps (v := State.claimed) (fun t i => t.closeStall_claimed i _) _ _
  obtain ⟨items, jobs, args, stragglers, heq⟩ := s.rollFinish_eq
  rw [heq, State.persistTables_claimed, State.journal_claimed, State.event_claimed, State.seg_claimed, hstalls]
  exact hpads

@[simp] theorem State.rollStall_claimed (i : Nat) : (s.rollStall i).claimed = s.claimed := by
  unfold State.rollStall
  dsimp only
  split
  · exact (State.queueKeys_claimed _ _).trans rfl
  · exact (State.addKey_claimed _ _ _).trans rfl

@[simp] theorem State.rollFill_claimed : s.rollFill.claimed = s.claimed := by
  refine foldl_keeps (v := State.claimed) (fun t y => foldl_keeps (v := State.claimed) (fun u i => ?_) _ t) _ s
  split
  · exact u.rollStall_claimed i
  · rfl

@[simp] theorem State.rollPass_claimed : s.rollPass.claimed = s.claimed := by
  unfold State.rollPass
  split
  · rfl
  · split
    · unfold State.rollClose
      dsimp only
      split
      · rfl
      · exact (State.rollFinish_claimed _).trans rfl
    · split
      · rfl
      · split
        · exact (State.rollFill_claimed _).trans rfl
        · rfl

@[simp] theorem State.rollOpen_claimed : s.rollOpen.claimed = s.claimed := by
  unfold State.rollOpen State.rollOn
  extract_lets e tack seg s0 s1 pads s2
  have hs1 : s1.claimed = s.claimed := (s0.journal_claimed _).trans rfl
  have hs2 : s2.claimed = s.claimed := (foldl_keeps (v := State.claimed) (fun t p => by
    dsimp only
    rw [State.modPad_claimed, State.freshHandle_claimed]) pads s1).trans hs1
  split
  · rw [State.rollPass_claimed, State.rollFill_claimed, State.event_claimed, State.persistTables_claimed, hs2]
  · rw [State.event_claimed, State.persistTables_claimed, hs2]

/-! ## Resuming (R135, R205, R224, R360) -/

@[simp] theorem State.resumeStall_claimed (i : Nat) : (s.resumeStall i).claimed = s.claimed := by
  unfold State.resumeStall
  dsimp only
  split
  · rfl
  · split
    · unfold State.limitStall State.renewKey
      dsimp only
      rw [State.addKey_claimed, State.modStall_claimed, State.freshHandle_claimed, State.evict_claimed, State.event_claimed,
        State.modStall_claimed]
    · rw [State.unbind_claimed, State.event_claimed]

theorem State.resumePad_claimed (p : Nat) : (s.resumePad p).1.claimed = s.claimed := by
  unfold State.resumePad
  extract_lets fc v t
  have ht : t.claimed = s.claimed := s.modPad_claimed _ _
  clear_value t
  split
  · exact (t.event_claimed _ _ _ _ _).trans ht
  · exact ht

@[simp] theorem State.resumeRoll_claimed : s.resumeRoll.claimed = s.claimed := by
  unfold State.resumeRoll
  split
  · exact s.rollFinish_claimed
  · split
    · extract_lets t seg u
      have hu : u.claimed = s.claimed := (t.seg_claimed _).trans (s.event_claimed _ _ _ _ _)
      clear_value u
      rw [State.rollPass_claimed, State.rollFill_claimed, hu]
    · rfl

theorem State.resumeCounters_claimed : s.resumeCounters.1.claimed = s.claimed := by
  unfold State.resumeCounters
  extract_lets t
  have ht : t.claimed = s.claimed :=
    foldl_keeps (v := State.claimed) (g := State.resumeStall) (fun u i => u.resumeStall_claimed i) _ s
  clear_value t
  refine (foldl_keeps (v := fun a : State × Bool => a.1.claimed) (fun a p => ?_) _ (t, false)).trans ht
  dsimp only
  rw [State.resumePad_claimed]

@[simp] theorem State.resumeSegment_claimed : s.resumeSegment.claimed = s.claimed := by
  unfold State.resumeSegment
  extract_lets r t
  have ht : t.claimed = s.claimed := r.1.resumeRoll_claimed.trans s.resumeCounters_claimed
  split
  · exact t.rollOpen_claimed.trans ht
  · exact ht

/-- A register apart from those of the role, the claim and the gate. -/
theorem State.sts_claimed {r : Reg} (hstat : r.offset ≠ 0x32000C) (hclaim : r.offset ≠ 0x320010) (hgate : r.offset ≠ 0x300004)
    (v : BitVec 32) : ({ s with sts := s.sts.put r v } : State).claimed = s.claimed := by
  unfold State.claimed
  dsimp only
  rw [RegFile.get_put_other _ _ (Ne.symm hstat), RegFile.get_put_other _ _ (Ne.symm hclaim), RegFile.get_put_other _ _ (Ne.symm hgate)]

@[simp] theorem State.fltRefresh_claimed : s.fltRefresh.claimed = s.claimed := by
  unfold State.fltRefresh
  dsimp only
  split <;> exact s.sts_claimed (by decide) (by decide) (by decide) _

theorem State.takeSlot_claimed (x : Slot) : (s.takeSlot x).claimed = s.claimed := by
  unfold State.takeSlot State.putSlots
  exact (State.sts_claimed _ (by decide) (by decide) (by decide) _).trans rfl

@[simp] theorem State.resumeScene_claimed (id : Nat) : (s.resumeScene id).claimed = s.claimed := by
  unfold State.resumeScene
  split
  · rfl
  · split
    · dsimp only
      rw [State.modScene_claimed]
      exact (foldl_keeps (v := State.claimed) (fun t x => t.takeSlot_claimed x) _ _).trans rfl
    · rfl

/-- A unit that goes on from its mirror keeps its role, its claim and its gate (R360). -/
theorem State.adoptMirror_claimed (standby : Bool) : (s.adoptMirror standby).claimed = s.claimed := by
  have hcamps : ∀ u : State, u.resumeSegment.resumeCamps.claimed = u.claimed := fun u =>
    (State.fltRefresh_claimed _).trans u.resumeSegment_claimed
  unfold State.adoptMirror
  split
  · split
    · exact hcamps s
    · rfl
  · exact (foldl_keeps (v := State.claimed) (fun t id => t.resumeScene_claimed id) _ _).trans ((hcamps _).trans rfl)

theorem State.endResync_claimed : s.endResync.claimed = s.claimed := by
  unfold State.endResync
  refine (foldl_keeps (v := State.claimed) (fun u i => ?_) _ _).trans rfl
  split
  · exact u.finish_claimed _ _
  · rfl

end

/-- What is read of the role, the peer's presence, the claim and the gate. -/
theorem State.reads_of_claimed {s t : State} (h : t.claimed = s.claimed) : t.twinRole = s.twinRole
    ∧ t.tw F.TWN_STAT_PEER_PRESENT = s.tw F.TWN_STAT_PEER_PRESENT ∧ t.ownClaim = s.ownClaim ∧ t.gateClosed = s.gateClosed
    ∧ t.twn.epoch = s.twn.epoch ∧ t.twn.gateUntil = s.twn.gateUntil ∧ t.tsu.raw = s.tsu.raw := by
  unfold State.claimed at h
  simp only [Prod.mk.injEq] at h
  obtain ⟨hstat, hclaim, hgate, hepoch, huntil, hraw⟩ := h
  unfold State.tw State.twinRole State.ownClaim State.gateClosed State.sf
  rw [hstat, hclaim, hgate]
  exact ⟨rfl, rfl, rfl, rfl, hepoch, huntil, hraw⟩

end Sys2Proof.Machine
end

section
/-! PROOFS. Where a unit of a twin pair stands: what the twin flags, the mirror's restart and the claim gate leave of it (R314, R346, R349,
R351, R359, R363). -/
namespace Sys2Proof.Machine

/-- Where a unit stands: its role, whether its peer is present, its claim, the STANDBY flag, the claim gate, its epoch, the end of its
20 ms, the time unit, and the carriers. -/
structure Stance where
  role : Nat
  present : Bool
  claim : Nat
  standby : Bool
  closed : Bool
  epoch : Nat
  gateUntil : Option Nat
  tsu : Tsu
  carriers : List Carrier

def State.stance (s : State) : Stance :=
  { role := s.twinRole, present := s.tw F.TWN_STAT_PEER_PRESENT, claim := s.ownClaim, standby := s.standby, closed := s.gateClosed
    epoch := s.twn.epoch, gateUntil := s.twn.gateUntil, tsu := s.tsu, carriers := s.air.carriers }

/-- What is read of a state that stands so. -/
theorem State.reads_of_stance {t : State} {x : Stance} (h : t.stance = x) : t.twinRole = x.role
    ∧ t.tw F.TWN_STAT_PEER_PRESENT = x.present ∧ t.ownClaim = x.claim ∧ t.standby = x.standby ∧ t.gateClosed = x.closed
    ∧ t.twn.epoch = x.epoch ∧ t.twn.gateUntil = x.gateUntil ∧ t.tsu = x.tsu ∧ t.onAir = x.carriers.filter (fun c => c.on) := by
  subst h
  exact ⟨rfl, rfl, rfl, rfl, rfl, rfl, rfl, rfl, rfl⟩

section
variable (s : State)

/-! ## Registers -/

/-- A register apart from those of the role, the claim, the STANDBY flag and the gate. -/
theorem State.sts_stance {r : Reg} (hstat : r.offset ≠ 0x32000C) (hclaim : r.offset ≠ 0x320010) (hflag : r.offset ≠ 0x8)
    (hgate : r.offset ≠ 0x300004) (v : BitVec 32) : ({ s with sts := s.sts.put r v } : State).stance = s.stance := by
  unfold State.stance State.twinRole State.tw State.ownClaim State.standby State.gateClosed State.sf
  dsimp only
  rw [RegFile.get_put_other _ _ (Ne.symm hstat), RegFile.get_put_other _ _ (Ne.symm hclaim),
    RegFile.get_put_other _ _ (Ne.symm hflag), RegFile.get_put_other _ _ (Ne.symm hgate)]

/-- A field of TWN_STAT apart from the role and the peer's presence. -/
theorem State.setTw_stance {f : Fld} (hf : f.inWord) (hrole : F.TWN_STAT_ROLE.apart f) (hpeer : F.TWN_STAT_PEER_PRESENT.apart f)
    (v : Nat) : (s.setSf .TWN_STAT f v).stance = s.stance := by
  unfold State.stance State.twinRole State.tw State.ownClaim State.standby State.gateClosed
  rw [State.sf_setSf_apart _ _ (by decide) hf hrole, State.sf_setSf_apart _ _ (by decide) hf hpeer,
    State.sf_setSf_other _ (by decide), State.sf_setSf_other _ (by decide), State.sf_setSf_other _ (by decide)]
  rfl

theorem State.twinEvt_stance (f : Fld) : (s.twinEvt f).stance = s.stance :=
  s.sts_stance (by decide) (by decide) (by decide) (by decide) _

theorem State.event_stance (f i c v : Nat) (a : List Nat) : (s.event f i c v a).stance = s.stance := rfl

theorem State.setTwinRole_stance {v : Nat} (hv : v < 4) :
    (s.setSf .TWN_STAT F.TWN_STAT_ROLE v).stance = { s.stance with role := v } := by
  have hrole : (s.setSf .TWN_STAT F.TWN_STAT_ROLE v).twinRole = v := (s.sf_setSf_same _ (by decide) _).trans (Nat.mod_eq_of_lt hv)
  unfold State.stance State.tw State.ownClaim State.standby State.gateClosed
  rw [hrole, State.sf_setSf_apart _ _ (by decide) (by decide) (by decide), State.sf_setSf_other _ (by decide),
    State.sf_setSf_other _ (by decide), State.sf_setSf_other _ (by decide)]
  rfl

theorem State.setPresent_stance (v : Bool) : (s.setTw F.TWN_STAT_PEER_PRESENT v).stance = { s.stance with present := v } := by
  have hpeer : (s.setTw F.TWN_STAT_PEER_PRESENT v).tw F.TWN_STAT_PEER_PRESENT = v := by
    unfold State.tw State.setTw
    rw [State.sf_setSf_same _ _ (by decide)]
    cases v <;> rfl
  unfold State.stance State.twinRole State.ownClaim State.standby State.gateClosed
  rw [hpeer]
  unfold State.setTw
  rw [State.sf_setSf_apart _ _ (by decide) (by decide) (by decide), State.sf_setSf_other _ (by decide),
    State.sf_setSf_other _ (by decide), State.sf_setSf_other _ (by decide)]
  rfl

theorem State.setStandby_stance {v : Nat} (hv : v < 2) :
    (s.setSf .HIF_STATUS F.HIF_STATUS_STANDBY v).stance = { s.stance with standby := v == 1 } := by
  have hflag : (s.setSf .HIF_STATUS F.HIF_STATUS_STANDBY v).standby = (v == 1) :=
    congrArg (· == 1) ((s.sf_setSf_same _ (by decide) _).trans (Nat.mod_eq_of_lt hv))
  unfold State.stance State.twinRole State.tw State.ownClaim State.gateClosed
  rw [hflag, State.sf_setSf_other _ (by decide), State.sf_setSf_other _ (by decide), State.sf_setSf_other _ (by decide),
    State.sf_setSf_other _ (by decide)]
  rfl

theorem State.setClaim_stance (v : Nat) : (s.setSw .TWN_CLAIM v).stance = { s.stance with claim := v % 2 ^ 32 } := by
  have hclaim : (s.setSw .TWN_CLAIM v).ownClaim = v % 2 ^ 32 := by
    unfold State.ownClaim State.sf State.setSw
    dsimp only
    rw [RegFile.get_put_same]
    show (v % 2 ^ 32) >>> 0 % 2 ^ 32 = v % 2 ^ 32
    rw [Nat.shiftRight_zero, Nat.mod_mod]
  unfold State.stance State.twinRole State.tw State.standby State.gateClosed
  rw [hclaim, State.sf_setSw_other _ (by decide), State.sf_setSw_other _ (by decide), State.sf_setSw_other _ (by decide),
    State.sf_setSw_other _ (by decide)]
  rfl

theorem State.modTwn_stance (f : Twn → Twn) :
    (s.modTwn f).stance = { s.stance with epoch := (f s.twn).epoch, gateUntil := (f s.twn).gateUntil } := rfl

/-! ## The twin flags (R359, R363) -/

theorem State.refreshSync_stance : s.refreshSync.stance = s.stance := by
  have hset : ∀ v, ((s.setTw F.TWN_STAT_IN_SYNC v).twinEvt F.TWN_EVT_SYNC).stance = s.stance := fun v =>
    (State.twinEvt_stance _ _).trans (s.setTw_stance (by decide) (by decide) (by decide) _)
  unfold State.refreshSync
  extract_lets v t
  split
  · rfl
  · split
    · exact (t.event_stance _ _ _ _ _).trans (hset v)
    · exact hset v

theorem State.refreshHealth_stance : s.refreshHealth.stance = s.stance := by
  unfold State.refreshHealth
  extract_lets h t
  split
  · rfl
  · exact (t.event_stance _ _ _ _ _).trans
      ((State.twinEvt_stance _ _).trans (s.setTw_stance (by decide) (by decide) (by decide) _))

theorem State.refreshTwin_stance : s.refreshTwin.stance = s.stance := by
  unfold State.refreshTwin
  split
  · rfl
  · extract_lets t rev sick
    have ht : t.stance = s.stance := s.refreshSync.refreshHealth_stance.trans s.refreshSync_stance
    clear_value rev sick t
    exact (t.modTwn_stance _).trans ht

/-! ## The mirror restarts (R359) -/

theorem State.laneSend_stance (b : TwinBody) : (s.laneSend b).stance = s.stance := by
  unfold State.laneSend
  split <;> rfl

theorem State.fltRefresh_stance : s.fltRefresh.stance = s.stance := by
  unfold State.fltRefresh
  dsimp only
  split <;> exact s.sts_stance (by decide) (by decide) (by decide) (by decide) _

theorem State.mirrorStart_stance : s.mirrorStart.stance = s.stance := by
  unfold State.mirrorStart
  extract_lets t seg flt u
  have hu : u.stance = s.stance := by
    unfold u
    split
    · exact (State.fltRefresh_stance _).trans rfl
    · rfl
  exact (State.refreshTwin_stance _).trans ((u.laneSend_stance _).trans hu)

theorem State.mirrorRestart_stance (cause : Nat) : (s.mirrorRestart cause).stance = s.stance := by
  unfold State.mirrorRestart
  split
  · exact (State.mirrorStart_stance _).trans (s.event_stance _ _ _ _ _)
  · rfl

/-! ## The claim gate (R314) -/

theorem State.drvRefresh_stance {n : Nat} (hn : n < 48) : (s.drvRefresh n).stance = s.stance := by
  unfold State.drvRefresh
  refine s.sts_stance ?_ ?_ ?_ ?_ _ <;> simp only [Reg.offset] <;> omega

theorem State.drvRefreshAll_stance : s.drvRefreshAll.stance = s.stance :=
  foldl_keeps_of_mem (v := State.stance) (fun t _ hn => t.drvRefresh_stance (List.mem_range.1 hn)) s

theorem State.drivePad_stance (n : Nat) (form : Option PwmForm) : (s.drivePad n form).stance = s.stance := rfl

/-- The gate's register shows the closing, and counts it (R314). -/
def State.gateMarked (s : State) : State := (s.setSf .DRV_GATE F.DRV_GATE_CLOSED 1).bumpSat .DRV_GATE F.DRV_GATE_CLOSURES

theorem State.gateMarked_stance : s.gateMarked.stance = { s.stance with closed := true } := by
  have hclosed : s.gateMarked.gateClosed = true := by
    unfold State.gateMarked State.gateClosed State.bumpSat
    rw [State.sf_setSf_apart _ _ (by decide) (by decide) (by decide), State.sf_setSf_same _ _ (by decide)]
    rfl
  unfold State.stance State.twinRole State.tw State.ownClaim State.standby
  rw [hclosed]
  unfold State.gateMarked State.bumpSat
  rw [State.sf_setSf_other _ (by decide), State.sf_setSf_other _ (by decide), State.sf_setSf_other _ (by decide),
    State.sf_setSf_other _ (by decide), State.sf_setSf_other _ (by decide), State.sf_setSf_other _ (by decide),
    State.sf_setSf_other _ (by decide), State.sf_setSf_other _ (by decide)]
  rfl

/-- The gate's closing changes nothing of where the unit stands but the gate. -/
theorem State.closeGate_stance : s.closeGate.stance = { s.stance with closed := true } := by
  unfold State.closeGate
  split
  · rename_i hclosed
    unfold State.stance
    rw [hclosed]
  · extract_lets t
    have hpads : ∀ l : List Nat, (l.foldl (fun u n => u.drivePad n none) t).stance = t.stance := fun l =>
      foldl_keeps (v := State.stance) (fun u n => u.drivePad_stance n none) l t
    exact (State.drvRefreshAll_stance _).trans ((hpads _).trans s.gateMarked_stance)

theorem State.closeGate_twn : s.closeGate.twn = s.twn := by
  unfold State.closeGate
  split
  · rfl
  · refine (foldl_keeps (v := State.twn) (g := State.drvRefresh) (fun _ _ => rfl) _ _).trans ?_
    exact (foldl_keeps (v := State.twn) (g := fun u n => u.drivePad n none) (fun _ _ => rfl) _ _).trans rfl

theorem State.closeGate_gateClosed : s.closeGate.gateClosed = true := congrArg Stance.closed s.closeGate_stance

end

/-! ## The unit falls silent (R350, R351, R352) -/

section
variable (s : State)

/-- Once silent, the unit has no carrier on the air and no slot armed (R351). -/
theorem State.silence_aloft : s.silence.aloft = (s.stopAll.air.carriers, s.twn, []) :=
  congrArg (fun w => (s.stopAll.air.carriers, w, [])) s.stopAll_twn

/-- The unit enters STANDBY with a claim of PREF 0 (R351, R355). -/
def State.stoodBy (s : State) : State := ((s.setSf .TWN_STAT F.TWN_STAT_ROLE 2).setSf .HIF_STATUS F.HIF_STATUS_STANDBY 1).showClaim

theorem State.stoodBy_stance : s.stoodBy.stance = { s.stance with role := 2, standby := true, claim := s.twn.epoch % 2 ^ 32 } := by
  have hset : ((s.setSf .TWN_STAT F.TWN_STAT_ROLE 2).setSf .HIF_STATUS F.HIF_STATUS_STANDBY 1).stance
      = { s.stance with role := 2, standby := true } := by
    rw [State.setStandby_stance _ (by decide), State.setTwinRole_stance _ (by decide)]
    rfl
  obtain ⟨hrole, -⟩ := State.reads_of_stance hset
  unfold State.stoodBy State.showClaim claimOf
  rw [if_pos (Or.inr hrole), State.setClaim_stance, hset, Nat.zero_mul, Nat.zero_add]
  rfl

/-- A unit that leaves ACTIVE is silent and STANDBY, and shows its epoch with PREF 0 (R351). -/
theorem State.leaveActive_reads (path heard : Nat) : (s.leaveActive path heard).twinRole = 2
    ∧ (s.leaveActive path heard).onAir = [] ∧ (s.leaveActive path heard).tsu.slots = []
    ∧ (s.leaveActive path heard).standby = true ∧ (s.leaveActive path heard).ownClaim = s.twn.epoch % 2 ^ 32 := by
  unfold State.leaveActive
  extract_lets own t u v w seg x
  have hu : u.aloft = (s.stopAll.air.carriers, s.twn, []) := by
    refine (State.endRadio_aloft _).trans ((State.cancelAll_aloft _ ?_ _ _ _).trans s.silence_aloft)
    rfl
  have hv : v.stance = { u.stance with role := 2, standby := true, claim := s.twn.epoch % 2 ^ 32 } := by
    rw [← show u.twn = s.twn from congrArg (fun y => y.2.1) hu]
    exact u.stoodBy_stance
  have hx : x.stance = v.stance := Eq.trans rfl ((State.twinEvt_stance _ _).trans (v.event_stance _ _ _ _ _))
  have hend : ((x.modTwn (fun w => { w with bistAt := x.tsu.raw, gateUntil := none })).mirrorRestart 0).stance
      = { v.stance with gateUntil := none } :=
    (State.mirrorRestart_stance _ 0).trans (congrArg (fun y : Stance => { y with gateUntil := none }) hx)
  rw [hv] at hend
  obtain ⟨hrole, -, hclaim, hflag, -, -, -, htsu, hair⟩ := State.reads_of_stance hend
  refine ⟨hrole, hair.trans ?_, ?_, hflag, hclaim⟩
  · exact (congrArg (fun y => y.1.filter (fun c => c.on)) hu).trans s.stopAll_onAir
  · rw [htsu]
    exact congrArg (fun y => y.2.2) hu

/-- A unit that yields leaves ACTIVE, and its gate closes (R350, R355). -/
theorem State.yields_reads : s.yields.twinRole = 2 ∧ s.yields.onAir = [] ∧ s.yields.gateClosed = true := by
  obtain ⟨hrole, -, -, -, hgate, -, -, -, hair⟩ :=
    State.reads_of_stance (s.fresh.2.leaveActive (s.fresh.1 % 3) s.peerClaim).closeGate_stance
  obtain ⟨hleft, hsilent, -⟩ := s.fresh.2.leaveActive_reads (s.fresh.1 % 3) s.peerClaim
  exact ⟨hrole.trans hleft, hair.trans hsilent, hgate⟩

/-- An active unit that hears a higher claim leaves ACTIVE at once, and its gate closes (R349, R351). -/
theorem State.hear_higher {claim : Nat} (path : Nat) (hrole : s.twinRole = 3) (hhigher : s.ownClaim < claim) :
    ∃ t : State, s.hear path claim = (t.leaveActive path claim).closeGate ∧ t.twn.epoch = max s.twn.epoch (claimEpoch claim) := by
  have hpresent : ∀ u : State, (u.present claim).twn = u.twn := fun u => by
    unfold State.present
    split <;> rfl
  have hshow : ∀ u : State, u.showClaim.twn = u.twn := fun u => by
    unfold State.showClaim
    split <;> rfl
  unfold State.hear
  extract_lets old t u v w
  refine ⟨w, ?_, ?_⟩
  · rw [if_pos ⟨hhigher, by rw [hrole]; decide, by rw [hrole]; decide⟩, if_pos hrole]
  · have hv : v.twn = t.twn := by
      unfold v
      split
      · exact (hpresent u).trans (hshow t)
      · exact hshow t
    show v.twn.epoch = _
    rw [hv]
    rfl

/-- The claim shown is of PREF 0 as long as the epoch fits its field. -/
theorem claimPref_of_epoch {e : Nat} (h : e < 2 ^ 28) : claimPref (e % 2 ^ 32) = 0 := by
  unfold claimPref
  omega

/-! ## The unit becomes active (R347, R350, R355) -/

/-- What marks a unit as active: the takeover's record, its role and flag, its claim, the count of takeovers, and the gate closed. -/
def State.takenOver (s : State) (cause claim : Nat) : State :=
  (((((s.event 17 0 0x0B01 2 [s.peerClaim, claim, cause, s.flags]).twinEvt F.TWN_EVT_TAKEOVER).setSf .TWN_STAT F.TWN_STAT_ROLE 3).setSf
    .HIF_STATUS F.HIF_STATUS_STANDBY 0).setSw .TWN_CLAIM claim).bump .TWN_HANDOVERS F.word |>.closeGate

theorem State.takenOver_stance (cause : Nat) {claim : Nat} (hclaim : claim < 2 ^ 32) : (s.takenOver cause claim).stance
    = { s.stance with role := 3, claim := claim, standby := false, closed := true } := by
  have hbump : ∀ (u : State) v, (u.setSf .TWN_HANDOVERS F.word v).stance = u.stance := fun u v =>
    u.sts_stance (by decide) (by decide) (by decide) (by decide) _
  unfold State.takenOver State.bump
  rw [State.closeGate_stance, hbump, State.setClaim_stance, State.setStandby_stance _ (by decide),
    State.setTwinRole_stance _ (by decide), State.twinEvt_stance, State.event_stance, Nat.mod_eq_of_lt hclaim]
  rfl

/-- The claim of a unit that becomes active: its PREF, and the epoch above every one heard or saved (R346, R347). -/
def State.nextClaim (s : State) : Nat := claimOf s.ownPref (s.topEpoch + 1)

/-- The unit has claimed, in its new epoch, and is to keep its gate closed for 20 ms (R347, R350). -/
def State.claims (s : State) (cause : Nat) : State :=
  let t := s.takenOver cause s.nextClaim
  t.modTwn (fun w => { w with epoch := s.topEpoch + 1, gateUntil := some (t.tsu.raw + 20 * msT), shadow := none })

theorem State.claims_stance (cause : Nat) (htop : s.topEpoch < 0x0FFFFFFF) (hpref : s.ownPref < 16) : (s.claims cause).stance
    = { s.stance with role := 3, claim := s.nextClaim, standby := false, closed := true, epoch := s.topEpoch + 1
                      gateUntil := some (s.tsu.raw + 20 * msT) } := by
  have hfits : s.nextClaim < 2 ^ 32 := by
    unfold State.nextClaim claimOf
    omega
  have hover := s.takenOver_stance cause hfits
  obtain ⟨-, -, -, -, -, -, -, htsu, -⟩ := State.reads_of_stance hover
  unfold State.claims
  dsimp only
  rw [State.modTwn_stance, hover, htsu]
  rfl

/-- The unit goes on from its mirror, and each yard takes over the frames of its sequence (R360). -/
def State.goesOn (s : State) (standby : Bool) : State :=
  let t := s.adoptMirror standby
  { t with air := { t.air with seqs := t.air.seqs.map (fun q => (q.1, { q.2 with takeover := true })) } }

theorem State.goesOn_claimed (standby : Bool) : (s.goesOn standby).claimed = s.claimed := by
  unfold State.goesOn
  extract_lets t air
  exact (t.air_claimed _).trans (s.adoptMirror_claimed standby)

theorem State.becomeActive_eq (cause : Nat) (hheld : s.held = false) (htop : s.topEpoch < 0x0FFFFFFF) :
    s.becomeActive cause = ((s.claims cause).goesOn (s.twinRole == 2)).endResync.refreshTwin := by
  unfold State.becomeActive
  rw [if_neg (ne_true_of_eq_false hheld), if_neg (Nat.not_le.2 htop)]
  rfl

/-- What keeps role, claim and gate as they stood is read so once the twin flags have followed. -/
theorem State.refreshTwin_reads {t u : State} {x : Stance} (hkept : t.claimed = u.claimed) (hu : u.stance = x) :
    t.refreshTwin.twinRole = x.role ∧ t.refreshTwin.ownClaim = x.claim ∧ t.refreshTwin.gateClosed = x.closed
      ∧ t.refreshTwin.twn.gateUntil = x.gateUntil ∧ t.refreshTwin.twn.epoch = x.epoch
      ∧ t.refreshTwin.tw F.TWN_STAT_PEER_PRESENT = x.present ∧ t.refreshTwin.tsu.raw = x.tsu.raw := by
  obtain ⟨hrole, hpeer, hown, hgate, hepoch, huntil, hraw⟩ := State.reads_of_claimed hkept
  obtain ⟨hrole', hpeer', hown', -, hgate', hepoch', huntil', htsu', -⟩ := State.reads_of_stance t.refreshTwin_stance
  subst hu
  exact ⟨hrole'.trans hrole, hown'.trans hown, hgate'.trans hgate, huntil'.trans huntil, hepoch'.trans hepoch, hpeer'.trans hpeer,
    (congrArg Tsu.raw htsu').trans hraw⟩

/-- A unit that is not held, and has an epoch left, becomes active: it claims with its PREF and the next epoch, and its gate is closed
for 20 ms. The peer stays present or absent, and no time passes (R347, R350). -/
theorem State.becomeActive_reads (cause : Nat) (hheld : s.held = false) (htop : s.topEpoch < 0x0FFFFFFF) (hpref : s.ownPref < 16) :
    (s.becomeActive cause).twinRole = 3 ∧ (s.becomeActive cause).ownClaim = claimOf s.ownPref (s.topEpoch + 1)
      ∧ (s.becomeActive cause).gateClosed = true ∧ (s.becomeActive cause).twn.gateUntil = some (s.tsu.raw + 20 * msT)
      ∧ (s.becomeActive cause).twn.epoch = s.topEpoch + 1
      ∧ (s.becomeActive cause).tw F.TWN_STAT_PEER_PRESENT = s.tw F.TWN_STAT_PEER_PRESENT
      ∧ (s.becomeActive cause).tsu.raw = s.tsu.raw := by
  rw [s.becomeActive_eq cause hheld htop]
  exact State.refreshTwin_reads ((State.endResync_claimed _).trans ((s.claims cause).goesOn_claimed _)) (s.claims_stance cause htop hpref)

end

end Sys2Proof.Machine
end

section
/-! PROOFS. O51: claims, the lease, and the unit of a pair that acts (R314, R347, R349 to R353, R355, R365 to R367, R569). -/
namespace Sys2Proof.Machine

section
variable {s : State}

/-! ## What is read of a framed state -/

theorem State.framed_twinRole (s t : State) : (s.framed t).twinRole = t.twinRole := rfl
theorem State.framed_tw (s t : State) (f : Fld) : (s.framed t).tw f = t.tw f := rfl
theorem State.framed_gateClosed (s t : State) : (s.framed t).gateClosed = t.gateClosed := rfl
theorem State.framed_twn (s t : State) : (s.framed t).twn = t.twn := rfl
theorem State.framed_onAir (s t : State) : (s.framed t).onAir = t.onAir := rfl
theorem State.framed_raw (s t : State) : (s.framed t).tsu.raw = t.tsu.raw := rfl

/-- A unit whose lease has lapsed may not emit (R352). -/
theorem State.mayEmit_of_lapsed {t : State} (h : t.twn.lapsed = true) : t.mayEmit = false := by
  unfold State.mayEmit State.gateOpen
  rw [h, Bool.not_true, Bool.and_false, Bool.and_false, Bool.false_and]

/-! ## The commands -/

/-- M3 has not renewed the lease: every carrier stops, and the gate closes (R352). -/
def State.leaseLapsed (s : State) : State :=
  ((s.modTwn (fun w => { w with lapsed := true })).bumpSat .TWN_STAT F.TWN_STAT_LAPSES).stopAll.closeGate

theorem exec_leaseLapse (hon : s.twinOn = true) (hfirst : s.twn.lapsed = false) (hlease : s.leaseHeld = false) :
    Does .leaseLapse s s.leaseLapsed := by
  unfold Does exec execLeaseLapse
  exact quiet_does (if_neg (by simp [hon, hfirst, hlease]))

theorem State.leaseLapsed_reads (s : State) : s.leaseLapsed.twn.lapsed = true ∧ s.leaseLapsed.onAir = []
    ∧ s.leaseLapsed.gateClosed = true := by
  unfold State.leaseLapsed
  generalize ht : (s.modTwn (fun w => { w with lapsed := true })).bumpSat .TWN_STAT F.TWN_STAT_LAPSES = t
  obtain ⟨-, -, -, -, hgate, -, -, -, hair⟩ := State.reads_of_stance t.stopAll.closeGate_stance
  have hlapsed : t.stopAll.closeGate.twn.lapsed = true := by
    rw [State.closeGate_twn, State.stopAll_twn, ← ht]
    rfl
  exact ⟨hlapsed, hair.trans t.stopAll_onAir, hgate⟩

/-- The instant at which the peer counts as not heard: LOSS_AFTER after the bus, and the lane while it has link, last carried it (R353). -/
def State.lossAt (s : State) : Nat := max s.twn.busHeard (if s.tw F.TWN_STAT_LANE_OK then s.twn.laneHeard else 0) + s.lossT

/-- The peer is no longer present: both its paths are silent (R353). -/
def State.losePeer (s : State) : State :=
  let t := ((s.setTw F.TWN_STAT_PEER_PRESENT false).setTw F.TWN_STAT_BUS_OK false).modTwn (fun w => { w with samePref := false })
  (t.event 17 0 0x0B03 2 [t.peerClaim]).twinEvt F.TWN_EVT_PEER

theorem State.losePeer_stance (s : State) : s.losePeer.stance = { s.stance with present := false } := by
  unfold State.losePeer
  extract_lets t
  have ht : t.stance = { s.stance with present := false } :=
    (((s.setTw F.TWN_STAT_PEER_PRESENT false).setTw_stance (by decide) (by decide) (by decide) _).trans (s.setPresent_stance false))
  exact (State.twinEvt_stance _ _).trans ((t.event_stance _ _ _ _ _).trans ht)

/-- A unit without a peer is not held, and its epochs, its PREF and the time are as they were. -/
theorem State.losePeer_reads (s : State) : s.losePeer.tw F.TWN_STAT_PEER_PRESENT = false ∧ s.losePeer.tsu.raw = s.tsu.raw
    ∧ s.losePeer.held = false ∧ s.losePeer.topEpoch = s.topEpoch ∧ s.losePeer.ownPref = s.ownPref := by
  obtain ⟨-, hpeer, -⟩ := State.reads_of_stance s.losePeer_stance
  exact ⟨hpeer, rfl, rfl, rfl, rfl⟩

theorem State.elapseTo_topEpoch (s : State) (r : Nat) : (s.elapseTo r).topEpoch = s.topEpoch := by
  unfold State.elapseTo
  split <;> rfl

theorem State.elapseTo_ownPref (s : State) (r : Nat) : (s.elapseTo r).ownPref = s.ownPref := by
  unfold State.ownPref State.cf
  rw [State.elapseTo_cfg]

/-- The peer has not been heard for LOSS_AFTER: it is no longer present (R353). -/
def State.peerGone (s : State) : State := (s.elapseTo s.lossAt).losePeer

/-- A standby whose peer is absent becomes active (R353, R355). -/
theorem exec_peerAbsent_standby (hon : s.twinOn = true) (hrole : s.twinRole = 2) :
    Does .peerAbsent s (s.peerGone.becomeActive 0) := by
  have hgone : s.peerGone.twinRole = 2 := by
    obtain ⟨hkept, -⟩ := State.reads_of_stance (s.elapseTo s.lossAt).losePeer_stance
    exact hkept.trans ((s.sf_elapseTo s.lossAt .TWN_STAT F.TWN_STAT_ROLE).trans hrole)
  unfold Does exec execPeerAbsent
  exact quiet_does ((if_neg (by simp [hon, hrole])).trans (if_pos hgone))

theorem exec_listenTimerEnd (hon : s.twinOn = true) (hrole : s.twinRole = 1) {u : State} (hu : u = s.elapseTo s.twn.listenEnd) :
    Does .listenTimerEnd s (
      if u.tw F.TWN_STAT_PEER_PRESENT = true ∧ u.sf .TWN_STAT F.TWN_STAT_PEER_ROLE = 3 then u.becomeStandby
      else if (u.tw F.TWN_STAT_PEER_PRESENT = true ∧ u.ownPref < u.twn.peerPref) ∨ u.held = true then u.becomeStandby
      else if 0x0FFFFFFF ≤ u.topEpoch then (u.twinFault 1).becomeStandby
      else u.becomeActive 4) := by
  unfold Does exec execListenTimerEnd
  subst hu
  exact quiet_does (if_neg (by simp [hon, hrole]))

theorem exec_reversionHoldoff {u : State} (hu : u = s.refreshTwin) : Does .reversionHoldoff s (
    match u.twn.revSince with
    | none => u
    | some r => (u.elapseTo (r + u.cf .TWN_TIMERS F.TWN_TIMERS_HOLDOFF * secT)).becomeActive 2) := by
  subst hu
  unfold Does exec execReversionHoldoff
  exact quiet_does rfl

/-- An unhealthy active unit yields to a healthy peer in sync (R366). -/
theorem exec_yieldAfter {u v : State} {r : Nat} (hu : u = s.refreshTwin) (hsick : u.twn.sickSince = some r)
    (hv : v = u.elapseTo (r + u.cf .TWN_TIMERS F.TWN_TIMERS_YIELD_AFTER * secT)) (hfresh : v.reportFresh = true)
    (hhealthy : bit v.twn.peerFlags 0 = true) (hsync : bit v.twn.peerFlags 1 = true) : Does .yieldAfter s v.yields := by
  subst hu hv
  unfold Does exec execYieldAfter
  refine quiet_does ?_
  dsimp only
  rw [hsick]
  exact if_pos ⟨hfresh, hhealthy, hsync⟩

theorem exec_twinCtlHandover_ring {d : Desc} (h : s.serves d 0x60) (hact : d.pByte 0 = 1) {n : Nat} (hsrc : d.src = .ring n) :
    Does (.twinCtlHandover d.did) s ((s.holding d.taken).fail d.taken stDENIED) := by
  have htaken : d.taken.src = .ring n := hsrc
  refine Does.of_served rfl h (by simpa [Desc.pByte] using hact) ?_
  dsimp only
  rw [htaken]

/-- HANDOVER from an owner's envelope sets INHIBIT on both units, or clears it, and the unit changes its part (R367). -/
theorem exec_twinCtlHandover {d : Desc} {v : Bool} {u : State} (h : s.serves d 0x60) (hact : d.pByte 0 = 1)
    (hsrc : ∀ n, d.src ≠ .ring n) (hargs : twinArgsOk d = true) (hlen : d.len = 0) (hpeer : s.tw F.TWN_STAT_PEER_PRESENT = true)
    (hrole : 2 ≤ s.twinRole) (hv : v = !s.tw F.TWN_STAT_INHIBIT)
    (hu : u = (((s.holding d.taken).setTw F.TWN_STAT_INHIBIT v).laneSend (.inhibit v)).ok d.taken) :
    Does (.twinCtlHandover d.did) s (if s.twinRole = 3 then u.yields else u.becomeActive 3) := by
  have hgood : ¬ (twinArgsOk d.taken = false ∨ d.taken.len ≠ 0) :=
    not_or.2 ⟨ne_false_of_eq_true hargs, not_not.2 hlen⟩
  have hpair : ¬ ((s.holding d.taken).twinRole < 2 ∨ (s.holding d.taken).tw F.TWN_STAT_PEER_PRESENT = false) :=
    not_or.2 ⟨Nat.not_lt.2 hrole, ne_false_of_eq_true hpeer⟩
  subst hu hv
  refine Does.of_served rfl h (by simpa [Desc.pByte] using hact) ?_
  split
  · rename_i n hn
    exact absurd hn (hsrc n)
  · rw [if_neg hgood, if_neg hpair]
    rfl

end

/-- Settles O51: each clause by what its command, or the step of its command, leaves of where the unit stands. -/
theorem oneUnitOfATwinPairActs : Obligations.OneUnitOfATwinPairActs := by
  unfold Obligations.OneUnitOfATwinPairActs
  refine ⟨?hears, ?barred, ?lapse, ?active, ?held, ?absent, ?listenStandby, ?listenAlone, ?reversion, ?yields, ?handover⟩
  case hears =>
    intro s path claim hrole hhigher hclaim hepoch
    obtain ⟨t, ht, htop⟩ := s.hear_higher path hrole hhigher
    obtain ⟨hleft, hair, hslots, hflag, hshown⟩ := t.leaveActive_reads path claim
    obtain ⟨hrole', -, hown, hflag', -, -, -, htsu, hair'⟩ := State.reads_of_stance (t.leaveActive path claim).closeGate_stance
    have hfits : t.twn.epoch < 2 ^ 28 := by
      rw [htop]
      exact max_lt hepoch (Nat.mod_lt _ (by decide))
    rw [ht]
    refine ⟨hrole'.trans hleft, hair'.trans hair, (congrArg Tsu.slots htsu).trans hslots, hflag'.trans hflag, ?_⟩
    rw [hown, show (t.leaveActive path claim).stance.claim = t.twn.epoch % 2 ^ 32 from hshown]
    exact claimPref_of_epoch hfits
  case barred =>
    intro s hbarred bad symBad
    obtain ⟨hdoes, hair⟩ := exec_chainGrant_barred hbarred bad symBad
    exact ⟨_, hdoes, (s.framed_onAir _).trans hair, s.framed_cfg _⟩
  case lapse =>
    intro s hon hfirst hlease
    obtain ⟨hlapsed, hair, hgate⟩ := s.leaseLapsed_reads
    have htwn := (congrArg Twn.lapsed (s.framed_twn _)).trans hlapsed
    exact ⟨_, exec_leaseLapse hon hfirst hlease, htwn, (s.framed_onAir _).trans hair, (s.framed_gateClosed _).trans hgate,
      State.mayEmit_of_lapsed htwn, s.framed_cfg _⟩
  case active =>
    intro s cause hheld htop hpref
    obtain ⟨hrole, hclaim, hgate, huntil, hepoch, -⟩ := s.becomeActive_reads cause hheld htop hpref
    refine ⟨hrole, hclaim, hgate, huntil, ?_⟩
    rw [hepoch]
    exact Nat.lt_succ_of_le (le_max_left _ _)
  case held =>
    intro s cause hheld
    exact if_pos hheld
  case absent =>
    intro s hon hrole htop hpref hend
    obtain ⟨hpeer, hsame, hheld, htop', hpref'⟩ := (s.elapseTo s.lossAt).losePeer_reads
    rw [← State.peerGone] at hpeer hsame hheld htop' hpref'
    obtain ⟨hrole', -, -, -, -, hpeer', hraw⟩ := s.peerGone.becomeActive_reads 0 hheld
      (by rwa [htop', State.elapseTo_topEpoch]) (by rwa [hpref', State.elapseTo_ownPref])
    have hloss : s.twn.busHeard + s.lossT ≤ s.lossAt ∧ s.lossAt < 2 ^ 64 := by
      unfold State.lossAt
      split <;> omega
    refine ⟨_, exec_peerAbsent_standby hon hrole, (s.framed_twinRole _).trans hrole', (s.framed_tw _ _).trans (hpeer'.trans hpeer), ?_,
      s.framed_cfg _⟩
    rw [State.framed_raw, hraw, hsame]
    exact hloss.1.trans (State.elapseTo_reaches hloss.2).1
  case listenStandby =>
    intro s hon hrole hpeer hactive
    have hrun := exec_listenTimerEnd hon hrole rfl
    rwa [if_pos ⟨congrArg (· == 1) (s.sf_elapseTo _ .TWN_STAT F.TWN_STAT_PEER_PRESENT) |>.trans hpeer,
      (s.sf_elapseTo _ .TWN_STAT F.TWN_STAT_PEER_ROLE).trans hactive⟩] at hrun
  case listenAlone =>
    intro s u hon hrole hpeer hu
    have halone : u.tw F.TWN_STAT_PEER_PRESENT = false := by
      rw [hu]
      exact (congrArg (· == 1) (s.sf_elapseTo _ .TWN_STAT F.TWN_STAT_PEER_PRESENT)).trans hpeer
    have hheld : u.held = false := by
      unfold State.held
      rw [halone, Bool.and_false]
    have hrun := exec_listenTimerEnd hon hrole hu
    rw [if_neg (by simp [halone]), if_neg (by simp [halone, hheld])] at hrun
    refine ⟨fun htop => ?_, fun hlast => ?_⟩
    · rwa [if_neg (Nat.not_le.2 htop)] at hrun
    · rwa [if_pos hlast] at hrun
  case reversion =>
    intro s u r hu
    have hrun := exec_reversionHoldoff hu
    refine ⟨fun hdue => ?_, fun hnone => ?_, fun v hsick hv hfresh hhealthy hsync => exec_yieldAfter hu hsick hv hfresh hhealthy hsync⟩
    · rwa [hdue] at hrun
    · rwa [hnone] at hrun
  case yields => exact fun s => s.yields_reads
  case handover =>
    intro s d h
    refine ⟨fun hact hsrc => ?_, fun v u hact hsrc hargs hlen hpeer hv hu => ⟨fun hrole => ?_, fun hrole => ?_⟩⟩
    · obtain ⟨n, hn⟩ := hsrc
      exact exec_twinCtlHandover_ring h hact hn
    · have hrun := exec_twinCtlHandover h hact hsrc hargs hlen hpeer (by omega) hv hu
      rwa [if_pos hrole] at hrun
    · have hrun := exec_twinCtlHandover h hact hsrc hargs hlen hpeer (by omega) hv hu
      rwa [if_neg (by omega)] at hrun

end Sys2Proof.Machine
end

section
/-! PROOFS. What a drive channel shows and how its fade goes: what its periods, its diagnosis and its DSTATE leave of them (R300, R302,
R305 to R309, R313). -/
namespace Sys2Proof.Machine

/-- What steers a channel and what it shows: the set-up, the time, the changes that wait, whether the drive runs and its gate is
closed, the factor of the channel's group, its registers but for its state and its events, its next boundary and its fade. -/
structure Course where
  cfg : RegFile
  tsu : Tsu
  changes : List DrvChange
  done : Bool
  closed : Bool
  factor : Nat
  level : BitVec 32
  on : BitVec 32
  isns : BitVec 32
  probes : Nat
  next : Nat
  from_ : Nat
  fadeAt : Nat
  fade : Nat

def State.course (n : Nat) (s : State) : Course :=
  { cfg := s.cfg, tsu := s.tsu, changes := s.drv.changes, done := s.done, closed := s.gateClosed
    factor := s.sf (.DRV_NTC_STAT (n / 6)) F.DRV_NTC_STAT_FACTOR, level := s.sts.get (.DRV_CH_LEVEL n), on := s.sts.get (.DRV_CH_ON n)
    isns := s.sts.get (.DRV_CH_ISNS n), probes := s.sf (.DRV_CH_STAT n) F.DRV_CH_STAT_PROBES, next := (s.drvChan n).next
    from_ := (s.drvChan n).from_, fadeAt := (s.drvChan n).fadeAt, fade := (s.drvChan n).fade }

section
variable {n : Nat} (s : State)

/-! ## A channel's record -/

@[simp] theorem State.drvChan_modDrvChan (f : DrvChan → DrvChan) : (s.modDrvChan n f).drvChan n = f (s.drvChan n) :=
  Tbl.get_put_same _ _ _ _

theorem State.drvChan_modDrvChan_other {k : Nat} (h : k ≠ n) (f : DrvChan → DrvChan) : (s.modDrvChan n f).drvChan k = s.drvChan k :=
  Tbl.get_put_other _ _ _ h

theorem State.elapseTo_drv (r : Nat) : (s.elapseTo r).drv = s.drv := by
  unfold State.elapseTo
  split <;> rfl

@[simp] theorem State.elapseTo_drvChan (r : Nat) : (s.elapseTo r).drvChan n = s.drvChan n :=
  congrArg (fun d : Drv => Tbl.get DrvChan.reset d.chans n) (s.elapseTo_drv r)

/-! ## What leaves a channel's course -/

/-- Whether a channel is enabled hangs on the set-up, and on whether the drive runs. -/
theorem State.chEnabled_of_course {t : State} (hcfg : t.cfg = s.cfg) (hdone : t.done = s.done) : t.chEnabled n = s.chEnabled n := by
  unfold State.chEnabled State.cf
  rw [hcfg, hdone]

theorem State.event_course (f i c v : Nat) (a : List Nat) : (s.event f i c v a).course n = s.course n := rfl

theorem State.modDrvChan_course (f : DrvChan → DrvChan) : (s.modDrvChan n f).course n
    = { s.course n with next := (f (s.drvChan n)).next, from_ := (f (s.drvChan n)).from_, fadeAt := (f (s.drvChan n)).fadeAt
                        fade := (f (s.drvChan n)).fade } := by
  unfold State.course
  rw [State.drvChan_modDrvChan]
  rfl

/-- A channel's register is none of those that the drive's start, the claim gate and the groups' factors are read from. -/
theorem State.setSf_drive {r : Reg} (h : 0x30C000 ≤ r.offset) (hn : n < 48) (f : Fld) (v : Nat) : (s.setSf r f v).done = s.done
    ∧ (s.setSf r f v).gateClosed = s.gateClosed
    ∧ (s.setSf r f v).sf (.DRV_NTC_STAT (n / 6)) F.DRV_NTC_STAT_FACTOR = s.sf (.DRV_NTC_STAT (n / 6)) F.DRV_NTC_STAT_FACTOR := by
  have hdone : Reg.HIF_SETUP_DONE.offset ≠ r.offset := (lt_of_lt_of_le (by decide) h).ne
  have hgate : Reg.DRV_GATE.offset ≠ r.offset := (lt_of_lt_of_le (by decide) h).ne
  have hntc : (Reg.DRV_NTC_STAT (n / 6)).offset ≠ r.offset := (lt_of_lt_of_le (by simp only [Reg.offset]; omega) h).ne
  exact ⟨congrArg (· == 1) (s.sf_setSf_other hdone _ _ _), congrArg (· == 1) (s.sf_setSf_other hgate _ _ _),
    s.sf_setSf_other hntc _ _ _⟩

variable {s} in
/-- Registers of two kinds of one channel lie apart. -/
theorem State.setSf_course {r : Reg} (h : 0x30C000 ≤ r.offset) (hn : n < 48) (f : Fld) (v : Nat) {x : Course}
    (hx : { s.course n with level := (s.setSf r f v).sts.get (.DRV_CH_LEVEL n), on := (s.setSf r f v).sts.get (.DRV_CH_ON n)
                            isns := (s.setSf r f v).sts.get (.DRV_CH_ISNS n)
                            probes := (s.setSf r f v).sf (.DRV_CH_STAT n) F.DRV_CH_STAT_PROBES } = x) :
    (s.setSf r f v).course n = x := by
  obtain ⟨hdone, hgate, hfactor⟩ := s.setSf_drive h hn f v
  subst hx
  unfold State.course
  rw [hdone, hgate, hfactor]
  rfl

theorem State.get_setSf_other {r q : Reg} (h : q.offset ≠ r.offset) (f : Fld) (v : Nat) : (s.setSf r f v).sts.get q = s.sts.get q := by
  rw [State.setSf_sts, RegFile.get_put_other _ _ h]

theorem State.get_setSf_same (r : Reg) (f : Fld) (v : Nat) : (s.setSf r f v).sts.get r = f.set (s.sts.get r) v := by
  rw [State.setSf_sts, RegFile.get_put_same]

/-- DSTATE and the low count. -/
theorem State.setStat_course (hn : n < 48) {f : Fld} (hf : f.inWord) (hprobes : F.DRV_CH_STAT_PROBES.apart f) (v : Nat) :
    (s.setSf (.DRV_CH_STAT n) f v).course n = s.course n := by
  refine State.setSf_course (Nat.le_add_right_of_le (by decide)) hn f v ?_
  rw [State.get_setSf_other _ (by simp [Reg.offset]), State.get_setSf_other _ (by simp [Reg.offset]),
    State.get_setSf_other _ (by simp [Reg.offset]), State.sf_setSf_apart _ _ (by decide) hf hprobes]
  rfl

theorem State.setEvt_course (hn : n < 48) (f : Fld) (v : Nat) : (s.setSf (.DRV_CH_EVT n) f v).course n = s.course n := by
  refine State.setSf_course (Nat.le_add_right_of_le (by decide)) hn f v ?_
  rw [State.get_setSf_other _ (by simp [Reg.offset]), State.get_setSf_other _ (by simp [Reg.offset]),
    State.get_setSf_other _ (by simp [Reg.offset]), State.sf_setSf_other _ (by simp [Reg.offset])]
  rfl

theorem State.setLevel_course (hn : n < 48) (f : Fld) (v : Nat) :
    (s.setSf (.DRV_CH_LEVEL n) f v).course n = { s.course n with level := f.set (s.sts.get (.DRV_CH_LEVEL n)) v } := by
  refine State.setSf_course (Nat.le_add_right_of_le (by decide)) hn f v ?_
  rw [State.get_setSf_same, State.get_setSf_other _ (by simp [Reg.offset]), State.get_setSf_other _ (by simp [Reg.offset]),
    State.sf_setSf_other _ (by simp [Reg.offset])]
  rfl

theorem State.setOn_course (hn : n < 48) (f : Fld) (v : Nat) :
    (s.setSf (.DRV_CH_ON n) f v).course n = { s.course n with on := f.set (s.sts.get (.DRV_CH_ON n)) v } := by
  refine State.setSf_course (Nat.le_add_right_of_le (by decide)) hn f v ?_
  rw [State.get_setSf_same, State.get_setSf_other _ (by simp [Reg.offset]), State.get_setSf_other _ (by simp [Reg.offset]),
    State.sf_setSf_other _ (by simp [Reg.offset])]
  rfl

theorem State.setIsns_course (hn : n < 48) (f : Fld) (v : Nat) :
    (s.setSf (.DRV_CH_ISNS n) f v).course n = { s.course n with isns := f.set (s.sts.get (.DRV_CH_ISNS n)) v } := by
  refine State.setSf_course (Nat.le_add_right_of_le (by decide)) hn f v ?_
  rw [State.get_setSf_same, State.get_setSf_other _ (by simp [Reg.offset]), State.get_setSf_other _ (by simp [Reg.offset]),
    State.sf_setSf_other _ (by simp [Reg.offset])]
  rfl

theorem State.setProbes_course (hn : n < 48) (v : Nat) :
    (s.setSf (.DRV_CH_STAT n) F.DRV_CH_STAT_PROBES v).course n = { s.course n with probes := v % 2 ^ 16 } := by
  refine State.setSf_course (Nat.le_add_right_of_le (by decide)) hn _ v ?_
  rw [State.get_setSf_other _ (by simp [Reg.offset]), State.get_setSf_other _ (by simp [Reg.offset]),
    State.get_setSf_other _ (by simp [Reg.offset]), State.sf_setSf_same _ _ (by decide)]
  rfl

/-! ## Diagnosis and the period (R298, R305, R308, R309) -/

theorem State.drvRefresh_course (hn : n < 48) : (s.drvRefresh n).course n = s.course n :=
  s.setStat_course hn (by decide) (by decide) _

theorem State.drivePad_drvChan (form : Option PwmForm) : (s.drivePad n form).drvChan n = { s.drvChan n with pad := form } :=
  Eq.trans rfl (s.drvChan_modDrvChan (fun x => { x with pad := form }))

theorem State.drivePad_drvChan_other {k : Nat} (h : k ≠ n) (form : Option PwmForm) : (s.drivePad n form).drvChan k = s.drvChan k :=
  Eq.trans rfl (s.drvChan_modDrvChan_other h (fun x => { x with pad := form }))

theorem State.drivePad_course (form : Option PwmForm) : (s.drivePad n form).course n = s.course n :=
  Eq.trans rfl (s.modDrvChan_course (fun x => { x with pad := form }))

theorem State.period_course (on per : Nat) : (s.period n on per).course n = s.course n := by
  unfold State.period
  dsimp only
  split
  · rfl
  · exact s.drivePad_course _

/-- A sample against OVER_THR may force the output low, and no more (R309). -/
theorem State.overCheck_course (hn : n < 48) (v : Nat) : (s.overCheck n v).course n = s.course n := by
  unfold State.overCheck
  extract_lets thr high
  split
  · rw [State.drvRefresh_course _ hn, State.event_course, State.setEvt_course _ hn, State.forceLow, State.period_course,
      State.modDrvChan_course]
    rfl
  · exact s.modDrvChan_course _

/-- Without OVER_THR no sample forces the output low (R309). -/
theorem State.overCheck_unset (hthr : s.cf (.DRV_CH_DIAG n) F.DRV_CH_DIAG_OVER_THR = 0) (v : Nat) :
    s.overCheck n v = s.modDrvChan n (fun x => { x with high := false }) := by
  unfold State.overCheck
  simp [hthr]

/-- A period leaves what the channel shows, its fade and its next boundary as the boundary set them. -/
theorem State.plainPeriod_course (hn : n < 48) (v : Nat) : (s.plainPeriod n v).course n = s.course n := by
  unfold State.plainPeriod
  extract_lets on t
  split
  · rfl
  · have ht : t.course n = s.course n := s.period_course _ _
    split
    · exact (State.overCheck_course _ hn _).trans ((t.modDrvChan_course _).trans ht)
    · exact ht

theorem State.plainPeriod_closed (hgate : s.gateClosed = true) (v : Nat) : s.plainPeriod n v = s := by
  unfold State.plainPeriod State.period
  simp [hgate]

/-- The form of a channel's period (R298, R299). -/
def State.pwmForm (s : State) (n on per : Nat) : PwmForm :=
  { on := on, per := per, start := s.cf (.DRV_CH_CFG n) F.DRV_CH_CFG_PHASE * 2 ^ (s.chRes n - 4)
    high := s.cf (.DRV_CH_CFG n) F.DRV_CH_CFG_POL == 0 }

theorem State.period_open (hgate : s.gateClosed = false) (on per : Nat) :
    s.period n on per = s.drivePad n (some (s.pwmForm n on per)) := if_neg (ne_true_of_eq_false hgate)

/-- With its gate open and no OVER_THR, an enabled channel puts out its on-time (R298, R309). -/
theorem State.plainPeriod_out (hen : s.chEnabled n = true) (hgate : s.gateClosed = false)
    (hthr : s.cf (.DRV_CH_DIAG n) F.DRV_CH_DIAG_OVER_THR = 0) (v : Nat) :
    (s.plainPeriod n v).out = .pwm n (some (s.pwmForm n (s.drvChan n).on (2 ^ s.chRes n))) :: s.out := by
  have hkept : ∀ f, ((s.period n (s.drvChan n).on (2 ^ s.chRes n)).modDrvChan n f).cf (.DRV_CH_DIAG n) F.DRV_CH_DIAG_OVER_THR = 0 :=
    fun f => (congrArg (fun c : Course => F.DRV_CH_DIAG_OVER_THR.get (c.cfg.get (.DRV_CH_DIAG n))) (s.period_course _ _)).trans hthr
  unfold State.plainPeriod
  dsimp only
  rw [if_neg (ne_false_of_eq_true hen)]
  split
  · rw [State.overCheck_unset _ (hkept _), State.period_open _ hgate]
    rfl
  · rw [State.period_open _ hgate]
    rfl

/-- What DRV_CH_ISNS reads after a measurement (R305, R306). -/
def isnsWord (w : BitVec 32) (v : Nat) (probe : Bool) : BitVec 32 :=
  F.DRV_CH_ISNS_PROBE.set (F.DRV_CH_ISNS_VALUE.set w (min v 4095)) (b2n probe)

/-- A measurement's judgement: the low count, OPEN, and what OPEN shows (R307, R308). -/
theorem State.measureCh_course (hn : n < 48) (v : Nat) (probe : Bool) : (s.measureCh n v probe).course n
    = { s.course n with isns := isnsWord (s.sts.get (.DRV_CH_ISNS n)) v probe } := by
  have hmark : ∀ (u : State) (f : DrvChan → DrvChan) (g : Fld) (c : Nat) (l : List Nat) (k : Nat),
      (f (u.drvChan n)).next = (u.drvChan n).next → (f (u.drvChan n)).from_ = (u.drvChan n).from_ →
      (f (u.drvChan n)).fadeAt = (u.drvChan n).fadeAt → (f (u.drvChan n)).fade = (u.drvChan n).fade →
      ((((u.modDrvChan n f).setSf (.DRV_CH_EVT n) g 1).event 15 n c k l).drvRefresh n).course n = u.course n := by
    intro u f g c l k hnext hfrom hat hfade
    rw [State.drvRefresh_course _ hn, State.event_course, State.setEvt_course _ hn, State.modDrvChan_course, hnext, hfrom, hat, hfade]
    rfl
  unfold State.measureCh
  extract_lets thr t u low w
  have ht : t.course n = { s.course n with isns := isnsWord (s.sts.get (.DRV_CH_ISNS n)) v probe } := by
    unfold t isnsWord
    rw [State.setIsns_course _ hn, State.setIsns_course _ hn, State.get_setSf_same]
  have hu : u.course n = t.course n := t.setStat_course hn (by decide) (by decide) _
  have hw : w.course n = t.course n := t.setStat_course hn (by decide) (by decide) _
  rw [← ht]
  split
  · rfl
  · split
    · split
      · exact (hmark u _ _ _ _ _ rfl rfl rfl rfl).trans hu
      · exact hu
    · split
      · exact (hmark w _ _ _ _ _ rfl rfl rfl rfl).trans hw
      · exact hw

theorem State.measureCh_out (v : Nat) (probe : Bool) : (s.measureCh n v probe).out = s.out := by
  have hmark : ∀ (u : State) (f : DrvChan → DrvChan) (g : Fld) (c : Nat) (l : List Nat) (k : Nat),
      ((((u.modDrvChan n f).setSf (.DRV_CH_EVT n) g 1).event 15 n c k l).drvRefresh n).out = u.out := fun _ _ _ _ _ _ => rfl
  unfold State.measureCh
  extract_lets thr t u low w
  have hu : u.out = s.out := rfl
  have hw : w.out = s.out := rfl
  split
  · rfl
  · split
    · split
      · exact (hmark u _ _ _ _ _).trans hu
      · exact hu
    · split
      · exact (hmark w _ _ _ _ _).trans hw
      · exact hw

end

end Sys2Proof.Machine
end

section
/-! PROOFS. A channel's period boundary: the time it is reached at, the changes it takes, the level of its fade and the on-time that
follows (R300, R302, R303, R313). -/
namespace Sys2Proof.Machine

section
variable {n : Nat} (s : State)

/-! ## The parts of a boundary -/

/-- The channel's next boundary is reached, and the one after it is set (R298, R313). -/
def State.reached (s : State) (n : Nat) : State :=
  let per := 2 ^ s.chRes n
  let b := max (s.drvChan n).next (ceilDiv ((s.tsu.raw - s.drv.setupAt) * 2 / 5) per * per)
  (s.elapseTo (s.drv.setupAt + ceilDiv (b * 5) 2)).modDrvChan n (fun x => { x with next := b + per })

/-- The level that the channel's fade has now (R302). -/
def State.fadeNow (s : State) (n : Nat) : Nat :=
  fadeLevel (s.drvChan n).from_ (s.sf (.DRV_CH_LEVEL n) F.DRV_CH_LEVEL_TARGET) (s.tsu.raw - (s.drvChan n).fadeAt) (s.drvChan n).fade

/-- PRESENT shows the level of the fade (R302). -/
def State.fadeShown (s : State) (n : Nat) : State := s.setSf (.DRV_CH_LEVEL n) F.DRV_CH_LEVEL_PRESENT (s.fadeNow n)

/-- The on-time of the level shown, or none while the output is forced low (R300, R309). -/
def State.dueOn (s : State) (n : Nat) : Nat :=
  if s.forcedLow n then 0 else s.onTime n (s.sf (.DRV_CH_LEVEL n) F.DRV_CH_LEVEL_PRESENT)

/-- The on-time follows the level shown, and the low count and DSTATE follow it (R300, R307, R321). -/
def State.onTimed (s : State) (n : Nat) : State :=
  let t := (s.setSf (.DRV_CH_ON n) F.DRV_CH_ON_ON (s.dueOn n)).modDrvChan n (fun x => { x with on := s.dueOn n })
  let off := t.gateClosed || s.dueOn n == 0
  let openOff := (t.drvChan n).isOpen && t.cf (.DRV_CH_CFG n) F.DRV_CH_CFG_OPEN_OFF == 1 && !(t.drvChan n).overLatch
  let t : State := if off = true ∧ openOff = false then t.setSf (.DRV_CH_STAT n) F.DRV_CH_STAT_LOW 0 else t
  t.drvRefresh n

/-- A boundary of an enabled channel shows the fade, takes the changes that are due, shows the fade again, and computes the on-time. -/
theorem State.boundary_enabled {t u : State} (ht : t = (s.reached n).fadeShown n)
    (hu : u = ((t.dueChanges n).foldl (fun v c => v.takeChange n c) t).fadeShown n) (hen : u.chEnabled n = true) :
    s.boundary n = u.onTimed n := by
  subst ht hu
  exact if_neg (ne_false_of_eq_true hen)

/-! ## What each part leaves -/

theorem State.elapseTo_course (r : Nat) : (s.elapseTo r).course n = { s.course n with tsu := (s.elapseTo r).tsu } := by
  unfold State.elapseTo
  split <;> rfl

theorem State.reached_course :
    ∃ k, (s.drvChan n).next < k ∧ (s.reached n).course n = { s.course n with tsu := (s.reached n).tsu, next := k } := by
  unfold State.reached
  extract_lets per b
  refine ⟨b + per, lt_of_le_of_lt (le_max_left _ _) (Nat.lt_add_of_pos_right (Nat.two_pow_pos _)), ?_⟩
  rw [State.modDrvChan_course, State.elapseTo_course, State.elapseTo_drvChan]
  rfl

theorem State.reached_forcedLow : (s.reached n).forcedLow n = s.forcedLow n := by
  unfold State.reached State.forcedLow State.cf
  extract_lets per b
  rw [State.drvChan_modDrvChan, State.elapseTo_drvChan]
  exact congrArg (fun c : RegFile => (s.drvChan n).overLatch || ((s.drvChan n).isOpen &&
    F.DRV_CH_CFG_OPEN_OFF.get (c.get (.DRV_CH_CFG n)) == 1)) (s.elapseTo_cfg _)

theorem State.reached_out : (s.reached n).out = s.out := s.elapseTo_out _

theorem State.fadeShown_course (hn : n < 48) : (s.fadeShown n).course n
    = { s.course n with level := (s.fadeShown n).sts.get (.DRV_CH_LEVEL n) } := by
  rw [State.fadeShown, State.get_setSf_same]
  exact s.setLevel_course hn _ _

theorem State.fadeShown_present : (s.fadeShown n).sf (.DRV_CH_LEVEL n) F.DRV_CH_LEVEL_PRESENT = s.fadeNow n % 2 ^ 16 :=
  s.sf_setSf_same _ (by decide) _

theorem State.fadeShown_target : (s.fadeShown n).sf (.DRV_CH_LEVEL n) F.DRV_CH_LEVEL_TARGET
    = s.sf (.DRV_CH_LEVEL n) F.DRV_CH_LEVEL_TARGET := s.sf_setSf_apart _ (by decide) (by decide) (by decide) _

theorem State.fadeShown_fadeNow : (s.fadeShown n).fadeNow n = s.fadeNow n := by
  unfold State.fadeNow
  rw [State.fadeShown_target]
  rfl

theorem State.onTimed_course (hn : n < 48) : (s.onTimed n).course n
    = { s.course n with on := F.DRV_CH_ON_ON.set (s.sts.get (.DRV_CH_ON n)) (s.dueOn n) } := by
  unfold State.onTimed
  extract_lets t off openOff u
  have ht : t.course n = { s.course n with on := F.DRV_CH_ON_ON.set (s.sts.get (.DRV_CH_ON n)) (s.dueOn n) } := by
    refine (State.modDrvChan_course _ _).trans ?_
    rw [State.setOn_course _ hn]
    rfl
  have hu : u.course n = t.course n := by
    unfold u
    split
    · exact t.setStat_course hn (by decide) (by decide) _
    · rfl
  exact (u.drvRefresh_course hn).trans (hu.trans ht)

theorem State.onTimed_on : ((s.onTimed n).drvChan n).on = s.dueOn n ∧ (s.onTimed n).out = s.out := by
  unfold State.onTimed
  extract_lets t off openOff u
  have hu : u.drv = t.drv ∧ u.out = t.out := by
    unfold u
    split <;> exact ⟨rfl, rfl⟩
  obtain ⟨hdrv, hout⟩ := hu
  refine ⟨?_, Eq.trans rfl hout⟩
  have hon : (t.drvChan n).on = s.dueOn n := by
    unfold t
    rw [State.drvChan_modDrvChan]
  exact (congrArg (fun d : Drv => (Tbl.get DrvChan.reset d.chans n).on) hdrv).trans hon

/-- The on-time of a level hangs on the set-up and the factor of the channel's group (R300, R301, R303). -/
theorem State.onTime_of_course {t : State} (hcfg : t.cfg = s.cfg)
    (hfactor : t.sf (.DRV_NTC_STAT (n / 6)) F.DRV_NTC_STAT_FACTOR = s.sf (.DRV_NTC_STAT (n / 6)) F.DRV_NTC_STAT_FACTOR) (level : Nat) :
    t.onTime n level = s.onTime n level := by
  unfold State.onTime State.curve State.chRes State.cf
  rw [hcfg, hfactor]

/-! ## A boundary with nothing waiting -/

/-- The channel before its on-time, where nothing waits for it. -/
def State.faded (s : State) (n : Nat) : State := ((s.reached n).fadeShown n).fadeShown n

theorem State.dueChanges_none (h : s.drv.changes.filter (fun c => c.ch == n) = []) : s.dueChanges n = [] := by
  unfold State.dueChanges
  rw [h]
  rfl

theorem State.faded_course (hn : n < 48) : ∃ k, (s.drvChan n).next < k ∧ (s.faded n).course n
    = { s.course n with tsu := (s.faded n).tsu, next := k, level := (s.faded n).sts.get (.DRV_CH_LEVEL n) } := by
  obtain ⟨k, hk, hreached⟩ := s.reached_course (n := n)
  refine ⟨k, hk, ?_⟩
  unfold State.faded
  rw [State.fadeShown_course _ hn, State.fadeShown_course _ hn, hreached]
  rfl

/-- The level shown is that of the fade at the boundary (R302). -/
theorem State.faded_present : (s.faded n).sf (.DRV_CH_LEVEL n) F.DRV_CH_LEVEL_PRESENT
    = fadeLevel (s.drvChan n).from_ (s.sf (.DRV_CH_LEVEL n) F.DRV_CH_LEVEL_TARGET) ((s.faded n).tsu.raw - (s.drvChan n).fadeAt)
      (s.drvChan n).fade % 2 ^ 16 := by
  obtain ⟨k, -, hreached⟩ := s.reached_course (n := n)
  have htarget : (s.reached n).sf (.DRV_CH_LEVEL n) F.DRV_CH_LEVEL_TARGET = s.sf (.DRV_CH_LEVEL n) F.DRV_CH_LEVEL_TARGET :=
    congrArg (fun x : Course => F.DRV_CH_LEVEL_TARGET.get x.level) hreached
  have hfrom : ((s.reached n).drvChan n).from_ = (s.drvChan n).from_ := congrArg Course.from_ hreached
  have hat : ((s.reached n).drvChan n).fadeAt = (s.drvChan n).fadeAt := congrArg Course.fadeAt hreached
  have hfade : ((s.reached n).drvChan n).fade = (s.drvChan n).fade := congrArg Course.fade hreached
  unfold State.faded
  rw [State.fadeShown_present, State.fadeShown_fadeNow, State.fadeNow, hfrom, htarget, hat, hfade]
  rfl

theorem State.faded_dueOn (hn : n < 48) : (s.faded n).dueOn n
    = if s.forcedLow n then 0 else s.onTime n ((s.faded n).sf (.DRV_CH_LEVEL n) F.DRV_CH_LEVEL_PRESENT) := by
  obtain ⟨k, -, hfaded⟩ := s.faded_course hn
  have hlow : (s.faded n).forcedLow n = s.forcedLow n := Eq.trans rfl s.reached_forcedLow
  unfold State.dueOn
  rw [hlow, s.onTime_of_course (congrArg Course.cfg hfaded) (congrArg Course.factor hfaded)]

theorem State.boundary_idle (hn : n < 48) (hen : s.chEnabled n = true) (hidle : s.drv.changes.filter (fun c => c.ch == n) = []) :
    s.boundary n = (s.faded n).onTimed n := by
  obtain ⟨k, -, hfaded⟩ := s.faded_course hn
  obtain ⟨_, -, hreached⟩ := s.reached_course (n := n)
  have hnone : ((s.reached n).fadeShown n).dueChanges n = [] := by
    refine State.dueChanges_none _ ?_
    rw [show ((s.reached n).fadeShown n).drv.changes = s.drv.changes from congrArg Course.changes hreached]
    exact hidle
  refine s.boundary_enabled rfl ?_ ((s.chEnabled_of_course (congrArg Course.cfg hfaded) (congrArg Course.done hfaded)).trans hen)
  rw [hnone]
  rfl

/-! ## A boundary with one change waiting -/

/-- A change has become the channel's target: its fade starts here, from the level shown (R302, R309). -/
def State.aimed (s : State) (n : Nat) (c : DrvChange) : State :=
  let present := s.sf (.DRV_CH_LEVEL n) F.DRV_CH_LEVEL_PRESENT
  let t := (s.setSf (.DRV_CH_LEVEL n) F.DRV_CH_LEVEL_TARGET c.level).modDrvChan n (fun x => { x with
    from_ := present, fadeAt := s.tsu.raw, fade := c.fade, overLatch := if c.clr then false else x.overLatch
    high := if c.clr then false else x.high })
  { t with drv := { t.drv with changes := t.drv.changes.erase c } }

/-- A change of no command and of no scene has nothing further to go on with. -/
theorem State.takeChange_unowned {c : DrvChange} (hdid : c.did = none) (hscene : c.scene = none) :
    s.takeChange n c = s.aimed n c := by
  unfold State.takeChange State.changeTaken
  rw [hdid, hscene]
  rfl

theorem State.dueChanges_single {c : DrvChange} (h : s.drv.changes = [c]) (hch : c.ch = n) : s.dueChanges n = [c] := by
  unfold State.dueChanges
  rw [h, List.filter_cons_of_pos (by simp [hch])]
  cases hdue : c.due <;> simp [hdue, isort, kinsert]

theorem State.aimed_course (hn : n < 48) (c : DrvChange) : (s.aimed n c).course n = { s.course n with
    level := (s.aimed n c).sts.get (.DRV_CH_LEVEL n), changes := s.drv.changes.erase c
    from_ := s.sf (.DRV_CH_LEVEL n) F.DRV_CH_LEVEL_PRESENT, fadeAt := s.tsu.raw, fade := c.fade } := by
  unfold State.aimed
  extract_lets present t
  have ht : t.course n = { s.course n with level := t.sts.get (.DRV_CH_LEVEL n), from_ := present, fadeAt := s.tsu.raw
                                           fade := c.fade } := by
    refine (State.modDrvChan_course _ _).trans ?_
    rw [State.setLevel_course _ hn, ← State.get_setSf_same]
    rfl
  exact congrArg (fun x : Course => { x with changes := x.changes.erase c }) ht

theorem State.aimed_target (c : DrvChange) (hlevel : c.level < 2 ^ 16) :
    (s.aimed n c).sf (.DRV_CH_LEVEL n) F.DRV_CH_LEVEL_TARGET = c.level :=
  (s.sf_setSf_same _ (by decide) _).trans (Nat.mod_eq_of_lt hlevel)

/-- Without a fade the level shown is the change's (R302). -/
theorem State.aimed_fadeNow (hn : n < 48) {c : DrvChange} (hlevel : c.level < 2 ^ 16) (hnow : c.fade = 0) :
    (s.aimed n c).fadeNow n = c.level := by
  have hfade : ((s.aimed n c).drvChan n).fade = 0 := (congrArg Course.fade (s.aimed_course hn c)).trans hnow
  rw [State.fadeNow, State.aimed_target _ _ hlevel, hfade, fadeLevel, if_pos (by simp)]

/-- The channel before its on-time, where one change waited for it. -/
def State.redirected (s : State) (n : Nat) (c : DrvChange) : State := (((s.reached n).fadeShown n).aimed n c).fadeShown n

theorem State.redirected_course (hn : n < 48) {c : DrvChange} (hone : s.drv.changes = [c]) : ∃ k p, (s.redirected n c).course n
    = { s.course n with tsu := (s.reached n).tsu, next := k, level := (s.redirected n c).sts.get (.DRV_CH_LEVEL n)
                        changes := [], from_ := p, fadeAt := (s.reached n).tsu.raw, fade := c.fade } := by
  obtain ⟨k, -, hreached⟩ := s.reached_course (n := n)
  unfold State.redirected
  generalize hv : (s.reached n).fadeShown n = v
  have hcourse : v.course n = { (s.reached n).course n with level := v.sts.get (.DRV_CH_LEVEL n) } :=
    hv ▸ (s.reached n).fadeShown_course hn
  have hchanges : v.drv.changes = [c] := by
    rw [← hv]
    exact (congrArg Course.changes hreached).trans hone
  have htsu : v.tsu = (s.reached n).tsu := hv ▸ rfl
  refine ⟨k, v.sf (.DRV_CH_LEVEL n) F.DRV_CH_LEVEL_PRESENT, ?_⟩
  rw [State.fadeShown_course _ hn, State.aimed_course _ hn, hcourse, hreached, hchanges, htsu, List.erase_cons_head]

theorem State.boundary_single (hn : n < 48) (hen : s.chEnabled n = true) {c : DrvChange} (hone : s.drv.changes = [c]) (hch : c.ch = n)
    (hdid : c.did = none) (hscene : c.scene = none) : s.boundary n = (s.redirected n c).onTimed n := by
  obtain ⟨_, _, hkept⟩ := s.redirected_course hn hone
  obtain ⟨_, -, hreached⟩ := s.reached_course (n := n)
  have hdue : ((s.reached n).fadeShown n).dueChanges n = [c] :=
    State.dueChanges_single _ ((congrArg Course.changes hreached).trans hone) hch
  refine s.boundary_enabled rfl ?_ ((s.chEnabled_of_course (congrArg Course.cfg hkept) (congrArg Course.done hkept)).trans hen)
  rw [hdue, List.foldl_cons, List.foldl_nil, State.takeChange_unowned _ hdid hscene]
  rfl

/-- The change's level is the channel's target, and the level shown where there is no fade (R302). -/
theorem State.redirected_reads (hn : n < 48) {c : DrvChange} (hlevel : c.level < 2 ^ 16) :
    (s.redirected n c).sf (.DRV_CH_LEVEL n) F.DRV_CH_LEVEL_TARGET = c.level
      ∧ (c.fade = 0 → (s.redirected n c).sf (.DRV_CH_LEVEL n) F.DRV_CH_LEVEL_PRESENT = c.level) := by
  unfold State.redirected
  refine ⟨(State.fadeShown_target _).trans (State.aimed_target _ c hlevel), fun hnow => ?_⟩
  rw [State.fadeShown_present, State.aimed_fadeNow _ hn hlevel hnow, Nat.mod_eq_of_lt hlevel]

end

end Sys2Proof.Machine
end

section
/-! PROOFS. O48: the drive channels: changes, boundaries, diagnosis, derating and the claim gate (R300, R303, R305, R306, R308 to R311,
R314). -/
namespace Sys2Proof.Machine

section
variable {s : State} {d e : Desc} {read : HostRead} {n v : Nat}

/-! ## DRIVE_SET and DRIVE_LATCH (R310, R311) -/

/-- Changes that a command puts before channels wait after those that did (R310). -/
theorem State.putChanges_reads {l : List DrvChange} (h : l ≠ []) : (s.putChanges d l).sts = s.sts
    ∧ (s.putChanges d l).drv.changes = s.drv.changes ++ l := by
  unfold State.putChanges
  rw [if_neg h]
  exact ⟨rfl, rfl⟩

theorem State.selChans_channel (hn : n < 48) : s.selChans n = some [n] := if_pos hn

theorem State.selChans_void (hlow : 48 ≤ n) (hhigh : n < 0x40) : s.selChans n = none := by
  unfold State.selChans
  rw [if_neg (by omega), if_neg (by omega), if_neg (by omega)]

/-- The one record of a buffer of 8 octets. -/
theorem driveRecords_single {b : List Byte} (hlen : b.length = 8) (hclr : leAt b 1 1 < 2) (hrsv : leAt b 6 2 = 0) :
    driveRecords b = [(leAt b 0 1, bit (leAt b 1 1) 0, leAt b 2 2, leAt b 4 2, true)] := by
  unfold driveRecords
  rw [hlen]
  simp [List.range_succ, Nat.le_of_lt_succ hclr, hrsv]

/-- A single record is bad where it names no channel (R310). -/
theorem driveRecords_bad {b : List Byte} (hlen : b.length = 8) (hsel : leAt b 0 1 = n) (hclr : leAt b 1 1 < 2)
    (hrsv : leAt b 6 2 = 0) : (driveRecords b).findIdx? (fun r => (s.selChans r.1).isNone || !r.2.2.2.2)
      = if (s.selChans n).isNone then some 0 else none := by
  rw [driveRecords_single hlen hclr hrsv, hsel]
  simp [List.findIdx?_cons]

/-- A record of one channel names it as it stands. -/
theorem State.expandSets_channel {b : List Byte} (hlen : b.length = 8) (hsel : leAt b 0 1 = n) (hn : n < 48) : s.expandSets b = b := by
  obtain ⟨x, l, rfl⟩ := List.exists_cons_of_length_eq_add_one hlen
  have hx : x.toNat = n := by simpa [leAt, ofLe] using hsel
  have hl : l.take 7 = l := List.take_of_length_le (show l.length = 7 by simpa using hlen).le
  unfold State.expandSets
  rw [hlen]
  simp [List.range_succ, hsel, State.selChans_channel hn, le, hl]
  simp [← hx]

theorem driveArgs_single (htarget : e.target = 0) (hzero : e.pZero 0 32 = true) (hlen : e.len = 8) :
    ¬ (e.target ≠ 0 ∨ e.pZero 0 32 = false ∨ e.len % 8 ≠ 0 ∨ e.len < 8 ∨ 384 < e.len) := by
  simp [htarget, hzero, hlen]

section
variable (h : s.serves d 0x50) (he : d.seen s read = some e) (htarget : e.target = 0) (hzero : e.pZero 0 32 = true) (hlen : e.len = 8)
  (hbuf : e.buf.length = 8) (hsel : leAt e.buf 0 1 = n) (hclr : leAt e.buf 1 1 < 2)
  (hrsv : leAt e.buf 6 2 = 0)
include h he htarget hzero hlen hbuf hsel hclr hrsv

/-- A record that names no channel gives ERR_ARG with its place (R310). -/
theorem exec_driveSet_void (hlow : 48 ≤ n) (hhigh : n < 0x40) :
    Does (.driveSet d.did read) s ((s.holding e).fail e stERR_ARG 0) := by
  refine Does.of_served_in rfl h he (fun _ _ => rfl) rfl ((if_neg (driveArgs_single htarget hzero hlen)).trans ?_)
  rw [driveRecords_bad hbuf hsel hclr hrsv, State.selChans_void hlow hhigh]
  rfl

theorem exec_driveSet_gated (hn : n < 48) (hgated : s.pwmGated = true) :
    Does (.driveSet d.did read) s ((s.holding e).fail e stERR_GATED) := by
  refine Does.of_served_in rfl h he (fun _ _ => rfl) rfl ((if_neg (driveArgs_single htarget hzero hlen)).trans ?_)
  rw [driveRecords_bad hbuf hsel hclr hrsv, State.selChans_channel hn]
  exact if_pos hgated

/-- A record of a channel puts its change before it (R310). -/
theorem exec_driveSet_channel (hn : n < 48) (hopen : s.pwmGated = false) (hlaunch : e.launch = false) :
    ∃ t, Does (.driveSet d.did read) s t ∧ t.sts = s.sts ∧ t.drv.changes = s.drv.changes
      ++ [{ ch := n, did := some e.did, scene := none, level := leAt e.buf 2 2, fade := leAt e.buf 4 2
            clr := bit (leAt e.buf 1 1) 0, due := none }] := by
  have hopen' : (s.holding e).pwmGated = false := hopen
  refine ⟨((s.holding e).updDesc e.did (fun _ => e)).driveSetNow e, ?_, ?_⟩
  · refine Does.of_served_in rfl h he (fun _ _ => rfl) rfl ((if_neg (driveArgs_single htarget hzero hlen)).trans ?_)
    rw [driveRecords_bad hbuf hsel hclr hrsv, State.selChans_channel hn]
    refine (if_neg (ne_true_of_eq_false hopen')).trans ?_
    rw [State.expandSets_channel hbuf hsel hn]
    exact if_neg (ne_true_of_eq_false hlaunch)
  · unfold State.driveSetNow
    rw [driveRecords_single hbuf hclr hrsv, hsel]
    simp only [List.flatMap_cons, List.flatMap_nil, State.selChans_channel hn, Option.getD_some, List.map_cons, List.map_nil,
      List.append_nil, hlaunch]
    exact State.putChanges_reads (List.cons_ne_nil _ _)

end

/-! ## DRIVE_LATCH -/

theorem exec_driveLatch_section (h : s.serves d 0x51) (he : d.seen s read = some e) (htarget : e.target = 0)
    (hzero : e.pZero 2 32 = true) (hbad : driveSectionOk e.buf = false) :
    Does (.driveLatch d.did read) s ((s.holding e).fail e stERR_ARG 1) :=
  Does.of_served_in rfl h he (fun _ _ => rfl) rfl ((if_neg (by simp [htarget, hzero])).trans (if_pos hbad))

/-- A drive section that fits its DMASK has as many levels as channels (R184, R311). -/
theorem driveSection_lengths {b : List Byte} (hok : driveSectionOk b = true) :
    (maskChans (driveMask b)).length = (driveLevels b).length := by
  simp only [driveSectionOk, Bool.and_eq_true, decide_eq_true_eq, beq_iff_eq] at hok
  obtain ⟨-, hlen⟩ := hok
  simp [driveLevels, hlen]

/-- A mask of channels that is not 0 names one. -/
theorem maskChans_ne_nil {m : Nat} (hm : m < 2 ^ 64) (h : m ≠ 0) : maskChans m ≠ [] := by
  intro hnil
  refine h (Nat.eq_of_testBit_eq fun i => ?_)
  rw [Nat.zero_testBit]
  by_cases hi : i < 64
  · have hoff := List.filter_eq_nil_iff.1 hnil i (List.mem_range.2 hi)
    rw [← bit_eq_testBit]
    exact eq_false_of_ne_true hoff
  · exact Nat.testBit_eq_false_of_lt (lt_of_lt_of_le hm (Nat.pow_le_pow_right (by decide) (Nat.le_of_not_lt hi)))

/-- A good drive section puts one change before each channel it names, each with its level (R311). -/
theorem exec_driveLatch (h : s.serves d 0x51) (he : d.seen s read = some e) (htarget : e.target = 0) (hzero : e.pZero 2 32 = true)
    (hok : driveSectionOk e.buf = true) (hopen : s.pwmGated = false) (hlaunch : e.launch = false) (hmask : driveMask e.buf ≠ 0) :
    ∃ t l, Does (.driveLatch d.did read) s t ∧ t.sts = s.sts ∧ t.drv.changes = s.drv.changes ++ l
      ∧ l.map (fun c => c.ch) = maskChans (driveMask e.buf) ∧ l.map (fun c => c.level) = driveLevels e.buf := by
  have hopen' : (s.holding e).pwmGated = false := hopen
  have hlens := driveSection_lengths hok
  have hfits : driveMask e.buf < 2 ^ 64 := by
    simp only [driveSectionOk, Bool.and_eq_true, decide_eq_true_eq] at hok
    obtain ⟨⟨-, hmost⟩, -⟩ := hok
    exact lt_trans hmost (by decide)
  have hsome : List.zip (maskChans (driveMask e.buf)) (driveLevels e.buf) ≠ [] := by
    intro hnil
    have hlen := congrArg List.length hnil
    rw [List.length_zip, ← hlens, Nat.min_self] at hlen
    exact maskChans_ne_nil hfits hmask (List.length_eq_zero_iff.1 hlen)
  refine ⟨(s.holding e).driveLatchNow e, _, ?_, State.putChanges_reads (mt List.map_eq_nil_iff.1 hsome) |>.1,
    State.putChanges_reads (mt List.map_eq_nil_iff.1 hsome) |>.2, ?_, ?_⟩
  · exact Does.of_served_in rfl h he (fun _ _ => rfl) rfl ((if_neg (by simp [htarget, hzero])).trans
      ((if_neg (ne_false_of_eq_true hok)).trans ((if_neg (ne_true_of_eq_false hopen')).trans (if_neg (ne_true_of_eq_false hlaunch)))))
  · rw [List.map_map]
    exact List.map_fst_zip hlens.le
  · rw [List.map_map]
    exact List.map_snd_zip hlens.ge

/-! ## Period boundaries (R300, R302, R309, R313) -/

theorem exec_pwmPeriodBoundary (hn : n < 48) (hen : s.chEnabled n = true) (v : Nat) :
    Does (.pwmPeriodBoundary n v) s ((s.boundary n).plainPeriod n v) := by
  have hdone : s.done = true := by
    unfold State.chEnabled at hen
    exact (Bool.and_eq_true_iff.1 hen).1
  unfold Does exec execPwmPeriodBoundary
  exact quiet_does (if_neg (by simp [hdone, Nat.le_of_lt_succ hn]))

/-- What the channel's period puts out, once its boundary has set the on-time: nothing while the gate is closed (R298, R314). -/
theorem State.onTimed_period_closed (hn : n < 48) (hgate : s.gateClosed = true) (v : Nat) :
    ((s.onTimed n).plainPeriod n v).out = s.out := by
  obtain ⟨-, hout⟩ := s.onTimed_on (n := n)
  rw [State.plainPeriod_closed _ ((congrArg Course.closed (s.onTimed_course hn)).trans hgate), hout]

theorem State.onTimed_period_open (hn : n < 48) (hen : s.chEnabled n = true) (hgate : s.gateClosed = false)
    (hthr : s.cf (.DRV_CH_DIAG n) F.DRV_CH_DIAG_OVER_THR = 0) (v : Nat) :
    ((s.onTimed n).plainPeriod n v).out = .pwm n (some (s.pwmForm n (s.dueOn n) (2 ^ s.chRes n))) :: s.out := by
  have hkept := s.onTimed_course hn
  have hcfg : (s.onTimed n).cfg = s.cfg := congrArg Course.cfg hkept
  obtain ⟨hon, hout⟩ := s.onTimed_on (n := n)
  rw [State.plainPeriod_out _ ((s.chEnabled_of_course hcfg (congrArg Course.done hkept)).trans hen)
    ((congrArg Course.closed hkept).trans hgate) (by rw [State.cf, hcfg]; exact hthr), hon, hout]
  unfold State.pwmForm State.chRes State.cf
  rw [hcfg]

/-- What the channel shows once its period has begun. -/
theorem State.onTimed_period_course (hn : n < 48) (v : Nat) : ((s.onTimed n).plainPeriod n v).course n
    = { s.course n with on := F.DRV_CH_ON_ON.set (s.sts.get (.DRV_CH_ON n)) (s.dueOn n) } :=
  (State.plainPeriod_course _ hn v).trans (s.onTimed_course hn)

/-- A period shows what its boundary set: the level and the fade as they stood, and the on-time. -/
theorem State.onTimed_period_shows (hn : n < 48) {t : State} (ht : t = (s.onTimed n).plainPeriod n v) : t.tsu = s.tsu
    ∧ t.drv.changes = s.drv.changes ∧ (∀ f, t.sf (.DRV_CH_LEVEL n) f = s.sf (.DRV_CH_LEVEL n) f)
    ∧ t.sf (.DRV_CH_ON n) F.DRV_CH_ON_ON = s.dueOn n % 2 ^ 17 ∧ (t.drvChan n).next = (s.drvChan n).next
    ∧ (t.drvChan n).fadeAt = (s.drvChan n).fadeAt ∧ (t.drvChan n).fade = (s.drvChan n).fade := by
  have hend := s.onTimed_period_course hn v
  rw [← ht] at hend
  have hon : t.sf (.DRV_CH_ON n) F.DRV_CH_ON_ON = F.DRV_CH_ON_ON.get (F.DRV_CH_ON_ON.set (s.sts.get (.DRV_CH_ON n)) (s.dueOn n)) :=
    congrArg (fun x : Course => F.DRV_CH_ON_ON.get x.on) hend
  exact ⟨congrArg Course.tsu hend, congrArg Course.changes hend, fun f => congrArg (fun x : Course => f.get x.level) hend,
    hon.trans (Fld.get_set_same (by decide) _ _), congrArg Course.next hend, congrArg Course.fadeAt hend, congrArg Course.fade hend⟩

/-- What a channel shows in a period at whose boundary nothing waited for it: the level of its fade, and no on-time while the output
is forced low (R300, R302, R309). -/
theorem State.idlePeriod_shows (hn : n < 48) {t : State} (ht : t = ((s.faded n).onTimed n).plainPeriod n v) :
    (s.drvChan n).next < (t.drvChan n).next
      ∧ t.sf (.DRV_CH_LEVEL n) F.DRV_CH_LEVEL_PRESENT = fadeLevel (s.drvChan n).from_ (s.sf (.DRV_CH_LEVEL n) F.DRV_CH_LEVEL_TARGET)
        (t.tsu.raw - (s.drvChan n).fadeAt) (s.drvChan n).fade % 2 ^ 16
      ∧ (s.forcedLow n = true → t.sf (.DRV_CH_ON n) F.DRV_CH_ON_ON = 0) := by
  obtain ⟨k, hk, hfaded⟩ := s.faded_course hn
  have hnext : ((s.faded n).drvChan n).next = k := congrArg Course.next hfaded
  obtain ⟨htsu, -, hlevel, hon, hkept, -⟩ := State.onTimed_period_shows hn ht
  refine ⟨?_, ?_, fun hlow => ?_⟩
  · rwa [hkept, hnext]
  · rw [hlevel, htsu, State.faded_present]
  · rw [hon, State.faded_dueOn _ hn, if_pos hlow, Nat.zero_mod]

/-- What the channel puts out in such a period: the on-time of the level shown, unless its gate is closed (R300, R314). -/
theorem State.idlePeriod_out (hn : n < 48) (hen : s.chEnabled n = true) {t : State}
    (ht : t = ((s.faded n).onTimed n).plainPeriod n v) : (s.gateClosed = true → t.out = s.out)
      ∧ (s.gateClosed = false → s.forcedLow n = false → s.cf (.DRV_CH_DIAG n) F.DRV_CH_DIAG_OVER_THR = 0 →
        t.out = .pwm n (some (s.pwmForm n (s.onTime n (t.sf (.DRV_CH_LEVEL n) F.DRV_CH_LEVEL_PRESENT)) (2 ^ s.chRes n))) :: s.out) := by
  obtain ⟨k, -, hfaded⟩ := s.faded_course hn
  obtain ⟨-, -, hlevel, -⟩ := State.onTimed_period_shows hn ht
  have hdue := s.faded_dueOn hn
  have hcfg : (s.faded n).cfg = s.cfg := congrArg Course.cfg hfaded
  have hdone : (s.faded n).done = s.done := congrArg Course.done hfaded
  have hgate : (s.faded n).gateClosed = s.gateClosed := congrArg Course.closed hfaded
  have hout : (s.faded n).out = s.out := s.reached_out
  have hset : ∀ r f, (s.faded n).cf r f = s.cf r f := fun r f => congrArg (fun c : RegFile => f.get (c.get r)) hcfg
  have hform : ∀ on per, (s.faded n).pwmForm n on per = s.pwmForm n on per := fun on per => by
    unfold State.pwmForm State.chRes
    rw [hset, hset, hset]
  refine ⟨fun hclosed => ?_, fun hopen hlow hthr => ?_⟩
  · rw [ht, State.onTimed_period_closed hn (hgate.trans hclosed), hout]
  · rw [hlevel, ht, State.onTimed_period_open hn ((s.chEnabled_of_course hcfg hdone).trans hen) (hgate.trans hopen)
      ((hset _ _).trans hthr), hout, hdue, hform, hlow, State.chRes, hset, ← State.chRes]
    rfl

/-- What a channel shows and holds in a period at whose boundary one change became its target (R302, R309). -/
theorem State.changePeriod_shows (hn : n < 48) {c : DrvChange} (hone : s.drv.changes = [c]) (hfits : c.level < 2 ^ 16) {t : State}
    (ht : t = ((s.redirected n c).onTimed n).plainPeriod n v) : t.drv.changes = []
      ∧ t.sf (.DRV_CH_LEVEL n) F.DRV_CH_LEVEL_TARGET = c.level ∧ (t.drvChan n).fade = c.fade ∧ (t.drvChan n).fadeAt = t.tsu.raw
      ∧ (c.fade = 0 → t.sf (.DRV_CH_LEVEL n) F.DRV_CH_LEVEL_PRESENT = c.level) := by
  obtain ⟨k, p, hkept⟩ := s.redirected_course hn hone
  obtain ⟨htarget, hpresent⟩ := s.redirected_reads hn hfits
  obtain ⟨htsu, hchanges, hlevel, -, -, hat, hfade⟩ := State.onTimed_period_shows hn ht
  have hraw : (s.redirected n c).tsu = (s.reached n).tsu := congrArg Course.tsu hkept
  refine ⟨hchanges.trans (congrArg Course.changes hkept), (hlevel _).trans htarget, hfade.trans (congrArg Course.fade hkept), ?_,
    fun hnow => (hlevel _).trans (hpresent hnow)⟩
  rw [hat, htsu, hraw]
  exact congrArg Course.fadeAt hkept

/-! ## Measurements (R305, R307, R308) -/

/-- What marks a channel's change of diagnosis is its record, its event and DSTATE (R308, R321). -/
theorem State.marked_drvChan (f : DrvChan → DrvChan) (g : Fld) (c k : Nat) (l : List Nat) :
    ((((s.modDrvChan n f).setSf (.DRV_CH_EVT n) g 1).event 15 n c k l).drvRefresh n).drvChan n = f (s.drvChan n) :=
  Eq.trans rfl (s.drvChan_modDrvChan f)

/-- A measurement at the threshold or above it ends OPEN (R308). -/
theorem State.measureCh_above (hset : s.cf (.DRV_CH_DIAG n) F.DRV_CH_DIAG_OPEN_THR ≠ 0)
    (habove : s.cf (.DRV_CH_DIAG n) F.DRV_CH_DIAG_OPEN_THR ≤ v) (probe : Bool) : ((s.measureCh n v probe).drvChan n).isOpen = false := by
  unfold State.measureCh
  extract_lets thr t u low w
  rw [if_neg hset, if_pos habove]
  split
  · rw [State.marked_drvChan]
  · next hopen => exact eq_false_of_ne_true hopen

/-- The low count of a channel's measurements with one more below the threshold (R308). -/
def State.lowCount (s : State) (n : Nat) : Nat := min 3 (s.sf (.DRV_CH_STAT n) F.DRV_CH_STAT_LOW + 1)

/-- A measurement below the threshold makes the channel OPEN where it is the third in a row (R308). -/
theorem State.measureCh_below (hbelow : v < s.cf (.DRV_CH_DIAG n) F.DRV_CH_DIAG_OPEN_THR) (probe : Bool) :
    ((s.measureCh n v probe).drvChan n).isOpen = (decide (s.lowCount n = 3) || (s.drvChan n).isOpen) := by
  have hlow : ∀ (u : State) a b, ((u.setSf (.DRV_CH_ISNS n) F.DRV_CH_ISNS_VALUE a).setSf (.DRV_CH_ISNS n) F.DRV_CH_ISNS_PROBE
      b).lowCount n = u.lowCount n := fun u a b => by
    unfold State.lowCount
    rw [State.sf_setSf_other _ (by simp [Reg.offset]), State.sf_setSf_other _ (by simp [Reg.offset])]
  unfold State.measureCh
  extract_lets thr t u low w
  have hsame : low = s.lowCount n := hlow s _ _
  have hw : (w.drvChan n).isOpen = (s.drvChan n).isOpen := rfl
  rw [if_neg (by omega), if_neg (Nat.not_le.2 hbelow), ← hsame, ← hw]
  split
  · next hopens =>
    obtain ⟨h3, -⟩ := hopens
    rw [State.marked_drvChan, decide_eq_true h3, Bool.true_or]
  · next hkept =>
    cases hopen : (w.drvChan n).isOpen with
    | true => rw [Bool.or_true]
    | false => rw [Bool.or_false, eq_comm, decide_eq_false_iff_not]; exact fun h3 => hkept ⟨h3, hopen⟩

/-- A window without a sample brings no measurement; one with samples brings their mean (R305). -/
theorem exec_isnsWindow {u z : State} {w : Nat} {x : DrvChan} (hn : n < 48) (hen : s.chEnabled n = true) (hgate : s.gateClosed = false)
    (hx : x = s.drvChan n) (hw : w = max (s.drvChan n).window ((s.tsu.raw - s.drv.setupAt) / (100 * msT)) + 1)
    (hu : u = s.elapseTo (s.drv.setupAt + w * 100 * msT))
    (hz : z = u.modDrvChan n (fun x => { x with window := w, count := 0, sum := 0 })) :
    Does (.isnsWindow n) s
      (if x.count ≠ 0 then (z.round x.sum x.count).2.measureCh n (z.round x.sum x.count).1 false else z) := by
  have hx' : u.drvChan n = x := by rw [hu, hx, State.elapseTo_drvChan]
  have hgate' : z.gateClosed = false := by
    have hkept : z.course n = u.course n := hz ▸ u.modDrvChan_course _
    have hthen : u.gateClosed = s.gateClosed := hu ▸ congrArg Course.closed (s.elapseTo_course (n := n) _)
    exact (congrArg Course.closed hkept).trans (hthen.trans hgate)
  unfold Does exec execIsnsWindow
  refine quiet_does ((if_neg (by simp [hen, Nat.le_of_lt_succ hn])).trans ?_)
  dsimp only
  rw [← hw, ← hu, hx', ← hz]
  simp only [hgate', and_true]

/-! ## The probe (R306) -/

/-- The stretched period of a probe (R306). -/
def State.probePer (s : State) (n : Nat) : Nat := 1600 + (2 ^ s.chRes n - (s.drvChan n).on)

/-- A probe's stretched period has begun: it is put out, shown and counted (R306). -/
def State.probeBegun (s : State) (n : Nat) : State :=
  let per := 2 ^ s.chRes n
  let t := (s.modDrvChan n (fun x => { x with
    probeAt := s.tsu.raw, next := ceilDiv ((s.drvChan n).next - per + s.probePer n) per * per })).period n 1600 (s.probePer n)
  (t.setSf (.DRV_CH_ON n) F.DRV_CH_ON_ON 1600).bumpSat (.DRV_CH_STAT n) F.DRV_CH_STAT_PROBES

theorem State.probe_eq (v : Nat) : s.probe n v = (s.probeBegun n).measureCh n (isnsCode v) true := rfl

theorem State.period_out (hgate : s.gateClosed = false) (on per : Nat) :
    (s.period n on per).out = .pwm n (some (s.pwmForm n on per)) :: s.out := by
  rw [State.period_open _ hgate]
  rfl

theorem State.probeBegun_out (hgate : s.gateClosed = false) :
    (s.probeBegun n).out = .pwm n (some (s.pwmForm n 1600 (s.probePer n))) :: s.out := by
  unfold State.probeBegun
  extract_lets per t
  exact State.period_out ((congrArg Course.closed (s.modDrvChan_course _)).trans hgate) _ _

theorem State.probeBegun_course (hn : n < 48) : ∃ k, (s.probeBegun n).course n = { s.course n with
    next := k, on := F.DRV_CH_ON_ON.set (s.sts.get (.DRV_CH_ON n)) 1600
    probes := min (s.sf (.DRV_CH_STAT n) F.DRV_CH_STAT_PROBES + 1) 65535 } := by
  unfold State.probeBegun State.bumpSat
  extract_lets per t
  refine ⟨ceilDiv ((s.drvChan n).next - per + s.probePer n) per * per, ?_⟩
  have ht : t.course n = { s.course n with next := ceilDiv ((s.drvChan n).next - per + s.probePer n) per * per } :=
    (State.period_course _ _ _).trans (s.modDrvChan_course _)
  have hprobes : t.sf (.DRV_CH_STAT n) F.DRV_CH_STAT_PROBES = s.sf (.DRV_CH_STAT n) F.DRV_CH_STAT_PROBES := congrArg Course.probes ht
  have hon : t.sts.get (.DRV_CH_ON n) = s.sts.get (.DRV_CH_ON n) := congrArg Course.on ht
  rw [State.setProbes_course _ hn, State.setOn_course _ hn, ht, hon, State.sf_setSf_other _ (by simp [Reg.offset]), hprobes]
  have hfits : satAdd F.DRV_CH_STAT_PROBES.width (s.sf (.DRV_CH_STAT n) F.DRV_CH_STAT_PROBES) 1 % 2 ^ 16
      = min (s.sf (.DRV_CH_STAT n) F.DRV_CH_STAT_PROBES + 1) 65535 := Nat.mod_eq_of_lt (by unfold satAdd; simp [Fld.width])
  rw [hfits]

/-- A channel that is to be probed is enabled, and its gate is open (R306). -/
theorem State.enabled_of_probes (h : s.probes n = true) : s.chEnabled n = true ∧ s.gateClosed = false := by
  simp only [State.probes, Bool.and_eq_true, Bool.not_eq_true'] at h
  obtain ⟨⟨⟨hen, hgate⟩, -⟩, -⟩ := h
  exact ⟨hen, hgate⟩

/-- A probe due at a boundary with no change waiting takes its sample in the period that begins there (R306). -/
theorem exec_drvProbe {u : State} (hn : n < 48) (hdue : s.probes n = true) (hnone : s.drv.changes = [])
    (hu : u = (s.elapseTo ((s.drvChan n).probeAt + s.cf .DRV_CFG F.DRV_CFG_PROBE_PERIOD * secT)).boundary n) (hstill : u.probes n = true)
    (v : Nat) : Does (.drvProbe n v) s (u.probe n v) := by
  have hlaunch : ∀ r, (s.elapseTo r).drv.changes.any (fun c => c.ch == n && c.due.isSome) = false := fun r => by
    rw [State.elapseTo_drv, hnone]
    rfl
  unfold Does exec execDrvProbe
  refine quiet_does ((if_neg (by simp [hdue, Nat.le_of_lt_succ hn])).trans ?_)
  dsimp only
  rw [hlaunch, ← hu]
  exact if_pos ⟨rfl, hstill⟩

/-- What a probe leaves shown, where nothing waited for its channel: its on-time, its count and its sample (R306). -/
theorem State.probe_reads {u : State} (r v : Nat) (hn : n < 48) (hen : s.chEnabled n = true) (hnone : s.drv.changes = [])
    (hu : u = (s.elapseTo r).boundary n) (hgate : u.gateClosed = false) :
    (u.probe n v).out = .pwm n (some (u.pwmForm n 1600 (u.probePer n))) :: s.out
      ∧ (u.probe n v).sf (.DRV_CH_ON n) F.DRV_CH_ON_ON = 1600
      ∧ (u.probe n v).sf (.DRV_CH_STAT n) F.DRV_CH_STAT_PROBES = min (s.sf (.DRV_CH_STAT n) F.DRV_CH_STAT_PROBES + 1) 65535
      ∧ (u.probe n v).sf (.DRV_CH_ISNS n) F.DRV_CH_ISNS_PROBE = 1 := by
  have hwait := s.elapseTo_course (n := n) r
  have hen' : (s.elapseTo r).chEnabled n = true :=
    (s.chEnabled_of_course (congrArg Course.cfg hwait) (congrArg Course.done hwait)).trans hen
  have hidle : (s.elapseTo r).drv.changes.filter (fun c => c.ch == n) = [] := by
    rw [State.elapseTo_drv, hnone]
    rfl
  rw [State.boundary_idle _ hn hen' hidle] at hu
  obtain ⟨k, -, hfaded⟩ := (s.elapseTo r).faded_course hn
  obtain ⟨-, hout⟩ := ((s.elapseTo r).faded n).onTimed_on (n := n)
  have hcourse := ((s.elapseTo r).faded n).onTimed_course hn
  rw [← hu] at hout hcourse
  have hprobes : u.sf (.DRV_CH_STAT n) F.DRV_CH_STAT_PROBES = s.sf (.DRV_CH_STAT n) F.DRV_CH_STAT_PROBES :=
    (congrArg Course.probes hcourse).trans ((congrArg Course.probes hfaded).trans (congrArg Course.probes hwait))
  have hquiet : ((s.elapseTo r).faded n).out = s.out := (s.elapseTo r).reached_out.trans (s.elapseTo_out r)
  obtain ⟨_, hbegun⟩ := u.probeBegun_course hn
  have hend := ((u.probeBegun n).measureCh_course hn (isnsCode v) true)
  rw [← State.probe_eq, hbegun] at hend
  refine ⟨?_, ?_, ?_, ?_⟩
  · rw [State.probe_eq, State.measureCh_out, State.probeBegun_out hgate, hout, hquiet]
  · exact (congrArg (fun x : Course => F.DRV_CH_ON_ON.get x.on) hend).trans (Fld.get_set_same (by decide) _ _)
  · exact (congrArg Course.probes hend).trans (by rw [hprobes])
  · exact (congrArg (fun x : Course => F.DRV_CH_ISNS_PROBE.get x.isns) hend).trans (Fld.get_set_same (by decide) _ _)

/-! ## Derating (R303, R304) -/

/-- The factor after one reading: a step of one at most toward its target (R303). -/
def stepToward (f x : Nat) : Nat := if f < x then f + 1 else if x < f then f - 1 else f

/-- The 100 ms reading `w` of a group has been taken (R303). -/
def State.ntcCounted (s : State) (g w : Nat) : State := { s with drv := { s.drv with ntcReads := Tbl.put 0 s.drv.ntcReads g w } }

/-- The number of a group's next reading (R303). -/
def State.ntcNext (s : State) (g : Nat) : Nat :=
  max (Tbl.get 0 s.drv.ntcReads g) ((s.tsu.raw - s.drv.setupAt) / (100 * msT)) + 1

/-- The group's next reading has come (R303). -/
def State.ntcTimed (s : State) (g : Nat) : State := (s.elapseTo (s.drv.setupAt + s.ntcNext g * 100 * msT)).ntcCounted g (s.ntcNext g)

/-- A good reading shows no fault, its temperature and the factor (R303, R304). -/
def State.ntcShown (s : State) (g : Nat) (temp : Int) (f : Nat) : State :=
  ((s.setSf (.DRV_NTC_STAT g) F.DRV_NTC_STAT_FAULT (b2n false)).setSf (.DRV_NTC_STAT g) F.DRV_NTC_STAT_TEMP (twos 16 temp)).setSf
    (.DRV_NTC_STAT g) F.DRV_NTC_STAT_FACTOR f

theorem State.ntcShown_reads (g : Nat) (temp : Int) (f : Nat) :
    (s.ntcShown g temp f).sf (.DRV_NTC_STAT g) F.DRV_NTC_STAT_FAULT = 0
      ∧ (s.ntcShown g temp f).sf (.DRV_NTC_STAT g) F.DRV_NTC_STAT_FACTOR = f % 2 ^ 9 := by
  unfold State.ntcShown
  rw [State.sf_setSf_apart _ _ (by decide) (by decide) (by decide), State.sf_setSf_apart _ _ (by decide) (by decide) (by decide),
    State.sf_setSf_same _ _ (by decide), State.sf_setSf_same _ _ (by decide)]
  exact ⟨rfl, rfl⟩

theorem State.ntcTimed_kept (g : Nat) : (s.ntcTimed g).cfg = s.cfg ∧ (s.ntcTimed g).sts = s.sts := by
  have hcounted : ∀ (u : State) w, (u.ntcCounted g w).cfg = u.cfg ∧ (u.ntcCounted g w).sts = u.sts := fun _ _ => ⟨rfl, rfl⟩
  have helapsed : ∀ r, (s.elapseTo r).cfg = s.cfg ∧ (s.elapseTo r).sts = s.sts := fun r => ⟨s.elapseTo_cfg r, (s.elapseTo_pps r).1⟩
  unfold State.ntcTimed
  rw [(hcounted _ _).1, (hcounted _ _).2]
  exact helapsed _

theorem State.ntcTarget_of_cfg {t : State} (hcfg : t.cfg = s.cfg) (g : Nat) (temp : Option Int) :
    t.ntcTarget g temp = s.ntcTarget g temp := by
  unfold State.ntcTarget State.cf
  rw [hcfg]

/-- What a resistance read shows: a fault or a temperature, and the factor's step toward its target (R303, R304). -/
def State.ntcJudged (s : State) (g ohms : Nat) : State :=
  let r := Reg.DRV_NTC_STAT g
  let bad := decide (ohms < 100 ∨ 1000000 < ohms)
  let temp := Config.ntcTemp (s.cf (.DRV_NTC_CFG g) F.DRV_NTC_CFG_BETA) ohms
  let was := s.sf r F.DRV_NTC_STAT_FAULT
  let t := s.setSf r F.DRV_NTC_STAT_FAULT (b2n bad)
  let t : State := if bad then (if was = 0 then t.event 15 (64 + g) 0x0904 2 [g, min ohms 0xFFFFFFFF] else t)
    else t.setSf r F.DRV_NTC_STAT_TEMP (twos 16 temp)
  let target := t.ntcTarget g (if bad then none else some temp)
  let f := t.sf r F.DRV_NTC_STAT_FACTOR
  let f' := stepToward f target
  let t := t.setSf r F.DRV_NTC_STAT_FACTOR f'
  if (f = 256) = (f' = 256) then t
  else t.event 15 (64 + g) 0x0905 1 [g, f', twos 32 (signed 16 (t.sf r F.DRV_NTC_STAT_TEMP) / 10)]

theorem exec_ntcRead {g : Nat} (hg : g < 8) (hdone : s.done = true) (o : Nat) :
    Does (.ntcRead g o) s ((s.ntcTimed g).ntcJudged g o) := by
  unfold Does exec execNtcRead
  exact quiet_does (if_neg (by simp [hdone, Nat.le_of_lt_succ hg]))

/-- A resistance in range is a temperature, and the group's factor steps toward that temperature's target (R303, R304). -/
theorem State.ntcJudged_sts {g o : Nat} {temp : Int} (hlow : 100 ≤ o) (hhigh : o ≤ 1000000)
    (htemp : Config.ntcTemp (s.cf (.DRV_NTC_CFG g) F.DRV_NTC_CFG_BETA) o = temp) : (s.ntcJudged g o).sts
      = (s.ntcShown g temp (stepToward (s.sf (.DRV_NTC_STAT g) F.DRV_NTC_STAT_FACTOR) (s.ntcTarget g (some temp)))).sts := by
  unfold State.ntcJudged
  extract_lets r bad temp' was t u target f f' v
  have hbad : ¬ bad = true := by
    simp only [bad, decide_eq_true_eq]
    omega
  have hu : u = t.setSf r F.DRV_NTC_STAT_TEMP (twos 16 temp) := htemp ▸ if_neg hbad
  have htarget : target = s.ntcTarget g (some temp) := by
    have hcfg : u.cfg = s.cfg := by rw [hu]; rfl
    unfold target
    rw [if_neg hbad, show temp' = temp from htemp, s.ntcTarget_of_cfg hcfg]
  have hf : f = s.sf (.DRV_NTC_STAT g) F.DRV_NTC_STAT_FACTOR := by
    unfold f
    rw [hu, State.sf_setSf_apart _ _ (by decide) (by decide) (by decide), State.sf_setSf_apart _ _ (by decide) (by decide) (by decide)]
  have hv : v.sts = (s.ntcShown g temp (stepToward (s.sf (.DRV_NTC_STAT g) F.DRV_NTC_STAT_FACTOR) (s.ntcTarget g (some temp)))).sts := by
    have ht : t = s.setSf r F.DRV_NTC_STAT_FAULT (b2n false) := congrArg (fun b => s.setSf r F.DRV_NTC_STAT_FAULT (b2n b))
      (eq_false_of_ne_true hbad)
    rw [← hf, ← htarget, State.ntcShown, ← ht, ← hu]
  split <;> exact hv

theorem State.ntcRead_reads {g o : Nat} {temp : Int} (hlow : 100 ≤ o) (hhigh : o ≤ 1000000)
    (htemp : Config.ntcTemp (s.cf (.DRV_NTC_CFG g) F.DRV_NTC_CFG_BETA) o = temp) :
    ((s.ntcTimed g).ntcJudged g o).sf (.DRV_NTC_STAT g) F.DRV_NTC_STAT_FAULT = 0
      ∧ ((s.ntcTimed g).ntcJudged g o).sf (.DRV_NTC_STAT g) F.DRV_NTC_STAT_FACTOR
        = stepToward (s.sf (.DRV_NTC_STAT g) F.DRV_NTC_STAT_FACTOR) (s.ntcTarget g (some temp)) % 2 ^ 9 := by
  obtain ⟨hcfg, hsts⟩ := s.ntcTimed_kept g
  have hbeta : (s.ntcTimed g).cf (.DRV_NTC_CFG g) F.DRV_NTC_CFG_BETA = s.cf (.DRV_NTC_CFG g) F.DRV_NTC_CFG_BETA :=
    congrArg (fun c : RegFile => F.DRV_NTC_CFG_BETA.get (c.get (.DRV_NTC_CFG g))) hcfg
  have hjudged := State.ntcJudged_sts (s := s.ntcTimed g) hlow hhigh ((congrArg (fun b => Config.ntcTemp b o) hbeta).trans htemp)
  rw [State.sf_of_sts hsts, s.ntcTarget_of_cfg hcfg] at hjudged
  rw [State.sf_of_sts hjudged, State.sf_of_sts hjudged]
  exact State.ntcShown_reads _ _ _

/-- A factor below the greatest that its field holds still fits after its step. -/
theorem stepToward_lt {f : Nat} (h : f < 511) (x : Nat) : stepToward f x < 2 ^ 9 := by
  unfold stepToward
  split
  · omega
  · split <;> omega

/-! ## The claim gate (R314) -/

theorem exec_claimGateClose (hdone : s.done = true) (hshut : s.gateShut = true) : Does .claimGateClose s s.closeGate := by
  unfold Does exec execClaimGateClose
  exact quiet_does (if_pos ⟨hdone, hshut⟩)

/-- Once a list of pads has been let go, each of them is at high impedance, and so is each that was (R314). -/
theorem State.letGo_pad (l : List Nat) (h : n ∈ l ∨ (s.drvChan n).pad = none) :
    ((l.foldl (fun u k => u.drivePad k none) s).drvChan n).pad = none := by
  induction l generalizing s with
  | nil => exact h.resolve_left List.not_mem_nil
  | cons k l ih =>
    refine ih ?_
    by_cases hk : n = k
    · subst hk
      exact Or.inr (congrArg DrvChan.pad (s.drivePad_drvChan none))
    · refine (h.imp (fun hmem => (List.mem_cons.1 hmem).resolve_left hk) (fun hpad => ?_))
      exact (congrArg DrvChan.pad (s.drivePad_drvChan_other hk none)).trans hpad

theorem State.drvRefreshAll_drv (s : State) : s.drvRefreshAll.drv = s.drv :=
  foldl_keeps (v := State.drv) (g := State.drvRefresh) (fun _ _ => rfl) _ s

/-- The gate's closing leaves no pad driven (R314). -/
theorem State.closeGate_pad (hopen : s.gateClosed = false) (hn : n < 48) : (s.closeGate.drvChan n).pad = none := by
  unfold State.closeGate
  rw [if_neg (ne_true_of_eq_false hopen)]
  extract_lets t
  have hpads : ∀ l : List Nat, l = (List.range 48).filter (fun k => (t.drvChan k).pad.isSome) →
      ((l.foldl (fun u k => u.drivePad k none) t).drvChan n).pad = none := by
    rintro l rfl
    refine State.letGo_pad _ ?_
    cases hpad : (t.drvChan n).pad with
    | none => exact Or.inr rfl
    | some f => exact Or.inl (List.mem_filter.2 ⟨List.mem_range.2 hn, by simp [hpad]⟩)
  exact (congrArg (fun d : Drv => (Tbl.get DrvChan.reset d.chans n).pad) (State.drvRefreshAll_drv _)).trans (hpads _ rfl)

theorem exec_claimGateOpen {u : State} (hserving : s.serving = true) (hlapsed : s.twn.lapsed = false) (hgate : s.gateClosed = true)
    (hu : u = s.elapseTo (max (s.twn.gateUntil.getD 0) ((s.twn.gateHeard.map (fun t => t + 20 * msT)).getD 0))) :
    Does .claimGateOpen s (u.modTwn (fun w => { w with gateUntil := none, gateHeard := none })).openGate := by
  subst hu
  unfold Does exec execClaimGateOpen
  exact quiet_does (if_neg (by simp [hserving, hlapsed, hgate]))

theorem State.openGate_gateClosed (s : State) : s.openGate.gateClosed = false := by
  have hopen : (s.setSf .DRV_GATE F.DRV_GATE_CLOSED 0).gateClosed = false :=
    congrArg (· == 1) (s.sf_setSf_same .DRV_GATE (by decide) 0)
  exact (congrArg Stance.closed (State.drvRefreshAll_stance _)).trans hopen

end

/-- Settles O48: each clause by what its command puts before a channel, or by what a boundary, a measurement, a reading or the gate
leaves of the channel's course. -/
theorem driveChannelsFollowTheirCommands : Obligations.DriveChannelsFollowTheirCommands := by
  unfold Obligations.DriveChannelsFollowTheirCommands
  refine ⟨?set, ?latch, ?idle, ?change, ?measure, ?window, ?probe, ?reading, ?close, ?opens⟩
  case set =>
    intro s d e read n h he htarget hzero hlen hbuf hlaunch hsel hclr hrsv
    refine ⟨fun hgated hn => exec_driveSet_gated h he htarget hzero hlen hbuf hsel hclr hrsv hn hgated, fun hopen hn => ?_,
      fun hlow hhigh => exec_driveSet_void h he htarget hzero hlen hbuf hsel hclr hrsv hlow hhigh⟩
    obtain ⟨t, hdoes, hsts, hchanges⟩ := exec_driveSet_channel h he htarget hzero hlen hbuf hsel hclr hrsv hn hopen hlaunch
    exact ⟨_, hdoes, s.framed_cfg t, hsts, hchanges⟩
  case latch =>
    intro s d e read h he htarget hzero
    refine ⟨fun hbad => exec_driveLatch_section h he htarget hzero hbad, fun hok hopen hlaunch hmask => ?_⟩
    obtain ⟨t, l, hdoes, hsts, hchanges, hchans, hlevels⟩ := exec_driveLatch h he htarget hzero hok hopen hlaunch hmask
    have hnew : (s.framed t).drv.changes.drop s.drv.changes.length = l :=
      (congrArg (List.drop s.drv.changes.length) hchanges).trans List.drop_left
    exact ⟨_, hdoes, s.framed_cfg t, hsts, hnew ▸ hchans, hnew ▸ hlevels⟩
  case idle =>
    intro s n v hn hen hidle
    have hdoes := exec_pwmPeriodBoundary hn hen v
    rw [s.boundary_idle hn hen hidle] at hdoes
    obtain ⟨hnext, hpresent, hlow⟩ := s.idlePeriod_shows (v := v) hn rfl
    obtain ⟨hclosed, hdriven⟩ := s.idlePeriod_out (v := v) hn hen rfl
    exact ⟨_, hdoes, s.framed_cfg _, hnext, hpresent, hlow, hclosed, hdriven⟩
  case change =>
    intro s n v c hn hen hone hch hdid hscene hlevel
    have hdoes := exec_pwmPeriodBoundary hn hen v
    rw [s.boundary_single hn hen hone hch hdid hscene] at hdoes
    obtain ⟨hchanges, htarget, hfade, hat, hnow⟩ := s.changePeriod_shows (v := v) hn hone hlevel rfl
    exact ⟨_, hdoes, s.framed_cfg _, hchanges, htarget, hfade, hat, hnow⟩
  case measure =>
    intro s n v p hset _
    refine ⟨fun habove => State.measureCh_above hset habove p, fun hbelow hlow => ?_, fun hbelow hlow => ?_⟩
    · rw [State.measureCh_below hbelow, State.lowCount, decide_eq_true (by omega), Bool.true_or]
    · rw [State.measureCh_below hbelow, State.lowCount, decide_eq_false (by omega), Bool.false_or]
  case window =>
    intro s u z n w x hn hen hgate hx hw hu hz
    have hdoes := exec_isnsWindow hn hen hgate hx hw hu hz
    refine ⟨fun hnone => ?_, fun hsome => ?_⟩
    · rwa [if_neg (not_not.2 hnone)] at hdoes
    · rwa [if_pos hsome] at hdoes
  case probe =>
    intro s u n v hn hdue hnone hu hstill
    obtain ⟨hen, -⟩ := State.enabled_of_probes hdue
    obtain ⟨-, hgate⟩ := State.enabled_of_probes hstill
    obtain ⟨hout, hon, hcount, hmarked⟩ := State.probe_reads _ v hn hen hnone hu hgate
    exact ⟨_, _, exec_drvProbe hn hdue hnone hu hstill v, s.framed_cfg _, hout, rfl, hon, hcount, hmarked⟩
  case reading =>
    intro s g o hg hdone hlow hhigh
    obtain ⟨hfault, hfactor⟩ := s.ntcRead_reads hlow hhigh (g := g) rfl
    refine ⟨_, _, _, exec_ntcRead hg hdone o, s.framed_cfg _, rfl, rfl, (s.framed_sf _ _ _).trans hfault, fun hroom => ?_⟩
    rw [State.framed_sf, hfactor]
    exact Nat.mod_eq_of_lt (stepToward_lt hroom _)
  case close =>
    intro s hdone hshut
    exact ⟨exec_claimGateClose hdone hshut, s.closeGate_gateClosed, fun hopen n hn => State.closeGate_pad hopen hn⟩
  case opens =>
    intro s u hserving hlapsed hgate hu
    exact ⟨exec_claimGateOpen hserving hlapsed hgate hu, u.openGate_gateClosed⟩

end Sys2Proof.Machine
end
